-- ==== Sys2Proof/Word.lean ====
section
/-! DEFINITION. The word types of the ODG5120's set-up space (R2, R8): 32-bit registers and bytes. -/
namespace Sys2Proof

/-- A set-up register is 32 bits (R2). -/
abbrev Word := BitVec 32

/-- A byte; bit 0 is the least significant bit (R8). -/
abbrev Byte := BitVec 8

end Sys2Proof
end

