-- ==== Sys2Proof/Syntax.lean ====
section
/-! DEFINITION. The commands of the block: the one inductive, a constructor per row of spec/opcode_table.json, and the
names its operands use. A command's operands are what the table's row leaves open: the register, port, queue or link it
acts on, the word written, or what a measurement, a message or a read brought. -/
namespace Sys2Proof

/-- The units that have a fault block (R448). -/
inductive FUnit where
  | glb | hp (n : Fin 8) | slc | sch | jnl | mem (c : Fin 16) | brg | aon | evc | mgt | spr | xbar
  | bay (b : Fin 64) | eng (p : Fin 72) | lane (l : Fin 512) | oct (o : Fin 8)
  deriving DecidableEq, Repr

/-- A flit slot of a link as the lane's FEC hands it on: the 256 bytes, and the codewords that carried them which the FEC corrected or
could not correct (R275, R299). -/
structure RxFlit where
  bytes : List Byte
  corrected : Nat := 0
  uncorrected : Nat := 0
  deriving DecidableEq, Repr

/-- What a host programs in a port's configuration space beside the bits of `PortCtl` (R35, R43, R52, R58, R66, R67): the codes
of Max_Payload_Size and Max_Read_Request_Size, the Completion Timeout Value and Disable, LTR Enable and the two Max Latency
registers, the enables of ASPM L1, of the L1 PM Substates and of L0p, the three BAR addresses, and the AER masks and severities
by bit of the AER registers (log entry 79). -/
structure PortExt where
  mps : Nat := 0
  mrrs : Nat := 2
  cto : Nat := 0
  ctoOff : Bool := false
  ltrEn : Bool := false
  maxSnoop : Nat := 0
  maxNoSnoop : Nat := 0
  aspmL1 : Bool := false
  l1sub : Nat := 0
  l0p : Bool := false
  bar0 : Nat := 0
  bar2 : Nat := 0
  bar4 : Nat := 0
  uncMask : Nat := 0
  uncSev : Nat := 0x62030
  corMask : Nat := 0xE000
  deriving DecidableEq, Repr

/-- The configuration bits of a port that a host sets and this manual names: Bus Master Enable, Memory Space Enable, Enable
Relaxed Ordering, Enable No Snoop, IDO and 10-bit tag enables, the mask and severity of the Uncorrectable Internal Error, and
what `PortExt` holds (R37, R38, R50, R67, R552). -/
structure PortCtl where
  bme : Bool
  mse : Bool
  relaxed : Bool
  noSnoop : Bool
  ido : Bool
  tag10 : Bool
  uieMask : Bool
  uieFatal : Bool
  ext : PortExt := {}
  /-- The write clears the AER status bits and the Header Log (R66, R67). -/
  aerClear : Bool := false
  deriving DecidableEq, Repr

/-- A rail of the board record: PMBus address, page, role, and whether it has READ_EOUT (R504). -/
structure Rail where
  addr : BitVec 7
  page : BitVec 8
  role : BitVec 8
  eout : Bool
  deriving DecidableEq, Repr

/-- What the engine's own checks say of a column: nothing wrong, a VERIFY mismatch, or an error of the pass-through check
code (R159, R270). -/
inductive EngVerdict where
  | ok | mismatch | passThrough
  deriving DecidableEq, Repr

def EngVerdict.code : EngVerdict → Nat
  | .ok => 0
  | .mismatch => 1
  | .passThrough => 2

/-- The status of a completion for a device read (R66). -/
inductive CplStatus where
  | success | unsupported | aborted | poisoned
  deriving DecidableEq, Repr

def CplStatus.code : CplStatus → Nat
  | .success => 0
  | .unsupported => 1
  | .aborted => 2
  | .poisoned => 3

/-- What a port rejects, or corrects by replay (R66). -/
inductive TlpError where
  | malformed | flowControl | unexpected | receiver | badTlp | badDllp | replayTimer | replayRollover
  deriving DecidableEq, Repr

def TlpError.code : TlpError → Nat
  | .malformed => 0
  | .flowControl => 1
  | .unexpected => 2
  | .receiver => 3
  | .badTlp => 4
  | .badDllp => 5
  | .replayTimer => 6
  | .replayRollover => 7

/-- A host access that may be an Unsupported Request: to a doorbell page, to BAR4, or an AtomicOp (R36, R48, R335). -/
inductive BadAccess where
  | doorbell | window | atomic
  deriving DecidableEq, Repr

def BadAccess.code : BadAccess → Nat
  | .doorbell => 0
  | .window => 1
  | .atomic => 2

/-- A place in BAR0 or BAR2 of a port. -/
structure BarPlace where
  bar2 : Bool
  offset : BitVec 26
  deriving DecidableEq, Repr

/-- A register access of 64 bits or fewer: byte enables 3–0 are those of the register at its place, 7–4 of the next one (R2). -/
inductive RegAccess where
  | read (be : BitVec 8) | write (value : BitVec 64) (be : BitVec 8)
  deriving DecidableEq, Repr

def RegAccess.be : RegAccess → BitVec 8
  | .read be => be
  | .write _ be => be

/-- A power domain that an access wakes in DORMANT (R401). -/
inductive Domain where
  | engine (p : Fin 72) | gddr (c : Fin 16) | octant (o : Fin 8)
  deriving DecidableEq, Repr

def Domain.code : Domain → Nat
  | .engine p => p.val
  | .gddr c => 100 + c.val
  | .octant o => 200 + o.val

/-- The commands, a constructor per row of the table. -/
inductive Instr where
  /-- REGISTER_WRITE (R3): A set-up or doorbell register write that has no row of its own stores, sets or clears
  fields by their access type, or is dropped. `first` enables bytes of the register at `offset`, `last` of the next one. -/
  | registerWrite (port : Fin 8) (bar2 : Bool) (offset : BitVec 26) (value : BitVec 64) (first last : BitVec 4)
  /-- GLB_TIME_READ (R425): A read of GLB_TIME_LO returns the low half of DEVICE_TIME and latches the high half.
  A read of another width is `offUnitAccess`. -/
  | glbTimeRead
  /-- SETUP_KEY_WRITE (R47): A write to GLB_SETUP_KEY advances, restarts or completes the unlock sequence of the set-
  up space. -/
  | setupKeyWrite (value : BitVec 32)
  /-- GLB_PROFILE_WRITE (R23): A write to GLB_PROFILE requests a profile change, which is refused, dropped with
  COLLIDE or begun. -/
  | glbProfileWrite (value : BitVec 32)
  /-- POWER_CMD_ACTIVE (R397): GLB_POWER_CMD STATE ACTIVE requests a return to ACTIVE. -/
  | powerCmdActive
  /-- POWER_CMD_DORMANT (R400): GLB_POWER_CMD STATE DORMANT requests entry into DORMANT. -/
  | powerCmdDormant
  /-- POWER_CMD_DIAPAUSE (R410): GLB_POWER_CMD STATE DIAPAUSE requests a diapause entry after the budget and mirror
  checks. -/
  | powerCmdDiapause
  /-- SIGN_KEY_WRITE (R199): A write of SCH_SIGN_KEY word 23 commits the enrolled key, setting KEY_PRESENT or
  KEY_REJECTED. -/
  | signKeyWrite (word : Fin 24) (value : BitVec 32)
  /-- JNL_REGION_WRITE (R250): A write to the journal region registers is accepted only while no slot is live and the
  new capacity fits the quotas, else CFG_REFUSED. -/
  | jnlRegionWrite (reg : Fin 3) (value : BitVec 32)
  /-- SLC_PERM_WRITE (R100): A write to a slice permission bitmap takes effect for later acceptances, or is dropped
  for a FREE slice or slice 0. -/
  | slcPermWrite (slice : Fin 1024) (word : Fin 256) (value : BitVec 32)
  /-- MEM_STAGE_WRITE (R509): A write to MEM_STAGE places the staging region when all conditions hold, else sets
  STAGE_REFUSED. -/
  | memStageWrite (value : BitVec 32)
  /-- MEM_TRAIN_START (R507): A write of START to MEM_TRAIN begins cold training of all 16 GDDR6 channels unless
  training runs or has passed. -/
  | memTrainStart (value : BitVec 32)
  /-- MEM_TRAIN_DONE (R508): GDDR6 training ends; on pass the device sets the layout and staging region and ends the
  start-up period. -/
  | memTrainDone (failed : BitVec 16)
  /-- MEMTEST_START (R482): A write of START to SPR_MEMTEST in DORMANT begins the test of one GDDR6 channel and sets
  TEST_BUSY. -/
  | memtestStart (value : BitVec 32)
  /-- MEMTEST_DONE (R482): A GDDR6 channel test ends with PASS or FAIL after remapping failing rows. -/
  | memtestDone (rows : Nat)
  /-- ECLOSION_ACK (R422): A write to AON_ECLOSION_ACK clears ECLOSION_INCOMPLETE and BANK_LOST and lets the eclosion
  proceed to bay starts. -/
  | eclosionAck (value : BitVec 32)
  /-- FAULT_CLEAR (R453): A write of 1 to FAULT_STATUS.VALID ends the capture and clears its words. -/
  | faultClear (unit : FUnit) (value : BitVec 32)
  /-- FAULT_INJECT_FIRE (R471): A write of FIRE in factory test mode injects one event of the selected fault source.
  -/
  | faultInjectFire (unit : FUnit) (value : BitVec 32)
  /-- FLT_UNLOCK (R470): The JTAG instruction FLT_UNLOCK with the value and then its complement unlocks fault
  injection in factory test mode. -/
  | fltUnlock (value : BitVec 32)
  /-- PEAK_CLR (R550): A write of PEAK_CLR to GLB_TEMP clears the recorded peak temperature of a die. -/
  | peakClr (die : Fin 11) (value : BitVec 32)
  /-- BAR4_RESIZE (R50): A write to the BAR4 size field, accepted only with Memory Space Enable 0, disables windows
  beyond the new size. -/
  | bar4Resize (port : Fin 8) (log2 : Nat)
  /-- DB_NUDGE (R113): A write to DB_NUDGE triggers a record-page fetch, sets NUDGE_HELD outside ACTIVE, or returns
  the device from DORMANT. -/
  | dbNudge (port : Fin 8) (slice : Fin 1024) (value : BitVec 32)
  /-- DB_QSEL_WRITE (R107): A write to DB_QSEL selects the queue shown in the page, or sets ERR QSEL_RANGE. -/
  | dbQselWrite (port : Fin 8) (slice : Fin 1024) (value : BitVec 32)
  /-- DB_QUEUE_CONFIG_WRITE (R107): A write to a queue configuration register of the doorbell page is stored for a
  DISABLED queue, else dropped with NOT_DISABLED. -/
  | dbQueueConfigWrite (port : Fin 8) (slice : Fin 1024) (reg : Fin 9) (value : BitVec 32)
  /-- QUEUE_ENABLE (R108): DB_QCMD ENABLE checks the selected queue and enables it, or sets ERR and leaves it
  unchanged. -/
  | queueEnable (port : Fin 8) (slice : Fin 1024)
  /-- QUEUE_DISABLE (R110): DB_QCMD DISABLE stops fetch for the queue and sets it DISABLING. -/
  | queueDisable (port : Fin 8) (slice : Fin 1024)
  /-- QUEUE_DISABLED (R110): The last accepted work of a DISABLING queue completes and the queue becomes DISABLED. -/
  | queueDisabled (queue : Fin 65536)
  /-- LANE_ENABLE_WRITE (R553): A write to LNK_CTRL.ENABLE removes a lane from training and sends its link to SYNC, or
  makes it available again. -/
  | laneEnableWrite (lane : Fin 512) (value : BitVec 32)
  /-- RETRAIN (R281): A write of RETRAIN sends a link to SYNC, or out of HALTED, aborting any lane test on it. -/
  | retrain (lane : Fin 512) (value : BitVec 32)
  /-- BAY_ARM_WRITE (R384): A write of BAY_CTRL.ARM arms or disarms a bay as BAY_POWER on or off does, without
  clearing LOCKED. -/
  | bayArmWrite (bay : Fin 64) (value : BitVec 32)
  /-- WINDOW_ENABLE (R336): A write of BRG_WIN_CTRL with ENABLE 1 checks the window and sets it ENABLED or REFUSED
  with a reason. -/
  | windowEnable (port : Fin 8) (window : Fin 256) (value : BitVec 32)
  /-- WINDOW_DISABLE (R337): A write that clears ENABLE of a window disables it; later requests are Unsupported
  Requests. -/
  | windowDisable (port : Fin 8) (window : Fin 256) (value : BitVec 32)
  /-- BRG_EVQ_READ (R362): A read of BRG_EVQ returns the oldest partner event record and removes it when valid.
  A read of another width is `offUnitAccess`. -/
  | brgEvqRead
  /-- EYESPOT_MARK (R443): A write of EVC_SRC_CFG.EYESPOT marks an eligible source for the eyespot, or sets REFUSED.
  -/
  | eyespotMark (source : Fin 512) (value : BitVec 32)
  /-- EVC_PENDING_CLEAR (R437): A W1C write to EVC_PENDING clears pending edge sources, acting as a mask write against
  claims. -/
  | evcPendingClear (word : Fin 16) (value : BitVec 32)
  /-- EVC_CLAIM (R431): A read of EVC_CLAIM claims the best candidate of a target, pushing the running priority, or
  reports NONE, LOST_RACE or WITHDRAWN. `read`: the byte enables of a host's read of EVC_THRESHOLD and EVC_CLAIM; none for a
  claim of the management pair. -/
  | evcClaim (target : Fin 8) (read : Option (BitVec 8))
  /-- EVC_EOI (R436): A write to EVC_EOI ends the claim at the top of the target's stack, pops it and re-samples a
  level source, or sets EOI_MISMATCH. -/
  | evcEoi (target : Fin 8) (value : BitVec 32) (host : Bool)
  /-- DESCRIPTOR_ACCEPT (R121): Once completion-ring room, journal quota and staging space allow, the next descriptor
  of a queue is checked and journalled or rejected. -/
  | descriptorAccept (queue : Fin 65536)
  /-- WRITE_STRIPE (R217): A WRITE_STRIPE descriptor at its start check proceeds, proceeds degraded or completes
  BAY_ABSENT, then encodes and writes k + m shards. -/
  | writeStripe (slot : Fin 262144)
  /-- READ_STRIPE (R228): A READ_STRIPE descriptor reads the data blocks in range plus a witness trailer and delivers
  or decodes each column. -/
  | readStripe (slot : Fin 262144)
  /-- SCRUB (R232): A SCRUB descriptor reads every position of its stripes, classifies each column and counts
  inconsistent stripes. -/
  | scrub (slot : Fin 262144)
  /-- REBUILD_SHARD (R238): A REBUILD_SHARD descriptor recomputes one position of each stripe and writes it to the
  plan's target or the ALT link. -/
  | rebuildShard (slot : Fin 262144)
  /-- MIGRATE (R241): A MIGRATE descriptor reads source stripes and writes them re-encoded to destination stripes with
  new GENs. -/
  | migrate (slot : Fin 262144)
  /-- FENCE (R127): A FENCE descriptor completes after every earlier descriptor of its queue and holds later ones
  until then. -/
  | fence (slot : Fin 262144)
  /-- ABORT (R245): An ABORT descriptor finds its target and sends an abort request to the completion sequencer, or
  completes ALREADY_COMPLETE. -/
  | abort (slot : Fin 262144)
  /-- CREATE_SLICE (R82): The admin command binds a FREE slice and draws its resources from the pools. -/
  | createSlice (slot : Fin 262144)
  /-- DESTROY_SLICE (R83): The admin command moults if needed and frees a slice, returning its resources and reporting
  its energy. -/
  | destroySlice (slot : Fin 262144)
  /-- MOULT_SLICE (R84): The admin command begins a moult: fetch stops, the instar increments and old work is
  discarded. -/
  | moultSlice (slot : Fin 262144)
  /-- QUIESCE_SLICE (R91): The admin command stops fetch for a slice until its accepted work completes, or resumes it.
  -/
  | quiesceSlice (slot : Fin 262144)
  /-- COCOON_SLICE (R94): The admin command stops fetch, lets fired entries complete and parks the rest, or resumes
  the slice. -/
  | cocoonSlice (slot : Fin 262144)
  /-- SAVE_SLICE (R95): The admin command writes a cocooned slice's state image to host memory and sets EXPORTED. -/
  | saveSlice (slot : Fin 262144)
  /-- RESTORE_SLICE (R97): The admin command reads a slice state image into a restore-target slice, checks it and
  resumes parked entries. `answer`: the image, where the host's answer is there before any other command; none where it comes
  by HOST_READ_COMPLETION. -/
  | restoreSlice (slot : Fin 262144) (answer : Option (List Byte))
  /-- SET_SHARE (R92): The admin command changes a slice's runs, quotas or queue range from the next epoch boundary.
  -/
  | setShare (slot : Fin 262144)
  /-- LOAD_IMAGE (R201): The admin command starts reading a schedule image into a slot, which becomes LOADING. -/
  | loadImage (slot : Fin 262144)
  /-- LOAD_IMAGE_READ_DONE (R201): The image read ends and the device checks header, signature, sections, loads and
  signatures, leaving the slot VALID, EMPTY or FAILED. -/
  | loadImageReadDone (image : Fin 2) (data : Option (List Byte))
  /-- SWITCH_IMAGE (R203): The admin command checks a slot and schedules a switch to it at a named or the next epoch.
  -/
  | switchImage (slot : Fin 262144)
  /-- SET_PROFILE (R23): The admin command requests a profile change, waiting behind pending requests and switches. -/
  | setProfile (slot : Fin 262144)
  /-- ADMIT_BAY (R291): The admin command checks the bay's offered links against the topology and writes their
  admitted records. -/
  | admitBay (slot : Fin 262144)
  /-- RETIRE_BAY (R292): The admin command settles blocks in flight, disables the bay's links, deletes their records
  and holds the bay retired. -/
  | retireBay (slot : Fin 262144)
  /-- BAY_POWER (R384): The admin command turns a bay off, on, or cycles it. -/
  | bayPower (slot : Fin 262144)
  /-- ENTER_STATE (R396): The admin command requests ACTIVE, DORMANT or DIAPAUSE and reports the outcome in its
  completion. -/
  | enterState (slot : Fin 262144)
  /-- SET_MIRROR (R417): The admin command records the mirror area when it is long enough and returns the required
  length. -/
  | setMirror (slot : Fin 262144)
  /-- BRING_IN_SPARE (R485): The admin command swaps a spare engine, plane or wire into service and retires the
  replaced unit. -/
  | bringInSpare (slot : Fin 262144)
  /-- TEST_UNIT (R486): The admin command starts an engine BIST, lane PRBS test, octant bypass, restore or reset,
  plane test or core self-test. -/
  | testUnit (slot : Fin 262144)
  /-- READ_LEDGER (R391): The admin command writes ledger records of the chosen scope to host memory. -/
  | readLedger (slot : Fin 262144)
  /-- FW_UPDATE (R511): The admin command stages a checked firmware image to the inactive flash slot or commits it.
  `answer`: as of RESTORE_SLICE. -/
  | fwUpdate (slot : Fin 262144) (answer : Option (List Byte))
  /-- GET_LOG (R131): The admin command copies entries of the named log to host memory from a start index. -/
  | getLog (slot : Fin 262144)
  /-- RECORD_FETCH_DONE (R114): A record-page read completes; the device compares producer indices, halts on overrun
  or starts descriptor reads, or retries on failure. -/
  | recordFetchDone (slice : Fin 1024) (page : BitVec 52) (data : Option (List (BitVec 64)))
  /-- DESCRIPTOR_READ_DONE (R114): A read of up to 64 descriptors completes, or fails and halts the queue with
  RING_DMA. -/
  | descriptorReadDone (queue : Fin 65536) (data : Option (List (BitVec 512)))
  /-- SGL_READ_DONE (R120): A scatter-list read during acceptance completes and its lengths are checked against
  LENGTH. -/
  | sglReadDone (queue : Fin 65536) (data : Option (List Byte))
  /-- COMPLETION_SEQUENCE (R215): A completion or abort request reaches the completion sequencer, which discards stale
  work, decides aborts and writes the entry. -/
  | completionSequence
  /-- COALESCE_TIMER_EXPIRE (R126): A completion ring's coalescing timer reaches TIME_US and the device sends the
  ring's MSI-X message. -/
  | coalesceTimerExpire (queue : Fin 65536)
  /-- EPOCH_BOUNDARY (R168): The pacer issues the token of the next epoch; islands begin the epoch and boundary
  actions apply. -/
  | epochBoundary
  /-- RUN_FIRE (R172): A calendar run fires and moves the head item's ready cells, performs its backfill, or serves
  record polls. -/
  | runFire (island : Fin 9) (index : Nat)
  /-- BLOCK_COLUMN (R152): Once the selected blocks of a column are present, the engine judges them, chooses the
  decode path and runs the program. -/
  | blockColumn (slot : Fin 1310720) (verdict : EngVerdict)
  /-- MATRIX_COMPUTED (R153): The management pair finishes a multi-loss matrix, caches it and releases the waiting
  operations, or logs NON_MDS. -/
  | matrixComputed (entry : Fin 1024)
  /-- ENGINES_SETTLED (R206): Engines powered on for an image switch or profile change have settled, releasing the
  deferred switch. -/
  | enginesSettled
  /-- PROFILE_SETTLED (R29): Voltage and clocks of a profile change have settled so the image switch can follow at the
  next boundary. -/
  | profileSettled
  /-- CALENDAR_ECC_ERROR (R181): A calendar entry copy is uncorrectable; the island fires the other copy, or the fault
  is grave when both fail. -/
  | calendarEccError (island : Fin 9) (index : Nat) (both : Bool)
  /-- CALENDAR_REWRITE (R181): The failed calendar copy is rewritten from the active slot. -/
  | calendarRewrite (island : Fin 9) (index : Nat)
  /-- CELL_CRC_FAIL (R260): Cells fail their CRC-16 check and the affected entries are replayed under VOIDED. -/
  | cellCrcFail (slot : Fin 262144) (engine : Bool) (unit : Nat)
  /-- JOURNAL_ECC_ERROR (R267): A journal entry or index word is unusable and the item is completed JOURNAL_LOST,
  repaired, or freed and recounted. -/
  | journalEccError (slot : Fin 262144) (entry : Bool) (index : Bool)
  /-- LINK_HOLD_EXPIRE (R268): A link has been out of ACTIVE longer than LINK_HOLD and its positions become absent. -/
  | linkHoldExpire (link : Fin 512)
  /-- MOULT_COMPLETE (R84): After old reads, engine work and the zero-length read settle, the moult disables queues,
  writes its completion and sets the slice ACTIVE. -/
  | moultComplete (slice : Fin 1024)
  /-- MOULT_BEGIN (R89): A held or deferred moult begins once previous-instar writes settle or the unavailable period
  ends. -/
  | moultBegin (slice : Fin 1024)
  /-- QUIESCE_COMPLETE (R91): The last accepted work of a quiescing slice completes and the slice becomes QUIESCED. -/
  | quiesceComplete (slice : Fin 1024)
  /-- COCOON_COMPLETE (R94): The last unparked work of a cocooning slice completes and the slice becomes COCOONED. -/
  | cocoonComplete (slice : Fin 1024)
  /-- SHRINK_RELEASE (R93): The last removed queue of a pending shrink has no accepted work; the queues are released
  and the event raised. -/
  | shrinkRelease (slice : Fin 1024)
  /-- FLR (R62): A Function Level Reset of a port holds egress, moults its slices, disables windows and resets its
  registers. -/
  | flr (port : Fin 8)
  /-- PERST_ASSERT (R57): PERST_N asserts on a port and, outside DIAPAUSE, resets its configuration with the effects
  of an FLR. -/
  | perstAssert (port : Fin 8)
  /-- PERST_RELEASE (R501): PERST_N releases on a port and its link training begins. -/
  | perstRelease (port : Fin 8)
  /-- HOST_LINK_UP (R499): A host port's link reaches L0 after training. -/
  | hostLinkUp (port : Fin 8) (speed : Fin 8) (width : Fin 17)
  /-- HOST_LINK_DOWN (R552): A host port's Data Link Layer goes down; device requests on it then fail at once. -/
  | hostLinkDown (port : Fin 8)
  /-- BUS_MASTER_ENABLE (R552): Bus Master Enable of a port changes, allowing or barring device requests and waking
  waiting mirror pulls. -/
  | busMasterEnable (port : Fin 8) (ctl : PortCtl)
  /-- PASID_ENABLE (R39): PASID Enable is set on a port and fetch resumes for slices bound to non-zero PASIDs. -/
  | pasidEnable (port : Fin 8) (on : Bool)
  /-- REQ_ID_CHANGE (R69): Re-enumeration changes a port's captured requester ID and mismatching slices stop with
  ID_MISMATCH. -/
  | reqIdChange (port : Fin 8) (id : BitVec 16)
  /-- D3HOT_ENTRY (R53): A port's function enters D3hot and the device sets EGRESS_HOLD. -/
  | d3hotEntry (port : Fin 8)
  /-- D0_RETURN (R53): A port's function returns to D0 and held egress resumes in order. -/
  | d0Return (port : Fin 8)
  /-- PME_TURN_OFF (R55): A host sends PME_Turn_Off; the device answers PME_TO_Ack and the link enters L2/L3 Ready. -/
  | pmeTurnOff (port : Fin 8)
  /-- MSIX_UNMASK (R49): MSI-X is enabled or a vector unmasked and pending messages are sent. -/
  | msixUnmask (port : Fin 8) (enable : Bool) (fnMask : Bool) (vector : Fin 2048) (masked : Bool)
  /-- HOST_READ_COMPLETION (R66): A completion for a device read arrives; poisoned, UR or CA status fails the work
  item, else data is used. -/
  | hostReadCompletion (index : Nat) (status : CplStatus) (data : List Byte)
  /-- HOST_COMPLETION_TIMEOUT (R66): A device read is not completed within the port's completion timeout and its work
  item fails. -/
  | hostCompletionTimeout (index : Nat)
  /-- HOST_TLP_ERROR (R66): A malformed TLP, flow-control error or unexpected completion arrives and is discarded with
  AER. -/
  | hostTlpError (port : Fin 8) (kind : TlpError)
  /-- HOST_UNSUPPORTED_REQUEST (R48): A host access to an unbound doorbell page, to BAR4 outside a window, or an
  AtomicOp is answered as Unsupported Request. -/
  | hostUnsupportedRequest (port : Fin 8) (kind : BadAccess) (offset : Nat) (read : Bool)
  /-- OFF_UNIT_ACCESS (R468): A set-up access reaches a unit that is off; reads return all ones, writes drop,
  HP_OFF_ACCESS latches. -/
  | offUnitAccess (port : Fin 8) (place : BarPlace) (access : RegAccess)
  /-- DOMAIN_READY (R401): A domain woken in DORMANT by an access becomes ready and the stalled access completes. -/
  | domainReady (domain : Domain)
  /-- DOMAIN_IDLE_OFF (R401): A domain woken in DORMANT has seen no access for 10 ms and is powered off again. -/
  | domainIdleOff (domain : Domain)
  /-- ISLAND_GATE (R398): An island idle for 16 epochs gates its clocks. -/
  | islandGate (island : Fin 9)
  /-- ISLAND_UNGATE (R398): Work becomes ready for a gated island and it ungates. -/
  | islandUngate (island : Fin 9)
  /-- PARTNER_SIGNAL_DETECT (R281): Partner signal is detected on a lane in DETECT and the lane enters SYNC. -/
  | partnerSignalDetect (lane : Fin 512)
  /-- NO_PARTNER (R281): A lane has stayed in DETECT longer than DETECT_REPORT and NO_PARTNER is set. -/
  | noPartner (lane : Fin 512)
  /-- TRAINING_BLOCK (R280): A training block is received and advances SYNC, EQUALIZE or NEGOTIATE, or takes a
  flitting link down as REMOTE. -/
  | trainingBlock (lane : Fin 512) (block : List Byte)
  /-- EQ_DONE (R282): A lane's pre-FEC error ratio has stayed below threshold for 1 ms and it sets EQ_DONE. -/
  | eqDone (lane : Fin 512)
  /-- SYNC_TIMEOUT (R281): SYNC_TO expires before SYNC completes and the attempt fails. -/
  | syncTimeout (lane : Fin 512)
  /-- EQ_TIMEOUT (R282): EQ_TO expires at a rate and the device moves to the next rate or chooses the group. -/
  | eqTimeout (lane : Fin 512)
  /-- NEG_TIMEOUT (R284): NEG_TO expires without matching NEG_ACK and the attempt fails. -/
  | negTimeout (lane : Fin 512)
  /-- IDENT (R327): An IDENT message part arrives; with both parts the record is judged and the link goes ACTIVE or
  awaits admission. -/
  | ident (link : Fin 512)
  /-- IDENT_TIMEOUT (R288): IDENT_TO expires before the identity record arrives and the attempt fails. -/
  | identTimeout (link : Fin 512)
  /-- FLIT_RECEIVE (R304): A DATA flit arrives; it is CRC-checked, stored, delivered in order or discarded, and
  messages complete. -/
  | flitReceive (link : Fin 512) (flit : RxFlit)
  /-- LINK_CTRL (R307): A LINK_CTRL flit arrives with the receive state and credit limits, triggering retransmission
  of missing flits. -/
  | linkCtrl (link : Fin 512) (flit : RxFlit)
  /-- TX_SLOT (R314): A flit slot comes up and the sender sends a retransmission, LINK_CTRL, message flit or IDLE in
  priority order. -/
  | txSlot (link : Fin 512)
  /-- ACK_TIME_EXPIRE (R308): ACK_TIME elapses with a gap open and the receiver sends another LINK_CTRL. -/
  | ackTimeExpire (link : Fin 512)
  /-- REPLAY_TO_EXPIRE (R309): A flit unacknowledged for REPLAY_TO is retransmitted, or the link goes down at the
  retransmission limit. -/
  | replayToExpire (link : Fin 512) (seq : Fin 4096)
  /-- DEAD_TIME_EXPIRE (R329): No good flit has arrived for DEAD_TIME and the link goes down with reason DEAD. -/
  | deadTimeExpire (link : Fin 512)
  /-- BLOCK (R323): A BLOCK message of a read stream arrives at the device and feeds its column. -/
  | block (link : Fin 512)
  /-- STREAM_STATUS (R326): A STREAM_STATUS arrives reporting durability, completion or failure of a stream. -/
  | streamStatus (link : Fin 512)
  /-- TRAILER_DATA (R325): A TRAILER_DATA arrives with a witness trailer and is judged under R149. -/
  | trailerData (link : Fin 512)
  /-- WRITE_ACK_TIMEOUT (R326): No DONE arrives within WRITE_ACK_TO of a write stream's last block and the shard write
  fails. -/
  | writeAckTimeout (link : Fin 512) (stream : Fin 1024)
  /-- READ_DATA_TIMEOUT (R326): No block arrives within READ_DATA_TO and the stream's remaining blocks are lost. -/
  | readDataTimeout (link : Fin 512) (stream : Fin 1024)
  /-- LANE_TEST_RESULT (R328): The partner's LANE_TEST_RESULT arrives and the lane test passes, fails or aborts. -/
  | laneTestResult (link : Fin 512) (near : Nat)
  /-- BRIDGE_HOST_READ (R345): A host read through an enabled window is served from prefetch or issued as a CTRL_READ
  when a tag is free. -/
  | bridgeHostRead (port : Fin 8) (offset : Nat) (dwords : Fin 1025) (be : BitVec 8)
  /-- CTRL_READ_DATA (R345): Read data arrives for a tag and completes the host read, fills a prefetch page, or is
  discarded. -/
  | ctrlReadData (link : Fin 512)
  /-- BRIDGE_HOST_WRITE (R350): A host write through a window is forwarded as a CTRL_WRITE, queued, or dropped and
  logged. -/
  | bridgeHostWrite (port : Fin 8) (offset : Nat) (be : BitVec 8) (data : List Byte) (reqId : BitVec 16) (pasid : Option (BitVec 20))
  /-- CTRL_WRITE_STATUS (R351): A write status arrives; a failure is logged and signalled to the window's slice. -/
  | ctrlWriteStatus (link : Fin 512)
  /-- READ_LIMIT_EXPIRE (R345): BRG_READ_LIMIT expires for a host read, which completes with Completer Abort. -/
  | readLimitExpire (port : Fin 8)
  /-- DISCARD_TIMER_EXPIRE (R346): A tag's or page's discard timer expires; pages are discarded and tags without data
  are quarantined. -/
  | discardTimerExpire (page : Bool) (port : Fin 8) (link : Fin 512) (tag : Fin 256) (addr : Nat)
  /-- WSTATUS_TIMEOUT (R351): No write status arrives within WSTATUS_TO and the write fails with NO_STATUS. -/
  | wstatusTimeout (link : Fin 512)
  /-- POLL_TICK (R356): A link's poll slot in the poll period comes up and the device sends POLL, counting a missed
  answer. -/
  | pollTick (link : Fin 512)
  /-- POLL_STATUS (R359): A POLL_STATUS arrives; its word is stored, attention and thermal events raised, and pending
  events fetched. -/
  | pollStatus (link : Fin 512)
  /-- EVENT_LIST (R358): An EVENT_LIST arrives and each event is routed by the routing table. -/
  | eventList (link : Fin 512)
  /-- SIDEBAND_SCAN (R360): Every 1 ms the device shifts out LED bits and shifts in button bits, detecting presses. -/
  | sidebandScan (buttons : BitVec 64)
  /-- PRESENCE_INSERT (R367): PRSNT_N has read low for DEBOUNCE and insertion of a carrier is confirmed. -/
  | presenceInsert (bay : Fin 64)
  /-- PRESENCE_REMOVE (R378): PRSNT_N has read high for DEBOUNCE; removal is confirmed, gates turn off and RETRIES
  clears. -/
  | presenceRemove (bay : Fin 64)
  /-- BAY_START_SLOT (R369): A start slot frees while starts are allowed and the earliest waiting bay enters RAMP. -/
  | bayStartSlot
  /-- BAY_SAMPLE_TICK (R380): Every 0.1 ms the bay-power die measures, updates the FET models, regulates limit and
  sharing, and checks ramp, power-good and cool-down. -/
  | baySampleTick (bay : Fin 64) (ia : BitVec 16) (ib : BitVec 16) (va : BitVec 16) (vb : BitVec 16) (vout : BitVec 16) (sensor : BitVec 12)
  /-- FAULT_TIMER_EXPIRE (R373): The bay's fault timer reaches FAULT_TIME and the bay trips with cause ILIM_TIMER. -/
  | faultTimerExpire (bay : Fin 64)
  /-- POWER_GOOD (R371): The power-good conditions have held for PG_DELAY and the bay enters ON. -/
  | powerGood (bay : Fin 64)
  /-- FEED_LOSS (R376): A feed falls below 10.2 V or carries reverse current and its FET turns off within 2 µs. -/
  | feedLoss (bay : Fin 64) (feedB : Bool)
  /-- FEED_USABLE (R376): A feed has stood in range for 10 ms and becomes usable again; its FET ramps back on. -/
  | feedUsable (bay : Fin 64) (feedB : Bool)
  /-- FET_SHORT (R381): VOUT stays up over 5 ms with the gates off after discharge and the bay is recorded SHORTED, a
  grave fault of bay scope. -/
  | fetShort (bay : Fin 64) (overA : Bool) (overB : Bool)
  /-- RETRY_CLEAR (R378): Power-good has held for 1 s and the bay's RETRIES clears. -/
  | retryClear (bay : Fin 64)
  /-- LEDGER_INTERVAL (R388): Every 1 ms the ledger closes an interval, reads rail telemetry and charges energy to
  slices. -/
  | ledgerInterval (readings : List (Option (BitVec 32)))
  /-- DRAIN_COMPLETE (R259): The journal holds only entries left out of the drain and a DORMANT or diapause entry
  proceeds. -/
  | drainComplete
  /-- DRAIN_TIMEOUT (R411): DRAIN_MS expires during the drain and the entry unwinds with DRAIN_TIMEOUT. -/
  | drainTimeout
  /-- DIAPAUSE_ABORT_POINT (R411): An entry step ends and the device unwinds on a pending cause or begins the next
  step or the commit. -/
  | diapauseAbortPoint (weak : BitVec 6)
  /-- UNWIND_RELOAD_DONE (R411): The GDDR6 reload from the mirror during an unwind ends and the device is ACTIVE. -/
  | unwindReloadDone (status : CplStatus) (header : List Byte) (bodyCrc : BitVec 32) (secCrcs : List (BitVec 32))
  /-- COMMIT_WAIT_EXPIRE (R410): COMMIT_WAIT ends; ports not in L2/L3 Ready see link down and the commit powers the
  device down. -/
  | commitWaitExpire
  /-- WAKE_FEED (R406): WCMP_FEED has stood beyond threshold for 100 µs and wakes the device. -/
  | wakeFeed
  /-- WAKE_AUX (R406): WCMP_AUX has stood beyond threshold for 100 µs and wakes the device. -/
  | wakeAux
  /-- WAKE_HOST_ACTIVITY (R408): A port's lane 0 exits electrical idle for 50 ns and wakes the device. -/
  | wakeHostActivity (port : Fin 8)
  /-- WAKE_HOST_PATTERN (R408): The 16th burst of the ODG2560 wake pattern ends and wakes the device. -/
  | wakeHostPattern (port : Fin 8)
  /-- WAKE_EYESPOT (R444): A marked source becomes pending in DIAPAUSE or during entry and wakes the device. -/
  | wakeEyespot (source : Fin 512)
  /-- AON_ALARM (R407): DEVICE_TIME reaches AON_ALARM and the alarm source becomes pending. -/
  | aonAlarm
  /-- ECLOSION_RAILS_GOOD (R419): Rails are good after a wake; the device releases reset, checks seals and restores
  the banks. -/
  | eclosionRailsGood (bad : BitVec 6) (corrected : Nat) (board : Option (List Rail))
  /-- ECLOSION_RAIL_TIMEOUT (R419): Rails are not good within RAIL_TO; PWR_EN deasserts and the device returns to
  DIAPAUSE. -/
  | eclosionRailTimeout
  /-- GDDR6_RETRAINED (R419): GDDR6 power-up and training from trims ends during an eclosion. -/
  | gddr6Retrained
  /-- FIRMWARE_RELOADED (R419): Management firmware is reloaded from flash and checked against the B0 digest during an
  eclosion. -/
  | firmwareReloaded
  /-- MIRROR_PULL_START (R419): With the manager port in L0 with Bus Master Enable, GDDR6 trained and firmware
  running, the mirror pull starts. -/
  | mirrorPullStart
  /-- MIRROR_PULL_DONE (R423): The mirror pull ends, restoring or failing, and bay starts follow unless the eclosion
  is incomplete. -/
  | mirrorPullDone (status : CplStatus) (header : List Byte) (bodyCrc : BitVec 32) (secCrcs : List (BitVec 32))
  /-- MIRROR_WAIT_EXPIRE (R423): Bus Master Enable is not set within MIRROR_WAIT and the eclosion continues without
  the mirror. -/
  | mirrorWaitExpire
  /-- BROWNOUT (R403): The always-on island draws over 12 mA in low-power mode and loses its state, setting
  BROWNOUT_SEEN. -/
  | brownout
  /-- EVENT_SOURCE_EDGE (R428): An edge source's event occurs and counts toward coalescing or becomes pending. -/
  | eventSourceEdge (source : Fin 512)
  /-- LEVEL_SOURCE_CHANGE (R428): A level source's condition rises or falls, making it pending or withdrawing its
  request. -/
  | levelSourceChange (source : Fin 512)
  /-- EVC_COALESCE_EXPIRE (R429): An edge source's coalescing timer reaches TIME_US and the source becomes pending. -/
  | evcCoalesceExpire (source : Fin 512)
  /-- FAULT_EVENT (R450): An error of a fault source opens or merges into the unit's capture and is counted. -/
  | faultEvent (unit : FUnit) (src : Fin 16) (inst : Nat) (access : Nat) (addr : Nat) (port : Option (Fin 8)) (slice : Option (Fin 1024)) (detail : Nat)
  /-- FAULT_WINDOW_EXPIRE (R455): A fault source's window reaches its length and its counter returns to 0. -/
  | faultWindowExpire (unit : FUnit) (src : Fin 16) (inst : Nat)
  /-- HEARTBEAT_TIMEOUT (R487): A management core's heartbeat has not advanced for HB_LOSS periods and the core is
  declared lost. -/
  | heartbeatTimeout (core : Fin 2) (both : Bool)
  /-- CORE_STATE_ERROR (R465): A management core reports an uncorrectable error in its own state and is declared lost.
  -/
  | coreStateError (core : Fin 2)
  /-- RECOVERY_COMPLETE (R488): Recovery after failover ends, clearing RECOVERING and INSTAR_BUSY and raising source
  49. -/
  | recoveryComplete
  /-- ENGINE_TEST_DONE (R479): An engine under test has passed 65,536 pattern cells or mismatched and becomes SPARE or
  RETIRED. -/
  | engineTestDone (engine : Fin 72) (pass : Bool)
  /-- OCTANT_REJOIN (R483): A restored or reset octant rejoins the pacer at a boundary and its work is replayed. -/
  | octantRejoin (octant : Fin 8)
  /-- POR_ASSERT (R496): POR_N asserts; every bay gate turns off and PWR_EN deasserts. -/
  | porAssert
  /-- POR_RELEASE (R496): POR_N releases; straps are sampled and the cold start begins. -/
  | porRelease (mgr : Fin 8) (refclk : Fin 2) (test : Fin 4) (flash : Fin 2)
  /-- COLD_RAILS_GOOD (R499): Rails are good in a cold start; reset releases, fuses load, columns repair and the board
  record is read. -/
  | coldRailsGood (board : Option (List Rail))
  /-- COLD_RAIL_TIMEOUT (R500): Rails are not good 10 ms after PWR_EN; the device deasserts PWR_EN and asserts
  FAULT_N. -/
  | coldRailTimeout
  /-- FIRMWARE_AUTH_DONE (R502): The cores finish loading and authenticating firmware, choosing the active core or
  failing both. -/
  | firmwareAuthDone (active : Fin 2) (a0 : Bool) (a1 : Bool) (b0 : Bool) (b1 : Bool) (v0 : BitVec 32) (v1 : BitVec 32)
  /-- THERMAL_TRIP (R549): A die sensor reads at or above its trip level for 1 ms; gates turn off, PWR_EN deasserts
  and wake is blocked. -/
  | thermalTrip (die : Fin 11) (temp : BitVec 12)
  /-- VSTBY_POWER_CYCLE (R9): VSTBY is removed and applied again, restarting DEVICE_TIME from 0 and clearing the scar
  bits, AON_SEAL_COUNT, B0_RUN, SCH_SIGN.ENFORCE and the thermal trip record. -/
  | vstbyPowerCycle
  /-- THERMAL_WARNING (R550): A die sensor reads at or above its warning threshold and the die's WARN bit is set in
  GLB_THERM_STATUS. -/
  | thermalWarning (die : Fin 11) (temp : BitVec 12)
  /-- PLANE_TEST_DONE (R486): A PLANE_TEST of the spare crossbar plane reaches its verdict, and TEST_UNIT completes
  with its outcome and raises source 51. -/
  | planeTestDone (pass : Bool)
  /-- STANDBY_SELFTEST_DONE (R486): A SELFTEST of the standby management core ends, clearing STANDBY_TESTING and
  completing TEST_UNIT with its outcome. -/
  | standbySelftestDone (pass : Bool)
  /-- FW_STAGING_DONE (R511): The flash write and read-back of a staged firmware image end, and FW_UPDATE completes
  with SUCCESS or INTERNAL_FAULT. -/
  | fwStagingDone (ok : Bool)
  deriving DecidableEq, Repr

end Sys2Proof
end

