-- ==== Sys2Proof/WellFormed.lean ====
section
/-! DEFINITION. Which commands can arrive: the lengths and ranges the manual gives what a command carries. A well-formed
command is one the outside of the block can present; `exec` has a meaning for the others too. -/
namespace Sys2Proof

/-- Byte enables of a naturally aligned access of 32 or 64 bits, or of part of one (R2). -/
def beOk (offset : BitVec 26) (be : BitVec 8) : Bool :=
  offset.toNat % 4 == 0 && be != 0 && (decide (be.toNat < 16) || offset.toNat % 8 == 0)

/-- The bytes a read brought, when it did, have a length the manual allows. -/
def bytesOk (p : Nat → Bool) (data : Option (List Byte)) : Bool :=
  match data with
  | some l => p l.length
  | none => true

/-- At most 16 rails, none with a RSVD role (R504): a record with one is presented as none. -/
def railsOk (board : Option (List Rail)) : Bool :=
  match board with
  | some l => decide (l.length ≤ 16)
  | none => true

/-- The checks of each command: register alignment (R2), the sizes of BAR4 (R43), images and their reads (R201), records and
descriptors (R112, R114), scatter lists (R120), training blocks (R280), flits (R298), bridge accesses (R345, R350), rails
(R504), link widths (R52), event sources (R427), engines and planes (R449). -/
def WellFormed (i : Instr) : Bool :=
  match i with
  | .registerWrite _ _ offset _ first last => beOk offset (last ++ first)
  | .glbTimeRead => true
  | .setupKeyWrite _ => true
  | .glbProfileWrite _ => true
  | .powerCmdActive => true
  | .powerCmdDormant => true
  | .powerCmdDiapause => true
  | .signKeyWrite _ _ => true
  | .jnlRegionWrite _ _ => true
  | .slcPermWrite _ _ _ => true
  | .memStageWrite _ => true
  | .memTrainStart _ => true
  | .memTrainDone _ => true
  | .memtestStart _ => true
  | .memtestDone _ => true
  | .eclosionAck _ => true
  | .faultClear _ _ => true
  | .faultInjectFire _ _ => true
  | .fltUnlock _ => true
  | .peakClr _ _ => true
  | .bar4Resize _ log2 => decide (30 ≤ log2 ∧ log2 ≤ 40)
  | .dbNudge _ _ _ => true
  | .dbQselWrite _ _ _ => true
  | .dbQueueConfigWrite _ _ _ _ => true
  | .queueEnable _ _ => true
  | .queueDisable _ _ => true
  | .queueDisabled _ => true
  | .laneEnableWrite _ _ => true
  | .retrain _ _ => true
  | .bayArmWrite _ _ => true
  | .windowEnable _ _ _ => true
  | .windowDisable _ _ _ => true
  | .brgEvqRead => true
  | .eyespotMark source _ => decide (0 < source.val)
  | .evcPendingClear _ _ => true
  | .evcClaim _ read => read.all (beOk 0)
  | .evcEoi _ _ _ => true
  | .descriptorAccept _ => true
  | .writeStripe _ => true
  | .readStripe _ => true
  | .scrub _ => true
  | .rebuildShard _ => true
  | .migrate _ => true
  | .fence _ => true
  | .abort _ => true
  | .createSlice _ => true
  | .destroySlice _ => true
  | .moultSlice _ => true
  | .quiesceSlice _ => true
  | .cocoonSlice _ => true
  | .saveSlice _ => true
  | .restoreSlice _ _ => true
  | .setShare _ => true
  | .loadImage _ => true
  | .loadImageReadDone _ data => bytesOk (fun n => decide (0 < n)) data
  | .switchImage _ => true
  | .setProfile _ => true
  | .admitBay _ => true
  | .retireBay _ => true
  | .bayPower _ => true
  | .enterState _ => true
  | .setMirror _ => true
  | .bringInSpare _ => true
  | .testUnit _ => true
  | .readLedger _ => true
  | .fwUpdate _ _ => true
  | .getLog _ => true
  | .recordFetchDone _ _ data => match data with | some l => l.length == 512 | none => true
  | .descriptorReadDone _ data => match data with | some l => decide (0 < l.length ∧ l.length ≤ 64) | none => true
  | .sglReadDone _ data => bytesOk (fun n => n % 16 == 0) data
  | .completionSequence => true
  | .coalesceTimerExpire _ => true
  | .epochBoundary => true
  | .runFire _ _ => true
  | .blockColumn slot _ => decide (slot.val < 2 ^ 18) || decide (2 ^ 20 ≤ slot.val)
  | .matrixComputed _ => true
  | .enginesSettled => true
  | .profileSettled => true
  | .calendarEccError _ index _ => decide (index < 4096)
  | .calendarRewrite _ _ => true
  | .cellCrcFail _ engine unit => decide (unit < (if engine then 72 else 9))
  | .journalEccError _ _ _ => true
  | .linkHoldExpire _ => true
  | .moultComplete _ => true
  | .moultBegin _ => true
  | .quiesceComplete _ => true
  | .cocoonComplete _ => true
  | .shrinkRelease _ => true
  | .flr _ => true
  | .perstAssert _ => true
  | .perstRelease _ => true
  | .hostLinkUp _ speed width => decide (0 < speed.val) && [1, 2, 4, 8, 16].contains width.val
  | .hostLinkDown _ => true
  | .busMasterEnable _ _ => true
  | .pasidEnable _ _ => true
  | .reqIdChange _ _ => true
  | .d3hotEntry _ => true
  | .d0Return _ => true
  | .pmeTurnOff _ => true
  | .msixUnmask _ _ _ _ _ => true
  | .hostReadCompletion _ _ _ => true
  | .hostCompletionTimeout _ => true
  | .hostTlpError _ _ => true
  | .hostUnsupportedRequest _ _ _ _ => true
  | .offUnitAccess _ place access => beOk place.offset access.be
  | .domainReady _ => true
  | .domainIdleOff _ => true
  | .islandGate _ => true
  | .islandUngate _ => true
  | .partnerSignalDetect _ => true
  | .noPartner _ => true
  | .trainingBlock _ block => block.length == 16
  | .eqDone _ => true
  | .syncTimeout _ => true
  | .eqTimeout _ => true
  | .negTimeout _ => true
  | .ident _ => true
  | .identTimeout _ => true
  | .flitReceive _ flit => flit.bytes.length == 256
  | .linkCtrl _ flit => flit.bytes.length == 256
  | .txSlot _ => true
  | .ackTimeExpire _ => true
  | .replayToExpire _ _ => true
  | .deadTimeExpire _ => true
  | .block _ => true
  | .streamStatus _ => true
  | .trailerData _ => true
  | .writeAckTimeout _ _ => true
  | .readDataTimeout _ _ => true
  | .laneTestResult _ _ => true
  | .bridgeHostRead _ offset dwords _ => offset % 4 == 0 && decide (0 < dwords.val)
  | .ctrlReadData _ => true
  | .bridgeHostWrite _ offset _ data _ _ => offset % 4 == 0 && data.length % 4 == 0 && !data.isEmpty
  | .ctrlWriteStatus _ => true
  | .readLimitExpire _ => true
  | .discardTimerExpire _ _ _ _ _ => true
  | .wstatusTimeout _ => true
  | .pollTick _ => true
  | .pollStatus _ => true
  | .eventList _ => true
  | .sidebandScan _ => true
  | .presenceInsert _ => true
  | .presenceRemove _ => true
  | .bayStartSlot => true
  | .baySampleTick _ _ _ _ _ _ _ => true
  | .faultTimerExpire _ => true
  | .powerGood _ => true
  | .feedLoss _ _ => true
  | .feedUsable _ _ => true
  | .fetShort _ _ _ => true
  | .retryClear _ => true
  | .ledgerInterval readings => decide (readings.length ≤ 16)
  | .drainComplete => true
  | .drainTimeout => true
  | .diapauseAbortPoint _ => true
  | .unwindReloadDone _ _ _ _ => true
  | .commitWaitExpire => true
  | .wakeFeed => true
  | .wakeAux => true
  | .wakeHostActivity _ => true
  | .wakeHostPattern _ => true
  | .wakeEyespot source => decide (0 < source.val)
  | .aonAlarm => true
  | .eclosionRailsGood _ _ board => railsOk board
  | .eclosionRailTimeout => true
  | .gddr6Retrained => true
  | .firmwareReloaded => true
  | .mirrorPullStart => true
  | .mirrorPullDone _ _ _ _ => true
  | .mirrorWaitExpire => true
  | .brownout => true
  | .eventSourceEdge source => decide (0 < source.val)
  | .levelSourceChange source => decide (0 < source.val)
  | .evcCoalesceExpire source => decide (0 < source.val)
  | .faultEvent _ _ _ _ _ _ _ _ => true
  | .faultWindowExpire _ _ _ => true
  | .heartbeatTimeout _ _ => true
  | .coreStateError _ => true
  | .recoveryComplete => true
  | .engineTestDone _ _ => true
  | .octantRejoin _ => true
  | .porAssert => true
  | .porRelease _ _ _ _ => true
  | .coldRailsGood board => railsOk board
  | .coldRailTimeout => true
  | .firmwareAuthDone _ _ _ _ _ _ _ => true
  | .thermalTrip _ _ => true
  | .vstbyPowerCycle => true
  | .thermalWarning _ _ => true
  | .planeTestDone _ => true
  | .standbySelftestDone _ => true
  | .fwStagingDone _ => true

end Sys2Proof
end

