-- ==== Sys2Proof/Machine/Bits.lean ====
section
/-! DEFINITION. Byte order, bit fields and the checks the manual names: CRC-32C (R145) and GF(2^8) (R142). -/
namespace Sys2Proof.Machine

/-- Bits `lo` to `lo + w - 1` of `x`. -/
def bits (x lo w : Nat) : Nat := x / 2 ^ lo % 2 ^ w

/-- Bit `i` of `x`. -/
def bit (x i : Nat) : Bool := x / 2 ^ i % 2 == 1

/-- 1 for true, 0 for false. -/
def b2n (b : Bool) : Nat := if b then 1 else 0

/-- A little-endian number from its bytes (R8). -/
def leNat : List Byte → Nat
  | [] => 0
  | b :: r => b.toNat + 256 * leNat r

/-- The `n` low bytes of `x`, little-endian (R8). -/
def leBytes : Nat → Nat → List Byte
  | 0, _ => []
  | n + 1, x => BitVec.ofNat 8 x :: leBytes n (x / 256)

/-- `n` bytes of `l` from offset `o`, as a little-endian number. -/
def leAt (l : List Byte) (o n : Nat) : Nat := leNat ((l.drop o).take n)

/-- One bit of the reflected Castagnoli register (R145). -/
def crcBit (c : BitVec 32) : BitVec 32 :=
  if c.getLsbD 0 then (c >>> 1) ^^^ 0x82F63B78#32 else c >>> 1

/-- One byte into the CRC-32C register (R145). -/
def crcByte (c : BitVec 32) (b : Byte) : BitVec 32 :=
  let x := c ^^^ b.setWidth 32
  crcBit (crcBit (crcBit (crcBit (crcBit (crcBit (crcBit (crcBit x)))))))

/-- CRC-32C: reflected, initial value and final exclusive OR all ones (R145). -/
def crc32c (l : List Byte) : BitVec 32 := (l.foldl crcByte 0xFFFFFFFF#32) ^^^ 0xFFFFFFFF#32

/-- Multiplication by x in GF(2^8) modulo 0x11D (R142). -/
def gfX (a : Byte) : Byte := if a.getLsbD 7 then (a <<< 1) ^^^ 0x1D#8 else a <<< 1

/-- Shift-and-add multiplication in GF(2^8) over the low `n` bits of `b` (R142). -/
def gfMulN : Nat → Byte → Byte → Byte
  | 0, _, _ => 0#8
  | n + 1, a, b => (if b.getLsbD 0 then a else 0#8) ^^^ gfMulN n (gfX a) (b >>> 1)

/-- Multiplication in GF(2^8) with the field polynomial 0x11D (R142). -/
def gfMul (a b : Byte) : Byte := gfMulN 8 a b

/-- `a` to the power `n` in GF(2^8). -/
def gfPow (a : Byte) : Nat → Byte
  | 0 => 1#8
  | n + 1 => gfMul a (gfPow a n)

/-- The inverse of a nonzero element: its 254th power (R142); 0 for 0. -/
def gfInv (a : Byte) : Byte :=
  let a2 := gfMul a a
  let a4 := gfMul a2 a2
  let a8 := gfMul a4 a4
  let a16 := gfMul a8 a8
  let a32 := gfMul a16 a16
  let a64 := gfMul a32 a32
  let a128 := gfMul a64 a64
  gfMul a128 (gfMul a64 (gfMul a32 (gfMul a16 (gfMul a8 (gfMul a4 a2)))))

/-- Byte-wise exclusive OR of two blocks; the shorter one counts as padded with zeros. -/
def xorBlk : List Byte → List Byte → List Byte
  | [], r => r
  | l, [] => l
  | a :: l, b :: r => (a ^^^ b) :: xorBlk l r

/-- The sum of coefficient times block over a row (R143). -/
def dotBlk : List Byte → List (List Byte) → List Byte
  | c :: cs, b :: bs => xorBlk (b.map (gfMul c)) (dotBlk cs bs)
  | _, _ => []

/-- The sum of products of two rows of elements. -/
def dotRow : List Byte → List Byte → Byte
  | a :: l, b :: r => gfMul a b ^^^ dotRow l r
  | _, _ => 0#8

/-- A list without element `i`. -/
def dropIdx {α : Type} (l : List α) (i : Nat) : List α := l.take i ++ l.drop (i + 1)

/-- One elimination step at column `c` of an augmented matrix whose rows from `c` on are `rest` (R153). -/
def gfPivot (c : Nat) (rest : List (List Byte)) : Option (List Byte × List (List Byte)) :=
  match rest.findIdx? (fun r => r.getD c 0#8 != 0#8) with
  | none => none
  | some i =>
    let r := rest.getD i []
    some (r.map (gfMul (gfInv (r.getD c 0#8))), dropIdx rest i)

/-- Gauss–Jordan elimination over GF(2^8) for `n` columns from column `c`: none when the matrix is singular. -/
def gfElim : Nat → Nat → List (List Byte) → List (List Byte) → Option (List (List Byte))
  | 0, _, done, _ => some done
  | n + 1, c, done, rest =>
    match gfPivot c rest with
    | none => none
    | some (p, rest') =>
      let clear := fun r : List Byte => xorBlk r (p.map (gfMul (r.getD c 0#8)))
      gfElim n (c + 1) (done.map clear ++ [p]) (rest'.map clear)

/-- Row `i` of the identity of size `k`. -/
def unitRow (k i : Nat) : List Byte := (List.range k).map (fun j => if j = i then 1#8 else 0#8)

/-- The inverse of a `k` by `k` matrix over GF(2^8), if it has one (R153). -/
def gfInverse (k : Nat) (m : List (List Byte)) : Option (List (List Byte)) :=
  (gfElim k 0 [] (m.mapIdx (fun i r => r ++ unitRow k i))).map (fun l => l.map (List.drop k))

/-- A sublist of `l` chosen by the positions of a mask. -/
def maskList (m n : Nat) : List Nat := (List.range n).filter (bit m)

/-- The mask with the bits of a list set. -/
def listMask (l : List Nat) : Nat := l.foldl (fun m i => m ||| 2 ^ i) 0

end Sys2Proof.Machine
end

