-- ==== Sys2Proof/Machine/Crypto.lean ====
section
/-! DEFINITION. SHA-384 and ECDSA over P-384, the published standards the manual names for signatures and digests (R195,
R199, R200, R503; log entry 13). -/
namespace Sys2Proof.Machine

/-! ## SHA-384 -/

/-- The largest `r` with `r ^ k ≤ n`, found from bit `b` down. -/
def rootBits (k n : Nat) : Nat → Nat → Nat
  | 0, r => r
  | b + 1, r => if (r + 2 ^ b) ^ k ≤ n then rootBits k n b (r + 2 ^ b) else rootBits k n b r

/-- The first 80 primes. -/
def shaPrimes : List Nat :=
  [2, 3, 5, 7, 11, 13, 17, 19, 23, 29, 31, 37, 41, 43, 47, 53, 59, 61, 67, 71, 73, 79, 83, 89, 97, 101, 103, 107, 109, 113]
    ++ [127, 131, 137, 139, 149, 151, 157, 163, 167, 173, 179, 181, 191, 193, 197, 199, 211, 223, 227, 229, 233, 239, 241]
    ++ [251, 257, 263, 269, 271, 277, 281, 283, 293, 307, 311, 313, 317, 331, 337, 347, 349, 353, 359, 367, 373, 379, 383, 389,
        397, 401, 409]

/-- The round constants: 64 bits of the fractional parts of the primes' cube roots. -/
def shaK : List (BitVec 64) := shaPrimes.map (fun p => BitVec.ofNat 64 (rootBits 3 (p * 2 ^ 192) 68 0))

/-- The eight words of the hash state. -/
structure Sha where
  a : BitVec 64
  b : BitVec 64
  c : BitVec 64
  d : BitVec 64
  e : BitVec 64
  f : BitVec 64
  g : BitVec 64
  h : BitVec 64

/-- The initial state: the fractional parts of the square roots of the ninth to the sixteenth prime. -/
def sha384Init : Sha :=
  let w := fun i => BitVec.ofNat 64 (rootBits 2 (shaPrimes.getD i 0 * 2 ^ 128) 68 0)
  ⟨w 8, w 9, w 10, w 11, w 12, w 13, w 14, w 15⟩

/-- `n` further words of a block's message schedule, kept newest first. -/
def shaSchedule : Nat → List (BitVec 64) → List (BitVec 64)
  | 0, l => l
  | n + 1, l =>
    let x := l.getD 14 0
    let y := l.getD 1 0
    let s0 := x.rotateRight 1 ^^^ x.rotateRight 8 ^^^ (x >>> 7)
    let s1 := y.rotateRight 19 ^^^ y.rotateRight 61 ^^^ (y >>> 6)
    shaSchedule n ((l.getD 15 0 + s0 + l.getD 6 0 + s1) :: l)

/-- One round. -/
def Sha.round (s : Sha) (kw : BitVec 64 × BitVec 64) : Sha :=
  let s1 := s.e.rotateRight 14 ^^^ s.e.rotateRight 18 ^^^ s.e.rotateRight 41
  let ch := (s.e &&& s.f) ^^^ (~~~s.e &&& s.g)
  let t1 := s.h + s1 + ch + kw.1 + kw.2
  let s0 := s.a.rotateRight 28 ^^^ s.a.rotateRight 34 ^^^ s.a.rotateRight 39
  let maj := (s.a &&& s.b) ^^^ (s.a &&& s.c) ^^^ (s.b &&& s.c)
  ⟨t1 + s0 + maj, s.a, s.b, s.c, s.d + t1, s.e, s.f, s.g⟩

/-- A byte string as a big-endian number. -/
def beNat (l : List Byte) : Nat := l.foldl (fun a b => a * 256 + b.toNat) 0

/-- `n` bytes of a number, big-endian. -/
def beBytes (n x : Nat) : List Byte := (leBytes n x).reverse

/-- The state after one block of 128 bytes. -/
def Sha.block (s : Sha) (l : List Byte) : Sha :=
  let w := ((List.range 16).map (fun i => BitVec.ofNat 64 (beNat ((l.drop (8 * i)).take 8)))).reverse
  let r := (shaK.zip (shaSchedule 64 w).reverse).foldl Sha.round s
  ⟨s.a + r.a, s.b + r.b, s.c + r.c, s.d + r.d, s.e + r.e, s.f + r.f, s.g + r.g, s.h + r.h⟩

/-- `n` blocks in turn. -/
def Sha.blocks : Nat → Sha → List Byte → Sha
  | 0, s, _ => s
  | n + 1, s, l => Sha.blocks n (s.block (l.take 128)) (l.drop 128)

/-- SHA-384 of a byte string, 48 bytes. -/
def sha384 (l : List Byte) : List Byte :=
  let n := l.length
  let z := (239 - n % 128) % 128
  let m := l ++ [0x80#8] ++ List.replicate z 0#8 ++ beBytes 16 (8 * n)
  let s := Sha.blocks (m.length / 128) sha384Init m
  [s.a, s.b, s.c, s.d, s.e, s.f].flatMap (fun x => beBytes 8 x.toNat)

/-! ## P-384 -/

def p384 : Nat := 2 ^ 384 - 2 ^ 128 - 2 ^ 96 + 2 ^ 32 - 1
def p384B : Nat := 0xB3312FA7E23EE7E4988E056BE3F82D19181D9C6EFE8141120314088F5013875AC656398D8A2ED19D2A85C8EDD3EC2AEF
def p384N : Nat := 0xFFFFFFFFFFFFFFFFFFFFFFFFFFFFFFFFFFFFFFFFFFFFFFFFC7634D81F4372DDF581A0DB248B0A77AECEC196ACCC52973
def p384Gx : Nat := 0xAA87CA22BE8B05378EB1C71EF320AD746E1D3B628BA79B9859F741E082542A385502F25DBF55296C3A545E3872760AB7
def p384Gy : Nat := 0x3617DE4A96262C6F5D9E98BF9292DC29F8F41DBD289A147CE9DA3113B5F0B8C00A60B1CE1D7E819D7A431D7C90EA0E5F

/-- `b ^ e` modulo `m`, taking `e`'s bits from bit `k − 1` down. -/
def powMod (b e m : Nat) : Nat → Nat → Nat
  | 0, r => r
  | k + 1, r =>
    let r := r * r % m
    powMod b e m k (if bit e k then r * b % m else r)

/-- The inverse modulo a prime below 2^384. -/
def invMod (x m : Nat) : Nat := powMod (x % m) (m - 2) m 384 1

/-- The sum of two points of the curve; none is the point at infinity. -/
def ecAdd (p q : Option (Nat × Nat)) : Option (Nat × Nat) :=
  match p, q with
  | none, q => q
  | p, none => p
  | some a, some b =>
    let m := p384
    if a.1 = b.1 ∧ (a.2 + b.2) % m = 0 then none
    else
      let s := if a.1 = b.1 then (3 * a.1 * a.1 + (m - 3)) * invMod (2 * a.2) m % m
        else (b.2 + (m - a.2)) * invMod (b.1 + (m - a.1)) m % m
      let x := (s * s + (m - a.1) + (m - b.1)) % m
      some (x, (s * (a.1 + (m - x)) + (m - a.2)) % m)

/-- The multiple `n` of a point, taking `n`'s bits from bit `k − 1` down. -/
def ecMul (n : Nat) (p : Option (Nat × Nat)) : Nat → Option (Nat × Nat) → Option (Nat × Nat)
  | 0, r => r
  | k + 1, r =>
    let r := ecAdd r r
    ecMul n p k (if bit n k then ecAdd r p else r)

/-- The point X‖Y of 96 bytes, big-endian (R199). -/
def keyPoint (key : List Byte) : Nat × Nat := (beNat (key.take 48), beNat ((key.drop 48).take 48))

/-- The point X‖Y is on the curve (R199). -/
def onCurve (key : List Byte) : Bool :=
  let q := keyPoint key
  decide (q.1 < p384) && decide (q.2 < p384)
    && (q.2 * q.2 % p384 == (q.1 * q.1 * q.1 + (p384 - 3) * q.1 + p384B) % p384)

/-- The signature R, S verifies over a digest under the key X‖Y (R200). -/
def ecdsaVerify (key digest r s : List Byte) : Bool :=
  let r := beNat r
  let s := beNat s
  let w := invMod s p384N
  let u := ecMul (beNat digest * w % p384N) (some (p384Gx, p384Gy)) 384 none
  let v := ecMul (r * w % p384N) (some (keyPoint key)) 384 none
  onCurve key && decide (0 < r ∧ r < p384N ∧ 0 < s ∧ s < p384N)
    && (match ecAdd u v with
      | some x => x.1 % p384N == r
      | none => false)

end Sys2Proof.Machine
end

