-- ==== Sys2Proof/Config.lean ====
section
/-! DEFINITION. What the manual leaves free: constants without a body, so that no proof can see a value. Each is
named in a row of notes/assumptions. -/
namespace Sys2Proof

/-- The Device Serial Number, one 64-bit value per part (R41). Log entry 10. -/
opaque Config.dsn : BitVec 64

/-- The part's fuse contents for the hub columns that POR repairs (R498): octant to repaired column count. Log entry 10. -/
opaque Config.fuseColumns : Nat → Nat

/-- The hub's random-number source (R147): the n-th number it yields. Log entry 11. -/
opaque Config.random : Nat → BitVec 32

/-- A value the manual leaves undefined, the n-th one met (log entry 12). -/
opaque Config.freeValue : Nat → BitVec 32

/-- A byte the manual leaves undefined, the n-th one met (log entry 12). -/
opaque Config.freeByte : Nat → BitVec 8

/-- The GDDR6 address of the staged space of an item, by its acceptance number (R254; log entry 12). -/
opaque Config.stageAddr : Nat → BitVec 34

/-- The fuses' hash of the firmware key, 48 bytes (R503). Log entry 13. -/
opaque Config.fwKeyHash : List Byte

/-- The fuses' least security version (R503). Log entry 13. -/
opaque Config.fwMinSvn : Nat

/-- A port's completion timeout in nanoseconds for each Completion Timeout Value (R35, R66): the ranges are the PCI Express
standard's. Log entry 79. -/
opaque Config.completionTimeout : Nat → BitVec 40

/-- The order and the spacing of the physical-layer capabilities (R41). Log entry 79. -/
opaque Config.physLayout : Nat → BitVec 32

/-- The bytes of a section of the mirror, 1 to 10, as the device forms them at one writing (R418): its own affair. Log entry 116. -/
opaque Config.mirrorSection : (seed sec : Nat) → List Byte

/-- Is a LED that blinks at 1 Hz on at a time within its period, in ns (R360)? Log entry 125. -/
opaque Config.blink : Nat → Bool

/-- The part's fused offset of the VDD_CORE set point, −20 mV to +20 mV, in µV above −20 mV (R533). Log entry 10. -/
opaque Config.vddOffset : Fin 40001

end Sys2Proof
end

