-- ==== Sys2Proof/Machine/Regs.lean ====
section
/-! DEFINITION. The set-up space (R44): every register the chapters tabulate, its offset within BAR0 of the manager
port, its fields, their access types (R3), Reset values (R7) and stated ranges (R6). -/
namespace Sys2Proof.Machine

/-- A field of a register: the register's BAR0 offset, the field's lowest bit and its width. -/
structure Fld where
  addr : Nat
  lo : Nat
  width : Nat
  deriving DecidableEq, Repr

/-- The number under which the field store holds a field: one number per register bit. -/
def Fld.key (f : Fld) : Nat := f.addr * 32 + f.lo

/-- The access types of R3; every RWS field of the manual's configuration space is held outside this store. -/
inductive Acc where
  | rw | ro | wo | w1c | w1s
  deriving DecidableEq, Repr

/-- One field of a register table: lowest bit, width, access, Reset value, and the least and the greatest code that is
not reserved (R6). -/
structure RField where
  lo : Nat
  width : Nat
  acc : Acc
  reset : Nat
  min : Nat
  max : Nat

/-- One row of a block: the offset of its first register, two strides with their counts, and the fields of the register
at each pair of indices. -/
structure Row where
  base : Nat
  stride1 : Nat
  count1 : Nat
  stride2 : Nat
  count2 : Nat
  fields : Nat → Nat → List RField

/-- The fields of the register at `a`, when the row holds it. -/
def Row.at (r : Row) (a : Nat) : Option (List RField) :=
  let o := a - r.base
  let i := o / r.stride1
  let j := o % r.stride1 / r.stride2
  if r.base ≤ a ∧ o % r.stride1 % r.stride2 = 0 ∧ i < r.count1 ∧ j < r.count2 then some (r.fields i j) else none

/-- A source number the table of R427 assigns. -/
def srcExists (s : Nat) : Bool :=
  (1 ≤ s && s ≤ 4) || (8 ≤ s && s ≤ 22) || (24 ≤ s && s ≤ 53) || (56 ≤ s && s ≤ 279) || (448 ≤ s && s ≤ 511)

/-- The Kind column of R427: true for a level source. -/
def srcLevel (s : Nat) : Bool :=
  s == 3 || s == 4 || (8 ≤ s && s ≤ 15) || s == 17 || s == 18 || s == 22 || (24 ≤ s && s ≤ 40) || s == 45 || s == 46
    || s == 48 || s == 50 || s == 52 || s == 53 || (128 ≤ s && s ≤ 279)

/-- The Reset priority column of R427. -/
def srcPriority (s : Nat) : Nat :=
  if !srcExists s then 0
  else if s = 1 ∨ s = 2 ∨ s = 16 ∨ s = 19 ∨ s = 51 then 4
  else if s = 3 ∨ s = 41 then 2
  else if s = 4 ∨ s = 18 ∨ s = 46 ∨ s = 48 ∨ s = 53 then 12
  else if s = 20 ∨ s = 21 ∨ 448 ≤ s then 3
  else if s = 42 ∨ s = 43 ∨ (56 ≤ s ∧ s ≤ 63) then 5
  else if s = 44 then 7
  else if s = 45 ∨ s = 47 then 6
  else if s = 49 ∨ (64 ≤ s ∧ s ≤ 127) ∨ (264 ≤ s ∧ s ≤ 271) then 8
  else if s = 50 then 14
  else if 272 ≤ s ∧ s ≤ 279 then 12
  else 10

/-- The sources the eyespot may watch (R427). -/
def srcEligible (s : Nat) : Bool := s == 47 || (448 ≤ s && s ≤ 511)

/-- The base of a unit's window (R448). -/
def unitBase : FUnit → Nat
  | .glb => 0x0
  | .hp n => 0x100000 + 0x10000 * n.val
  | .slc => 0x200000
  | .sch => 0x400000
  | .jnl => 0x600000
  | .mem c => 0x700000 + 0x10000 * c.val
  | .brg => 0x1000000
  | .aon => 0x1500000
  | .evc => 0x1600000
  | .mgt => 0x1C00000
  | .spr => 0x1800000
  | .xbar => 0x1810000
  | .bay b => 0x1400000 + 0x1000 * b.val
  | .eng p => 0x500000 + 0x1000 * p.val
  | .lane l => 0x800000 + 0x1000 * l.val
  | .oct o => 0xB00000 + 0x1000 * o.val

/-- A unit with full capture; every other unit has a first-source latch (R448). -/
def unitFull : FUnit → Bool
  | .hp _ => true
  | .slc => true
  | .jnl => true
  | .brg => true
  | .eng _ => true
  | _ => false

/-- The event source of a unit's fault block (R448). -/
def unitSource : FUnit → Nat
  | .glb => 4
  | .hp n => 8 + n.val
  | .slc => 17
  | .sch => 18
  | .jnl => 22
  | .mem c => 24 + c.val
  | .brg => 40
  | .aon => 46
  | .evc => 48
  | .mgt => 50
  | .spr => 52
  | .xbar => 53
  | .bay b => 128 + b.val
  | .eng p => 192 + p.val
  | .lane l => 264 + l.val / 64
  | .oct o => 272 + o.val

/-- The unit whose fault block holds BAR0 offset `a` (R448). -/
def unitAt (a : Nat) : Option FUnit :=
  let w := a - a % 0x1000
  if a % 0x1000 < 0xF00 then none
  else if w = 0x0 then some .glb
  else if 0x100000 ≤ w ∧ w < 0x180000 ∧ w % 0x10000 = 0 then some (.hp (Fin.ofNat 8 ((w - 0x100000) / 0x10000)))
  else if w = 0x200000 then some .slc
  else if w = 0x400000 then some .sch
  else if 0x500000 ≤ w ∧ w < 0x548000 then some (.eng (Fin.ofNat 72 ((w - 0x500000) / 0x1000)))
  else if w = 0x600000 then some .jnl
  else if 0x700000 ≤ w ∧ w < 0x800000 ∧ w % 0x10000 = 0 then some (.mem (Fin.ofNat 16 ((w - 0x700000) / 0x10000)))
  else if 0x800000 ≤ w ∧ w < 0xA00000 then some (.lane (Fin.ofNat 512 ((w - 0x800000) / 0x1000)))
  else if 0xB00000 ≤ w ∧ w < 0xB08000 then some (.oct (Fin.ofNat 8 ((w - 0xB00000) / 0x1000)))
  else if w = 0x1000000 then some .brg
  else if 0x1400000 ≤ w ∧ w < 0x1440000 then some (.bay (Fin.ofNat 64 ((w - 0x1400000) / 0x1000)))
  else if w = 0x1500000 then some .aon
  else if w = 0x1600000 then some .evc
  else if w = 0x1800000 then some .spr
  else if w = 0x1810000 then some .xbar
  else if w = 0x1C00000 then some .mgt
  else none

/-- What R449 gives one fault source: its class (0 CORRECTED to 3 GRAVE) and the Reset values of N, W, W_UNIT (0 ms,
1 s) and AUTO. -/
structure FSrc where
  cls : Nat
  n : Nat
  w : Nat
  unit : Nat
  auto : Nat
  deriving DecidableEq, Repr

/-- The sources of R449; none for an index that is RSVD. -/
def faultSrc : FUnit → Nat → Option FSrc
  | _, 0 => some ⟨0, 64, 1, 1, 1⟩
  | _, 1 => some ⟨1, 1, 1, 0, 1⟩
  | .hp _, 2 => some ⟨1, 16, 1, 1, 1⟩
  | .hp _, 3 => some ⟨1, 4, 1, 1, 1⟩
  | .hp _, 4 => some ⟨0, 255, 1, 1, 1⟩
  | .slc, 2 => some ⟨1, 16, 1, 1, 1⟩
  | .slc, 3 => some ⟨1, 16, 1, 1, 1⟩
  | .slc, 4 => some ⟨1, 16, 1, 1, 1⟩
  | .slc, 5 => some ⟨1, 16, 1, 1, 1⟩
  | .sch, 2 => some ⟨1, 8, 1, 1, 1⟩
  | .sch, 3 => some ⟨3, 0, 0, 0, 0⟩
  | .sch, 4 => some ⟨1, 16, 1, 1, 1⟩
  | .jnl, 2 => some ⟨1, 8, 1, 1, 1⟩
  | .jnl, 3 => some ⟨2, 1, 1, 0, 1⟩
  | .jnl, 4 => some ⟨1, 16, 1, 1, 1⟩
  | .mem _, 2 => some ⟨0, 8, 10, 1, 1⟩
  | .mem _, 3 => some ⟨1, 1, 1, 0, 1⟩
  | .mem _, 4 => some ⟨1, 1, 1, 0, 0⟩
  | .mem _, 5 => some ⟨0, 255, 1, 1, 0⟩
  | .brg, 2 => some ⟨1, 255, 1, 1, 0⟩
  | .brg, 3 => some ⟨1, 255, 1, 1, 0⟩
  | .brg, 4 => some ⟨0, 255, 1, 1, 0⟩
  | .aon, 2 => some ⟨1, 1, 1, 0, 0⟩
  | .aon, 3 => some ⟨1, 1, 1, 0, 0⟩
  | .aon, 4 => some ⟨3, 0, 0, 0, 0⟩
  | .aon, 5 => some ⟨0, 1, 1, 0, 0⟩
  | .mgt, 2 => some ⟨1, 255, 1, 1, 0⟩
  | .mgt, 3 => some ⟨1, 1, 1, 0, 0⟩
  | .mgt, 4 => some ⟨3, 0, 0, 0, 0⟩
  | .xbar, 2 => some ⟨1, 16, 1, 1, 1⟩
  | .bay _, 2 => some ⟨1, 4, 3600, 1, 1⟩
  | .bay _, 3 => some ⟨0, 255, 1, 1, 0⟩
  | .bay _, 4 => some ⟨1, 16, 1, 1, 0⟩
  | .bay _, 5 => some ⟨3, 0, 0, 0, 0⟩
  | .eng _, 2 => some ⟨1, 3, 10, 1, 1⟩
  | .eng _, 3 => some ⟨1, 16, 1, 1, 1⟩
  | .eng _, 4 => some ⟨1, 3, 10, 1, 1⟩
  | .eng _, 5 => some ⟨1, 255, 1, 1, 0⟩
  | .eng _, 6 => some ⟨2, 1, 1, 0, 1⟩
  | .lane _, 2 => some ⟨0, 255, 1, 1, 1⟩
  | .lane _, 3 => some ⟨1, 4, 10, 1, 1⟩
  | .lane _, 4 => some ⟨1, 8, 10, 1, 1⟩
  | .lane _, 5 => some ⟨1, 255, 1, 1, 0⟩
  | .lane _, 6 => some ⟨1, 1, 1, 0, 1⟩
  | .oct _, 2 => some ⟨0, 32, 1, 1, 1⟩
  | .oct _, 3 => some ⟨1, 4, 1, 1, 1⟩
  | .oct _, 4 => some ⟨1, 16, 1, 1, 1⟩
  | _, _ => none

def FAULT_STATUS (u : FUnit) : Nat := unitBase u + 0xF00
def FAULT_STATUS_VALID (u : FUnit) : Fld := ⟨FAULT_STATUS u, 0, 1⟩
def FAULT_STATUS_OVERFLOW (u : FUnit) : Fld := ⟨FAULT_STATUS u, 1, 1⟩
def FAULT_STATUS_CLASS (u : FUnit) : Fld := ⟨FAULT_STATUS u, 2, 2⟩
def FAULT_STATUS_INJ (u : FUnit) : Fld := ⟨FAULT_STATUS u, 4, 1⟩
def FAULT_STATUS_COINC (u : FUnit) : Fld := ⟨FAULT_STATUS u, 5, 1⟩
def FAULT_STATUS_KIND (u : FUnit) : Fld := ⟨FAULT_STATUS u, 6, 1⟩
def FAULT_STATUS_SEVERE_SEEN (u : FUnit) : Fld := ⟨FAULT_STATUS u, 7, 1⟩
def FAULT_CAPTURE_TYPES (u : FUnit) : Fld := ⟨unitBase u + 0xF04, 0, 16⟩
def FAULT_CAPTURE_FIRST (u : FUnit) : Fld := ⟨unitBase u + 0xF04, 16, 4⟩
def FAULT_CAPTURE_ACCESS (u : FUnit) : Fld := ⟨unitBase u + 0xF04, 20, 4⟩
def FAULT_CAPTURE_ADDR_LO (u : FUnit) : Fld := ⟨unitBase u + 0xF08, 0, 32⟩
def FAULT_CAPTURE_ADDR_HI (u : FUnit) : Fld := ⟨unitBase u + 0xF0C, 0, 32⟩
def FAULT_CAPTURE_PORT (u : FUnit) : Fld := ⟨unitBase u + 0xF10, 0, 3⟩
def FAULT_CAPTURE_PORT_VALID (u : FUnit) : Fld := ⟨unitBase u + 0xF10, 3, 1⟩
def FAULT_CAPTURE_SLICE (u : FUnit) : Fld := ⟨unitBase u + 0xF10, 4, 10⟩
def FAULT_CAPTURE_SLICE_VALID (u : FUnit) : Fld := ⟨unitBase u + 0xF10, 14, 1⟩
def FAULT_CAPTURE_REQ_ID (u : FUnit) : Fld := ⟨unitBase u + 0xF10, 16, 16⟩
def FAULT_CAPTURE_PASID (u : FUnit) : Fld := ⟨unitBase u + 0xF14, 0, 20⟩
def FAULT_CAPTURE_PASID_VALID (u : FUnit) : Fld := ⟨unitBase u + 0xF14, 20, 1⟩
def FAULT_CAPTURE_TIME_LO (u : FUnit) : Fld := ⟨unitBase u + 0xF18, 0, 32⟩
def FAULT_CAPTURE_TIME_HI (u : FUnit) : Fld := ⟨unitBase u + 0xF1C, 0, 32⟩
def FAULT_CAPTURE_DETAIL (u : FUnit) : Fld := ⟨unitBase u + 0xF20, 0, 32⟩
def FAULT_MERGE_COUNT (u : FUnit) : Fld := ⟨unitBase u + 0xF24, 0, 16⟩
def FAULT_ACTION_ACTION (u : FUnit) : Fld := ⟨unitBase u + 0xF28, 0, 3⟩
def FAULT_ACTION_DONE (u : FUnit) : Fld := ⟨unitBase u + 0xF28, 3, 1⟩
def FAULT_ACTION_NO_SPARE (u : FUnit) : Fld := ⟨unitBase u + 0xF28, 4, 1⟩
def FAULT_ACTION_SOURCE (u : FUnit) : Fld := ⟨unitBase u + 0xF28, 8, 4⟩
def FAULT_CLASS_CFG (u : FUnit) (i : Nat) : Nat := unitBase u + 0xF40 + 4 * i
def FAULT_CLASS_CFG_N (u : FUnit) (i : Nat) : Fld := ⟨FAULT_CLASS_CFG u i, 0, 8⟩
def FAULT_CLASS_CFG_W (u : FUnit) (i : Nat) : Fld := ⟨FAULT_CLASS_CFG u i, 8, 14⟩
def FAULT_CLASS_CFG_W_UNIT (u : FUnit) (i : Nat) : Fld := ⟨FAULT_CLASS_CFG u i, 22, 2⟩
def FAULT_CLASS_CFG_AUTO (u : FUnit) (i : Nat) : Fld := ⟨FAULT_CLASS_CFG u i, 24, 1⟩
def FAULT_COUNT_IN_WINDOW (u : FUnit) (i : Nat) : Fld := ⟨unitBase u + 0xF80 + 4 * i, 0, 8⟩
def FAULT_COUNT_TOTAL (u : FUnit) (i : Nat) : Fld := ⟨unitBase u + 0xF80 + 4 * i, 8, 24⟩
def FAULT_INJECT (u : FUnit) : Nat := unitBase u + 0xFC0
def FAULT_INJECT_SOURCE (u : FUnit) : Fld := ⟨FAULT_INJECT u, 0, 4⟩
def FAULT_INJECT_NO_ESCALATE (u : FUnit) : Fld := ⟨FAULT_INJECT u, 5, 1⟩

/-- The access of a counting field of FAULT_CLASS_CFG: RO for RSVD and GRAVE sources, and for SEVERE sources in N, W and
W_UNIT (R460). -/
def cfgAcc (x : Option FSrc) (auto : Bool) : Acc :=
  match x with
  | none => .ro
  | some f => if f.cls = 3 then .ro else if f.cls = 2 ∧ ¬auto then .ro else .rw

/-- The fields of the fault-block register at offset `o` of a unit's window (R460). -/
def faultFields (u : FUnit) (o : Nat) : Option (List RField) :=
  let ro := fun lo w r => (⟨lo, w, .ro, r, 0, 2 ^ w - 1⟩ : RField)
  if o = 0xF00 then
    some [⟨0, 1, .w1c, 0, 0, 1⟩, ro 1 1 0, ro 2 2 0, ro 4 1 0, ro 5 1 0, ro 6 1 (b2n (unitFull u)), ⟨7, 1, .w1c, 0, 0, 1⟩]
  else if o = 0xF04 then some [ro 0 16 0, ro 16 4 0, ro 20 4 0]
  else if o = 0xF08 ∨ o = 0xF0C ∨ o = 0xF18 ∨ o = 0xF1C ∨ o = 0xF20 then some [ro 0 32 0]
  else if o = 0xF10 then some [ro 0 3 0, ro 3 1 0, ro 4 10 0, ro 14 1 0, ro 16 16 0]
  else if o = 0xF14 then some [ro 0 20 0, ro 20 1 0]
  else if o = 0xF24 then some [ro 0 16 0]
  else if o = 0xF28 then some [ro 0 3 0, ro 3 1 0, ro 4 1 0, ro 8 4 0]
  else if 0xF40 ≤ o ∧ o < 0xF80 ∧ o % 4 = 0 then
    let x := faultSrc u ((o - 0xF40) / 4)
    let f := x.getD ⟨0, 0, 0, 0, 0⟩
    some [⟨0, 8, cfgAcc x false, f.n, 1, 255⟩, ⟨8, 14, cfgAcc x false, f.w, 1, 16383⟩,
      ⟨22, 2, cfgAcc x false, f.unit, 0, 1⟩, ⟨24, 1, cfgAcc x true, f.auto, 0, 1⟩, ro 28 2 f.cls]
  else if 0xF80 ≤ o ∧ o < 0xFC0 ∧ o % 4 = 0 then some [ro 0 8 0, ro 8 24 0]
  else if o = 0xFC0 then some [⟨0, 4, .rw, 0, 0, 15⟩, ⟨4, 1, .wo, 0, 0, 1⟩, ⟨5, 1, .rw, 0, 0, 1⟩]
  else none

/-- R99: the permission bitmap word `w` of slice `s`. -/
def SLC_PERM (s w : Nat) : Nat := 0x300000 + 0x400 * s + 4 * w
/-- One permission bit: READ is bit 2j, WRITE bit 2j + 1 (R99). -/
def SLC_PERM_READ (s p : Nat) : Fld := ⟨SLC_PERM s (p / 16), 2 * (p % 16), 1⟩
def SLC_PERM_WRITE (s p : Nat) : Fld := ⟨SLC_PERM s (p / 16), 2 * (p % 16) + 1, 1⟩
/-- The permission word's fields: 16 pairs, all ones for slice 0 (R70, R99). -/
def permFields (s : Nat) : List RField :=
  (List.range 32).map (fun i => ⟨i, 1, .rw, b2n (s == 0), 0, 1⟩)
/-- The permission rows (R99). -/
def rowsPERM : List Row := [⟨0x300000, 0x400, 1024, 0x4, 256, fun s _ => permFields s⟩]

/-- R21. -/
def GLB_PROFILE : Nat := 0x100
def GLB_PROFILE_RATE : Fld := ⟨GLB_PROFILE, 0, 2⟩
def GLB_PROFILE_CHECK : Fld := ⟨GLB_PROFILE, 4, 1⟩
def GLB_PROFILE_REACH : Fld := ⟨GLB_PROFILE, 8, 1⟩
def GLB_PROFILE_SLOT : Fld := ⟨GLB_PROFILE, 16, 1⟩
/-- R22. -/
def GLB_PROFILE_STATUS : Nat := 0x104
def GLB_PROFILE_STATUS_CUR_RATE : Fld := ⟨GLB_PROFILE_STATUS, 0, 2⟩
def GLB_PROFILE_STATUS_CUR_CHECK : Fld := ⟨GLB_PROFILE_STATUS, 4, 1⟩
def GLB_PROFILE_STATUS_CUR_REACH : Fld := ⟨GLB_PROFILE_STATUS, 8, 1⟩
def GLB_PROFILE_STATUS_PENDING : Fld := ⟨GLB_PROFILE_STATUS, 16, 1⟩
def GLB_PROFILE_STATUS_COLLIDE : Fld := ⟨GLB_PROFILE_STATUS, 17, 1⟩
def GLB_PROFILE_STATUS_RESULT : Fld := ⟨GLB_PROFILE_STATUS, 20, 4⟩
/-- R22. -/
def GLB_PROFILE_EPOCH_LO : Nat := 0x108
def GLB_PROFILE_EPOCH_LO_EPOCH : Fld := ⟨GLB_PROFILE_EPOCH_LO, 0, 32⟩
/-- R22. -/
def GLB_PROFILE_EPOCH_HI : Nat := 0x10C
def GLB_PROFILE_EPOCH_HI_EPOCH : Fld := ⟨GLB_PROFILE_EPOCH_HI, 0, 32⟩
/-- R47. -/
def GLB_SETUP_LOCK : Nat := 0x40
def GLB_SETUP_LOCK_LOCKED : Fld := ⟨GLB_SETUP_LOCK, 0, 1⟩
def GLB_SETUP_LOCK_LOCKED_WRITE : Fld := ⟨GLB_SETUP_LOCK, 1, 1⟩
/-- R47. -/
def GLB_SETUP_KEY : Nat := 0x44
def GLB_SETUP_KEY_KEY : Fld := ⟨GLB_SETUP_KEY, 0, 32⟩
/-- R52. -/
def HP_STATUS (n : Nat) : Nat := 0x100000 + 0x10000 * n
def HP_STATUS_PORT (n : Nat) : Fld := ⟨HP_STATUS n, 0, 3⟩
def HP_STATUS_MGR (n : Nat) : Fld := ⟨HP_STATUS n, 3, 1⟩
def HP_STATUS_SPEED (n : Nat) : Fld := ⟨HP_STATUS n, 4, 4⟩
def HP_STATUS_WIDTH (n : Nat) : Fld := ⟨HP_STATUS n, 8, 5⟩
def HP_STATUS_FLIT (n : Nat) : Fld := ⟨HP_STATUS n, 13, 1⟩
def HP_STATUS_DSTATE (n : Nat) : Fld := ⟨HP_STATUS n, 14, 2⟩
def HP_STATUS_EGRESS_HOLD (n : Nat) : Fld := ⟨HP_STATUS n, 16, 1⟩
def HP_STATUS_PASID_EN (n : Nat) : Fld := ⟨HP_STATUS n, 17, 1⟩
/-- R52. -/
def HP_OFF_ACCESS (n : Nat) : Nat := 0x100010 + 0x10000 * n
def HP_OFF_ACCESS_VALID (n : Nat) : Fld := ⟨HP_OFF_ACCESS n, 0, 1⟩
def HP_OFF_ACCESS_OVERFLOW (n : Nat) : Fld := ⟨HP_OFF_ACCESS n, 1, 1⟩
def HP_OFF_ACCESS_WRITE (n : Nat) : Fld := ⟨HP_OFF_ACCESS n, 2, 1⟩
/-- R52. -/
def HP_OFF_ADDR (n : Nat) : Nat := 0x100014 + 0x10000 * n
def HP_OFF_ADDR_OFFSET (n : Nat) : Fld := ⟨HP_OFF_ADDR n, 0, 26⟩
/-- R52. -/
def HP_FLR (n : Nat) : Nat := 0x100020 + 0x10000 * n
def HP_FLR_COUNT (n : Nat) : Fld := ⟨HP_FLR n, 0, 16⟩
def HP_FLR_MOULT_DEFERRED (n : Nat) : Fld := ⟨HP_FLR n, 16, 1⟩
/-- R52. -/
def HP_LTR_CFG (n : Nat) : Nat := 0x100030 + 0x10000 * n
def HP_LTR_CFG_BUSY_US (n : Nat) : Fld := ⟨HP_LTR_CFG n, 0, 10⟩
def HP_LTR_CFG_IDLE_US (n : Nat) : Fld := ⟨HP_LTR_CFG n, 16, 10⟩
/-- R99. -/
def SLC_GLOBAL : Nat := 0x200000
def SLC_GLOBAL_FREE_SLICES : Fld := ⟨SLC_GLOBAL, 0, 11⟩
def SLC_GLOBAL_INSTAR_BUSY : Fld := ⟨SLC_GLOBAL, 16, 1⟩
def SLC_GLOBAL_REASON : Fld := ⟨SLC_GLOBAL, 17, 2⟩
/-- R99. -/
def SLC_POOL_RUNS (n : Nat) : Nat := 0x200010 + 0x4 * n
def SLC_POOL_RUNS_POOL (n : Nat) : Fld := ⟨SLC_POOL_RUNS n, 0, 13⟩
def SLC_POOL_RUNS_ASSIGNED (n : Nat) : Fld := ⟨SLC_POOL_RUNS n, 16, 13⟩
/-- R99. -/
def SLC_MEM_POOL : Nat := 0x200030
def SLC_MEM_POOL_STAGE_FREE_MIB : Fld := ⟨SLC_MEM_POOL, 0, 16⟩
def SLC_MEM_POOL_JNL_FREE_UNITS : Fld := ⟨SLC_MEM_POOL, 16, 15⟩
/-- R99. -/
def SLC_STATE (s : Nat) : Nat := 0x210000 + 0x100 * s
def SLC_STATE_STATE (s : Nat) : Fld := ⟨SLC_STATE s, 0, 3⟩
def SLC_STATE_DRAINING (s : Nat) : Fld := ⟨SLC_STATE s, 3, 1⟩
def SLC_STATE_SHRINK_PENDING (s : Nat) : Fld := ⟨SLC_STATE s, 4, 1⟩
def SLC_STATE_MOULT_DEFERRED (s : Nat) : Fld := ⟨SLC_STATE s, 5, 1⟩
def SLC_STATE_EXPORTED (s : Nat) : Fld := ⟨SLC_STATE s, 6, 1⟩
def SLC_STATE_ID_MISMATCH (s : Nat) : Fld := ⟨SLC_STATE s, 7, 1⟩
def SLC_STATE_RESTORE_TARGET (s : Nat) : Fld := ⟨SLC_STATE s, 8, 1⟩
def SLC_STATE_NUDGE_HELD (s : Nat) : Fld := ⟨SLC_STATE s, 9, 1⟩
def SLC_STATE_TEST_BUSY (s : Nat) : Fld := ⟨SLC_STATE s, 10, 1⟩
def SLC_STATE_INSTAR (s : Nat) : Fld := ⟨SLC_STATE s, 16, 8⟩
/-- R99. -/
def SLC_BIND (s : Nat) : Nat := 0x210004 + 0x100 * s
def SLC_BIND_REQ_ID (s : Nat) : Fld := ⟨SLC_BIND s, 0, 16⟩
def SLC_BIND_PORT (s : Nat) : Fld := ⟨SLC_BIND s, 16, 3⟩
/-- R99. -/
def SLC_PASID (s : Nat) : Nat := 0x210008 + 0x100 * s
def SLC_PASID_PASID (s : Nat) : Fld := ⟨SLC_PASID s, 0, 20⟩
/-- R99. -/
def SLC_QUEUES (s : Nat) : Nat := 0x21000C + 0x100 * s
def SLC_QUEUES_BASE (s : Nat) : Fld := ⟨SLC_QUEUES s, 0, 16⟩
def SLC_QUEUES_LAST (s : Nat) : Fld := ⟨SLC_QUEUES s, 16, 16⟩
/-- R99. -/
def SLC_QUEUES_NEXT (s : Nat) : Nat := 0x210010 + 0x100 * s
def SLC_QUEUES_NEXT_BASE (s : Nat) : Fld := ⟨SLC_QUEUES_NEXT s, 0, 16⟩
def SLC_QUEUES_NEXT_LAST (s : Nat) : Fld := ⟨SLC_QUEUES_NEXT s, 16, 16⟩
/-- R99. -/
def SLC_VECTORS (s : Nat) : Nat := 0x210014 + 0x100 * s
def SLC_VECTORS_BASE (s : Nat) : Fld := ⟨SLC_VECTORS s, 0, 16⟩
def SLC_VECTORS_LAST (s : Nat) : Fld := ⟨SLC_VECTORS s, 16, 16⟩
/-- R99. -/
def SLC_SHARE (s : Nat) : Nat := 0x210018 + 0x100 * s
def SLC_SHARE_RUNS (s : Nat) : Fld := ⟨SLC_SHARE s, 0, 13⟩
def SLC_SHARE_RPOLL (s : Nat) : Fld := ⟨SLC_SHARE s, 16, 16⟩
/-- R99. -/
def SLC_QUOTA (s : Nat) : Nat := 0x21001C + 0x100 * s
def SLC_QUOTA_STAGE_MIB (s : Nat) : Fld := ⟨SLC_QUOTA s, 0, 16⟩
def SLC_QUOTA_JNL_UNITS (s : Nat) : Fld := ⟨SLC_QUOTA s, 16, 15⟩
/-- R99. -/
def SLC_USAGE (s : Nat) : Nat := 0x210020 + 0x100 * s
def SLC_USAGE_STAGE_MIB (s : Nat) : Fld := ⟨SLC_USAGE s, 0, 16⟩
def SLC_USAGE_JNL_UNITS (s : Nat) : Fld := ⟨SLC_USAGE s, 16, 15⟩
/-- R99. -/
def SLC_STALE (s : Nat) : Nat := 0x210024 + 0x100 * s
def SLC_STALE_DISCARDED (s : Nat) : Fld := ⟨SLC_STALE s, 0, 16⟩
def SLC_STALE_INDETERMINATE (s : Nat) : Fld := ⟨SLC_STALE s, 16, 16⟩
/-- R99. -/
def SLC_ENERGY_LO (s : Nat) : Nat := 0x210028 + 0x100 * s
def SLC_ENERGY_LO_MJ (s : Nat) : Fld := ⟨SLC_ENERGY_LO s, 0, 32⟩
/-- R99. -/
def SLC_ENERGY_HI (s : Nat) : Nat := 0x21002C + 0x100 * s
def SLC_ENERGY_HI_MJ (s : Nat) : Fld := ⟨SLC_ENERGY_HI s, 0, 16⟩
/-- R99. -/
def SLC_CELLS_LO (s : Nat) : Nat := 0x210030 + 0x100 * s
def SLC_CELLS_LO_CELLS (s : Nat) : Fld := ⟨SLC_CELLS_LO s, 0, 32⟩
/-- R99. -/
def SLC_CELLS_HI (s : Nat) : Nat := 0x210034 + 0x100 * s
def SLC_CELLS_HI_CELLS (s : Nat) : Fld := ⟨SLC_CELLS_HI s, 0, 32⟩
/-- R166. -/
def ENG_MAP (L : Nat) : Nat := 0x548000 + 0x4 * L
def ENG_MAP_PHYS (L : Nat) : Fld := ⟨ENG_MAP L, 0, 7⟩
def ENG_MAP_BOUND (L : Nat) : Fld := ⟨ENG_MAP L, 7, 1⟩
def ENG_MAP_POWERED (L : Nat) : Fld := ⟨ENG_MAP L, 8, 1⟩
def ENG_MAP_NEXT_PHYS (L : Nat) : Fld := ⟨ENG_MAP L, 16, 7⟩
def ENG_MAP_SWAP_PENDING (L : Nat) : Fld := ⟨ENG_MAP L, 23, 1⟩
/-- R166. -/
def ENG_GLOBAL : Nat := 0x548100
def ENG_GLOBAL_IN_SERVICE : Fld := ⟨ENG_GLOBAL, 0, 7⟩
def ENG_GLOBAL_SPARES : Fld := ⟨ENG_GLOBAL, 8, 4⟩
def ENG_GLOBAL_SWAP_PENDING : Fld := ⟨ENG_GLOBAL, 16, 1⟩
/-- R166. -/
def ENG_DCACHE : Nat := 0x548110
def ENG_DCACHE_VALID : Fld := ⟨ENG_DCACHE, 0, 11⟩
def ENG_DCACHE_COMPUTING : Fld := ⟨ENG_DCACHE, 16, 8⟩
/-- R166. -/
def ENG_DCACHE_HITS : Nat := 0x548114
def ENG_DCACHE_HITS_COUNT : Fld := ⟨ENG_DCACHE_HITS, 0, 32⟩
/-- R166. -/
def ENG_DCACHE_MISSES : Nat := 0x548118
def ENG_DCACHE_MISSES_COUNT : Fld := ⟨ENG_DCACHE_MISSES, 0, 32⟩
/-- R166. -/
def ENG_STAGE : Nat := 0x548120
def ENG_STAGE_CELLS_LAST : Fld := ⟨ENG_STAGE, 0, 11⟩
def ENG_STAGE_WAITING : Fld := ⟨ENG_STAGE, 16, 16⟩
/-- R166. -/
def ENG_RESERVE : Nat := 0x548124
def ENG_RESERVE_FREE_MIB : Fld := ⟨ENG_RESERVE, 0, 9⟩
/-- R167. -/
def ENG_STATUS (p : Nat) : Nat := 0x500000 + 0x1000 * p
def ENG_STATUS_STATE (p : Nat) : Fld := ⟨ENG_STATUS p, 0, 3⟩
def ENG_STATUS_LOGICAL (p : Nat) : Fld := ⟨ENG_STATUS p, 8, 6⟩
def ENG_STATUS_OCTANT (p : Nat) : Fld := ⟨ENG_STATUS p, 16, 3⟩
def ENG_STATUS_INDEX (p : Nat) : Fld := ⟨ENG_STATUS p, 20, 4⟩
/-- R167. -/
def ENG_CLOCK (p : Nat) : Nat := 0x500004 + 0x1000 * p
def ENG_CLOCK_FREQ (p : Nat) : Fld := ⟨ENG_CLOCK p, 0, 16⟩
/-- R167. -/
def ENG_CELLS_LO (p : Nat) : Nat := 0x500010 + 0x1000 * p
def ENG_CELLS_LO_CELLS (p : Nat) : Fld := ⟨ENG_CELLS_LO p, 0, 32⟩
/-- R167. -/
def ENG_CELLS_HI (p : Nat) : Nat := 0x500014 + 0x1000 * p
def ENG_CELLS_HI_CELLS (p : Nat) : Fld := ⟨ENG_CELLS_HI p, 0, 32⟩
/-- R167. -/
def ENG_CHECK (p : Nat) : Nat := 0x500018 + 0x1000 * p
def ENG_CHECK_MISMATCH (p : Nat) : Fld := ⟨ENG_CHECK p, 0, 16⟩
def ENG_CHECK_COLUMNS (p : Nat) : Fld := ⟨ENG_CHECK p, 16, 16⟩
/-- R210. -/
def SCH_EPOCH_LO : Nat := 0x400000
def SCH_EPOCH_LO_EPOCH : Fld := ⟨SCH_EPOCH_LO, 0, 32⟩
/-- R210. -/
def SCH_EPOCH_HI : Nat := 0x400004
def SCH_EPOCH_HI_EPOCH : Fld := ⟨SCH_EPOCH_HI, 0, 32⟩
/-- R210. -/
def SCH_SLOT_STATUS (t : Nat) : Nat := 0x400010 + 0x10 * t
def SCH_SLOT_STATUS_STATE (t : Nat) : Fld := ⟨SCH_SLOT_STATUS t, 0, 3⟩
def SCH_SLOT_STATUS_SIGNED (t : Nat) : Fld := ⟨SCH_SLOT_STATUS t, 3, 1⟩
def SCH_SLOT_STATUS_FAIL_SECTION (t : Nat) : Fld := ⟨SCH_SLOT_STATUS t, 4, 4⟩
def SCH_SLOT_STATUS_RATE (t : Nat) : Fld := ⟨SCH_SLOT_STATUS t, 8, 2⟩
def SCH_SLOT_STATUS_CHECK (t : Nat) : Fld := ⟨SCH_SLOT_STATUS t, 10, 1⟩
/-- R210. -/
def SCH_SLOT_SIG_LO (t : Nat) : Nat := 0x400014 + 0x10 * t
def SCH_SLOT_SIG_LO_VALUE (t : Nat) : Fld := ⟨SCH_SLOT_SIG_LO t, 0, 32⟩
/-- R210. -/
def SCH_SLOT_SIG_HI (t : Nat) : Nat := 0x400018 + 0x10 * t
def SCH_SLOT_SIG_HI_VALUE (t : Nat) : Fld := ⟨SCH_SLOT_SIG_HI t, 0, 32⟩
/-- R210. -/
def SCH_SLOT_LEN (t : Nat) : Nat := 0x40001C + 0x10 * t
def SCH_SLOT_LEN_VALUE (t : Nat) : Fld := ⟨SCH_SLOT_LEN t, 0, 32⟩
/-- R210. -/
def SCH_SWITCH : Nat := 0x400030
def SCH_SWITCH_ACTIVE_SLOT : Fld := ⟨SCH_SWITCH, 0, 1⟩
def SCH_SWITCH_PENDING : Fld := ⟨SCH_SWITCH, 1, 1⟩
def SCH_SWITCH_PENDING_SLOT : Fld := ⟨SCH_SWITCH, 2, 1⟩
def SCH_SWITCH_DRAIN_WAIT : Fld := ⟨SCH_SWITCH, 3, 1⟩
/-- R210. -/
def SCH_SWITCH_EPOCH_LO : Nat := 0x400034
def SCH_SWITCH_EPOCH_LO_EPOCH : Fld := ⟨SCH_SWITCH_EPOCH_LO, 0, 32⟩
/-- R210. -/
def SCH_SWITCH_EPOCH_HI : Nat := 0x400038
def SCH_SWITCH_EPOCH_HI_EPOCH : Fld := ⟨SCH_SWITCH_EPOCH_HI, 0, 32⟩
/-- R210. -/
def SCH_SIGN : Nat := 0x400040
def SCH_SIGN_ENFORCE : Fld := ⟨SCH_SIGN, 0, 1⟩
def SCH_SIGN_KEY_PRESENT : Fld := ⟨SCH_SIGN, 1, 1⟩
def SCH_SIGN_KEY_REJECTED : Fld := ⟨SCH_SIGN, 2, 1⟩
/-- R210. -/
def SCH_SIGN_KEY (w : Nat) : Nat := 0x400080 + 0x4 * w
def SCH_SIGN_KEY_KEY (w : Nat) : Fld := ⟨SCH_SIGN_KEY w, 0, 32⟩
/-- R210. -/
def SCH_VARIANT (o : Nat) : Nat := 0x400100 + 0x4 * o
def SCH_VARIANT_BAY (o : Nat) : Fld := ⟨SCH_VARIANT o, 0, 16⟩
def SCH_VARIANT_CHANGES (o : Nat) : Fld := ⟨SCH_VARIANT o, 16, 16⟩
/-- R210. -/
def SCH_VOID (i : Nat) : Nat := 0x400140 + 0x4 * i
def SCH_VOID_RUNS (i : Nat) : Fld := ⟨SCH_VOID i, 0, 32⟩
/-- R210. -/
def SCH_HOST_SHORT : Nat := 0x400180
def SCH_HOST_SHORT_SHORT : Fld := ⟨SCH_HOST_SHORT, 0, 8⟩
/-- R248. -/
def JNL_DEBT : Nat := 0x600800
def JNL_DEBT_ENTRIES : Fld := ⟨JNL_DEBT, 0, 17⟩
def JNL_DEBT_FULL : Fld := ⟨JNL_DEBT, 17, 1⟩
def JNL_DEBT_LOST : Fld := ⟨JNL_DEBT, 18, 1⟩
/-- R248. -/
def JNL_DEBT_REFUSED : Nat := 0x600804
def JNL_DEBT_REFUSED_COUNT : Fld := ⟨JNL_DEBT_REFUSED, 0, 32⟩
/-- R248. -/
def JNL_DEBT_DROPPED : Nat := 0x600808
def JNL_DEBT_DROPPED_COUNT : Fld := ⟨JNL_DEBT_DROPPED, 0, 32⟩
/-- R248. -/
def JNL_SCRUB : Nat := 0x600810
def JNL_SCRUB_HELD : Fld := ⟨JNL_SCRUB, 0, 17⟩
/-- R248. -/
def JNL_SCRUB_SEQ : Nat := 0x600814
def JNL_SCRUB_SEQ_SEQ : Fld := ⟨JNL_SCRUB_SEQ, 0, 32⟩
/-- R248. -/
def JNL_INTERLOCK : Nat := 0x600820
def JNL_INTERLOCK_WAITING : Fld := ⟨JNL_INTERLOCK, 0, 16⟩
/-- R273. -/
def JNL_REGION_LO : Nat := 0x600000
def JNL_REGION_LO_BASE : Fld := ⟨JNL_REGION_LO, 20, 12⟩
/-- R273. -/
def JNL_REGION_HI : Nat := 0x600004
def JNL_REGION_HI_BASE : Fld := ⟨JNL_REGION_HI, 0, 2⟩
/-- R273. -/
def JNL_REGION_SIZE : Nat := 0x600008
def JNL_REGION_SIZE_SIZE : Fld := ⟨JNL_REGION_SIZE, 0, 4⟩
/-- R273. -/
def JNL_CFG : Nat := 0x600010
def JNL_CFG_LINK_HOLD_MS : Fld := ⟨JNL_CFG, 0, 11⟩
def JNL_CFG_REPLAY_MAX : Fld := ⟨JNL_CFG, 16, 8⟩
/-- R273. -/
def JNL_STATUS : Nat := 0x600020
def JNL_STATUS_LIVE : Fld := ⟨JNL_STATUS, 0, 19⟩
def JNL_STATUS_CFG_REFUSED : Fld := ⟨JNL_STATUS, 19, 1⟩
/-- R273. -/
def JNL_CAPACITY : Nat := 0x600024
def JNL_CAPACITY_SLOTS : Fld := ⟨JNL_CAPACITY, 0, 19⟩
/-- R273. -/
def JNL_PARKED : Nat := 0x600028
def JNL_PARKED_PARKED : Fld := ⟨JNL_PARKED, 0, 19⟩
/-- R273. -/
def JNL_REPLAY (t : Nat) : Nat := 0x600030 + 0x4 * t
def JNL_REPLAY_COUNT (t : Nat) : Fld := ⟨JNL_REPLAY t, 0, 32⟩
/-- R273. -/
def JNL_LOST : Nat := 0x600050
def JNL_LOST_COUNT : Fld := ⟨JNL_LOST, 0, 32⟩
/-- R273. -/
def JNL_REPLAY_LIMIT : Nat := 0x600054
def JNL_REPLAY_LIMIT_COUNT : Fld := ⟨JNL_REPLAY_LIMIT, 0, 32⟩
/-- R273. -/
def JNL_LINK_HELD : Nat := 0x600060
def JNL_LINK_HELD_LINKS : Fld := ⟨JNL_LINK_HELD, 0, 10⟩
def JNL_LINK_HELD_EXPIRED : Fld := ⟨JNL_LINK_HELD, 16, 16⟩
/-- R296. -/
def LNK_CTRL (l : Nat) : Nat := 0x800000 + 0x1000 * l
def LNK_CTRL_ENABLE (l : Nat) : Fld := ⟨LNK_CTRL l, 0, 1⟩
def LNK_CTRL_RETRAIN (l : Nat) : Fld := ⟨LNK_CTRL l, 1, 1⟩
def LNK_CTRL_MAX_RATE (l : Nat) : Fld := ⟨LNK_CTRL l, 2, 2⟩
/-- R296. -/
def LNK_STATE (l : Nat) : Nat := 0x800004 + 0x1000 * l
def LNK_STATE_STATE (l : Nat) : Fld := ⟨LNK_STATE l, 0, 3⟩
def LNK_STATE_FIRST (l : Nat) : Fld := ⟨LNK_STATE l, 3, 1⟩
def LNK_STATE_ADMITTED (l : Nat) : Fld := ⟨LNK_STATE l, 4, 1⟩
def LNK_STATE_AWAIT_ADMIT (l : Nat) : Fld := ⟨LNK_STATE l, 5, 1⟩
def LNK_STATE_TOPO_MISMATCH (l : Nat) : Fld := ⟨LNK_STATE l, 6, 1⟩
def LNK_STATE_NO_PARTNER (l : Nat) : Fld := ⟨LNK_STATE l, 7, 1⟩
def LNK_STATE_ADM_WIDTH (l : Nat) : Fld := ⟨LNK_STATE l, 8, 2⟩
def LNK_STATE_TR_WIDTH (l : Nat) : Fld := ⟨LNK_STATE l, 10, 2⟩
def LNK_STATE_TR_FIRST (l : Nat) : Fld := ⟨LNK_STATE l, 12, 3⟩
def LNK_STATE_TR_RATE (l : Nat) : Fld := ⟨LNK_STATE l, 16, 2⟩
/-- R296. -/
def LNK_TRAIN (l : Nat) : Nat := 0x800008 + 0x1000 * l
def LNK_TRAIN_REASON (l : Nat) : Fld := ⟨LNK_TRAIN l, 0, 4⟩
def LNK_TRAIN_ATTEMPTS (l : Nat) : Fld := ⟨LNK_TRAIN l, 4, 5⟩
def LNK_TRAIN_TRAININGS (l : Nat) : Fld := ⟨LNK_TRAIN l, 16, 16⟩
/-- R296. -/
def LNK_LANE (l : Nat) : Nat := 0x800010 + 0x1000 * l
def LNK_LANE_FAULTY (l : Nat) : Fld := ⟨LNK_LANE l, 0, 1⟩
def LNK_LANE_IN_LINK (l : Nat) : Fld := ⟨LNK_LANE l, 1, 1⟩
def LNK_LANE_POL_INV (l : Nat) : Fld := ⟨LNK_LANE l, 2, 1⟩
def LNK_LANE_TESTING (l : Nat) : Fld := ⟨LNK_LANE l, 3, 1⟩
def LNK_LANE_PRESET (l : Nat) : Fld := ⟨LNK_LANE l, 4, 3⟩
/-- R296. -/
def LNK_FEC_CORR (l : Nat) : Nat := 0x800020 + 0x1000 * l
def LNK_FEC_CORR_COUNT (l : Nat) : Fld := ⟨LNK_FEC_CORR l, 0, 32⟩
/-- R296. -/
def LNK_FEC_UNCORR (l : Nat) : Nat := 0x800024 + 0x1000 * l
def LNK_FEC_UNCORR_COUNT (l : Nat) : Fld := ⟨LNK_FEC_UNCORR l, 0, 32⟩
/-- R296. -/
def LNK_PRBS_STATUS (l : Nat) : Nat := 0x800030 + 0x1000 * l
def LNK_PRBS_STATUS_RESULT (l : Nat) : Fld := ⟨LNK_PRBS_STATUS l, 0, 2⟩
/-- R296. -/
def LNK_PRBS_NEAR (l : Nat) : Nat := 0x800034 + 0x1000 * l
def LNK_PRBS_NEAR_ERRORS (l : Nat) : Fld := ⟨LNK_PRBS_NEAR l, 0, 32⟩
/-- R296. -/
def LNK_PRBS_FAR (l : Nat) : Nat := 0x800038 + 0x1000 * l
def LNK_PRBS_FAR_ERRORS (l : Nat) : Fld := ⟨LNK_PRBS_FAR l, 0, 32⟩
/-- R332. -/
def LNK_FLIT_STATUS (l : Nat) : Nat := 0x800040 + 0x1000 * l
def LNK_FLIT_STATUS_TX_UNACKED (l : Nat) : Fld := ⟨LNK_FLIT_STATUS l, 0, 11⟩
def LNK_FLIT_STATUS_RX_HELD (l : Nat) : Fld := ⟨LNK_FLIT_STATUS l, 16, 11⟩
/-- R332. -/
def LNK_CRC_ERR (l : Nat) : Nat := 0x800044 + 0x1000 * l
def LNK_CRC_ERR_COUNT (l : Nat) : Fld := ⟨LNK_CRC_ERR l, 0, 32⟩
/-- R332. -/
def LNK_REXMIT (l : Nat) : Nat := 0x800048 + 0x1000 * l
def LNK_REXMIT_COUNT (l : Nat) : Fld := ⟨LNK_REXMIT l, 0, 32⟩
/-- R332. -/
def LNK_WINDOW (l : Nat) : Nat := 0x80004C + 0x1000 * l
def LNK_WINDOW_CRC_IN_WINDOW (l : Nat) : Fld := ⟨LNK_WINDOW l, 0, 12⟩
def LNK_WINDOW_MAX_REXMIT (l : Nat) : Fld := ⟨LNK_WINDOW l, 16, 4⟩
/-- R332. -/
def LNK_DOWN (l : Nat) : Nat := 0x800050 + 0x1000 * l
def LNK_DOWN_REASON (l : Nat) : Fld := ⟨LNK_DOWN l, 0, 4⟩
def LNK_DOWN_COUNT (l : Nat) : Fld := ⟨LNK_DOWN l, 16, 16⟩
/-- R332. -/
def LNK_CREDIT (l : Nat) : Nat := 0x800054 + 0x1000 * l
def LNK_CREDIT_VC0 (l : Nat) : Fld := ⟨LNK_CREDIT l, 0, 11⟩
def LNK_CREDIT_VC1 (l : Nat) : Fld := ⟨LNK_CREDIT l, 16, 8⟩
def LNK_CREDIT_VC2 (l : Nat) : Fld := ⟨LNK_CREDIT l, 24, 8⟩
/-- R332. -/
def LNK_STREAMS (l : Nat) : Nat := 0x800058 + 0x1000 * l
def LNK_STREAMS_OPEN (l : Nat) : Fld := ⟨LNK_STREAMS l, 0, 11⟩
/-- R332. -/
def LNK_STREAM_ERR (l : Nat) : Nat := 0x80005C + 0x1000 * l
def LNK_STREAM_ERR_ACK_TIMEOUTS (l : Nat) : Fld := ⟨LNK_STREAM_ERR l, 0, 16⟩
def LNK_STREAM_ERR_READ_TIMEOUTS (l : Nat) : Fld := ⟨LNK_STREAM_ERR l, 16, 16⟩
/-- R296. -/
def LNK_IDENT (l w : Nat) : Nat := 0x800100 + 0x1000 * l + 0x4 * w
def LNK_IDENT_DATA (l w : Nat) : Fld := ⟨LNK_IDENT l w, 0, 32⟩
/-- R297. -/
def LNK_TIMERS : Nat := 0xA00000
def LNK_TIMERS_SYNC_TO : Fld := ⟨LNK_TIMERS, 0, 8⟩
def LNK_TIMERS_EQ_TO : Fld := ⟨LNK_TIMERS, 8, 8⟩
def LNK_TIMERS_NEG_TO : Fld := ⟨LNK_TIMERS, 16, 8⟩
def LNK_TIMERS_IDENT_TO : Fld := ⟨LNK_TIMERS, 24, 8⟩
/-- R297. -/
def LNK_TIMERS2 : Nat := 0xA00004
def LNK_TIMERS2_DETECT_REPORT : Fld := ⟨LNK_TIMERS2, 0, 10⟩
def LNK_TIMERS2_TRAIN_RETRY : Fld := ⟨LNK_TIMERS2, 10, 4⟩
/-- R297. -/
def LNK_PRBS_CFG : Nat := 0xA00008
def LNK_PRBS_CFG_DURATION_MS : Fld := ⟨LNK_PRBS_CFG, 0, 14⟩
/-- R297. -/
def LNK_DISCOVERED_LO : Nat := 0xA00010
def LNK_DISCOVERED_LO_BAY : Fld := ⟨LNK_DISCOVERED_LO, 0, 32⟩
/-- R297. -/
def LNK_DISCOVERED_HI : Nat := 0xA00014
def LNK_DISCOVERED_HI_BAY : Fld := ⟨LNK_DISCOVERED_HI, 0, 32⟩
/-- R297. -/
def LNK_ADMITTED_LO : Nat := 0xA00018
def LNK_ADMITTED_LO_BAY : Fld := ⟨LNK_ADMITTED_LO, 0, 32⟩
/-- R297. -/
def LNK_ADMITTED_HI : Nat := 0xA0001C
def LNK_ADMITTED_HI_BAY : Fld := ⟨LNK_ADMITTED_HI, 0, 32⟩
/-- R333. -/
def LNK_FLIT_CFG : Nat := 0xA00020
def LNK_FLIT_CFG_CRC_THRESH : Fld := ⟨LNK_FLIT_CFG, 0, 12⟩
def LNK_FLIT_CFG_ACK_TIME : Fld := ⟨LNK_FLIT_CFG, 16, 8⟩
def LNK_FLIT_CFG_REXMIT_HOLD : Fld := ⟨LNK_FLIT_CFG, 24, 8⟩
/-- R333. -/
def LNK_FLIT_CFG2 : Nat := 0xA00024
def LNK_FLIT_CFG2_REPLAY_TO : Fld := ⟨LNK_FLIT_CFG2, 0, 8⟩
def LNK_FLIT_CFG2_DEAD_TIME : Fld := ⟨LNK_FLIT_CFG2, 16, 14⟩
/-- R333. -/
def LNK_STREAM_CFG : Nat := 0xA00028
def LNK_STREAM_CFG_WRITE_ACK_TO : Fld := ⟨LNK_STREAM_CFG, 0, 10⟩
def LNK_STREAM_CFG_READ_DATA_TO : Fld := ⟨LNK_STREAM_CFG, 16, 10⟩
/-- R364. -/
def BRG_READ_LIMIT : Nat := 0x1000000
def BRG_READ_LIMIT_LIMIT : Fld := ⟨BRG_READ_LIMIT, 0, 10⟩
/-- R364. -/
def BRG_TIMERS : Nat := 0x1000004
def BRG_TIMERS_DISCARD : Fld := ⟨BRG_TIMERS, 0, 16⟩
def BRG_TIMERS_POLL_PERIOD : Fld := ⟨BRG_TIMERS, 16, 10⟩
/-- R364. -/
def BRG_WSTATUS : Nat := 0x1000008
def BRG_WSTATUS_WSTATUS_TO : Fld := ⟨BRG_WSTATUS, 0, 10⟩
/-- R364. -/
def BRG_ROUTE_DEFAULT_LO : Nat := 0x1000010
def BRG_ROUTE_DEFAULT_LO_ACTION : Fld := ⟨BRG_ROUTE_DEFAULT_LO, 0, 2⟩
def BRG_ROUTE_DEFAULT_LO_PORT : Fld := ⟨BRG_ROUTE_DEFAULT_LO, 24, 3⟩
def BRG_ROUTE_DEFAULT_LO_VECTOR : Fld := ⟨BRG_ROUTE_DEFAULT_LO, 28, 4⟩
/-- R364. -/
def BRG_ROUTE_DEFAULT_HI : Nat := 0x1000014
def BRG_ROUTE_DEFAULT_HI_VECTOR : Fld := ⟨BRG_ROUTE_DEFAULT_HI, 0, 7⟩
def BRG_ROUTE_DEFAULT_HI_SLICE : Fld := ⟨BRG_ROUTE_DEFAULT_HI, 8, 10⟩
/-- R364. -/
def BRG_ROUTE_MISDIRECT : Nat := 0x1000020
def BRG_ROUTE_MISDIRECT_COUNT : Fld := ⟨BRG_ROUTE_MISDIRECT, 0, 32⟩
/-- R364. -/
def BRG_ROUTE_DROPPED : Nat := 0x1000024
def BRG_ROUTE_DROPPED_COUNT : Fld := ⟨BRG_ROUTE_DROPPED, 0, 32⟩
/-- R364. -/
def BRG_EVQ : Nat := 0x1000040
def BRG_EVQ_LINK : Fld := ⟨BRG_EVQ, 0, 9⟩
def BRG_EVQ_EVENT : Fld := ⟨BRG_EVQ, 16, 8⟩
def BRG_EVQ_OVERFLOW : Fld := ⟨BRG_EVQ, 30, 1⟩
def BRG_EVQ_VALID : Fld := ⟨BRG_EVQ, 31, 1⟩
/-- R364. -/
def BRG_BAY_LED (b : Nat) : Nat := 0x1000100 + 0x4 * b
def BRG_BAY_LED_FAULT (b : Nat) : Fld := ⟨BRG_BAY_LED b, 0, 2⟩
def BRG_BAY_LED_POWER (b : Nat) : Fld := ⟨BRG_BAY_LED b, 2, 2⟩
def BRG_BAY_LED_BTN (b : Nat) : Fld := ⟨BRG_BAY_LED b, 4, 1⟩
def BRG_BAY_LED_BTN_PRESS (b : Nat) : Fld := ⟨BRG_BAY_LED b, 5, 1⟩
/-- R364. -/
def BRG_WIN_CTRL (n w : Nat) : Nat := 0x1010000 + 0x2000 * n + 0x20 * w
def BRG_WIN_CTRL_ENABLE (n w : Nat) : Fld := ⟨BRG_WIN_CTRL n w, 0, 1⟩
def BRG_WIN_CTRL_PREFETCHABLE (n w : Nat) : Fld := ⟨BRG_WIN_CTRL n w, 1, 1⟩
def BRG_WIN_CTRL_POSTED_OK (n w : Nat) : Fld := ⟨BRG_WIN_CTRL n w, 2, 1⟩
def BRG_WIN_CTRL_STRICT_ORDER (n w : Nat) : Fld := ⟨BRG_WIN_CTRL n w, 3, 1⟩
def BRG_WIN_CTRL_LOG2SIZE (n w : Nat) : Fld := ⟨BRG_WIN_CTRL n w, 8, 6⟩
def BRG_WIN_CTRL_LINK (n w : Nat) : Fld := ⟨BRG_WIN_CTRL n w, 16, 9⟩
/-- R364. -/
def BRG_WIN_STATE (n w : Nat) : Nat := 0x1010004 + 0x2000 * n + 0x20 * w
def BRG_WIN_STATE_STATE (n w : Nat) : Fld := ⟨BRG_WIN_STATE n w, 0, 3⟩
def BRG_WIN_STATE_REASON (n w : Nat) : Fld := ⟨BRG_WIN_STATE n w, 4, 4⟩
def BRG_WIN_STATE_FAILURES (n w : Nat) : Fld := ⟨BRG_WIN_STATE n w, 16, 16⟩
/-- R364. -/
def BRG_WIN_BASE_LO (n w : Nat) : Nat := 0x1010008 + 0x2000 * n + 0x20 * w
def BRG_WIN_BASE_LO_ADDR (n w : Nat) : Fld := ⟨BRG_WIN_BASE_LO n w, 12, 20⟩
/-- R364. -/
def BRG_WIN_BASE_HI (n w : Nat) : Nat := 0x101000C + 0x2000 * n + 0x20 * w
def BRG_WIN_BASE_HI_ADDR (n w : Nat) : Fld := ⟨BRG_WIN_BASE_HI n w, 0, 8⟩
/-- R364. -/
def BRG_WIN_TARGET (n w : Nat) : Nat := 0x1010010 + 0x2000 * n + 0x20 * w
def BRG_WIN_TARGET_ADDR (n w : Nat) : Fld := ⟨BRG_WIN_TARGET n w, 12, 20⟩
/-- R364. -/
def BRG_WIN_SLICE (n w : Nat) : Nat := 0x1010014 + 0x2000 * n + 0x20 * w
def BRG_WIN_SLICE_SLICE (n w : Nat) : Fld := ⟨BRG_WIN_SLICE n w, 0, 10⟩
def BRG_WIN_SLICE_VEC_OFFSET (n w : Nat) : Fld := ⟨BRG_WIN_SLICE n w, 16, 11⟩
/-- R364. -/
def BRG_ROUTE_LO (i : Nat) : Nat := 0x1020000 + 0x8 * i
def BRG_ROUTE_LO_ACTION (i : Nat) : Fld := ⟨BRG_ROUTE_LO i, 0, 2⟩
def BRG_ROUTE_LO_ALL_EVENTS (i : Nat) : Fld := ⟨BRG_ROUTE_LO i, 2, 1⟩
def BRG_ROUTE_LO_LINK (i : Nat) : Fld := ⟨BRG_ROUTE_LO i, 4, 9⟩
def BRG_ROUTE_LO_EVENT (i : Nat) : Fld := ⟨BRG_ROUTE_LO i, 16, 8⟩
def BRG_ROUTE_LO_PORT (i : Nat) : Fld := ⟨BRG_ROUTE_LO i, 24, 3⟩
def BRG_ROUTE_LO_VECTOR (i : Nat) : Fld := ⟨BRG_ROUTE_LO i, 28, 4⟩
/-- R364. -/
def BRG_ROUTE_HI (i : Nat) : Nat := 0x1020004 + 0x8 * i
def BRG_ROUTE_HI_VECTOR (i : Nat) : Fld := ⟨BRG_ROUTE_HI i, 0, 7⟩
def BRG_ROUTE_HI_SLICE (i : Nat) : Fld := ⟨BRG_ROUTE_HI i, 8, 10⟩
/-- R364. -/
def BRG_LINK (l : Nat) : Nat := 0x1030000 + 0x4 * l
def BRG_LINK_TAGS_BUSY (l : Nat) : Fld := ⟨BRG_LINK l, 0, 9⟩
def BRG_LINK_QUARANTINED (l : Nat) : Fld := ⟨BRG_LINK l, 16, 9⟩
def BRG_LINK_POLL_MISSED (l : Nat) : Fld := ⟨BRG_LINK l, 25, 4⟩
/-- R364. -/
def BRG_POLL_WORD (l : Nat) : Nat := 0x1031000 + 0x4 * l
def BRG_POLL_WORD_WORD (l : Nat) : Fld := ⟨BRG_POLL_WORD l, 0, 32⟩
/-- R392. -/
def BAY_CTRL (b : Nat) : Nat := 0x1400000 + 0x1000 * b
def BAY_CTRL_ARM (b : Nat) : Fld := ⟨BAY_CTRL b, 0, 1⟩
/-- R392. -/
def BAY_STATUS (b : Nat) : Nat := 0x1400004 + 0x1000 * b
def BAY_STATUS_STATE (b : Nat) : Fld := ⟨BAY_STATUS b, 0, 3⟩
def BAY_STATUS_PRESENT (b : Nat) : Fld := ⟨BAY_STATUS b, 3, 1⟩
def BAY_STATUS_PG (b : Nat) : Fld := ⟨BAY_STATUS b, 4, 1⟩
def BAY_STATUS_GATE_A_ON (b : Nat) : Fld := ⟨BAY_STATUS b, 5, 1⟩
def BAY_STATUS_GATE_B_ON (b : Nat) : Fld := ⟨BAY_STATUS b, 6, 1⟩
def BAY_STATUS_DISCHARGING (b : Nat) : Fld := ⟨BAY_STATUS b, 7, 1⟩
def BAY_STATUS_RETRIES (b : Nat) : Fld := ⟨BAY_STATUS b, 8, 3⟩
def BAY_STATUS_NEW_CARRIER (b : Nat) : Fld := ⟨BAY_STATUS b, 11, 1⟩
def BAY_STATUS_TRIP_ILIM (b : Nat) : Fld := ⟨BAY_STATUS b, 12, 1⟩
def BAY_STATUS_TRIP_THERMAL (b : Nat) : Fld := ⟨BAY_STATUS b, 13, 1⟩
def BAY_STATUS_FEED_A_OK (b : Nat) : Fld := ⟨BAY_STATUS b, 16, 1⟩
def BAY_STATUS_FEED_B_OK (b : Nat) : Fld := ⟨BAY_STATUS b, 17, 1⟩
def BAY_STATUS_SHORT_FEED (b : Nat) : Fld := ⟨BAY_STATUS b, 18, 2⟩
/-- R392. -/
def BAY_LIMIT (b : Nat) : Nat := 0x1400008 + 0x1000 * b
def BAY_LIMIT_ILIM (b : Nat) : Fld := ⟨BAY_LIMIT b, 0, 8⟩
def BAY_LIMIT_FAULT_TIME (b : Nat) : Fld := ⟨BAY_LIMIT b, 8, 9⟩
/-- R392. -/
def BAY_RAMP (b : Nat) : Nat := 0x140000C + 0x1000 * b
def BAY_RAMP_DVDT (b : Nat) : Fld := ⟨BAY_RAMP b, 0, 7⟩
def BAY_RAMP_PG_DELAY (b : Nat) : Fld := ⟨BAY_RAMP b, 8, 8⟩
def BAY_RAMP_RETRY_MAX (b : Nat) : Fld := ⟨BAY_RAMP b, 16, 3⟩
/-- R392. -/
def BAY_I_A (b : Nat) : Nat := 0x1400010 + 0x1000 * b
def BAY_I_A_VALUE (b : Nat) : Fld := ⟨BAY_I_A b, 0, 16⟩
/-- R392. -/
def BAY_I_B (b : Nat) : Nat := 0x1400014 + 0x1000 * b
def BAY_I_B_VALUE (b : Nat) : Fld := ⟨BAY_I_B b, 0, 16⟩
/-- R392. -/
def BAY_V_A (b : Nat) : Nat := 0x1400018 + 0x1000 * b
def BAY_V_A_VALUE (b : Nat) : Fld := ⟨BAY_V_A b, 0, 16⟩
/-- R392. -/
def BAY_V_B (b : Nat) : Nat := 0x140001C + 0x1000 * b
def BAY_V_B_VALUE (b : Nat) : Fld := ⟨BAY_V_B b, 0, 16⟩
/-- R392. -/
def BAY_VOUT (b : Nat) : Nat := 0x1400020 + 0x1000 * b
def BAY_VOUT_VALUE (b : Nat) : Fld := ⟨BAY_VOUT b, 0, 16⟩
/-- R392. -/
def BAY_P (b : Nat) : Nat := 0x1400024 + 0x1000 * b
def BAY_P_MW (b : Nat) : Fld := ⟨BAY_P b, 0, 20⟩
/-- R392. -/
def BAY_E_A_LO (b : Nat) : Nat := 0x1400028 + 0x1000 * b
def BAY_E_A_LO_MJ (b : Nat) : Fld := ⟨BAY_E_A_LO b, 0, 32⟩
/-- R392. -/
def BAY_E_A_HI (b : Nat) : Nat := 0x140002C + 0x1000 * b
def BAY_E_A_HI_MJ (b : Nat) : Fld := ⟨BAY_E_A_HI b, 0, 16⟩
/-- R392. -/
def BAY_E_B_LO (b : Nat) : Nat := 0x1400030 + 0x1000 * b
def BAY_E_B_LO_MJ (b : Nat) : Fld := ⟨BAY_E_B_LO b, 0, 32⟩
/-- R392. -/
def BAY_E_B_HI (b : Nat) : Nat := 0x1400034 + 0x1000 * b
def BAY_E_B_HI_MJ (b : Nat) : Fld := ⟨BAY_E_B_HI b, 0, 16⟩
/-- R392. -/
def BAY_E_LO (b : Nat) : Nat := 0x1400038 + 0x1000 * b
def BAY_E_LO_MJ (b : Nat) : Fld := ⟨BAY_E_LO b, 0, 32⟩
/-- R392. -/
def BAY_E_HI (b : Nat) : Nat := 0x140003C + 0x1000 * b
def BAY_E_HI_MJ (b : Nat) : Fld := ⟨BAY_E_HI b, 0, 16⟩
/-- R392. -/
def BAY_TJ_A (b : Nat) : Nat := 0x1400040 + 0x1000 * b
def BAY_TJ_A_RISE (b : Nat) : Fld := ⟨BAY_TJ_A b, 0, 12⟩
def BAY_TJ_A_TEMP (b : Nat) : Fld := ⟨BAY_TJ_A b, 16, 12⟩
/-- R392. -/
def BAY_TJ_B (b : Nat) : Nat := 0x1400044 + 0x1000 * b
def BAY_TJ_B_RISE (b : Nat) : Fld := ⟨BAY_TJ_B b, 0, 12⟩
def BAY_TJ_B_TEMP (b : Nat) : Fld := ⟨BAY_TJ_B b, 16, 12⟩
/-- R392. -/
def BAY_TRIPS (b : Nat) : Nat := 0x1400048 + 0x1000 * b
def BAY_TRIPS_COUNT (b : Nat) : Fld := ⟨BAY_TRIPS b, 0, 16⟩
def BAY_TRIPS_INSERTIONS (b : Nat) : Fld := ⟨BAY_TRIPS b, 16, 16⟩
/-- R393. -/
def BAY_GROUP : Nat := 0x1440000
def BAY_GROUP_SIZE : Fld := ⟨BAY_GROUP, 0, 7⟩
def BAY_GROUP_STARTING : Fld := ⟨BAY_GROUP, 16, 7⟩
/-- R393. -/
def BAY_TIMING : Nat := 0x1440004
def BAY_TIMING_DEBOUNCE : Fld := ⟨BAY_TIMING, 0, 8⟩
def BAY_TIMING_DISCHARGE : Fld := ⟨BAY_TIMING, 8, 10⟩
/-- R393. -/
def BAY_MODEL_RES (n : Nat) : Nat := 0x1440010 + 0x8 * n
def BAY_MODEL_RES_RES (n : Nat) : Fld := ⟨BAY_MODEL_RES n, 0, 16⟩
/-- R393. -/
def BAY_MODEL_TAU (n : Nat) : Nat := 0x1440014 + 0x8 * n
def BAY_MODEL_TAU_TAU (n : Nat) : Fld := ⟨BAY_MODEL_TAU n, 0, 20⟩
/-- R393. -/
def BAY_MODEL_LIM : Nat := 0x1440028
def BAY_MODEL_LIM_TRIP_RISE : Fld := ⟨BAY_MODEL_LIM, 0, 10⟩
def BAY_MODEL_LIM_RESTART_RISE : Fld := ⟨BAY_MODEL_LIM, 16, 10⟩
/-- R393. -/
def BAY_PRESENT_LO : Nat := 0x1440030
def BAY_PRESENT_LO_BAY : Fld := ⟨BAY_PRESENT_LO, 0, 32⟩
/-- R393. -/
def BAY_PRESENT_HI : Nat := 0x1440034
def BAY_PRESENT_HI_BAY : Fld := ⟨BAY_PRESENT_HI, 0, 32⟩
/-- R393. -/
def BAY_PG_LO : Nat := 0x1440038
def BAY_PG_LO_BAY : Fld := ⟨BAY_PG_LO, 0, 32⟩
/-- R393. -/
def BAY_PG_HI : Nat := 0x144003C
def BAY_PG_HI_BAY : Fld := ⟨BAY_PG_HI, 0, 32⟩
/-- R393. -/
def BAY_SHORTED_LO : Nat := 0x1440040
def BAY_SHORTED_LO_BAY : Fld := ⟨BAY_SHORTED_LO, 0, 32⟩
/-- R393. -/
def BAY_SHORTED_HI : Nat := 0x1440044
def BAY_SHORTED_HI_BAY : Fld := ⟨BAY_SHORTED_HI, 0, 32⟩
/-- R394. -/
def GLB_LEDGER_STATUS : Nat := 0x300
def GLB_LEDGER_STATUS_DISCONTINUOUS : Fld := ⟨GLB_LEDGER_STATUS, 0, 1⟩
def GLB_LEDGER_STATUS_RAIL_MISSING : Fld := ⟨GLB_LEDGER_STATUS, 1, 1⟩
/-- R394. -/
def GLB_LEDGER_RAIL_LO : Nat := 0x308
def GLB_LEDGER_RAIL_LO_MJ : Fld := ⟨GLB_LEDGER_RAIL_LO, 0, 32⟩
/-- R394. -/
def GLB_LEDGER_RAIL_HI : Nat := 0x30C
def GLB_LEDGER_RAIL_HI_MJ : Fld := ⟨GLB_LEDGER_RAIL_HI, 0, 16⟩
/-- R394. -/
def GLB_LEDGER_BAY_LO : Nat := 0x310
def GLB_LEDGER_BAY_LO_MJ : Fld := ⟨GLB_LEDGER_BAY_LO, 0, 32⟩
/-- R394. -/
def GLB_LEDGER_BAY_HI : Nat := 0x314
def GLB_LEDGER_BAY_HI_MJ : Fld := ⟨GLB_LEDGER_BAY_HI, 0, 16⟩
/-- R425. -/
def GLB_TIME_LO : Nat := 0x10
def GLB_TIME_LO_NS : Fld := ⟨GLB_TIME_LO, 0, 32⟩
/-- R425. -/
def GLB_TIME_HI : Nat := 0x14
def GLB_TIME_HI_NS : Fld := ⟨GLB_TIME_HI, 0, 32⟩
/-- R425. -/
def GLB_POWER_CMD : Nat := 0x200
def GLB_POWER_CMD_STATE : Fld := ⟨GLB_POWER_CMD, 0, 2⟩
/-- R425. -/
def GLB_POWER_STATUS : Nat := 0x204
def GLB_POWER_STATUS_CUR : Fld := ⟨GLB_POWER_STATUS, 0, 2⟩
def GLB_POWER_STATUS_PENDING : Fld := ⟨GLB_POWER_STATUS, 2, 1⟩
def GLB_POWER_STATUS_COLLIDE : Fld := ⟨GLB_POWER_STATUS, 3, 1⟩
def GLB_POWER_STATUS_PHASE : Fld := ⟨GLB_POWER_STATUS, 4, 3⟩
def GLB_POWER_STATUS_RESULT : Fld := ⟨GLB_POWER_STATUS, 8, 4⟩
def GLB_POWER_STATUS_ABORT_STEP : Fld := ⟨GLB_POWER_STATUS, 12, 3⟩
/-- R426. -/
def AON_STATE : Nat := 0x1500000
def AON_STATE_PHASE : Fld := ⟨AON_STATE, 0, 3⟩
def AON_STATE_INCOMPLETE : Fld := ⟨AON_STATE, 3, 1⟩
def AON_STATE_REASON : Fld := ⟨AON_STATE, 4, 2⟩
/-- R426. -/
def AON_ENTRY_CFG : Nat := 0x1500008
def AON_ENTRY_CFG_DRAIN_MS : Fld := ⟨AON_ENTRY_CFG, 0, 14⟩
def AON_ENTRY_CFG_ALLOW_WEAK_BANK : Fld := ⟨AON_ENTRY_CFG, 14, 1⟩
def AON_ENTRY_CFG_COMMIT_WAIT : Fld := ⟨AON_ENTRY_CFG, 16, 10⟩
/-- R426. -/
def AON_ECLOSION_CFG : Nat := 0x150000C
def AON_ECLOSION_CFG_RAIL_TO : Fld := ⟨AON_ECLOSION_CFG, 0, 8⟩
def AON_ECLOSION_CFG_MIRROR_WAIT : Fld := ⟨AON_ECLOSION_CFG, 16, 12⟩
/-- R426. -/
def AON_ECLOSION_ACK : Nat := 0x1500010
def AON_ECLOSION_ACK_ACK : Fld := ⟨AON_ECLOSION_ACK, 0, 1⟩
/-- R426. -/
def AON_CHRYSALIS_STATUS : Nat := 0x1500020
def AON_CHRYSALIS_STATUS_BANK_LOST : Fld := ⟨AON_CHRYSALIS_STATUS, 0, 6⟩
def AON_CHRYSALIS_STATUS_SELFTEST_FAIL : Fld := ⟨AON_CHRYSALIS_STATUS, 8, 6⟩
def AON_CHRYSALIS_STATUS_CORRECTED : Fld := ⟨AON_CHRYSALIS_STATUS, 16, 8⟩
def AON_CHRYSALIS_STATUS_B0_RUN : Fld := ⟨AON_CHRYSALIS_STATUS, 24, 2⟩
/-- R426. -/
def AON_SEAL_COUNT : Nat := 0x1500024
def AON_SEAL_COUNT_COUNT : Fld := ⟨AON_SEAL_COUNT, 0, 32⟩
/-- R426. -/
def AON_WAKE_ARM : Nat := 0x1500030
def AON_WAKE_ARM_FEED : Fld := ⟨AON_WAKE_ARM, 0, 1⟩
def AON_WAKE_ARM_AUX : Fld := ⟨AON_WAKE_ARM, 1, 1⟩
def AON_WAKE_ARM_PRESENCE : Fld := ⟨AON_WAKE_ARM, 2, 1⟩
def AON_WAKE_ARM_ACT : Fld := ⟨AON_WAKE_ARM, 8, 8⟩
def AON_WAKE_ARM_PAT : Fld := ⟨AON_WAKE_ARM, 16, 8⟩
/-- R426. -/
def AON_BUDGET : Nat := 0x1500040
def AON_BUDGET_SUM : Fld := ⟨AON_BUDGET, 0, 16⟩
def AON_BUDGET_LIMIT : Fld := ⟨AON_BUDGET, 16, 16⟩
/-- R426. -/
def AON_WAKE_LAST : Nat := 0x1500050
def AON_WAKE_LAST_CODE : Fld := ⟨AON_WAKE_LAST, 0, 4⟩
def AON_WAKE_LAST_DETAIL : Fld := ⟨AON_WAKE_LAST, 8, 9⟩
def AON_WAKE_LAST_DURING_ENTRY : Fld := ⟨AON_WAKE_LAST, 31, 1⟩
/-- R426. -/
def AON_WAKE_TIME_LO : Nat := 0x1500054
def AON_WAKE_TIME_LO_NS : Fld := ⟨AON_WAKE_TIME_LO, 0, 32⟩
/-- R426. -/
def AON_WAKE_TIME_HI : Nat := 0x1500058
def AON_WAKE_TIME_HI_NS : Fld := ⟨AON_WAKE_TIME_HI, 0, 32⟩
/-- R426. -/
def AON_WAKE_PENDING : Nat := 0x150005C
def AON_WAKE_PENDING_CODES : Fld := ⟨AON_WAKE_PENDING, 0, 6⟩
/-- R426. -/
def AON_ALARM_LO : Nat := 0x1500060
def AON_ALARM_LO_NS : Fld := ⟨AON_ALARM_LO, 0, 32⟩
/-- R426. -/
def AON_ALARM_HI : Nat := 0x1500064
def AON_ALARM_HI_NS : Fld := ⟨AON_ALARM_HI, 0, 32⟩
/-- R426. -/
def AON_MIRROR_LO : Nat := 0x1500070
def AON_MIRROR_LO_VALUE : Fld := ⟨AON_MIRROR_LO, 0, 32⟩
/-- R426. -/
def AON_MIRROR_HI : Nat := 0x1500074
def AON_MIRROR_HI_VALUE : Fld := ⟨AON_MIRROR_HI, 0, 32⟩
/-- R426. -/
def AON_MIRROR_LEN : Nat := 0x1500078
def AON_MIRROR_LEN_VALUE : Fld := ⟨AON_MIRROR_LEN, 0, 32⟩
/-- R426. -/
def AON_MIRROR_STATUS : Nat := 0x150007C
def AON_MIRROR_STATUS_PHASE : Fld := ⟨AON_MIRROR_STATUS, 0, 2⟩
def AON_MIRROR_STATUS_RESULT : Fld := ⟨AON_MIRROR_STATUS, 4, 4⟩
/-- R426. -/
def AON_REG : Nat := 0x1500080
def AON_REG_BROWNOUT_SEEN : Fld := ⟨AON_REG, 0, 1⟩
def AON_REG_TIME_SUSPECT : Fld := ⟨AON_REG, 1, 1⟩
def AON_REG_LOW_POWER : Fld := ⟨AON_REG, 2, 1⟩
/-- R426. -/
def AON_WCMP_FEED : Nat := 0x1500034
def AON_WCMP_FEED_THRESHOLD : Fld := ⟨AON_WCMP_FEED, 0, 8⟩
/-- R426. -/
def AON_WCMP_AUX : Nat := 0x1500038
def AON_WCMP_AUX_THRESHOLD : Fld := ⟨AON_WCMP_AUX, 0, 8⟩
def AON_WCMP_AUX_POLARITY : Fld := ⟨AON_WCMP_AUX, 8, 1⟩
/-- R446. -/
def EVC_EYESPOT : Nat := 0x1600000
def EVC_EYESPOT_MARKED : Fld := ⟨EVC_EYESPOT, 0, 6⟩
def EVC_EYESPOT_REFUSED : Fld := ⟨EVC_EYESPOT, 6, 1⟩
/-- R446. -/
def EVC_PENDING (w : Nat) : Nat := 0x1600100 + 0x4 * w
def EVC_PENDING_SRC (w : Nat) : Fld := ⟨EVC_PENDING w, 0, 32⟩
/-- R446. -/
def EVC_ACTIVE (w : Nat) : Nat := 0x1600140 + 0x4 * w
def EVC_ACTIVE_SRC (w : Nat) : Fld := ⟨EVC_ACTIVE w, 0, 32⟩
/-- R446. -/
def EVC_SRC_CFG (s : Nat) : Nat := 0x1601000 + 0x8 * s
def EVC_SRC_CFG_PRIORITY (s : Nat) : Fld := ⟨EVC_SRC_CFG s, 0, 4⟩
def EVC_SRC_CFG_TMASK (s : Nat) : Fld := ⟨EVC_SRC_CFG s, 8, 8⟩
def EVC_SRC_CFG_EYESPOT (s : Nat) : Fld := ⟨EVC_SRC_CFG s, 16, 1⟩
def EVC_SRC_CFG_KIND (s : Nat) : Fld := ⟨EVC_SRC_CFG s, 17, 1⟩
def EVC_SRC_CFG_ELIGIBLE (s : Nat) : Fld := ⟨EVC_SRC_CFG s, 18, 1⟩
/-- R446. -/
def EVC_SRC_COAL (s : Nat) : Nat := 0x1601004 + 0x8 * s
def EVC_SRC_COAL_COUNT (s : Nat) : Fld := ⟨EVC_SRC_COAL s, 0, 8⟩
def EVC_SRC_COAL_TIME_US (s : Nat) : Fld := ⟨EVC_SRC_COAL s, 8, 16⟩
/-- R447. -/
def EVC_THRESHOLD (t : Nat) : Nat := 0x1610000 + 0x1000 * t
def EVC_THRESHOLD_THRESHOLD (t : Nat) : Fld := ⟨EVC_THRESHOLD t, 0, 4⟩
/-- R447. -/
def EVC_CLAIM (t : Nat) : Nat := 0x1610004 + 0x1000 * t
def EVC_CLAIM_SOURCE (t : Nat) : Fld := ⟨EVC_CLAIM t, 0, 10⟩
def EVC_CLAIM_OUTCOME (t : Nat) : Fld := ⟨EVC_CLAIM t, 12, 2⟩
def EVC_CLAIM_DEPTH (t : Nat) : Fld := ⟨EVC_CLAIM t, 16, 4⟩
/-- R447. -/
def EVC_EOI (t : Nat) : Nat := 0x1610008 + 0x1000 * t
def EVC_EOI_SOURCE (t : Nat) : Fld := ⟨EVC_EOI t, 0, 10⟩
/-- R447. -/
def EVC_TSTATUS (t : Nat) : Nat := 0x161000C + 0x1000 * t
def EVC_TSTATUS_RUNNING (t : Nat) : Fld := ⟨EVC_TSTATUS t, 0, 4⟩
def EVC_TSTATUS_DEPTH (t : Nat) : Fld := ⟨EVC_TSTATUS t, 4, 4⟩
def EVC_TSTATUS_REQUEST (t : Nat) : Fld := ⟨EVC_TSTATUS t, 8, 1⟩
def EVC_TSTATUS_EOI_MISMATCH (t : Nat) : Fld := ⟨EVC_TSTATUS t, 9, 1⟩
def EVC_TSTATUS_TOP (t : Nat) : Fld := ⟨EVC_TSTATUS t, 16, 9⟩
/-- R467. -/
def GLB_GRAVE : Nat := 0x400
def GLB_GRAVE_DEVICE : Fld := ⟨GLB_GRAVE, 0, 1⟩
def GLB_GRAVE_CAUSE : Fld := ⟨GLB_GRAVE, 1, 3⟩
def GLB_GRAVE_BAY : Fld := ⟨GLB_GRAVE, 4, 1⟩
/-- R467. -/
def GLB_GRAVE_TIME_LO : Nat := 0x404
def GLB_GRAVE_TIME_LO_NS : Fld := ⟨GLB_GRAVE_TIME_LO, 0, 32⟩
/-- R467. -/
def GLB_GRAVE_TIME_HI : Nat := 0x408
def GLB_GRAVE_TIME_HI_NS : Fld := ⟨GLB_GRAVE_TIME_HI, 0, 32⟩
/-- R470. -/
def GLB_TEST : Nat := 0x410
def GLB_TEST_FACTORY : Fld := ⟨GLB_TEST, 0, 1⟩
def GLB_TEST_UNLOCKED : Fld := ⟨GLB_TEST, 1, 1⟩
/-- R492. -/
def SPR_PLANE : Nat := 0x1800000
def SPR_PLANE_IN_USE : Fld := ⟨SPR_PLANE, 0, 9⟩
def SPR_PLANE_RETIRED : Fld := ⟨SPR_PLANE, 16, 4⟩
/-- R492. -/
def SPR_WIRE (o : Nat) : Nat := 0x1800010 + 0x4 * o
def SPR_WIRE_USED_G0 (o : Nat) : Fld := ⟨SPR_WIRE o, 0, 2⟩
def SPR_WIRE_USED_G1 (o : Nat) : Fld := ⟨SPR_WIRE o, 2, 2⟩
/-- R492. -/
def SPR_RBFIX (o : Nat) : Nat := 0x1800030 + 0x4 * o
def SPR_RBFIX_COLUMNS (o : Nat) : Fld := ⟨SPR_RBFIX o, 0, 3⟩
def SPR_RBFIX_UNREPAIRED (o : Nat) : Fld := ⟨SPR_RBFIX o, 3, 1⟩
/-- R492. -/
def SPR_ROWS (c : Nat) : Nat := 0x1800050 + 0x4 * c
def SPR_ROWS_SPARE_LEFT (c : Nat) : Fld := ⟨SPR_ROWS c, 0, 16⟩
def SPR_ROWS_REMAPPED (c : Nat) : Fld := ⟨SPR_ROWS c, 16, 16⟩
/-- R492. -/
def SPR_OCTANT : Nat := 0x1800100
def SPR_OCTANT_BYPASSED : Fld := ⟨SPR_OCTANT, 0, 8⟩
def SPR_OCTANT_RESETTING : Fld := ⟨SPR_OCTANT, 8, 8⟩
/-- R492. -/
def SPR_TEST : Nat := 0x1800110
def SPR_TEST_KIND : Fld := ⟨SPR_TEST, 0, 4⟩
def SPR_TEST_TEST : Fld := ⟨SPR_TEST, 4, 4⟩
def SPR_TEST_UNIT : Fld := ⟨SPR_TEST, 8, 10⟩
def SPR_TEST_BUSY : Fld := ⟨SPR_TEST, 18, 1⟩
def SPR_TEST_OUTCOME : Fld := ⟨SPR_TEST, 19, 3⟩
/-- R492. -/
def SPR_TEST_CELLS : Nat := 0x1800114
def SPR_TEST_CELLS_CELLS : Fld := ⟨SPR_TEST_CELLS, 0, 32⟩
/-- R492. -/
def SPR_MEMTEST : Nat := 0x1800120
def SPR_MEMTEST_CHANNEL : Fld := ⟨SPR_MEMTEST, 0, 4⟩
def SPR_MEMTEST_START : Fld := ⟨SPR_MEMTEST, 4, 1⟩
def SPR_MEMTEST_BUSY : Fld := ⟨SPR_MEMTEST, 5, 1⟩
def SPR_MEMTEST_OUTCOME : Fld := ⟨SPR_MEMTEST, 6, 2⟩
/-- R493. -/
def MGT_STATUS : Nat := 0x1C00000
def MGT_STATUS_ACTIVE_CORE : Fld := ⟨MGT_STATUS, 0, 1⟩
def MGT_STATUS_MCA_LOST : Fld := ⟨MGT_STATUS, 1, 1⟩
def MGT_STATUS_MCB_LOST : Fld := ⟨MGT_STATUS, 2, 1⟩
def MGT_STATUS_STANDBY_READY : Fld := ⟨MGT_STATUS, 3, 1⟩
def MGT_STATUS_RECOVERING : Fld := ⟨MGT_STATUS, 4, 1⟩
def MGT_STATUS_STANDBY_TESTING : Fld := ⟨MGT_STATUS, 5, 1⟩
/-- R493. -/
def MGT_HEARTBEAT (c : Nat) : Nat := 0x1C00004 + 0x4 * c
def MGT_HEARTBEAT_COUNT (c : Nat) : Fld := ⟨MGT_HEARTBEAT c, 0, 32⟩
/-- R493. -/
def MGT_CFG : Nat := 0x1C00010
def MGT_CFG_HB_LOSS : Fld := ⟨MGT_CFG, 0, 4⟩
/-- R493. -/
def MGT_RECOVERY : Nat := 0x1C00018
def MGT_RECOVERY_US : Fld := ⟨MGT_RECOVERY, 0, 20⟩
def MGT_RECOVERY_RJ_LIVE : Fld := ⟨MGT_RECOVERY, 20, 9⟩
/-- R493. -/
def MGT_FAILOVER_TIME_LO : Nat := 0x1C00020
def MGT_FAILOVER_TIME_LO_NS : Fld := ⟨MGT_FAILOVER_TIME_LO, 0, 32⟩
/-- R493. -/
def MGT_FAILOVER_TIME_HI : Nat := 0x1C00024
def MGT_FAILOVER_TIME_HI_NS : Fld := ⟨MGT_FAILOVER_TIME_HI, 0, 32⟩
/-- R512. -/
def GLB_ID : Nat := 0x0
def GLB_ID_PART : Fld := ⟨GLB_ID, 0, 16⟩
def GLB_ID_STEPPING : Fld := ⟨GLB_ID, 16, 8⟩
def GLB_ID_FAMILY : Fld := ⟨GLB_ID, 24, 8⟩
/-- R512. -/
def GLB_DSN_LO : Nat := 0x4
def GLB_DSN_LO_DSN : Fld := ⟨GLB_DSN_LO, 0, 32⟩
/-- R512. -/
def GLB_DSN_HI : Nat := 0x8
def GLB_DSN_HI_DSN : Fld := ⟨GLB_DSN_HI, 0, 32⟩
/-- R512. -/
def GLB_BOOT : Nat := 0x20
def GLB_BOOT_STAGE : Fld := ⟨GLB_BOOT, 0, 3⟩
def GLB_BOOT_FW_SLOT : Fld := ⟨GLB_BOOT, 3, 1⟩
def GLB_BOOT_FW_FALLBACK : Fld := ⟨GLB_BOOT, 4, 1⟩
def GLB_BOOT_FW_FAIL : Fld := ⟨GLB_BOOT, 5, 1⟩
def GLB_BOOT_BOARD_BAD : Fld := ⟨GLB_BOOT, 6, 1⟩
def GLB_BOOT_STRAP_BAD : Fld := ⟨GLB_BOOT, 7, 1⟩
def GLB_BOOT_COLD_CAUSE : Fld := ⟨GLB_BOOT, 8, 2⟩
/-- R512. -/
def GLB_STRAP : Nat := 0x24
def GLB_STRAP_MGR_PORT : Fld := ⟨GLB_STRAP, 0, 3⟩
def GLB_STRAP_REFCLK_MODE : Fld := ⟨GLB_STRAP, 3, 1⟩
def GLB_STRAP_TEST_MODE : Fld := ⟨GLB_STRAP, 4, 2⟩
def GLB_STRAP_FLASH_MODE : Fld := ⟨GLB_STRAP, 6, 1⟩
/-- R512. -/
def GLB_FW_UPDATE : Nat := 0x28
def GLB_FW_UPDATE_STATE : Fld := ⟨GLB_FW_UPDATE, 0, 2⟩
def GLB_FW_UPDATE_NEXT_SLOT : Fld := ⟨GLB_FW_UPDATE, 2, 1⟩
/-- R512. -/
def GLB_RAIL (n : Nat) : Nat := 0x500 + 0x4 * n
def GLB_RAIL_ADDR (n : Nat) : Fld := ⟨GLB_RAIL n, 0, 7⟩
def GLB_RAIL_PAGE (n : Nat) : Fld := ⟨GLB_RAIL n, 8, 8⟩
def GLB_RAIL_ROLE (n : Nat) : Fld := ⟨GLB_RAIL n, 16, 3⟩
def GLB_RAIL_EOUT (n : Nat) : Fld := ⟨GLB_RAIL n, 19, 1⟩
def GLB_RAIL_VALID (n : Nat) : Fld := ⟨GLB_RAIL n, 31, 1⟩
/-- R513. -/
def MEM_GEOMETRY : Nat := 0x708000
def MEM_GEOMETRY_DENSITY : Fld := ⟨MEM_GEOMETRY, 0, 1⟩
def MEM_GEOMETRY_RATE_GBPS : Fld := ⟨MEM_GEOMETRY, 4, 5⟩
def MEM_GEOMETRY_VDDQ : Fld := ⟨MEM_GEOMETRY, 9, 1⟩
/-- R513. -/
def MEM_TRAIN : Nat := 0x708004
def MEM_TRAIN_START : Fld := ⟨MEM_TRAIN, 0, 1⟩
def MEM_TRAIN_BUSY : Fld := ⟨MEM_TRAIN, 1, 1⟩
def MEM_TRAIN_RESULT : Fld := ⟨MEM_TRAIN, 2, 2⟩
def MEM_TRAIN_STAGE_REFUSED : Fld := ⟨MEM_TRAIN, 4, 1⟩
def MEM_TRAIN_FAILED : Fld := ⟨MEM_TRAIN, 16, 16⟩
/-- R513. -/
def MEM_LAYOUT : Nat := 0x708008
def MEM_LAYOUT_USABLE_MIB : Fld := ⟨MEM_LAYOUT, 0, 16⟩
def MEM_LAYOUT_SYS_BASE_MIB : Fld := ⟨MEM_LAYOUT, 16, 16⟩
/-- R513. -/
def MEM_STAGE : Nat := 0x70800C
def MEM_STAGE_BASE_MIB : Fld := ⟨MEM_STAGE, 0, 16⟩
def MEM_STAGE_SIZE_MIB : Fld := ⟨MEM_STAGE, 16, 16⟩
/-- R550. -/
def GLB_TEMP (d : Nat) : Nat := 0x600 + 0x4 * d
def GLB_TEMP_TEMP (d : Nat) : Fld := ⟨GLB_TEMP d, 0, 12⟩
def GLB_TEMP_VALID (d : Nat) : Fld := ⟨GLB_TEMP d, 12, 1⟩
def GLB_TEMP_PEAK (d : Nat) : Fld := ⟨GLB_TEMP d, 16, 12⟩
def GLB_TEMP_PEAK_CLR (d : Nat) : Fld := ⟨GLB_TEMP d, 28, 1⟩
/-- R550. -/
def GLB_THERM_CFG : Nat := 0x640
def GLB_THERM_CFG_WARN_C : Fld := ⟨GLB_THERM_CFG, 0, 8⟩
def GLB_THERM_CFG_WARN_BP_C : Fld := ⟨GLB_THERM_CFG, 8, 8⟩
/-- R550. -/
def GLB_THERM_STATUS : Nat := 0x644
def GLB_THERM_STATUS_WARN : Fld := ⟨GLB_THERM_STATUS, 0, 11⟩
def GLB_THERM_STATUS_TRIP : Fld := ⟨GLB_THERM_STATUS, 11, 1⟩
def GLB_THERM_STATUS_TRIP_DIE : Fld := ⟨GLB_THERM_STATUS, 12, 4⟩

/-- The registers of block GLB (R44), as its chapter tabulates them. -/
def rowsGLB : List Row := [
  ⟨0x100, 0x4, 1, 0x4, 1, fun _ _ => [⟨0, 2, .rw, 0, 0, 2⟩, ⟨4, 1, .rw, 0, 0, 1⟩, ⟨8, 1, .rw, 0, 0, 1⟩, ⟨16, 1, .rw, 0, 0, 1⟩]⟩,
  ⟨0x104, 0x4, 1, 0x4, 1, fun _ _ => [⟨0, 2, .ro, 0, 0, 3⟩, ⟨4, 1, .ro, 0, 0, 1⟩, ⟨8, 1, .ro, 0, 0, 1⟩, ⟨16, 1, .ro, 0, 0, 1⟩, ⟨17, 1, .w1c, 0, 0, 1⟩, ⟨20, 4, .ro, 0, 0, 15⟩]⟩,
  ⟨0x108, 0x4, 1, 0x4, 1, fun _ _ => [⟨0, 32, .ro, 0, 0, 4294967295⟩]⟩,
  ⟨0x10C, 0x4, 1, 0x4, 1, fun _ _ => [⟨0, 32, .ro, 0, 0, 4294967295⟩]⟩,
  ⟨0x40, 0x4, 1, 0x4, 1, fun _ _ => [⟨0, 1, .ro, 1, 0, 1⟩, ⟨1, 1, .w1c, 0, 0, 1⟩]⟩,
  ⟨0x44, 0x4, 1, 0x4, 1, fun _ _ => [⟨0, 32, .wo, 0, 0, 4294967295⟩]⟩,
  ⟨0x300, 0x4, 1, 0x4, 1, fun _ _ => [⟨0, 1, .w1c, 0, 0, 1⟩, ⟨1, 1, .w1c, 0, 0, 1⟩]⟩,
  ⟨0x308, 0x4, 1, 0x4, 1, fun _ _ => [⟨0, 32, .ro, 0, 0, 4294967295⟩]⟩,
  ⟨0x30C, 0x4, 1, 0x4, 1, fun _ _ => [⟨0, 16, .ro, 0, 0, 65535⟩]⟩,
  ⟨0x310, 0x4, 1, 0x4, 1, fun _ _ => [⟨0, 32, .ro, 0, 0, 4294967295⟩]⟩,
  ⟨0x314, 0x4, 1, 0x4, 1, fun _ _ => [⟨0, 16, .ro, 0, 0, 65535⟩]⟩,
  ⟨0x10, 0x4, 1, 0x4, 1, fun _ _ => [⟨0, 32, .ro, 0, 0, 4294967295⟩]⟩,
  ⟨0x14, 0x4, 1, 0x4, 1, fun _ _ => [⟨0, 32, .ro, 0, 0, 4294967295⟩]⟩,
  ⟨0x200, 0x4, 1, 0x4, 1, fun _ _ => [⟨0, 2, .wo, 0, 0, 3⟩]⟩,
  ⟨0x204, 0x4, 1, 0x4, 1, fun _ _ => [⟨0, 2, .ro, 0, 0, 3⟩, ⟨2, 1, .ro, 0, 0, 1⟩, ⟨3, 1, .w1c, 0, 0, 1⟩, ⟨4, 3, .ro, 0, 0, 7⟩, ⟨8, 4, .ro, 0, 0, 15⟩, ⟨12, 3, .ro, 0, 0, 7⟩]⟩,
  ⟨0x400, 0x4, 1, 0x4, 1, fun _ _ => [⟨0, 1, .ro, 0, 0, 1⟩, ⟨1, 3, .ro, 0, 0, 7⟩, ⟨4, 1, .ro, 0, 0, 1⟩]⟩,
  ⟨0x404, 0x4, 1, 0x4, 1, fun _ _ => [⟨0, 32, .ro, 0, 0, 4294967295⟩]⟩,
  ⟨0x408, 0x4, 1, 0x4, 1, fun _ _ => [⟨0, 32, .ro, 0, 0, 4294967295⟩]⟩,
  ⟨0x410, 0x4, 1, 0x4, 1, fun _ _ => [⟨0, 1, .ro, 0, 0, 1⟩, ⟨1, 1, .ro, 0, 0, 1⟩]⟩,
  ⟨0x0, 0x4, 1, 0x4, 1, fun _ _ => [⟨0, 16, .ro, 20768, 0, 65535⟩, ⟨16, 8, .ro, 177, 0, 255⟩, ⟨24, 8, .ro, 11, 0, 255⟩]⟩,
  ⟨0x4, 0x4, 1, 0x4, 1, fun _ _ => [⟨0, 32, .ro, (Config.dsn.toNat % 2^32), 0, 4294967295⟩]⟩,
  ⟨0x8, 0x4, 1, 0x4, 1, fun _ _ => [⟨0, 32, .ro, (Config.dsn.toNat / 2^32), 0, 4294967295⟩]⟩,
  ⟨0x20, 0x4, 1, 0x4, 1, fun _ _ => [⟨0, 3, .ro, 0, 0, 7⟩, ⟨3, 1, .ro, 0, 0, 1⟩, ⟨4, 1, .ro, 0, 0, 1⟩, ⟨5, 1, .ro, 0, 0, 1⟩, ⟨6, 1, .ro, 0, 0, 1⟩, ⟨7, 1, .ro, 0, 0, 1⟩, ⟨8, 2, .ro, 0, 0, 3⟩]⟩,
  ⟨0x24, 0x4, 1, 0x4, 1, fun _ _ => [⟨0, 3, .ro, 0, 0, 7⟩, ⟨3, 1, .ro, 0, 0, 1⟩, ⟨4, 2, .ro, 0, 0, 3⟩, ⟨6, 1, .ro, 0, 0, 1⟩]⟩,
  ⟨0x28, 0x4, 1, 0x4, 1, fun _ _ => [⟨0, 2, .ro, 0, 0, 3⟩, ⟨2, 1, .ro, 0, 0, 1⟩]⟩,
  ⟨0x500, 0x4, 16, 0x4, 1, fun _ _ => [⟨0, 7, .ro, 0, 0, 127⟩, ⟨8, 8, .ro, 0, 0, 255⟩, ⟨16, 3, .ro, 0, 0, 7⟩, ⟨19, 1, .ro, 0, 0, 1⟩, ⟨31, 1, .ro, 0, 0, 1⟩]⟩,
  ⟨0x600, 0x4, 11, 0x4, 1, fun _ _ => [⟨0, 12, .ro, 0, 0, 4095⟩, ⟨12, 1, .ro, 0, 0, 1⟩, ⟨16, 12, .ro, 0, 0, 4095⟩, ⟨28, 1, .wo, 0, 0, 1⟩]⟩,
  ⟨0x640, 0x4, 1, 0x4, 1, fun _ _ => [⟨0, 8, .rw, 100, 60, 110⟩, ⟨8, 8, .rw, 120, 60, 135⟩]⟩,
  ⟨0x644, 0x4, 1, 0x4, 1, fun _ _ => [⟨0, 11, .w1c, 0, 0, 2047⟩, ⟨11, 1, .w1c, 0, 0, 1⟩, ⟨12, 4, .ro, 0, 0, 15⟩]⟩]

/-- The registers of block HP (R44), as its chapter tabulates them. -/
def rowsHP : List Row := [
  ⟨0x100000, 0x10000, 8, 0x4, 1, fun n _ => [⟨0, 3, .ro, n, 0, 7⟩, ⟨3, 1, .ro, 0, 0, 1⟩, ⟨4, 4, .ro, 0, 0, 15⟩, ⟨8, 5, .ro, 0, 0, 31⟩, ⟨13, 1, .ro, 0, 0, 1⟩, ⟨14, 2, .ro, 0, 0, 3⟩, ⟨16, 1, .ro, 0, 0, 1⟩, ⟨17, 1, .ro, 0, 0, 1⟩]⟩,
  ⟨0x100010, 0x10000, 8, 0x4, 1, fun _ _ => [⟨0, 1, .w1c, 0, 0, 1⟩, ⟨1, 1, .w1c, 0, 0, 1⟩, ⟨2, 1, .ro, 0, 0, 1⟩]⟩,
  ⟨0x100014, 0x10000, 8, 0x4, 1, fun _ _ => [⟨0, 26, .ro, 0, 0, 67108863⟩]⟩,
  ⟨0x100020, 0x10000, 8, 0x4, 1, fun _ _ => [⟨0, 16, .ro, 0, 0, 65535⟩, ⟨16, 1, .ro, 0, 0, 1⟩]⟩,
  ⟨0x100030, 0x10000, 8, 0x4, 1, fun _ _ => [⟨0, 10, .rw, 2, 1, 1023⟩, ⟨16, 10, .rw, 1000, 1, 1023⟩]⟩]

/-- The registers of block SLC (R44), as its chapter tabulates them. -/
def rowsSLC : List Row := [
  ⟨0x200000, 0x4, 1, 0x4, 1, fun _ _ => [⟨0, 11, .ro, 1023, 0, 2047⟩, ⟨16, 1, .ro, 1, 0, 1⟩, ⟨17, 2, .ro, 1, 0, 3⟩]⟩,
  ⟨0x200010, 0x4, 8, 0x4, 1, fun _ _ => [⟨0, 13, .ro, 0, 0, 8191⟩, ⟨16, 13, .ro, 0, 0, 8191⟩]⟩,
  ⟨0x200030, 0x4, 1, 0x4, 1, fun _ _ => [⟨0, 16, .ro, 0, 0, 65535⟩, ⟨16, 15, .ro, 0, 0, 32767⟩]⟩,
  ⟨0x210000, 0x100, 1024, 0x4, 1, fun s _ => [⟨0, 3, .ro, (if s = 0 then 1 else 0), 0, 7⟩, ⟨3, 1, .ro, 0, 0, 1⟩, ⟨4, 1, .ro, 0, 0, 1⟩, ⟨5, 1, .ro, 0, 0, 1⟩, ⟨6, 1, .ro, 0, 0, 1⟩, ⟨7, 1, .ro, 0, 0, 1⟩, ⟨8, 1, .ro, 0, 0, 1⟩, ⟨9, 1, .ro, 0, 0, 1⟩, ⟨10, 1, .ro, 0, 0, 1⟩, ⟨16, 8, .ro, 0, 0, 255⟩]⟩,
  ⟨0x210004, 0x100, 1024, 0x4, 1, fun _ _ => [⟨0, 16, .ro, 0, 0, 65535⟩, ⟨16, 3, .ro, 0, 0, 7⟩]⟩,
  ⟨0x210008, 0x100, 1024, 0x4, 1, fun _ _ => [⟨0, 20, .ro, 0, 0, 1048575⟩]⟩,
  ⟨0x21000C, 0x100, 1024, 0x4, 1, fun _ _ => [⟨0, 16, .ro, 0, 0, 65535⟩, ⟨16, 16, .ro, 0, 0, 65535⟩]⟩,
  ⟨0x210010, 0x100, 1024, 0x4, 1, fun _ _ => [⟨0, 16, .ro, 0, 0, 65535⟩, ⟨16, 16, .ro, 0, 0, 65535⟩]⟩,
  ⟨0x210014, 0x100, 1024, 0x4, 1, fun s _ => [⟨0, 16, .ro, 0, 0, 65535⟩, ⟨16, 16, .ro, (if s = 0 then 1 else 0), 0, 65535⟩]⟩,
  ⟨0x210018, 0x100, 1024, 0x4, 1, fun _ _ => [⟨0, 13, .ro, 0, 0, 8191⟩, ⟨16, 16, .ro, 0, 0, 65535⟩]⟩,
  ⟨0x21001C, 0x100, 1024, 0x4, 1, fun s _ => [⟨0, 16, .ro, 0, 0, 65535⟩, ⟨16, 15, .ro, (if s = 0 then 256 else 0), 0, 32767⟩]⟩,
  ⟨0x210020, 0x100, 1024, 0x4, 1, fun _ _ => [⟨0, 16, .ro, 0, 0, 65535⟩, ⟨16, 15, .ro, 0, 0, 32767⟩]⟩,
  ⟨0x210024, 0x100, 1024, 0x4, 1, fun _ _ => [⟨0, 16, .ro, 0, 0, 65535⟩, ⟨16, 16, .ro, 0, 0, 65535⟩]⟩,
  ⟨0x210028, 0x100, 1024, 0x4, 1, fun _ _ => [⟨0, 32, .ro, 0, 0, 4294967295⟩]⟩,
  ⟨0x21002C, 0x100, 1024, 0x4, 1, fun _ _ => [⟨0, 16, .ro, 0, 0, 65535⟩]⟩,
  ⟨0x210030, 0x100, 1024, 0x4, 1, fun _ _ => [⟨0, 32, .ro, 0, 0, 4294967295⟩]⟩,
  ⟨0x210034, 0x100, 1024, 0x4, 1, fun _ _ => [⟨0, 32, .ro, 0, 0, 4294967295⟩]⟩]

/-- The registers of block ENG (R44), as its chapter tabulates them. -/
def rowsENG : List Row := [
  ⟨0x548000, 0x4, 64, 0x4, 1, fun L _ => [⟨0, 7, .ro, ((L / 8) * 9 + L % 8), 0, 127⟩, ⟨7, 1, .ro, 1, 0, 1⟩, ⟨8, 1, .ro, 1, 0, 1⟩, ⟨16, 7, .ro, ((L / 8) * 9 + L % 8), 0, 127⟩, ⟨23, 1, .ro, 0, 0, 1⟩]⟩,
  ⟨0x548100, 0x4, 1, 0x4, 1, fun _ _ => [⟨0, 7, .ro, 64, 0, 127⟩, ⟨8, 4, .ro, 8, 0, 15⟩, ⟨16, 1, .ro, 0, 0, 1⟩]⟩,
  ⟨0x548110, 0x4, 1, 0x4, 1, fun _ _ => [⟨0, 11, .ro, 0, 0, 2047⟩, ⟨16, 8, .ro, 0, 0, 255⟩]⟩,
  ⟨0x548114, 0x4, 1, 0x4, 1, fun _ _ => [⟨0, 32, .ro, 0, 0, 4294967295⟩]⟩,
  ⟨0x548118, 0x4, 1, 0x4, 1, fun _ _ => [⟨0, 32, .ro, 0, 0, 4294967295⟩]⟩,
  ⟨0x548120, 0x4, 1, 0x4, 1, fun _ _ => [⟨0, 11, .ro, 0, 0, 2047⟩, ⟨16, 16, .ro, 0, 0, 65535⟩]⟩,
  ⟨0x548124, 0x4, 1, 0x4, 1, fun _ _ => [⟨0, 9, .ro, 256, 0, 511⟩]⟩,
  ⟨0x500000, 0x1000, 72, 0x4, 1, fun p _ => [⟨0, 3, .ro, (if p % 9 = 8 then 2 else 1), 0, 7⟩, ⟨8, 6, .ro, (if p % 9 = 8 then 0 else (p / 9) * 8 + p % 9), 0, 63⟩, ⟨16, 3, .ro, (p / 9), 0, 7⟩, ⟨20, 4, .ro, (p % 9), 0, 15⟩]⟩,
  ⟨0x500004, 0x1000, 72, 0x4, 1, fun _ _ => [⟨0, 16, .ro, 15625, 0, 65535⟩]⟩,
  ⟨0x500010, 0x1000, 72, 0x4, 1, fun _ _ => [⟨0, 32, .ro, 0, 0, 4294967295⟩]⟩,
  ⟨0x500014, 0x1000, 72, 0x4, 1, fun _ _ => [⟨0, 32, .ro, 0, 0, 4294967295⟩]⟩,
  ⟨0x500018, 0x1000, 72, 0x4, 1, fun _ _ => [⟨0, 16, .ro, 0, 0, 65535⟩, ⟨16, 16, .ro, 0, 0, 65535⟩]⟩]

/-- The registers of block SCH (R44), as its chapter tabulates them. -/
def rowsSCH : List Row := [
  ⟨0x400000, 0x4, 1, 0x4, 1, fun _ _ => [⟨0, 32, .ro, 0, 0, 4294967295⟩]⟩,
  ⟨0x400004, 0x4, 1, 0x4, 1, fun _ _ => [⟨0, 32, .ro, 0, 0, 4294967295⟩]⟩,
  ⟨0x400010, 0x10, 2, 0x4, 1, fun _ _ => [⟨0, 3, .ro, 0, 0, 7⟩, ⟨3, 1, .ro, 0, 0, 1⟩, ⟨4, 4, .ro, 0, 0, 15⟩, ⟨8, 2, .ro, 0, 0, 3⟩, ⟨10, 1, .ro, 0, 0, 1⟩]⟩,
  ⟨0x400014, 0x10, 2, 0x4, 1, fun _ _ => [⟨0, 32, .ro, 0, 0, 4294967295⟩]⟩,
  ⟨0x400018, 0x10, 2, 0x4, 1, fun _ _ => [⟨0, 32, .ro, 0, 0, 4294967295⟩]⟩,
  ⟨0x40001C, 0x10, 2, 0x4, 1, fun _ _ => [⟨0, 32, .ro, 0, 0, 4294967295⟩]⟩,
  ⟨0x400030, 0x4, 1, 0x4, 1, fun _ _ => [⟨0, 1, .ro, 0, 0, 1⟩, ⟨1, 1, .ro, 0, 0, 1⟩, ⟨2, 1, .ro, 0, 0, 1⟩, ⟨3, 1, .ro, 0, 0, 1⟩]⟩,
  ⟨0x400034, 0x4, 1, 0x4, 1, fun _ _ => [⟨0, 32, .ro, 0, 0, 4294967295⟩]⟩,
  ⟨0x400038, 0x4, 1, 0x4, 1, fun _ _ => [⟨0, 32, .ro, 0, 0, 4294967295⟩]⟩,
  ⟨0x400040, 0x4, 1, 0x4, 1, fun _ _ => [⟨0, 1, .w1s, 0, 0, 1⟩, ⟨1, 1, .ro, 0, 0, 1⟩, ⟨2, 1, .w1c, 0, 0, 1⟩]⟩,
  ⟨0x400080, 0x4, 24, 0x4, 1, fun _ _ => [⟨0, 32, .wo, 0, 0, 4294967295⟩]⟩,
  ⟨0x400100, 0x4, 8, 0x4, 1, fun _ _ => [⟨0, 16, .ro, 0, 0, 65535⟩, ⟨16, 16, .ro, 0, 0, 65535⟩]⟩,
  ⟨0x400140, 0x4, 9, 0x4, 1, fun _ _ => [⟨0, 32, .ro, 0, 0, 4294967295⟩]⟩,
  ⟨0x400180, 0x4, 1, 0x4, 1, fun _ _ => [⟨0, 8, .ro, 0, 0, 255⟩]⟩]

/-- The registers of block JNL (R44), as its chapter tabulates them. -/
def rowsJNL : List Row := [
  ⟨0x600800, 0x4, 1, 0x4, 1, fun _ _ => [⟨0, 17, .ro, 0, 0, 131071⟩, ⟨17, 1, .ro, 0, 0, 1⟩, ⟨18, 1, .w1c, 0, 0, 1⟩]⟩,
  ⟨0x600804, 0x4, 1, 0x4, 1, fun _ _ => [⟨0, 32, .ro, 0, 0, 4294967295⟩]⟩,
  ⟨0x600808, 0x4, 1, 0x4, 1, fun _ _ => [⟨0, 32, .ro, 0, 0, 4294967295⟩]⟩,
  ⟨0x600810, 0x4, 1, 0x4, 1, fun _ _ => [⟨0, 17, .ro, 0, 0, 131071⟩]⟩,
  ⟨0x600814, 0x4, 1, 0x4, 1, fun _ _ => [⟨0, 32, .ro, 0, 0, 4294967295⟩]⟩,
  ⟨0x600820, 0x4, 1, 0x4, 1, fun _ _ => [⟨0, 16, .ro, 0, 0, 65535⟩]⟩,
  ⟨0x600000, 0x4, 1, 0x4, 1, fun _ _ => [⟨20, 12, .rw, 0, 0, 4095⟩]⟩,
  ⟨0x600004, 0x4, 1, 0x4, 1, fun _ _ => [⟨0, 2, .rw, 0, 0, 3⟩]⟩,
  ⟨0x600008, 0x4, 1, 0x4, 1, fun _ _ => [⟨0, 4, .rw, 8, 1, 8⟩]⟩,
  ⟨0x600010, 0x4, 1, 0x4, 1, fun _ _ => [⟨0, 11, .rw, 200, 10, 2000⟩, ⟨16, 8, .rw, 16, 1, 255⟩]⟩,
  ⟨0x600020, 0x4, 1, 0x4, 1, fun _ _ => [⟨0, 19, .ro, 0, 0, 524287⟩, ⟨19, 1, .w1c, 0, 0, 1⟩]⟩,
  ⟨0x600024, 0x4, 1, 0x4, 1, fun _ _ => [⟨0, 19, .ro, 262144, 0, 524287⟩]⟩,
  ⟨0x600028, 0x4, 1, 0x4, 1, fun _ _ => [⟨0, 19, .ro, 0, 0, 524287⟩]⟩,
  ⟨0x600030, 0x4, 5, 0x4, 1, fun _ _ => [⟨0, 32, .ro, 0, 0, 4294967295⟩]⟩,
  ⟨0x600050, 0x4, 1, 0x4, 1, fun _ _ => [⟨0, 32, .ro, 0, 0, 4294967295⟩]⟩,
  ⟨0x600054, 0x4, 1, 0x4, 1, fun _ _ => [⟨0, 32, .ro, 0, 0, 4294967295⟩]⟩,
  ⟨0x600060, 0x4, 1, 0x4, 1, fun _ _ => [⟨0, 10, .ro, 0, 0, 1023⟩, ⟨16, 16, .ro, 0, 0, 65535⟩]⟩]

/-- The registers of block LNK (R44), as its chapter tabulates them. -/
def rowsLNK : List Row := [
  ⟨0x800000, 0x1000, 512, 0x4, 1, fun _ _ => [⟨0, 1, .rw, 1, 0, 1⟩, ⟨1, 1, .wo, 0, 0, 1⟩, ⟨2, 2, .rw, 0, 0, 2⟩]⟩,
  ⟨0x800004, 0x1000, 512, 0x4, 1, fun _ _ => [⟨0, 3, .ro, 0, 0, 7⟩, ⟨3, 1, .ro, 0, 0, 1⟩, ⟨4, 1, .ro, 0, 0, 1⟩, ⟨5, 1, .ro, 0, 0, 1⟩, ⟨6, 1, .ro, 0, 0, 1⟩, ⟨7, 1, .ro, 0, 0, 1⟩, ⟨8, 2, .ro, 0, 0, 3⟩, ⟨10, 2, .ro, 0, 0, 3⟩, ⟨12, 3, .ro, 0, 0, 7⟩, ⟨16, 2, .ro, 3, 0, 3⟩]⟩,
  ⟨0x800008, 0x1000, 512, 0x4, 1, fun _ _ => [⟨0, 4, .ro, 0, 0, 15⟩, ⟨4, 5, .ro, 0, 0, 31⟩, ⟨16, 16, .ro, 0, 0, 65535⟩]⟩,
  ⟨0x800010, 0x1000, 512, 0x4, 1, fun _ _ => [⟨0, 1, .w1c, 0, 0, 1⟩, ⟨1, 1, .ro, 0, 0, 1⟩, ⟨2, 1, .ro, 0, 0, 1⟩, ⟨3, 1, .ro, 0, 0, 1⟩, ⟨4, 3, .ro, 0, 0, 7⟩]⟩,
  ⟨0x800020, 0x1000, 512, 0x4, 1, fun _ _ => [⟨0, 32, .ro, 0, 0, 4294967295⟩]⟩,
  ⟨0x800024, 0x1000, 512, 0x4, 1, fun _ _ => [⟨0, 32, .ro, 0, 0, 4294967295⟩]⟩,
  ⟨0x800030, 0x1000, 512, 0x4, 1, fun _ _ => [⟨0, 2, .ro, 0, 0, 3⟩]⟩,
  ⟨0x800034, 0x1000, 512, 0x4, 1, fun _ _ => [⟨0, 32, .ro, 0, 0, 4294967295⟩]⟩,
  ⟨0x800038, 0x1000, 512, 0x4, 1, fun _ _ => [⟨0, 32, .ro, 0, 0, 4294967295⟩]⟩,
  ⟨0x800040, 0x1000, 512, 0x4, 1, fun _ _ => [⟨0, 11, .ro, 0, 0, 2047⟩, ⟨16, 11, .ro, 0, 0, 2047⟩]⟩,
  ⟨0x800044, 0x1000, 512, 0x4, 1, fun _ _ => [⟨0, 32, .ro, 0, 0, 4294967295⟩]⟩,
  ⟨0x800048, 0x1000, 512, 0x4, 1, fun _ _ => [⟨0, 32, .ro, 0, 0, 4294967295⟩]⟩,
  ⟨0x80004C, 0x1000, 512, 0x4, 1, fun _ _ => [⟨0, 12, .ro, 0, 0, 4095⟩, ⟨16, 4, .ro, 0, 0, 15⟩]⟩,
  ⟨0x800050, 0x1000, 512, 0x4, 1, fun _ _ => [⟨0, 4, .ro, 0, 0, 15⟩, ⟨16, 16, .ro, 0, 0, 65535⟩]⟩,
  ⟨0x800054, 0x1000, 512, 0x4, 1, fun _ _ => [⟨0, 11, .ro, 0, 0, 2047⟩, ⟨16, 8, .ro, 0, 0, 255⟩, ⟨24, 8, .ro, 0, 0, 255⟩]⟩,
  ⟨0x800058, 0x1000, 512, 0x4, 1, fun _ _ => [⟨0, 11, .ro, 0, 0, 2047⟩]⟩,
  ⟨0x80005C, 0x1000, 512, 0x4, 1, fun _ _ => [⟨0, 16, .ro, 0, 0, 65535⟩, ⟨16, 16, .ro, 0, 0, 65535⟩]⟩,
  ⟨0x800100, 0x1000, 512, 0x4, 64, fun _ _ => [⟨0, 32, .ro, 0, 0, 4294967295⟩]⟩,
  ⟨0xA00000, 0x4, 1, 0x4, 1, fun _ _ => [⟨0, 8, .rw, 8, 2, 64⟩, ⟨8, 8, .rw, 8, 1, 32⟩, ⟨16, 8, .rw, 4, 1, 32⟩, ⟨24, 8, .rw, 10, 1, 100⟩]⟩,
  ⟨0xA00004, 0x4, 1, 0x4, 1, fun _ _ => [⟨0, 10, .rw, 500, 10, 1000⟩, ⟨10, 4, .rw, 4, 0, 15⟩]⟩,
  ⟨0xA00008, 0x4, 1, 0x4, 1, fun _ _ => [⟨0, 14, .rw, 100, 1, 10000⟩]⟩,
  ⟨0xA00010, 0x4, 1, 0x4, 1, fun _ _ => [⟨0, 32, .w1c, 0, 0, 4294967295⟩]⟩,
  ⟨0xA00014, 0x4, 1, 0x4, 1, fun _ _ => [⟨0, 32, .w1c, 0, 0, 4294967295⟩]⟩,
  ⟨0xA00018, 0x4, 1, 0x4, 1, fun _ _ => [⟨0, 32, .ro, 0, 0, 4294967295⟩]⟩,
  ⟨0xA0001C, 0x4, 1, 0x4, 1, fun _ _ => [⟨0, 32, .ro, 0, 0, 4294967295⟩]⟩,
  ⟨0xA00020, 0x4, 1, 0x4, 1, fun _ _ => [⟨0, 12, .rw, 64, 1, 4095⟩, ⟨16, 8, .rw, 4, 2, 32⟩, ⟨24, 8, .rw, 2, 1, 64⟩]⟩,
  ⟨0xA00024, 0x4, 1, 0x4, 1, fun _ _ => [⟨0, 8, .rw, 8, 2, 255⟩, ⟨16, 14, .rw, 100, 10, 10000⟩]⟩,
  ⟨0xA00028, 0x4, 1, 0x4, 1, fun _ _ => [⟨0, 10, .rw, 50, 1, 1000⟩, ⟨16, 10, .rw, 50, 1, 1000⟩]⟩]

/-- The registers of block BRG (R44), as its chapter tabulates them. -/
def rowsBRG : List Row := [
  ⟨0x1000000, 0x4, 1, 0x4, 1, fun _ _ => [⟨0, 10, .rw, 40, 1, 640⟩]⟩,
  ⟨0x1000004, 0x4, 1, 0x4, 1, fun _ _ => [⟨0, 16, .rw, 250, 4, 62500⟩, ⟨16, 10, .rw, 25, 1, 1000⟩]⟩,
  ⟨0x1000008, 0x4, 1, 0x4, 1, fun _ _ => [⟨0, 10, .rw, 10, 1, 1000⟩]⟩,
  ⟨0x1000010, 0x4, 1, 0x4, 1, fun _ _ => [⟨0, 2, .rw, 2, 0, 3⟩, ⟨24, 3, .rw, 0, 0, 7⟩, ⟨28, 4, .rw, 0, 0, 15⟩]⟩,
  ⟨0x1000014, 0x4, 1, 0x4, 1, fun _ _ => [⟨0, 7, .rw, 0, 0, 127⟩, ⟨8, 10, .rw, 0, 0, 1023⟩]⟩,
  ⟨0x1000020, 0x4, 1, 0x4, 1, fun _ _ => [⟨0, 32, .ro, 0, 0, 4294967295⟩]⟩,
  ⟨0x1000024, 0x4, 1, 0x4, 1, fun _ _ => [⟨0, 32, .ro, 0, 0, 4294967295⟩]⟩,
  ⟨0x1000040, 0x4, 1, 0x4, 1, fun _ _ => [⟨0, 9, .ro, 0, 0, 511⟩, ⟨16, 8, .ro, 0, 0, 255⟩, ⟨30, 1, .ro, 0, 0, 1⟩, ⟨31, 1, .ro, 0, 0, 1⟩]⟩,
  ⟨0x1000100, 0x4, 64, 0x4, 1, fun _ _ => [⟨0, 2, .rw, 3, 0, 3⟩, ⟨2, 2, .rw, 3, 0, 3⟩, ⟨4, 1, .ro, 0, 0, 1⟩, ⟨5, 1, .w1c, 0, 0, 1⟩]⟩,
  ⟨0x1010000, 0x2000, 8, 0x20, 256, fun _ _ => [⟨0, 1, .rw, 0, 0, 1⟩, ⟨1, 1, .rw, 0, 0, 1⟩, ⟨2, 1, .rw, 0, 0, 1⟩, ⟨3, 1, .rw, 0, 0, 1⟩, ⟨8, 6, .rw, 0, 0, 63⟩, ⟨16, 9, .rw, 0, 0, 511⟩]⟩,
  ⟨0x1010004, 0x2000, 8, 0x20, 256, fun _ _ => [⟨0, 3, .ro, 0, 0, 7⟩, ⟨4, 4, .ro, 0, 0, 15⟩, ⟨16, 16, .ro, 0, 0, 65535⟩]⟩,
  ⟨0x1010008, 0x2000, 8, 0x20, 256, fun _ _ => [⟨12, 20, .rw, 0, 0, 1048575⟩]⟩,
  ⟨0x101000C, 0x2000, 8, 0x20, 256, fun _ _ => [⟨0, 8, .rw, 0, 0, 255⟩]⟩,
  ⟨0x1010010, 0x2000, 8, 0x20, 256, fun _ _ => [⟨12, 20, .rw, 0, 0, 1048575⟩]⟩,
  ⟨0x1010014, 0x2000, 8, 0x20, 256, fun _ _ => [⟨0, 10, .rw, 0, 0, 1023⟩, ⟨16, 11, .rw, 0, 0, 2047⟩]⟩,
  ⟨0x1020000, 0x8, 8192, 0x4, 1, fun _ _ => [⟨0, 2, .rw, 0, 0, 3⟩, ⟨2, 1, .rw, 0, 0, 1⟩, ⟨4, 9, .rw, 0, 0, 511⟩, ⟨16, 8, .rw, 0, 0, 255⟩, ⟨24, 3, .rw, 0, 0, 7⟩, ⟨28, 4, .rw, 0, 0, 15⟩]⟩,
  ⟨0x1020004, 0x8, 8192, 0x4, 1, fun _ _ => [⟨0, 7, .rw, 0, 0, 127⟩, ⟨8, 10, .rw, 0, 0, 1023⟩]⟩,
  ⟨0x1030000, 0x4, 512, 0x4, 1, fun _ _ => [⟨0, 9, .ro, 0, 0, 511⟩, ⟨16, 9, .ro, 0, 0, 511⟩, ⟨25, 4, .ro, 0, 0, 15⟩]⟩,
  ⟨0x1031000, 0x4, 512, 0x4, 1, fun _ _ => [⟨0, 32, .ro, 0, 0, 4294967295⟩]⟩]

/-- The registers of block BAY (R44), as its chapter tabulates them. -/
def rowsBAY : List Row := [
  ⟨0x1400000, 0x1000, 64, 0x4, 1, fun _ _ => [⟨0, 1, .rw, 0, 0, 1⟩]⟩,
  ⟨0x1400004, 0x1000, 64, 0x4, 1, fun _ _ => [⟨0, 3, .ro, 0, 0, 7⟩, ⟨3, 1, .ro, 0, 0, 1⟩, ⟨4, 1, .ro, 0, 0, 1⟩, ⟨5, 1, .ro, 0, 0, 1⟩, ⟨6, 1, .ro, 0, 0, 1⟩, ⟨7, 1, .ro, 0, 0, 1⟩, ⟨8, 3, .ro, 0, 0, 7⟩, ⟨11, 1, .ro, 0, 0, 1⟩, ⟨12, 1, .ro, 0, 0, 1⟩, ⟨13, 1, .ro, 0, 0, 1⟩, ⟨16, 1, .ro, 0, 0, 1⟩, ⟨17, 1, .ro, 0, 0, 1⟩, ⟨18, 2, .ro, 0, 0, 3⟩]⟩,
  ⟨0x1400008, 0x1000, 64, 0x4, 1, fun _ _ => [⟨0, 8, .rw, 48, 4, 128⟩, ⟨8, 9, .rw, 8, 1, 256⟩]⟩,
  ⟨0x140000C, 0x1000, 64, 0x4, 1, fun _ _ => [⟨0, 7, .rw, 32, 2, 64⟩, ⟨8, 8, .rw, 10, 1, 255⟩, ⟨16, 3, .rw, 3, 0, 7⟩]⟩,
  ⟨0x1400010, 0x1000, 64, 0x4, 1, fun _ _ => [⟨0, 16, .ro, 0, 0, 65535⟩]⟩,
  ⟨0x1400014, 0x1000, 64, 0x4, 1, fun _ _ => [⟨0, 16, .ro, 0, 0, 65535⟩]⟩,
  ⟨0x1400018, 0x1000, 64, 0x4, 1, fun _ _ => [⟨0, 16, .ro, 0, 0, 65535⟩]⟩,
  ⟨0x140001C, 0x1000, 64, 0x4, 1, fun _ _ => [⟨0, 16, .ro, 0, 0, 65535⟩]⟩,
  ⟨0x1400020, 0x1000, 64, 0x4, 1, fun _ _ => [⟨0, 16, .ro, 0, 0, 65535⟩]⟩,
  ⟨0x1400024, 0x1000, 64, 0x4, 1, fun _ _ => [⟨0, 20, .ro, 0, 0, 1048575⟩]⟩,
  ⟨0x1400028, 0x1000, 64, 0x4, 1, fun _ _ => [⟨0, 32, .ro, 0, 0, 4294967295⟩]⟩,
  ⟨0x140002C, 0x1000, 64, 0x4, 1, fun _ _ => [⟨0, 16, .ro, 0, 0, 65535⟩]⟩,
  ⟨0x1400030, 0x1000, 64, 0x4, 1, fun _ _ => [⟨0, 32, .ro, 0, 0, 4294967295⟩]⟩,
  ⟨0x1400034, 0x1000, 64, 0x4, 1, fun _ _ => [⟨0, 16, .ro, 0, 0, 65535⟩]⟩,
  ⟨0x1400038, 0x1000, 64, 0x4, 1, fun _ _ => [⟨0, 32, .ro, 0, 0, 4294967295⟩]⟩,
  ⟨0x140003C, 0x1000, 64, 0x4, 1, fun _ _ => [⟨0, 16, .ro, 0, 0, 65535⟩]⟩,
  ⟨0x1400040, 0x1000, 64, 0x4, 1, fun _ _ => [⟨0, 12, .ro, 0, 0, 4095⟩, ⟨16, 12, .ro, 0, 0, 4095⟩]⟩,
  ⟨0x1400044, 0x1000, 64, 0x4, 1, fun _ _ => [⟨0, 12, .ro, 0, 0, 4095⟩, ⟨16, 12, .ro, 0, 0, 4095⟩]⟩,
  ⟨0x1400048, 0x1000, 64, 0x4, 1, fun _ _ => [⟨0, 16, .ro, 0, 0, 65535⟩, ⟨16, 16, .ro, 0, 0, 65535⟩]⟩,
  ⟨0x1440000, 0x4, 1, 0x4, 1, fun _ _ => [⟨0, 7, .rw, 16, 1, 64⟩, ⟨16, 7, .ro, 0, 0, 127⟩]⟩,
  ⟨0x1440004, 0x4, 1, 0x4, 1, fun _ _ => [⟨0, 8, .rw, 10, 1, 255⟩, ⟨8, 10, .rw, 50, 5, 500⟩]⟩,
  ⟨0x1440010, 0x8, 3, 0x4, 1, fun n _ => [⟨0, 16, .rw, (match n with | 0 => 0x64 | 1 => 0x258 | _ => 0x5DC), 0, 65535⟩]⟩,
  ⟨0x1440014, 0x8, 3, 0x4, 1, fun n _ => [⟨0, 20, .rw, (match n with | 0 => 0x14 | 1 => 0x3E8 | _ => 0xC350), 1, 1048575⟩]⟩,
  ⟨0x1440028, 0x4, 1, 0x4, 1, fun _ _ => [⟨0, 10, .rw, 320, 0, 1023⟩, ⟨16, 10, .rw, 16, 0, 1023⟩]⟩,
  ⟨0x1440030, 0x4, 1, 0x4, 1, fun _ _ => [⟨0, 32, .ro, 0, 0, 4294967295⟩]⟩,
  ⟨0x1440034, 0x4, 1, 0x4, 1, fun _ _ => [⟨0, 32, .ro, 0, 0, 4294967295⟩]⟩,
  ⟨0x1440038, 0x4, 1, 0x4, 1, fun _ _ => [⟨0, 32, .ro, 0, 0, 4294967295⟩]⟩,
  ⟨0x144003C, 0x4, 1, 0x4, 1, fun _ _ => [⟨0, 32, .ro, 0, 0, 4294967295⟩]⟩,
  ⟨0x1440040, 0x4, 1, 0x4, 1, fun _ _ => [⟨0, 32, .ro, 0, 0, 4294967295⟩]⟩,
  ⟨0x1440044, 0x4, 1, 0x4, 1, fun _ _ => [⟨0, 32, .ro, 0, 0, 4294967295⟩]⟩]

/-- The registers of block AON (R44), as its chapter tabulates them. -/
def rowsAON : List Row := [
  ⟨0x1500000, 0x4, 1, 0x4, 1, fun _ _ => [⟨0, 3, .ro, 0, 0, 7⟩, ⟨3, 1, .ro, 0, 0, 1⟩, ⟨4, 2, .ro, 0, 0, 3⟩]⟩,
  ⟨0x1500008, 0x4, 1, 0x4, 1, fun _ _ => [⟨0, 14, .rw, 2000, 10, 10000⟩, ⟨14, 1, .rw, 0, 0, 1⟩, ⟨16, 10, .rw, 100, 10, 1000⟩]⟩,
  ⟨0x150000C, 0x4, 1, 0x4, 1, fun _ _ => [⟨0, 8, .rw, 10, 2, 100⟩, ⟨16, 12, .rw, 1000, 10, 4000⟩]⟩,
  ⟨0x1500010, 0x4, 1, 0x4, 1, fun _ _ => [⟨0, 1, .wo, 0, 0, 1⟩]⟩,
  ⟨0x1500020, 0x4, 1, 0x4, 1, fun _ _ => [⟨0, 6, .ro, 0, 0, 63⟩, ⟨8, 6, .w1c, 0, 0, 63⟩, ⟨16, 8, .ro, 0, 0, 255⟩, ⟨24, 2, .ro, 0, 0, 3⟩]⟩,
  ⟨0x1500024, 0x4, 1, 0x4, 1, fun _ _ => [⟨0, 32, .ro, 0, 0, 4294967295⟩]⟩,
  ⟨0x1500030, 0x4, 1, 0x4, 1, fun _ _ => [⟨0, 1, .rw, 1, 0, 1⟩, ⟨1, 1, .rw, 0, 0, 1⟩, ⟨2, 1, .rw, 0, 0, 1⟩, ⟨8, 8, .rw, 0, 0, 255⟩, ⟨16, 8, .rw, 0, 0, 255⟩]⟩,
  ⟨0x1500040, 0x4, 1, 0x4, 1, fun _ _ => [⟨0, 16, .ro, 5460, 0, 65535⟩, ⟨16, 16, .ro, 9500, 0, 65535⟩]⟩,
  ⟨0x1500050, 0x4, 1, 0x4, 1, fun _ _ => [⟨0, 4, .ro, 0, 0, 15⟩, ⟨8, 9, .ro, 0, 0, 511⟩, ⟨31, 1, .ro, 0, 0, 1⟩]⟩,
  ⟨0x1500054, 0x4, 1, 0x4, 1, fun _ _ => [⟨0, 32, .ro, 0, 0, 4294967295⟩]⟩,
  ⟨0x1500058, 0x4, 1, 0x4, 1, fun _ _ => [⟨0, 32, .ro, 0, 0, 4294967295⟩]⟩,
  ⟨0x150005C, 0x4, 1, 0x4, 1, fun _ _ => [⟨0, 6, .w1c, 0, 0, 63⟩]⟩,
  ⟨0x1500060, 0x4, 1, 0x4, 1, fun _ _ => [⟨0, 32, .rw, 4294967295, 0, 4294967295⟩]⟩,
  ⟨0x1500064, 0x4, 1, 0x4, 1, fun _ _ => [⟨0, 32, .rw, 4294967295, 0, 4294967295⟩]⟩,
  ⟨0x1500070, 0x4, 1, 0x4, 1, fun _ _ => [⟨0, 32, .ro, 0, 0, 4294967295⟩]⟩,
  ⟨0x1500074, 0x4, 1, 0x4, 1, fun _ _ => [⟨0, 32, .ro, 0, 0, 4294967295⟩]⟩,
  ⟨0x1500078, 0x4, 1, 0x4, 1, fun _ _ => [⟨0, 32, .ro, 0, 0, 4294967295⟩]⟩,
  ⟨0x150007C, 0x4, 1, 0x4, 1, fun _ _ => [⟨0, 2, .ro, 0, 0, 3⟩, ⟨4, 4, .ro, 0, 0, 15⟩]⟩,
  ⟨0x1500080, 0x4, 1, 0x4, 1, fun _ _ => [⟨0, 1, .w1c, 0, 0, 1⟩, ⟨1, 1, .w1c, 0, 0, 1⟩, ⟨2, 1, .ro, 0, 0, 1⟩]⟩,
  ⟨0x1500034, 0x4, 1, 0x4, 1, fun _ _ => [⟨0, 8, .rw, 0xC8, 120, 240⟩]⟩,
  ⟨0x1500038, 0x4, 1, 0x4, 1, fun _ _ => [⟨0, 8, .rw, 0x50, 8, 255⟩, ⟨8, 1, .rw, 0, 0, 1⟩]⟩]

/-- The registers of block EVC (R44), as its chapter tabulates them. -/
def rowsEVC : List Row := [
  ⟨0x1600000, 0x4, 1, 0x4, 1, fun _ _ => [⟨0, 6, .ro, 0, 0, 63⟩, ⟨6, 1, .w1c, 0, 0, 1⟩]⟩,
  ⟨0x1600100, 0x4, 16, 0x4, 1, fun _ _ => [⟨0, 32, .w1c, 0, 0, 4294967295⟩]⟩,
  ⟨0x1600140, 0x4, 16, 0x4, 1, fun _ _ => [⟨0, 32, .ro, 0, 0, 4294967295⟩]⟩,
  ⟨0x1601000, 0x8, 512, 0x4, 1, fun s _ => [⟨0, 4, (if srcExists s then .rw else .ro), (srcPriority s), 0, 15⟩, ⟨8, 8, (if srcExists s then .rw else .ro), (if srcExists s then 3 else 0), 0, 255⟩, ⟨16, 1, (if srcExists s then .rw else .ro), 0, 0, 1⟩, ⟨17, 1, .ro, (if srcLevel s then 1 else 0), 0, 1⟩, ⟨18, 1, .ro, (if srcEligible s then 1 else 0), 0, 1⟩]⟩,
  ⟨0x1601004, 0x8, 512, 0x4, 1, fun s _ => [⟨0, 8, (if srcExists s && !srcLevel s then .rw else .ro), (if srcExists s && !srcLevel s then 1 else 0), 1, 255⟩, ⟨8, 16, (if srcExists s && !srcLevel s then .rw else .ro), 0, 0, 16000⟩]⟩,
  ⟨0x1610000, 0x1000, 8, 0x4, 1, fun _ _ => [⟨0, 4, .rw, 0, 0, 15⟩]⟩,
  ⟨0x1610004, 0x1000, 8, 0x4, 1, fun _ _ => [⟨0, 10, .ro, 0, 0, 1023⟩, ⟨12, 2, .ro, 0, 0, 3⟩, ⟨16, 4, .ro, 0, 0, 15⟩]⟩,
  ⟨0x1610008, 0x1000, 8, 0x4, 1, fun _ _ => [⟨0, 10, .wo, 0, 0, 1023⟩]⟩,
  ⟨0x161000C, 0x1000, 8, 0x4, 1, fun _ _ => [⟨0, 4, .ro, 0, 0, 15⟩, ⟨4, 4, .ro, 0, 0, 15⟩, ⟨8, 1, .ro, 0, 0, 1⟩, ⟨9, 1, .w1c, 0, 0, 1⟩, ⟨16, 9, .ro, 0, 0, 511⟩]⟩]

/-- The registers of block SPR (R44), as its chapter tabulates them. -/
def rowsSPR : List Row := [
  ⟨0x1800000, 0x4, 1, 0x4, 1, fun _ _ => [⟨0, 9, .ro, 255, 0, 511⟩, ⟨16, 4, .ro, 15, 0, 15⟩]⟩,
  ⟨0x1800010, 0x4, 8, 0x4, 1, fun _ _ => [⟨0, 2, .ro, 0, 0, 3⟩, ⟨2, 2, .ro, 0, 0, 3⟩]⟩,
  ⟨0x1800030, 0x4, 8, 0x4, 1, fun _ _ => [⟨0, 3, .ro, 0, 0, 7⟩, ⟨3, 1, .ro, 0, 0, 1⟩]⟩,
  ⟨0x1800050, 0x4, 16, 0x4, 1, fun _ _ => [⟨0, 16, .ro, 0, 0, 65535⟩, ⟨16, 16, .ro, 0, 0, 65535⟩]⟩,
  ⟨0x1800100, 0x4, 1, 0x4, 1, fun _ _ => [⟨0, 8, .ro, 0, 0, 255⟩, ⟨8, 8, .ro, 0, 0, 255⟩]⟩,
  ⟨0x1800110, 0x4, 1, 0x4, 1, fun _ _ => [⟨0, 4, .ro, 0, 0, 15⟩, ⟨4, 4, .ro, 0, 0, 15⟩, ⟨8, 10, .ro, 0, 0, 1023⟩, ⟨18, 1, .ro, 0, 0, 1⟩, ⟨19, 3, .ro, 0, 0, 7⟩]⟩,
  ⟨0x1800114, 0x4, 1, 0x4, 1, fun _ _ => [⟨0, 32, .ro, 0, 0, 4294967295⟩]⟩,
  ⟨0x1800120, 0x4, 1, 0x4, 1, fun _ _ => [⟨0, 4, .rw, 0, 0, 15⟩, ⟨4, 1, .wo, 0, 0, 1⟩, ⟨5, 1, .ro, 0, 0, 1⟩, ⟨6, 2, .ro, 0, 0, 3⟩]⟩]

/-- The registers of block MGT (R44), as its chapter tabulates them. -/
def rowsMGT : List Row := [
  ⟨0x1C00000, 0x4, 1, 0x4, 1, fun _ _ => [⟨0, 1, .ro, 0, 0, 1⟩, ⟨1, 1, .ro, 0, 0, 1⟩, ⟨2, 1, .ro, 0, 0, 1⟩, ⟨3, 1, .ro, 0, 0, 1⟩, ⟨4, 1, .ro, 0, 0, 1⟩, ⟨5, 1, .ro, 0, 0, 1⟩]⟩,
  ⟨0x1C00004, 0x4, 2, 0x4, 1, fun _ _ => [⟨0, 32, .ro, 0, 0, 4294967295⟩]⟩,
  ⟨0x1C00010, 0x4, 1, 0x4, 1, fun _ _ => [⟨0, 4, .rw, 3, 2, 15⟩]⟩,
  ⟨0x1C00018, 0x4, 1, 0x4, 1, fun _ _ => [⟨0, 20, .ro, 0, 0, 1048575⟩, ⟨20, 9, .ro, 0, 0, 511⟩]⟩,
  ⟨0x1C00020, 0x4, 1, 0x4, 1, fun _ _ => [⟨0, 32, .ro, 0, 0, 4294967295⟩]⟩,
  ⟨0x1C00024, 0x4, 1, 0x4, 1, fun _ _ => [⟨0, 32, .ro, 0, 0, 4294967295⟩]⟩]

/-- The registers of block MEM (R44), as its chapter tabulates them. -/
def rowsMEM : List Row := [
  ⟨0x708000, 0x4, 1, 0x4, 1, fun _ _ => [⟨0, 1, .rw, 1, 0, 1⟩, ⟨4, 5, .rw, 16, 12, 20⟩, ⟨9, 1, .rw, 0, 0, 1⟩]⟩,
  ⟨0x708004, 0x4, 1, 0x4, 1, fun _ _ => [⟨0, 1, .wo, 0, 0, 1⟩, ⟨1, 1, .ro, 0, 0, 1⟩, ⟨2, 2, .ro, 0, 0, 3⟩, ⟨4, 1, .w1c, 0, 0, 1⟩, ⟨16, 16, .ro, 0, 0, 65535⟩]⟩,
  ⟨0x708008, 0x4, 1, 0x4, 1, fun _ _ => [⟨0, 16, .ro, 0, 0, 65535⟩, ⟨16, 16, .ro, 0, 0, 65535⟩]⟩,
  ⟨0x70800C, 0x4, 1, 0x4, 1, fun _ _ => [⟨0, 16, .rw, 0, 0, 65535⟩, ⟨16, 16, .rw, 0, 0, 65535⟩]⟩]

/-- The rows of the block that holds BAR0 offset `a` (R44). -/
def rowsOf (a : Nat) : List Row :=
  if a < 0x100000 then rowsGLB
  else if a < 0x200000 then rowsHP
  else if a < 0x300000 then rowsSLC
  else if a < 0x400000 then rowsPERM
  else if a < 0x500000 then rowsSCH
  else if a < 0x600000 then rowsENG
  else if a < 0x700000 then rowsJNL
  else if a < 0x800000 then rowsMEM
  else if a < 0x1000000 then rowsLNK
  else if a < 0x1400000 then rowsBRG
  else if a < 0x1500000 then rowsBAY
  else if a < 0x1600000 then rowsAON
  else if a < 0x1800000 then rowsEVC
  else if a < 0x1C00000 then rowsSPR
  else rowsMGT

/-- The first row of a list that holds the register at `a`. -/
def findRow : List Row → Nat → Option (List RField)
  | [], _ => none
  | r :: rs, a =>
    match r.at a with
    | some f => some f
    | none => findRow rs a

/-- The fields of the register at BAR0 offset `a`; none where no register lies (R45). -/
def regFields (a : Nat) : Option (List RField) :=
  match unitAt a with
  | some u => faultFields u (a % 0x1000)
  | none => findRow (rowsOf a) a

/-- The Reset value of the field whose lowest bit is `lo`; 0 where there is none. -/
def resetOf : List RField → Nat → Nat
  | [], _ => 0
  | f :: r, lo => if f.lo = lo then f.reset else resetOf r lo

/-- What the field store reads at a key it does not hold: the field's Reset value (R7). -/
def resetField (k : Nat) : Nat :=
  match regFields (k / 32) with
  | some f => resetOf f (k % 32)
  | none => 0

end Sys2Proof.Machine
end

