-- ==== Sys2Proof/Machine/Tab.lean ====
section
/-! DEFINITION. Sparse tables by number, as lists of key and value in one canonical form: keys strictly rising, and no
entry equal to what an absent key reads as. -/
namespace Sys2Proof.Machine

/-- A sparse table: pairs of a key and a value. -/
abbrev Tab (α : Type) := List (Nat × α)

/-- The value at key `k`; a key with no entry reads as `z`. -/
def Tab.get {α : Type} (t : Tab α) (k : Nat) (z : α) : α :=
  match t with
  | [] => z
  | e :: r => if e.1 = k then e.2 else Tab.get r k z

/-- Every entry of key `k` taken out. -/
def Tab.drop {α : Type} (t : Tab α) (k : Nat) : Tab α :=
  match t with
  | [] => []
  | e :: r => if e.1 = k then Tab.drop r k else e :: Tab.drop r k

/-- `(k, v)` put before the first entry of a higher key. -/
def Tab.insert {α : Type} (t : Tab α) (k : Nat) (v : α) : Tab α :=
  match t with
  | [] => [(k, v)]
  | e :: r => if k < e.1 then (k, v) :: e :: r else e :: Tab.insert r k v

/-- The table with `v` at `k`; writing what an absent key reads as takes the entry out. -/
def Tab.set {α : Type} [DecidableEq α] (t : Tab α) (k : Nat) (v z : α) : Tab α :=
  if v = z then Tab.drop t k else Tab.insert (Tab.drop t k) k v

/-- The canonical form over the reading `z` of absent keys. -/
def Tab.wf {α : Type} [DecidableEq α] (z : Nat → α) : Tab α → Bool
  | [] => true
  | [e] => decide (e.2 ≠ z e.1)
  | e :: f :: r => decide (e.2 ≠ z e.1) && decide (e.1 < f.1) && Tab.wf z (f :: r)

/-- Every key that has an entry. -/
def Tab.keys {α : Type} (t : Tab α) : List Nat := t.map (·.1)

end Sys2Proof.Machine
end

