-- ==== Sys2Proof/Machine/State.lean ====
section
/-! DEFINITION. The state of the block as plain data: every register, queue, log, counter and pin the manual gives it, and
the queue of commands that wait. Registers stand in one store by field; what no register shows has a typed field. -/
namespace Sys2Proof.Machine

/-! ## Host side -/

/-- AER conditions the device reports on a port (R66). -/
inductive Aer where
  | poisoned | completionTimeout | unexpectedCompletion | malformed | flowControl | unsupportedRequest | completerAbort
  | correctedInternal | uncorrectableInternal (fatal : Bool)
  | receiverError | badTlp | badDllp | replayTimer | replayRollover
  deriving DecidableEq, Repr

/-- The header of an offending request, as the Header Log and the TLP Prefix Log hold it (R67): 0 a device read, 1 a read by
the host, 2 a write by the host, otherwise free; its address, length, requester and PASID. -/
structure TlpHdr where
  kind : Nat
  addr : Nat
  len : Nat
  reqId : Nat
  pasid : Option Nat
  deriving DecidableEq, Repr

/-- What the block puts out. Newest first in `Dev.out`. -/
inductive OutMsg where
  | hostWrite (port slice : Nat) (pasid : Option Nat) (relaxed noSnoop idBased : Bool) (addr : Nat) (data : List Byte)
  | hostRead (port slice : Nat) (pasid : Option Nat) (noSnoop idBased : Bool) (addr len : Nat)
  | msix (port vec : Nat)
  | notify (target : Nat)
  /-- An error message: severity 0 correctable, 1 non-fatal, 2 fatal. -/
  | aer (port : Nat) (e : Aer) (sev : Nat)
  /-- An LTR message: the snoop and no-snoop latencies in nanoseconds (R58). -/
  | ltr (port snoop noSnoop : Nat)
  | readReturn (port : Nat) (v : Nat)
  | readData (port : Nat) (data : List Byte)
  | unsupported (port : Nat)
  | completerAbort (port : Nat)
  | writeDone (port : Nat)
  | pmeToAck (port : Nat)
  /-- A flit of a link, on the lane it is distributed to (R275). -/
  | flit (link lane : Nat) (f : List Byte)
  /-- The alignment pattern and the training block that a lane sends from now on back to back, until the next of these (R280). -/
  | training (lane : Nat) (block : List Byte)
  | sideband (leds : List Nat)
  | pwrEn (on : Bool)
  | coreReturn (target : Nat) (v : Nat)
  | faultN (on : Bool)
  /-- VOUT_COMMAND to the VDD_CORE rail: PMBus address, page and set point in µV (R504, R533). -/
  | voutCommand (addr page uv : Nat)
  deriving DecidableEq, Repr

/-- A request held under EGRESS_HOLD or for want of PASID Enable (R39, R53), with the slice and the instar it belongs to (R85)
and, for a read, the number of the read (0 for others). -/
structure Held where
  slice : Nat
  instar : Nat
  msg : OutMsg
  read : Nat := 0
  /-- For a completion entry, the slot and acceptance number of the item, whose slot is released once it is issued (R257). -/
  entry : Option (Nat × Nat) := none
  deriving DecidableEq, Repr

/-- One host port's configuration space and link, as far as this manual gives them (R33–R62). -/
structure Port where
  linkUp : Bool := false
  perst : Bool := true
  bme : Bool := false
  mse : Bool := false
  pasidEn : Bool := false
  d3 : Bool := false
  relaxedEn : Bool := true
  noSnoopEn : Bool := true
  /-- IDO Request Enable (R38) and 10-Bit Tag Requester Enable (R37). -/
  idoEn : Bool := false
  tag10 : Bool := false
  reqId : Nat := 0
  msixEn : Bool := false
  fnMask : Bool := false
  /-- Vectors whose mask bit is 0; every vector is masked at reset. -/
  unmasked : List Nat := []
  /-- Pending bits set (R49). -/
  pba : List Nat := []
  /-- The MSI-X table's address and data words, by dword of the table. -/
  table : Tab Nat := []
  /-- Base-2 logarithm of the BAR4 size; 64 GiB at reset (R43). -/
  bar4 : Nat := 36
  uieMasked : Bool := true
  uieFatal : Bool := true
  aerStatus : List Aer := []
  /-- What else the host programs; the Header Log and TLP Prefix Log; the latencies last sent in an LTR message (R58, R67). -/
  ext : PortExt := {}
  hdrLog : Option TlpHdr := none
  ltrSent : Option (Nat × Nat) := none
  /-- The link is in L2/L3 Ready (R55). -/
  l23 : Bool := false
  /-- Egress held, oldest first (R53). -/
  held : List Held := []
  deriving DecidableEq, Repr

/-- Why a device read of host memory was issued. -/
inductive ReadFor where
  | record (slice page : Nat) (recheck : Bool)
  | desc (q count : Nat)
  | sgl (q : Nat)
  | payload (slot serial att off len : Nat)
  | moult (slice : Nat)
  | image (slot : Nat)
  | list (slot serial : Nat)
  /-- What is left of a ring or list read of a queue that has been disabled (R110). -/
  | dropped
  /-- The slice state image of a RESTORE_SLICE, and the firmware image of a FW_UPDATE. -/
  | sliceImage (slot serial : Nat)
  | firmware (slot serial : Nat)
  /-- The mirror (R411, R423). -/
  | mirror
  deriving DecidableEq, Repr

/-- A device read outstanding, made of as many requests as R35 needs, a tag each; one that waits for tags of its port (R37) is
not yet `sent`. A read held under EGRESS_HOLD has its tags and is not `issued`; `dead`: it was to be issued while the port could
not (R552), or its command's instar ended before it was (log entry 111). -/
structure HRead where
  port : Nat
  slice : Nat
  instar : Nat
  why : ReadFor
  addr : Nat
  len : Nat
  noSnoop : Bool
  sent : Bool
  uid : Nat := 0
  issued : Bool := true
  dead : Bool := false
  /-- It fails by an error of the port's own buffers, which is no DMA_FAIL (R66, R449). -/
  ecc : Bool := false
  /-- When it was issued (R66). -/
  since : Nat := 0
  /-- Its requests made and not completed, as address and length; the data that completed ones have brought (R37). -/
  reqs : List (Nat × Nat) := []
  got : List Byte := []
  /-- Bytes of the mirror that completed requests have brought, which are not kept here (R423). -/
  skip : Nat := 0
  deriving DecidableEq, Repr

/-- Bytes that completed requests have brought. -/
def HRead.there (r : HRead) : Nat := r.skip + r.got.length

/-- Bytes the requests outstanding ask for, and whether they are the read's last. -/
def HRead.outLen (r : HRead) : Nat := (r.reqs.map (·.2)).sum
def HRead.last (r : HRead) : Bool := decide (r.len ≤ r.there + r.outLen)

/-- It reads what an admin command works on, or the mirror. -/
def HRead.forCommand (r : HRead) : Bool :=
  match r.why with
  | .image _ | .sliceImage _ _ | .firmware _ _ | .mirror => true
  | _ => false

/-! ## Queues and slices -/

/-- A queue context (R102–R116). `state`: 0 DISABLED, 1 ENABLED, 2 DISABLING, 3 HALTED; `err`: DB_QSTATUS.ERR. -/
structure QCtx where
  sqBase : Nat := 0
  cqBase : Nat := 0
  recAddr : Nat := 0
  sqLog2 : Nat := 0
  cqLog2 : Nat := 0
  irqCount : Nat := 1
  irqTime : Nat := 0
  vecOff : Nat := 0
  noSnoop : Bool := false
  state : Nat := 0
  err : Nat := 0
  sqHead : Nat := 0
  cqTail : Nat := 0
  phase : Bool := true
  /-- SQ_PI and CQ_HEAD as last fetched, and HOLD. -/
  sqPi : Nat := 0
  cqHead : Nat := 0
  hold : Bool := false
  /-- The event-index entry last written: NUDGE_AT and ARMED. -/
  nudgeAt : Nat := 0
  armed : Bool := false
  coalCount : Nat := 0
  coalStart : Nat := 0
  /-- Descriptors read and neither accepted nor rejected, in ring order. -/
  fetched : List (BitVec 512) := []
  reading : Bool := false
  /-- The scatter list read for the descriptor at the head, once read. -/
  sgl : Option (List (Nat × Nat)) := none
  sglFail : Bool := false
  sglBusy : Bool := false
  /-- The re-read of R116 has been done for the present SQ_HEAD. -/
  rechecked : Bool := false
  /-- REC_ADDR when last enabled since the slice was created, restored or last moulted (R84). -/
  enabledRec : Option Nat := none
  /-- The producer index up to which a removed queue is served (R93). -/
  limit : Option Nat := none
  /-- A completion-entry write has failed: no further entry goes to the ring (R118). -/
  cqDead : Bool := false
  deriving DecidableEq, Repr

/-- A moult under way (R84). `step` is the step reached; `cmd` the admin command's slot; `reset` when a Function Level
Reset or PERST_N caused it; `destroy` when DESTROY_SLICE asked for it. -/
structure Moult where
  step : Nat
  cmds : List Nat
  reset : Bool
  destroy : Option Nat
  failed : Bool
  deriving DecidableEq, Repr

/-- A SET_SHARE accepted and waiting for its boundary (R92). -/
structure ShareReq where
  slot : Nat
  mask : Nat
  runs : Nat
  stage : Nat
  jnl : Nat
  qlast : Nat
  deriving DecidableEq, Repr

/-- What a slice holds beside its entry of the slice table. -/
structure SCtx where
  accepted : Nat := 0
  completed : Nat := 0
  /-- DB_QSEL of the slice's doorbell page (R106). -/
  qsel : Nat := 0
  /-- The epoch of the last fetch of all record pages, and pages still to fetch for the due fetch (R113, R175). -/
  lastPoll : Nat := 0
  duePages : List Nat := []
  /-- Staging bytes in use (R164). -/
  stageUse : Nat := 0
  moult : Option Moult := none
  /-- The slot of the QUIESCE_SLICE or COCOON_SLICE under way, and whether it cocoons. -/
  drainCmd : Option (Nat × Bool) := none
  share : Option ShareReq := none
  deriving DecidableEq, Repr

/-! ## The journal and the operations -/

/-- A journal entry (R254), with the descriptor as accepted, and the acceptance number that orders items. -/
structure JEntry where
  desc : BitVec 512 := 0
  acceptTime : Nat := 0
  gen : Nat := 0
  slice : Nat := 0
  instar : Nat := 0
  /-- The codes of R256. -/
  state : Nat := 0
  queue : Nat := 0
  done : Nat := 0
  stripeDone : Nat := 0
  col : Nat := 0
  dropped : Option Nat := none
  decoded : Bool := false
  staged : Bool := false
  held : Bool := false
  abortReq : Bool := false
  lost : Nat := 0
  result : Nat := 0
  resultHi : Nat := 0
  status : Nat := 0
  replays : Nat := 0
  trigger : Nat := 0
  stage : Nat := 0
  sgl : List (Nat × Nat) := []
  serial : Nat := 0
  /-- A parked entry names a plan that a switch has changed (R204). -/
  planGone : Bool := false
  deriving DecidableEq, Repr

/-- The journal index's word for a slot (R255). -/
structure JIdx where
  slice : Nat := 0
  instar : Nat := 0
  queue : Nat := 0
  cid : Nat := 0
  opcode : Nat := 0
  valid : Bool := false
  deriving DecidableEq, Repr

/-- A shard block with its trailer's GEN and whether its CRC-32C holds (R145, R149). -/
structure Blk where
  pos : Nat
  data : List Byte
  gen : Nat
  crcOk : Bool
  deriving DecidableEq, Repr

/-- One cell in transit for an item (R171, R172): up to 512 bytes, where it stands (island 0–7 octant, 8 hub; endpoint code
of R170), its destination endpoint, the class and engine of the runs that carry it, and what it is. `kind`: 0 host data
toward an encoder or the staging space, 1 a shard block toward its link, 2 a shard block from its link, 3 data toward the
host, 4 recovered data toward the staging space or the destination encoder. `off` is a byte offset in the stripe's data, or
within the block for kinds 1 and 2. -/
structure Cell where
  island : Nat
  ep : Nat
  dest : Nat
  pclass : Nat
  eng : Nat
  kind : Nat
  pos : Nat
  col : Nat
  off : Nat
  data : List Byte
  gen : Nat
  ok : Bool
  deriving DecidableEq, Repr

/-- The passing state of a data operation. -/
structure Work where
  /-- The start check has passed for the present stripe (R212). -/
  started : Bool := false
  /-- Its first run has fired. -/
  fired : Bool := false
  /-- Present stripe, as an offset in the operation's range; stripes held back that are still to come (R214); the
  next stripe not yet tried. -/
  stripe : Nat := 0
  skipped : List Nat := []
  nextStripe : Nat := 0
  /-- Host bytes asked for, counted in the order of R141. -/
  asked : Nat := 0
  cells : List Cell := []
  /-- Bytes of a shard block arrived at the engine, by position; whole blocks of the column being read (R140). -/
  part : Tab (List Byte) := []
  blocks : List Blk := []
  /-- Data of the stripe by 4 KiB block number, at the encoder, in the staging space or delivered; bytes arrived of each. -/
  data : Tab (List Byte) := []
  have_ : Tab Nat := []
  /-- Bytes of each data block that have come from the staging space to the encoder (R221). -/
  enc : Tab Nat := []
  /-- Bytes of an emitted block arrived at its link, by position. -/
  linkOut : Tab (List Byte) := []
  /-- The columns the engine reads and encodes next, and the position asked for its witness trailer. -/
  rcol : Nat := 0
  wcol : Nat := 0
  wit : Option Nat := none
  /-- The witness's GEN and whether its trailer counts as lost, once arrived (R228). -/
  witness : Option (Nat × Bool) := none
  /-- Positions asked for in the column being read; every position is to be read (R149). -/
  asks : Nat := 0
  full : Bool := false
  /-- Positions lost by a check failure (R229). -/
  chk : Nat := 0
  /-- Positions held and positions absent at the last boundary, and positions to be written that were held (R211, R213). -/
  held : Nat := 0
  gone : Nat := 0
  heldW : Nat := 0
  /-- Positions acknowledged as durable, by column; write streams not yet settled; blocks of the stripe handed to a link. -/
  acks : Tab Nat := []
  opens : Nat := 0
  sent : Bool := false
  /-- The column being read takes the multi-loss path; it waits for the matrix (R152, R155). -/
  ml : Bool := false
  matWait : Bool := false
  /-- The encoder's phase of a staged write (R221). -/
  merged : Bool := false
  /-- Bytes delivered to the host. -/
  given : Nat := 0
  /-- The stripe has an inconsistent column (R233); it has a column written or to be written (R238). -/
  incons : Bool := false
  /-- The status with which a read stops once what it has recovered is delivered (R229). -/
  stop : Option Nat := none
  /-- Bytes of the recovery reserve held (R164). -/
  reserve : Nat := 0
  /-- Replay asked with this trigger, at the next boundary (R260). -/
  replay : Option Nat := none
  /-- The attempt: host data asked for in an earlier one is discarded (R260). -/
  att : Nat := 0
  /-- Positions the program has emitted a shard block for, by column. -/
  outs : Tab Nat := []
  /-- Findings the stripe has made: reason and position (R235). -/
  found : List (Nat × Nat) := []
  /-- When the write has ended, is the stripe a partial write: 0 no, 1 if a block was sent (R220), 2 yes (R219), 3 if a block was
  sent and some block was not acknowledged (R246). -/
  partialIf : Nat := 0
  deriving DecidableEq, Repr

/-- What the completion sequencer is given (R215): an abort names its target's slot and acceptance number, a report on a queue
the slice and instar it belongs to. -/
inductive SeqReq where
  | done (slot : Nat)
  | abort (abortSlot targetSlot targetSerial : Nat)
  | queueReport (q slice instar cid status result : Nat) (irq : Bool)
  deriving DecidableEq, Repr

/-- A debt-log entry (R222). -/
structure Debt where
  time : Nat
  stripe : Nat
  count : Nat
  plan : Nat
  pos : Nat
  bay : Nat
  deriving DecidableEq, Repr

/-- A scrub-log entry (R235). -/
structure ScrubE where
  time : Nat
  stripe : Nat
  count : Nat
  seq : Nat
  plan : Nat
  slice : Nat
  reason : Nat
  pos : Nat
  source : Nat
  stride : Nat
  deriving DecidableEq, Repr

/-- A fault-history entry (R462). -/
structure FHist where
  time : Nat
  seq : Nat
  unit : Nat
  source : Nat
  what : Nat
  cls : Nat
  flags : Nat
  detail : Nat
  addr : Nat
  deriving DecidableEq, Repr

/-! ## Faults and events -/

/-- An open window of R455: the unit's base, the source, the instance of R456 (0 for others), when it opened, the count. -/
structure FWin where
  unit : Nat
  src : Nat
  inst : Nat
  start : Nat
  count : Nat
  deriving DecidableEq, Repr

/-- An automatic action asked for by an escalation and not yet carried out (R457). -/
structure FAct where
  unit : FUnit
  src : Nat
  inst : Nat
  detail : Nat
  addr : Nat
  inj : Bool := false
  deriving DecidableEq, Repr

/-- Fault windows, actions under way and the fault history. -/
structure Flt where
  wins : List FWin := []
  acts : List FAct := []
  /-- Units that began an action in the present cycle: unit base, DEVICE_TIME and source (R459). -/
  cycle : List (Nat × Nat × Nat) := []
  hist : List FHist := []
  histSeq : Nat := 0
  /-- Grave state entered (R466). -/
  grave : Bool := false
  /-- The first half of FLT_UNLOCK has been shifted (R470). -/
  unlockHalf : Bool := false
  /-- The grave records of bank B5 (R464): time, unit base, source, and whether of device scope. -/
  b5 : List (Nat × Nat × Nat × Bool) := []
  deriving DecidableEq, Repr

/-- The event controller: pending edge sources, level sources whose condition holds, each target's stack (source and
running priority, top first), notified sources (with: its request was withdrawn), and coalescing (counter, start). -/
structure Evc where
  pend : List Nat := []
  level : List Nat := []
  stk : Tab (List (Nat × Nat)) := []
  notified : Tab (Nat × Bool) := []
  coal : Tab (Nat × Nat) := []
  deriving DecidableEq, Repr

/-! ## The schedule image and the engines -/

/-- A plan record (R135, R185). -/
structure Plan where
  degradeOk : Bool
  verifyAlways : Bool
  stagedAllowed : Bool
  k : Nat
  m : Nat
  log2s : Nat
  matrix : Nat
  program : Nat
  f : Nat
  log2g : Nat
  pclass : Nat
  stripes : Nat
  /-- Link and base address of each position. -/
  targets : List (Nat × Nat)
  deriving DecidableEq, Repr

/-- A matrix of the image: E and the single-loss rows (R186). -/
structure Matrix where
  k : Nat
  m : Nat
  enc : List (List Byte)
  single : List (List Byte)
  deriving DecidableEq, Repr

/-- A patch of an octant calendar: slots and their replacement entries (R189). -/
abbrev Patch := List (Nat × BitVec 64)

/-- One octant's calendar: base entries, and 16 patches, HALF and ABSENT for each bay in turn. -/
structure OctCal where
  base : List (BitVec 64)
  patches : List Patch
  deriving DecidableEq, Repr

/-- A backfill designation (R193). -/
structure Backfill where
  kind : Nat
  plan : Nat
  first : Nat
  count : Nat
  deriving DecidableEq, Repr

/-- A schedule image as loaded (R182–R195). -/
structure Image where
  lanes : List Nat
  ports : List (Nat × Nat × Nat × Nat)
  engines : Nat
  stageCells : Nat
  plans : Tab (Option Plan)
  matrices : Tab (Option Matrix)
  programs : Tab (List (BitVec 64))
  hub : List (BitVec 64)
  octs : List OctCal
  order : List Bool
  pools : List (List Nat)
  mgr : List (List Nat)
  backfill : List Backfill
  rate : Nat
  check : Nat
  engineCells : Nat
  sigs : List Nat
  sig : Nat
  len : Nat
  signed : Bool
  deriving DecidableEq, Repr

/-- A multi-loss matrix asked for or cached (R153–R155): the key of R154, the survivors and the rows, and a recency. -/
structure MatEntry where
  sig : Nat
  matrix : Nat
  lost : Nat
  valid : Bool
  survivors : List Nat
  rows : List (List Byte)
  used : Nat
  /-- When its computation was asked for, and by a descriptor of which plan (R491). -/
  since : Nat
  plan : Nat
  deriving DecidableEq, Repr

/-- A backfill scrub cursor: designation, logical engine, next stripe and column (R178). -/
structure Cursor where
  designation : Nat
  engine : Nat
  stripe : Nat
  col : Nat
  /-- Positions asked for and lost in the column, and lost by a check failure. -/
  asks : Nat := 0
  lost : Nat := 0
  chk : Nat := 0
  /-- Blocks arrived at their links, and cells of each that runs have moved to the engine. -/
  blocks : List Blk := []
  moved : Tab Nat := []
  /-- Findings the stripe has made: reason and position. -/
  found : List (Nat × Nat) := []
  deriving DecidableEq, Repr

/-- A profile request under way (R23–R30): the request, whether a SET_PROFILE asked and its slot, whether voltage and
clocks have settled. -/
structure ProfReq where
  rate : Nat
  check : Nat
  reach : Nat
  slot : Nat
  cmd : Option Nat
  settled : Bool
  deriving DecidableEq, Repr

/-- A pending image switch (R203–R206): slot, named epoch, the command's journal slot, engines settled. -/
structure SwitchReq where
  slot : Nat
  epoch : Nat
  cmd : Option Nat
  settled : Bool
  deriving DecidableEq, Repr

/-- What the calendars of an epoch are run by: the image, the slices' hub slots, the bays' conditions by octant as SCH_VARIANT
holds them, and the check in force (R31, R72, R208). -/
structure Era where
  image : Option Image := none
  assign : Tab Nat := []
  variant : Tab Nat := []
  check : Nat := 0
  deriving DecidableEq, Repr

/-- The pacer, the islands and the images. -/
structure Sched where
  images : Tab (Option Image) := []
  /-- The epoch whose token was issued last. -/
  epoch : Nat := 0
  running : Bool := false
  /-- Each island's epoch and next calendar slot: 0–7 octants, 8 the hub (R179). -/
  island : Tab Nat := []
  next : Tab Nat := []
  /-- Islands whose clocks are gated, and how many epochs each has been idle (R398). -/
  gated : List Nat := []
  idle : Tab Nat := []
  /-- The slice a plan class in turn order served last, plus 1 (R173). -/
  turn : Tab Nat := []
  /-- The hub calendar slots assigned to slices, slice + 1 (R72). -/
  assign : Tab Nat := []
  /-- What the epoch before the present one was run by, for an island that lags (R11, R180). -/
  prev : Era := {}
  /-- An image came into force at this epoch, and what it does not name is still powered (R29, R206). -/
  trim : Option Nat := none
  switch : Option SwitchReq := none
  prof : Option ProfReq := none
  /-- A write to GLB_PROFILE waits for FW_UPDATE to complete (R511). -/
  profWait : Bool := false
  /-- LOAD_IMAGE commands under way: slot and journal slot. -/
  loads : Tab Nat := []
  /-- GEN counters that have been seeded (R146, R147). -/
  gens : Tab Nat := []
  cursors : List Cursor := []
  /-- Calendar copies to be rewritten: island, slot and the epoch of the error (R181). -/
  rewrites : List (Nat × Nat × Nat) := []
  /-- Cells used in the hub's present epoch: port × 2, plus 1 toward the host (R177); cells of the staging port (R165). -/
  portCells : Tab Nat := []
  stageCells : Nat := 0
  /-- The 96 bytes of SCH_SIGN_KEY being written and the committed key (R199). -/
  keyBuf : Tab Nat := []
  key : List Byte := []
  deriving DecidableEq, Repr

/-- Engines: the state each engine had when it went OFF (R161), the matrices, the staging reserve in use. -/
structure Engines where
  before : Tab Nat := []
  cache : List MatEntry := []
  clock : Nat := 0
  /-- Logical engines being brought to life for a switch or a profile (R206, R29). -/
  settling : List Nat := []
  /-- Engines or octants under test: TEST_UNIT's journal slot (R479, R486). -/
  tests : Tab Nat := []
  /-- The logical engine, plus 1, that an engine under test served at the test's acceptance; pattern cells it has passed (R479, R480). -/
  tested : Tab Nat := []
  testCells : Tab Nat := []
  /-- Block columns each engine has checked by a second pass, beyond whole units of 65,536 (R159, R167). -/
  cols : Tab Nat := []
  deriving DecidableEq, Repr

/-! ## The shelf link -/

/-- A DATA flit the device holds for retransmission (R306–R310). -/
structure TxFlit where
  seq : Nat
  vc : Nat
  payload : List Byte
  rexmits : Nat
  sentAt : Nat
  stored : Bool
  due : Bool
  deriving DecidableEq, Repr

/-- A shard stream or trailer read open on a link (R317–R326), with the item it belongs to and the block it moves. `kind`:
0 write, 1 read, 2 trailer read. -/
structure Stream where
  id : Nat
  kind : Nat
  slot : Nat
  serial : Nat
  instar : Nat
  pos : Nat
  /-- The item's stripe, as in `Work.stripe`, and the block column. -/
  stripe : Nat
  col : Nat
  /-- When its last message was sent or its last block arrived (R326). -/
  lastAt : Nat
  cancelled : Bool
  timedOut : Bool
  deriving DecidableEq, Repr

/-- The flit layer's state on one link, from its entry into IDENTIFY (R303–R314). -/
structure Session where
  width : Nat := 1
  snd : Nat := 0
  una : Nat := 0
  replay : List TxFlit := []
  sent : Tab Nat := []
  limit : Tab Nat := []
  initSent : Bool := false
  ctrlDue : Bool := true
  cvc : Nat := 0
  /-- Messages to send on each channel, oldest first, and how many bytes of the first one have been sent. -/
  tx : Tab (List (List Byte)) := []
  txOff : Tab Nat := []
  /-- Slots since the last VC1 or VC2 flit sent while VC0 was ready (R314). -/
  since12 : Nat := 128
  next : Nat := 0
  front : Nat := 0
  reorder : List (Nat × Nat × List Byte) := []
  rx : Tab (List Byte) := []
  /-- Limits granted on each channel, and DATA flits received on it with a number of their own (R311, R313). -/
  granted : Tab Nat := []
  got : Tab Nat := []
  slots : Nat := 0
  crcFails : List Nat := []
  lastGood : Nat := 0
  gapAt : Nat := 0
  /-- The place in the trained group of the lane that the next flit sent, and the next one received, is carried on (R275). -/
  txLane : Nat := 0
  rxLane : Nat := 0
  /-- A framing error has been met; the link goes down once the messages delivered before it are taken (R305, R315). -/
  dead : Bool := false
  deriving DecidableEq, Repr

/-- An admitted record (R289). -/
structure Admit where
  width : Nat
  maker : Nat
  model : Nat
  serial : List Byte
  capacity : Nat
  deriving DecidableEq, Repr

/-- A lane test under way (R294, R328): TEST_UNIT's journal slot, the link that carried the request, the duration and the rate it was
started with. -/
structure LaneTest where
  slot : Nat
  carrier : Nat
  ms : Nat
  rate : Nat
  deriving DecidableEq, Repr

/-- A lane's training (R277, R281, R282), and the test under way on it. -/
structure LaneT where
  /-- When the lane entered its state, and the consecutive good SYNC blocks with equal fields received (R281). -/
  since : Nat := 0
  count : Nat := 0
  /-- LINK, RATES and PROTO of the last SYNC block, and the partner's CAPS. -/
  link : Nat := 0
  rates : Nat := 0
  proto : Nat := 0
  caps : Nat := 0
  /-- EQ_DONE at the present rate at the device's and at the partner's receiver (R282); NEG_ACK received (R284). -/
  eqNear : Bool := false
  eqFar : Bool := false
  negAck : Bool := false
  test : Option LaneTest := none
  deriving DecidableEq, Repr

/-- A link, by its first lane: training choice, identity, admission, flit session, streams and messages received. -/
structure LinkT where
  /-- Admitted geometry proposed: width code, or none while no candidate is formed. -/
  geom : Option Nat := none
  rate : Nat := 0
  rateSince : Nat := 0
  /-- Rates tried with the mask of clean lanes-in-bay at each (R283). -/
  tried : List (Nat × Nat) := []
  choice : Option (Nat × Nat × Nat) := none
  ident : List Byte := []
  identSince : Nat := 0
  admitted : Option Admit := none
  sess : Session := {}
  streams : List Stream := []
  inbox : List (List Byte) := []
  /-- When the link left ACTIVE, while it is held or expired (R268). -/
  left : Option Nat := none
  expired : Bool := false
  /-- Another partner has been found on it since the last boundary, which ended its hold (R290). -/
  other : Bool := false
  /-- Slots with blocks sent and not acknowledged, or reads under way, when the link last left ACTIVE (R260). -/
  owed : List Nat := []
  /-- The last admitted record that RETIRE_BAY deleted (R338). -/
  former : Option Admit := none
  deriving DecidableEq, Repr

/-- All lanes and links, and the bays held retired (R292). -/
structure Links where
  lanes : Tab LaneT := []
  links : Tab LinkT := []
  retired : List Nat := []
  /-- Lanes released from a retired bay one by one. -/
  released : List Nat := []
  /-- RETIRE_BAY commands waiting for blocks in flight: bay to journal slot. -/
  retiring : Tab Nat := []
  /-- Lane tests that have ended: slot, lane, outcome of R486; settled at the end of the command. -/
  ended : List (Nat × Nat × Nat) := []
  /-- Bays whose admitted links do not match the topology of a switch (R205). -/
  barred : List Nat := []
  /-- Lanes put in link low-power state because the image in force does not use them (R29). -/
  low : List Nat := []
  /-- Bay conditions in force: 0 FULL, 1 HALF, 2 ABSENT (R208); default ABSENT is written as 2. -/
  cond : Tab Nat := []
  deriving DecidableEq, Repr

/-! ## Bay power -/

/-- The thermal model of one pass FET (R380): the rise of each pole in nK. -/
structure Fet where
  p0 : Nat := 0
  p1 : Nat := 0
  p2 : Nat := 0
  deriving DecidableEq, Repr

/-- How a bay-power die drives a feed's gate (R371, R373, R375, R376): off; so that VOUT rises to `mv` by the next sample; so that
the feed's current holds at `ma`; fully enhanced. -/
inductive Drive where
  | off
  | ramp (mv : Nat)
  | hold (ma : Nat)
  | full
  deriving DecidableEq, Repr

/-- What a bay-power die holds of one bay beside the bay's registers. -/
structure BayT where
  fetA : Fet := {}
  fetB : Fet := {}
  /-- The fault timer in samples of 0.1 ms; 0 while idle (R373). -/
  timer : Nat := 0
  /-- Samples the power-good conditions have held, and samples since the ramp ended (R371). -/
  pgRun : Nat := 0
  sinceRamp : Nat := 0
  /-- Samples VOUT has stood below 90 % of the lower driven feed (R371). -/
  low : Nat := 0
  /-- When power-good last asserted (R378). -/
  pgSince : Nat := 0
  /-- When the gates were last commanded off, while they are (R381, R384). -/
  offAt : Option Nat := none
  /-- When the bay entered WAIT_GROUP (R369). -/
  waitSince : Nat := 0
  /-- The journal slots of the BAY_POWER cycles that wait for the discharge (R384). -/
  cycle : List Nat := []
  /-- The feed whose gate is trimmed so that the feeds share the current: 0 neither, 1 A, 2 B (R375). -/
  trim : Nat := 0
  /-- The gates have been turned off since power-good last asserted: its next rise ends a bay power cycle (R295). -/
  cycled : Bool := false
  /-- How the gates of feeds A and B are driven. -/
  driveA : Drive := .off
  driveB : Drive := .off
  /-- Energy of the feeds below 1 mJ, in units of 0.1 nJ (R386). -/
  remA : Nat := 0
  remB : Nat := 0
  remT : Nat := 0
  /-- Energy of the bay since the ledger's last interval, in units of 0.1 nJ (R387). -/
  ledger : Nat := 0
  deriving DecidableEq, Repr

/-- The bays, and the energy ledger's interval (R387, R388). -/
structure Bays where
  bays : Tab BayT := []
  /-- Cells moved in the interval: unit (0–7 octants, 8 the hub) × 1024 + slice. -/
  cells : Tab Nat := []
  /-- The previous reading of each rail, in µJ (R390), and each rail's total. -/
  rails : Tab Nat := []
  railTotals : Tab Nat := []
  /-- Each slice's remainder below 1 mJ, in nJ (R388), and those of the rail and bay totals. -/
  remainder : Tab Nat := []
  railRem : Nat := 0
  bayRem : Nat := 0
  /-- DEVICE_TIME at the end of the last interval closed (R391). -/
  closedAt : Nat := 0
  deriving DecidableEq, Repr

/-! ## The bridge -/

/-- A control read tag (R344–R346). `state`: 1 outstanding for a host read, 2 outstanding for a page, 3 its host read
has been aborted and the discard timer runs, 4 quarantined. `since`: start of the discard timer. -/
structure RTag where
  state : Nat
  port : Nat
  win : Nat
  addr : Nat
  len : Nat
  since : Nat
  deriving DecidableEq, Repr

/-- A host read through a window that has no outcome yet (R345): `seq` orders the requests of a link (R342). -/
structure BRead where
  port : Nat
  win : Nat
  link : Nat
  addr : Nat
  len : Nat
  be : Nat
  since : Nat
  seq : Nat
  /-- The tag of its own CTRL_READ. -/
  tag : Option Nat
  /-- It is served from pages (R347), and whether the next page has been read or need not be. -/
  paged : Bool
  ahead : Bool
  deriving DecidableEq, Repr

/-- A page of a port's prefetch buffer (R347, R348): in flight while `data` is empty, with the tag that reads it. -/
structure BPage where
  port : Nat
  win : Nat
  link : Nat
  addr : Nat
  tag : Option Nat
  prefetch : Bool
  since : Nat
  data : List Byte
  taken : Bool
  used : Nat
  stale : Bool
  deriving DecidableEq, Repr

/-- A host write accepted for forwarding (R350): queued while `sent` is none, else waiting for its status. -/
structure BWrite where
  port : Nat
  win : Nat
  link : Nat
  addr : Nat
  be : Nat
  data : List Byte
  reqId : Nat
  pasid : Option Nat
  seq : Nat
  wseq : Nat
  sent : Option Nat
  /-- NO_STATUS has been logged; a late status is discarded (R351). -/
  dead : Bool
  deriving DecidableEq, Repr

/-- An entry of the discarded-read log or of the posted-write failure log (R355). -/
structure BLog where
  time : Nat
  addr : Nat
  seq : Nat
  link : Nat
  size : Nat
  port : Nat
  win : Nat
  tag : Nat
  reason : Nat
  slice : Nat
  reqId : Nat
  pasid : Option Nat
  deriving DecidableEq, Repr

/-- The bridge. -/
structure Brg where
  /-- Tags by link × 256 + tag. -/
  tags : Tab (Option RTag) := []
  reads : List BRead := []
  pages : List BPage := []
  writes : List BWrite := []
  /-- Order of the requests; the next WSEQ of each link in its session (R340). -/
  seq : Nat := 0
  wseq : Tab Nat := []
  /-- When each window last signalled a failure, plus 1: port × 256 + window (R351). -/
  signal : Tab Nat := []
  /-- Windows that R338 disabled: port × 256 + window. -/
  gone : List Nat := []
  dlog : List BLog := []
  wlog : List BLog := []
  dseq : Nat := 0
  wlogSeq : Nat := 0
  /-- Polls: PSEQ of each link, and whether its last POLL awaits an answer (R356, R359). -/
  pseq : Tab Nat := []
  polled : Tab Nat := []
  /-- The partner event queue (R362). -/
  evq : List (Nat × Nat) := []
  evqOver : Bool := false
  /-- Consecutive scans that read each button pressed (R360). -/
  btn : Tab Nat := []
  deriving DecidableEq, Repr

/-! ## Power states -/

/-- A state request being carried out (R396, R400, R410). -/
structure PReq where
  /-- 1 DORMANT, 2 DIAPAUSE. -/
  target : Nat
  /-- The ENTER_STATE command's journal slot and the instar of slice 0 it belongs to. -/
  cmd : Option Nat
  /-- The step under way (R410). -/
  step : Nat
  /-- The request was made in DORMANT. -/
  dormant : Bool
  drainAt : Nat
  /-- Unwind causes present (R411, R416). -/
  wake : Bool
  port : Bool
  drain : Bool
  weak : Bool
  /-- The unwind reloads GDDR6 from the mirror (R411). -/
  reload : Bool
  /-- When the step under way began (R410); the RESULT of an unwind, once its abort point has passed (R411). -/
  stepAt : Nat := 0
  result : Option Nat := none
  deriving DecidableEq, Repr

/-- A sealed bank of the chrysalis (R414, R415): its fields, what no register holds, and its seal's COUNT. -/
structure Bank where
  regs : Tab Nat := []
  ports : Tab Port := []
  key : List Nat := []
  bays : Tab BayT := []
  rec5 : List (Nat × Nat × Nat × Bool) := []
  /-- The remainders of the ledger totals below 1 mJ (R389). -/
  railRem : Nat := 0
  bayRem : Nat := 0
  savedAt : Nat := 0
  /-- BANK and COUNT of the seal. -/
  no : Nat := 0
  count : Nat := 0
  weak : Bool := false
  deriving DecidableEq, Repr

/-- The mirror as written in host memory (R418): SEQ, the LENGTH written, what its bytes are formed of, and the sections'
contents. -/
structure Mirror where
  seq : Nat
  len : Nat
  seed : Nat
  regs : Tab Nat
  slices : Tab SCtx
  queues : Tab QCtx
  ports : Tab Port
  brg : Brg
  formers : Tab (Option Admit)
  admits : Tab (Option Admit)
  parked : Tab JEntry
  gens : Tab Nat
  cursors : List Cursor
  scrub : List ScrubE
  debt : List Debt
  image : Option Image
  slot : Nat
  /-- The hub calendar slots assigned to slices (R72). -/
  assign : Tab Nat
  /-- The slices' remainders below 1 mJ, and of each bay those of its counters (R386, R388). -/
  remainder : Tab Nat
  bayRems : Tab (Nat × Nat × Nat)
  deriving DecidableEq, Repr

/-- A set-up write or a bridge access that stalls for an off domain in DORMANT (R401). Domains: engine p is p, a GDDR6
channel 100 + c, octant o 200 + o. -/
inductive Stall where
  | write (dom addr v : Nat)
  | read (dom addr be : Nat)
  | bridgeRead (dom port off dwords be since : Nat)
  | bridgeWrite (dom port off be : Nat) (data : List Byte) (reqId : Nat) (pasid : Option Nat)
  deriving DecidableEq, Repr

/-- The power states, the chrysalis, the mirror and the start of the device. -/
structure Power where
  /-- 0 ACTIVE, 1 DORMANT, 2 DIAPAUSE, 3 eclosion from E3 to E5, 4 cold start from C3 to C6, 5 rails off (POR_N asserted,
  C1 and C2, a rail failure or a thermal trip). -/
  mode : Nat := 5
  /-- POR_N is asserted. -/
  por : Bool := true
  /-- VSTBY's standby regulator has been told to stay unpowered until POR_N: rail failure or thermal trip (R500, R549). -/
  blocked : Bool := false
  noIntake : Bool := false
  req : Option PReq := none
  /-- A wake recorded during the commit (R412). -/
  wakeHeld : Bool := false
  /-- The source of an EYESPOT wake (R445). -/
  spot : Option Nat := none
  /-- Domains awake in DORMANT with the time of the last access, and accesses that stall (R401). -/
  awake : Tab Nat := []
  stalls : List Stall := []
  /-- Links that were ACTIVE at entry (R402). -/
  wasActive : List Nat := []
  /-- GDDR6 has been trained since the last cold start (R507). -/
  trained : Bool := false
  /-- Bank contents as sealed (R414), and bank numbers that failed the self-test without unwinding. -/
  banks : Tab Bank := []
  mirror : Option Mirror := none
  /-- Eclosion: GDDR6 trained, firmware running, the pull under way, when E5's wait began, E6 reached. -/
  gddr : Bool := false
  fw : Bool := false
  pulling : Bool := false
  e5Since : Option Nat := none
  /-- When the eclosion under way asserted PWR_EN (R419). -/
  railAt : Nat := 0
  /-- After an eclosion, until the condition of R20 holds (R368). -/
  startsBarred : Bool := false
  /-- BOLEVO_ECLOSIONS.COUNT (R402, R424); the set-up space has been unlocked since the cold start (R501). -/
  eclosions : Nat := 0
  unlocked : Bool := false
  /-- The set point of VDD_CORE in µV (R495, R533). -/
  vdd : Nat := 780000
  deriving DecidableEq, Repr

/-! ## Spares and the management pair -/

/-- A swap waiting for its boundary (R475, R476): kind 1 engine, 4 plane, 5 wire; the unit, what it retires and brings in,
the commands that wait for it, the engine test that asked, and the fault action it carries out. -/
structure Swap where
  kind : Nat
  unit : Nat
  old : Nat
  new : Nat
  cmds : List Nat
  test : Option Nat
  act : Option FAct
  deriving DecidableEq, Repr

/-- An octant action (R483): octant, TEST code 3 BYPASS, 4 RESTORE, 5 RESET, the command's slot, whether begun. -/
structure OctAct where
  oct : Nat
  code : Nat
  cmd : Option Nat
  act : Option FAct
  begun : Bool
  /-- The die is out of reset and rejoins the pacer at the next boundary. -/
  ready : Bool := false
  deriving DecidableEq, Repr

/-- A management-log entry (R491). -/
structure MLog where
  time : Nat
  seq : Nat
  code : Nat
  core : Nat
  unit : Nat
  d0 : Nat
  d1 : Nat
  d2 : Nat
  deriving DecidableEq, Repr

/-- Spares, tests, the management pair and the flash. -/
structure Mgmt where
  swaps : List Swap := []
  octs : List OctAct := []
  /-- Bindings an octant's logical engines had at its bypass: logical engine to physical engine + 1 (R483). -/
  bound : Tab Nat := []
  /-- Retired wires: octant × 128 + wire. -/
  wires : List Nat := []
  /-- A plane test and a standby self-test under way: the TEST_UNIT slot, if it still stands. -/
  planeTest : Option Nat := none
  selfTest : Option Nat := none
  /-- The channel of the GDDR6 channel test under way (R482). -/
  memCh : Nat := 0
  /-- When the recovery under way began (R488), and the recovery journal's records: the slot and the acceptance number of each admin
  command under way on the core that was lost (R490). -/
  recovering : Option Nat := none
  journal : List (Nat × Nat) := []
  log : List MLog := []
  logSeq : Nat := 0
  /-- The flash: directory ACTIVE, whether a slot holds an image staged and not yet committed, the versions of the slots'
  images, and FW_UPDATE's journal slot while a staging runs (R502, R511). -/
  flashActive : Nat := 0
  staged : Option Nat := none
  versions : Tab Nat := []
  coreSlot : Tab Nat := []
  /-- The version of the image each core runs (R42, R502). -/
  coreVersion : Tab Nat := []
  staging : Option Nat := none
  /-- The staging still reads the image from host memory. -/
  fwReading : Bool := false
  deriving DecidableEq, Repr

/-! ## The block -/

/-- Everything the manual gives the device but the queue of waiting commands. -/
structure Dev where
  /-- Every field of the set-up space (R44), by `Fld.key`; an absent key holds the field's Reset value. -/
  regs : Tab Nat := []
  /-- DEVICE_TIME in nanoseconds (R9). -/
  now : Nat := 0
  /-- The counter of free values met. -/
  fresh : Nat := 0
  /-- What the device has put out, newest first. -/
  out : List OutMsg := []
  /-- Setup key: the first half has been written (R47). -/
  keyHalf : Bool := false
  evc : Evc := {}
  flt : Flt := {}
  ports : Tab Port := []
  queues : Tab QCtx := []
  slices : Tab SCtx := []
  jnl : Tab JEntry := []
  /-- The journal index in hub SRAM (R255). -/
  jidx : Tab JIdx := []
  work : Tab Work := []
  seqQ : List SeqReq := []
  /-- Aborts that won, whose ABORT waits for the target's entry: ABORT's slot and target's slot (R245). -/
  aborts : List (Nat × Nat) := []
  reads : List HRead := []
  /-- The number of device reads made, which names each. -/
  readSeq : Nat := 0
  /-- The number of items accepted, which orders them. -/
  serial : Nat := 0
  debt : List Debt := []
  scrub : List ScrubE := []
  sch : Sched := {}
  eng : Engines := {}
  lnk : Links := {}
  brg : Brg := {}
  bay : Bays := {}
  pwr : Power := {}
  mgt : Mgmt := {}
  deriving DecidableEq, Repr

/-- The block and the commands that wait, first in, first out. -/
structure State where
  dev : Dev := {}
  pending : List Instr := []
  deriving DecidableEq, Repr

/-- Why a step stops with a fault. The manual's faults are recorded in registers and the block goes on, so nothing
raises this one; it stands so that the type is not empty. Safe. -/
inductive Fault where
  | none
  deriving DecidableEq, Repr

/-- Why a step is refused. -/
inductive Refusal where
  /-- A command that has no meaning yet; raised by the dispatch only. Safe. -/
  | notModelled (mnemonic : String)
  deriving DecidableEq, Repr

/-- The state right after reset. -/
def State.reset : State := {}

end Sys2Proof.Machine
end

