-- ==== Sys2Proof/Machine/Ops.lean ====
section
/-! DEFINITION. The named operations every meaning is built of: registers, time, tables, what the device puts out. -/
namespace Sys2Proof.Machine

/-! ## Registers (R3, R7) -/

/-- The value a field holds. -/
def Dev.rd (d : Dev) (f : Fld) : Nat := d.regs.get f.key (resetField f.key)

/-- A field set to `v`, cut to the field's width. -/
def Dev.wr (d : Dev) (f : Fld) (v : Nat) : Dev :=
  { d with regs := d.regs.set f.key (v % 2 ^ f.width) (resetField f.key) }

/-- A one-bit field that reads 1. -/
def Dev.flag (d : Dev) (f : Fld) : Bool := d.rd f == 1

/-- A counter field that wraps. -/
def Dev.inc (d : Dev) (f : Fld) : Dev := d.wr f (d.rd f + 1)

/-- A counter field that saturates. -/
def Dev.incSat (d : Dev) (f : Fld) : Dev := d.wr f (Nat.min (2 ^ f.width - 1) (d.rd f + 1))

/-- A counter field lowered by one, not below 0. -/
def Dev.dec (d : Dev) (f : Fld) : Dev := d.wr f (d.rd f - 1)

/-- Several fields set in turn. -/
def Dev.wrs (d : Dev) (l : List (Fld × Nat)) : Dev := l.foldl (fun d p => d.wr p.1 p.2) d

/-- A register pair set to the low and the high half of `v`. -/
def Dev.wr64 (d : Dev) (lo hi : Fld) (v : Nat) : Dev := (d.wr lo (v % 2 ^ 32)).wr hi (v / 2 ^ 32)

/-- A register pair read as one number. -/
def Dev.rd64 (d : Dev) (lo hi : Fld) : Nat := d.rd lo + 2 ^ 32 * d.rd hi

/-- Every field for which `p` does not hold of its BAR0 offset returns to its Reset value (R7). -/
def Dev.resetExcept (d : Dev) (keep : Nat → Bool) : Dev := { d with regs := d.regs.filter (fun e => keep (e.1 / 32)) }

/-- The field of `l` whose lowest bit is `lo`, as the register at `a` holds it. -/
def Dev.fieldVal (d : Dev) (a : Nat) (f : RField) : Nat := d.rd ⟨a, f.lo, f.width⟩

/-- The stored word at BAR0 offset `a`: every readable field in its place, RSVD and WO bits 0 (R3, R5, R45). -/
def Dev.word (d : Dev) (a : Nat) : Nat :=
  match regFields a with
  | none => 0
  | some l => l.foldl (fun v f => if f.acc = .wo then v else v + d.fieldVal a f * 2 ^ f.lo) 0

/-- One field under a register write of `v` (R3): RW stores a code that is not reserved (R6), W1C clears, W1S sets. -/
def Dev.writeField (d : Dev) (a v : Nat) (f : RField) : Dev :=
  let x := bits v f.lo f.width
  match f.acc with
  | .rw => if f.min ≤ x ∧ x ≤ f.max then d.wr ⟨a, f.lo, f.width⟩ x else d
  | .w1c => d.wr ⟨a, f.lo, f.width⟩ (Nat.xor (d.fieldVal a f) (Nat.land (d.fieldVal a f) x))
  | .w1s => d.wr ⟨a, f.lo, f.width⟩ (Nat.lor (d.fieldVal a f) x)
  | .ro => d
  | .wo => d

/-- A register write by the access types alone (R3); an offset without a register drops it (R45). -/
def Dev.writeWord (d : Dev) (a v : Nat) : Dev :=
  match regFields a with
  | none => d
  | some l => l.foldl (fun d f => d.writeField a v f) d

/-! ## Sets of numbers -/

/-- `x` put into a rising list. -/
def setAdd (x : Nat) : List Nat → List Nat
  | [] => [x]
  | y :: l => if x < y then x :: y :: l else if x = y then y :: l else y :: setAdd x l

/-- `x` taken out of a list. -/
def setDel (x : Nat) (l : List Nat) : List Nat := l.filter (fun y => y != x)

/-! ## Time (R9, R168) -/

/-- The length of a fault window in nanoseconds (R460). -/
def Dev.winLen (d : Dev) (base src : Nat) : Nat :=
  let w := d.rd ⟨base + 0xF40 + 4 * src, 8, 14⟩
  if d.rd ⟨base + 0xF40 + 4 * src, 22, 2⟩ = 1 then w * 1000000000 else w * 1000000

/-- The highest count among the open windows of a source (R456). -/
def winMax (l : List FWin) (base src : Nat) : Nat :=
  l.foldl (fun m w => if w.unit = base ∧ w.src = src then Nat.max m w.count else m) 0

/-- FAULT_COUNT.IN_WINDOW of a source after a change of its windows (R455, R456). -/
def Dev.showWin (d : Dev) (base src : Nat) : Dev :=
  d.wr ⟨base + 0xF80 + 4 * src, 0, 8⟩ (winMax d.flt.wins base src)

/-- The windows whose length has passed at `now` close (R455). -/
def Dev.closeWindows (d : Dev) : Dev :=
  let open_ := fun w : FWin => decide (d.now < w.start + d.winLen w.unit w.src)
  let gone := d.flt.wins.filter (fun w => !open_ w)
  gone.foldl (fun e w => e.showWin w.unit w.src) { d with flt := { d.flt with wins := d.flt.wins.filter open_ } }

/-- A management core runs its firmware: the hub has power, the core is authenticated and not lost (R487, R502). -/
def Dev.coreRuns (d : Dev) (c : Nat) : Bool :=
  (d.pwr.mode == 0 || d.pwr.mode == 1 || (d.pwr.mode == 3 && d.pwr.fw)) && d.mgt.coreSlot.get c 0 != 0
    && !d.flag (if c = 0 then MGT_STATUS_MCA_LOST else MGT_STATUS_MCB_LOST)

/-- `n` periods of 100 µs pass: each running core advances its heartbeat (R487). -/
def Dev.heartbeats (d : Dev) (n : Nat) : Dev :=
  [0, 1].foldl (fun d c => if d.coreRuns c then d.wr (MGT_HEARTBEAT_COUNT c) ((d.rd (MGT_HEARTBEAT_COUNT c) + n) % 2 ^ 32) else d) d

/-- DEVICE_TIME moved on to `t` when that is later (R9); fault windows that end by then close, and the management cores'
heartbeats advance at each multiple of 100 µs (log entry 17). -/
def Dev.advance (d : Dev) (t : Nat) : Dev :=
  if d.now < t then
    let n := t / 100000 - d.now / 100000
    let d := Dev.closeWindows { d with now := t }
    if n = 0 then d else d.heartbeats n
  else d

/-- The present epoch (R168). -/
def Dev.epoch (d : Dev) : Nat := d.now * 25 / 65536

/-- The first nanosecond at which an epoch's token may be issued (R168). -/
def epochStart (e : Nat) : Nat := (e * 65536 + 24) / 25

/-- The first epoch boundary after now. -/
def Dev.nextBoundary (d : Dev) : Nat := epochStart (d.epoch + 1)

/-- A free value: the next one nobody constrains (log entry 12). -/
def Dev.free (d : Dev) : Nat × Dev := ((Config.freeValue d.fresh).toNat, { d with fresh := d.fresh + 1 })

/-- `n` free bytes (log entry 12). -/
def Dev.freeBytes (d : Dev) (n : Nat) : List Byte × Dev :=
  ((List.range n).map (fun i => Config.freeByte (d.fresh + i)), { d with fresh := d.fresh + n })

/-- A slot's index word is written (R255, R256). -/
def Dev.setIdx (d : Dev) (n : Nat) (x : JIdx) : Dev := { d with jidx := d.jidx.set n x {} }
/-- What the device puts out. -/
def Dev.emit (d : Dev) (m : OutMsg) : Dev := { d with out := m :: d.out }

/-! ## Tables of units -/

def Dev.port (d : Dev) (n : Nat) : Port := d.ports.get n {}
def Dev.setPort (d : Dev) (n : Nat) (p : Port) : Dev := { d with ports := d.ports.set n p {} }
def Dev.queue (d : Dev) (q : Nat) : QCtx := d.queues.get q {}
def Dev.setQueue (d : Dev) (q : Nat) (c : QCtx) : Dev := { d with queues := d.queues.set q c {} }
def Dev.slice (d : Dev) (s : Nat) : SCtx := d.slices.get s {}
def Dev.setSlice (d : Dev) (s : Nat) (c : SCtx) : Dev := { d with slices := d.slices.set s c {} }
def Dev.entry (d : Dev) (n : Nat) : JEntry := d.jnl.get n {}
def Dev.setEntry (d : Dev) (n : Nat) (e : JEntry) : Dev := { d with jnl := d.jnl.set n e {} }
def Dev.wk (d : Dev) (n : Nat) : Work := d.work.get n {}
def Dev.setWk (d : Dev) (n : Nat) (w : Work) : Dev := { d with work := d.work.set n w {} }
def Dev.lane (d : Dev) (l : Nat) : LaneT := d.lnk.lanes.get l {}
def Dev.setLane (d : Dev) (l : Nat) (t : LaneT) : Dev := { d with lnk := { d.lnk with lanes := d.lnk.lanes.set l t {} } }
def Dev.link (d : Dev) (l : Nat) : LinkT := d.lnk.links.get l {}
def Dev.setLink (d : Dev) (l : Nat) (t : LinkT) : Dev := { d with lnk := { d.lnk with links := d.lnk.links.set l t {} } }
def Dev.image (d : Dev) (t : Nat) : Option Image := d.sch.images.get t none

/-- The manager port, strapped on MGR_PORT (R34). -/
def Dev.mgrPort (d : Dev) : Nat := d.rd GLB_STRAP_MGR_PORT

/-- The image in force, if a slot is ACTIVE (R207, R210). -/
def Dev.inForce (d : Dev) : Option Image :=
  let t := d.rd SCH_SWITCH_ACTIVE_SLOT
  if d.rd (SCH_SLOT_STATUS_STATE t) = 3 then d.image t else none

/-- What the present epoch's calendars are run by. -/
def Dev.thisEra (d : Dev) : Era :=
  { image := d.inForce, assign := d.sch.assign, check := d.rd GLB_PROFILE_STATUS_CUR_CHECK,
    variant := (List.range 8).foldl (fun t o => t.set o (d.rd (SCH_VARIANT_BAY o)) 0) [] }

/-- An island still runs the epoch before the present one (R11). -/
def Dev.lags (d : Dev) (i : Nat) : Bool := decide (d.sch.island.get i 0 < d.sch.epoch)

/-- What the calendar of an island is run by, in the epoch the island is in (R31, R208). -/
def Dev.era (d : Dev) (i : Nat) : Era := if d.lags i then d.sch.prev else d.thisEra

/-- The cursor at column `col` of its stripe, with nothing asked for yet. -/
def Cursor.at_ (c : Cursor) (col : Nat) : Cursor := { designation := c.designation, engine := c.engine, stripe := c.stripe, col := col, found := c.found }

/-- A plan of an image, when valid. -/
def Image.plan (g : Image) (p : Nat) : Option Plan := g.plans.get p none

/-- A plan of the image in force. -/
def Dev.plan (d : Dev) (p : Nat) : Option Plan := d.inForce.bind (fun g => g.plan p)

/-! ## Slices -/

def Dev.sliceState (d : Dev) (s : Nat) : Nat := d.rd (SLC_STATE_STATE s)
def Dev.sliceInstar (d : Dev) (s : Nat) : Nat := d.rd (SLC_STATE_INSTAR s)
def Dev.slicePort (d : Dev) (s : Nat) : Nat := if s = 0 then d.mgrPort else d.rd (SLC_BIND_PORT s)

/-- The slices that are not FREE. -/
def Dev.liveSlices (d : Dev) : List Nat :=
  0 :: (d.regs.filterMap (fun e =>
    let a := e.1 / 32
    if 0x210000 < a ∧ a < 0x250000 ∧ a % 0x100 = 0 ∧ e.1 % 32 = 0 ∧ 0 < e.2 then some ((a - 0x210000) / 0x100) else none))

/-- The slices of a port that are not FREE. -/
def Dev.portSlices (d : Dev) (n : Nat) : List Nat := d.liveSlices.filter (fun s => d.slicePort s == n)

/-- The slice whose queue range holds queue `q`; queue 0 is slice 0's (R102). -/
def Dev.queueSlice (d : Dev) (q : Nat) : Nat :=
  if q = 0 then 0
  else ((d.liveSlices.filter (fun s => s ≠ 0 ∧ d.rd (SLC_QUEUES_BASE s) ≤ q ∧ q ≤ d.rd (SLC_QUEUES_LAST s))).head?).getD 0

/-- The queues of a slice, in rising order. -/
def Dev.sliceQueues (d : Dev) (s : Nat) : List Nat :=
  d.queues.keys.filter (fun q => d.rd (SLC_QUEUES_BASE s) ≤ q ∧ q ≤ d.rd (SLC_QUEUES_LAST s))

/-! ## The journal -/

/-- A slot that holds an entry (R256). -/
def Dev.live (d : Dev) (n : Nat) : Bool := (d.entry n).state != 0

/-- Every slot that is not FREE, in rising slot order. -/
def Dev.liveSlots (d : Dev) : List Nat := d.jnl.keys

/-- Slots of accepted items, oldest acceptance first. -/
def insSerial (d : Dev) (n : Nat) : List Nat → List Nat
  | [] => [n]
  | x :: l => if (d.entry n).serial < (d.entry x).serial then n :: x :: l else x :: insSerial d n l
def Dev.byAge (d : Dev) : List Nat := d.liveSlots.foldl (fun l n => insSerial d n l) []

/-- The slots that hold work of a slice. -/
def Dev.sliceSlots (d : Dev) (s : Nat) : List Nat := d.byAge.filter (fun n => (d.entry n).slice == s)

/-- The slots that hold work of a queue. -/
def Dev.queueSlots (d : Dev) (q : Nat) : List Nat := d.byAge.filter (fun n => (d.entry n).queue == q)

/-- The journal's capacity in slots (R249). -/
def Dev.capacity (d : Dev) : Nat := d.rd JNL_REGION_SIZE_SIZE * 32768

end Sys2Proof.Machine
end

