-- ==== Sys2Proof/Machine/Flags.lean ====
section
/-! DEFINITION. The flags of the block: event sources and their notification (R427–R445), fault captures, counting and
escalation (R448–R464), and requests on a host port (R53, R552). -/
namespace Sys2Proof.Machine

/-! ## MSI-X (R49) -/

/-- Can the port issue requests (R552)? -/
def Dev.canIssue (d : Dev) (n : Nat) : Bool := (d.port n).linkUp && (d.port n).bme

/-- Is the port's egress held (R53, R63)? -/
def Dev.egressHeld (d : Dev) (n : Nat) : Bool := d.flag (HP_STATUS_EGRESS_HOLD n)

/-- Is a vector free to fire (R49)? -/
def Port.open (p : Port) (v : Nat) : Bool := p.msixEn && !p.fnMask && p.unmasked.contains v

/-- The interrupt of vector `v` fires: sent, or held, or its PBA bit set (R49, R53, R552). In GRAVE none is issued (R466). -/
def Dev.msix (d : Dev) (n v : Nat) : Dev :=
  let p := d.port n
  if d.flt.grave then d
  else if p.open v && d.canIssue n then
    if d.egressHeld n then d.setPort n { p with held := p.held ++ [⟨1024, 0, .msix n v, 0, none⟩] }
    else d.emit (.msix n v)
  else d.setPort n { p with pba := setAdd v p.pba }

/-! ## Event sources -/

/-- The stack of a target, top first (R432). -/
def Dev.stack (d : Dev) (t : Nat) : List (Nat × Nat) := d.evc.stk.get t []

/-- RUNNING of a target (R431). -/
def Dev.running (d : Dev) (t : Nat) : Nat := ((d.stack t).head?.map (·.2)).getD 0

/-- A source active at target `t`. -/
def Dev.activeAt (d : Dev) (t s : Nat) : Bool := (d.stack t).any (fun e => e.1 == s)

/-- A source active at any target. -/
def Dev.active (d : Dev) (s : Nat) : Bool := (List.range 8).any (fun t => d.activeAt t s)

/-- A pending source: an edge source recorded pending, a level source whose condition holds while it is not active (R428). -/
def Dev.isPending (d : Dev) (s : Nat) : Bool :=
  if srcLevel s then d.evc.level.contains s && !d.active s else d.evc.pend.contains s

/-- A candidate of target `t` (R430). -/
def Dev.candidate (d : Dev) (t s : Nat) : Bool :=
  let p := d.rd (EVC_SRC_CFG_PRIORITY s)
  d.isPending s && !d.active s && decide (0 < p) && bit (d.rd (EVC_SRC_CFG_TMASK s)) t
    && decide (d.rd (EVC_THRESHOLD_THRESHOLD t) < p) && decide (d.running t < p)

/-- The better of two candidates: higher priority, then the lower number (R431). -/
def Dev.better (d : Dev) (a : Option Nat) (s : Nat) : Option Nat :=
  match a with
  | none => some s
  | some b =>
    let p := d.rd (EVC_SRC_CFG_PRIORITY s)
    let q := d.rd (EVC_SRC_CFG_PRIORITY b)
    if q < p ∨ (q = p ∧ s < b) then some s else some b

/-- The best candidate of a target; its REQUEST is 1 when there is one (R433). -/
def Dev.best (d : Dev) (t : Nat) : Option Nat :=
  ((d.evc.pend ++ d.evc.level).filter (d.candidate t)).foldl d.better none

/-- Target `t` is notified: T0 and T1 inside the management pair, T2–T7 by vector `t` of the manager port (R433). -/
def Dev.notify (d : Dev) (t : Nat) : Dev :=
  let s := (d.best t).getD 0
  let d := { d with evc := { d.evc with notified := d.evc.notified.set t (s, false) (0, false) } }
  if t < 2 then d.emit (.notify t) else d.msix d.mgrPort t

/-- Every target whose REQUEST rose since `d0` is notified (R433). -/
def Dev.notifyRise (d0 d : Dev) : Dev :=
  (List.range 8).foldl (fun e t => if (d0.best t).isNone && (d.best t).isSome then e.notify t else e) d

/-- The hub, with the event controller, is unpowered: in DIAPAUSE, and while the core rails are off (R419, R444, R445, R499). -/
def Dev.hubOff (d : Dev) : Bool := d.pwr.mode == 2 || d.pwr.mode == 5

/-- A wake code is recorded (R409): within 10 µs the lowest code stands and the others' bits are set. -/
def Dev.recordWake (d : Dev) (code detail : Nat) (entry : Bool) : Dev :=
  let t := d.rd64 AON_WAKE_TIME_LO_NS AON_WAKE_TIME_HI_NS
  let c := d.rd AON_WAKE_LAST_CODE
  if c ≠ 0 ∧ d.now ≤ t + 10000 ∧ c ≠ code then
    let d := d.wr AON_WAKE_PENDING_CODES (Nat.lor (d.rd AON_WAKE_PENDING_CODES) (2 ^ Nat.max c code))
    if code < c then d.wrs [(AON_WAKE_LAST_CODE, code), (AON_WAKE_LAST_DETAIL, detail)] else d
  else
    let d := d.wrs [(AON_WAKE_LAST_CODE, code), (AON_WAKE_LAST_DETAIL, detail), (AON_WAKE_LAST_DURING_ENTRY, b2n entry)]
    d.wr64 AON_WAKE_TIME_LO_NS AON_WAKE_TIME_HI_NS d.now

/-- E1 and the start of E2: the regulator returns to normal mode and PWR_EN is asserted; the rails rise (R419). -/
def Dev.eclosionBegin (d : Dev) : Dev :=
  let d := d.wrs [(AON_REG_LOW_POWER, 0), (AON_STATE_PHASE, 2)]
  Dev.emit { d with pwr := { d.pwr with wakeHeld := false, startsBarred := true, railAt := d.now } } (.pwrEn true)

/-- The source of an EYESPOT wake that an eclosion follows, the first one of several (R445). -/
def Dev.noteSpot (d : Dev) (code detail : Nat) : Dev :=
  if code = 3 ∧ d.pwr.spot = none then { d with pwr := { d.pwr with spot := some detail } } else d

/-- A wake that its source is armed for (R409–R412): in DIAPAUSE an eclosion begins, and one of another source within the
same 10 µs is recorded beside it; during an entry it is a cause, during the commit it is held. -/
def Dev.wake (d : Dev) (code detail : Nat) : Dev :=
  if d.pwr.mode = 2 then
    if d.pwr.blocked then d
    else if d.rd AON_STATE_PHASE ≠ 0 then
      let t := d.rd64 AON_WAKE_TIME_LO_NS AON_WAKE_TIME_HI_NS
      if d.now ≤ t + 10000 ∧ d.rd AON_WAKE_LAST_CODE ≠ code then (d.recordWake code detail false).noteSpot code detail else d
    else ((d.recordWake code detail false).noteSpot code detail).eclosionBegin
  else
    match d.pwr.req with
    | some q =>
      if q.target ≠ 2 then d
      else
        let d := d.recordWake code detail true
        if q.step = 7 then Dev.noteSpot { d with pwr := { d.pwr with wakeHeld := true } } code detail
        else { d with pwr := { d.pwr with req := some { q with wake := true } } }
    | none => d

/-- A source the eyespot watches: marked, and a presence source while the hub is off only with the scan armed (R407, R444); bank B5
holds the marks then. -/
def Dev.watched (d : Dev) (s : Nat) : Bool :=
  let f := EVC_SRC_CFG_EYESPOT s
  let marked := if d.hubOff then (d.pwr.banks.get 5 {}).regs.get f.key (resetField f.key) == 1 else d.flag f
  marked && srcEligible s && !(d.hubOff && decide (448 ≤ s) && !d.flag AON_WAKE_ARM_PRESENCE)

/-- A source that becomes pending is a wake where the eyespot watches it (R407, R444). -/
def Dev.spotWake (d : Dev) (s : Nat) : Dev := if d.watched s then d.wake 3 s else d

/-- An edge source becomes pending: targets are notified, and the eyespot may wake the device (R428, R433, R444). -/
def Dev.becomesPending (d : Dev) (s : Nat) : Dev :=
  (Dev.notifyRise d { d with evc := { d.evc with pend := setAdd s d.evc.pend } }).spotWake s

/-- An event of an edge source occurs (R428, R429); with the hub off only the eyespot sees it, at once (R444). -/
def Dev.raise (d : Dev) (s : Nat) : Dev :=
  if !srcExists s || srcLevel s then d
  else if d.hubOff then d.spotWake s
  else if d.evc.pend.contains s then d
  else
    let c := d.evc.coal.get s (0, 0)
    let c' := (c.1 + 1, if c.1 = 0 then d.now else c.2)
    let e := { d.evc with coal := d.evc.coal.set s c' (0, 0) }
    if d.rd (EVC_SRC_COAL_COUNT s) ≤ c.1 + 1 then
      Dev.becomesPending { d with evc := e } s
    else { d with evc := e }

/-- A bypassed octant (R483). -/
def Dev.octOff (d : Dev) (o : Nat) : Bool := bit (d.rd SPR_OCTANT_BYPASSED) o

/-- An engine off for set-up access (R468): OFF outside DORMANT, or of a BYPASSED octant. -/
def Dev.engOff (d : Dev) (p : Nat) : Bool :=
  let s := d.rd (ENG_STATUS_STATE p)
  (s == 0 && d.pwr.mode != 1) || s == 5 || d.octOff (p / 9)

/-- The die of an octant does not run: bypassed, or in reset (R15, R483). -/
def Dev.octDown (d : Dev) (o : Nat) : Bool := d.octOff o || bit (d.rd SPR_OCTANT_RESETTING) o

/-- The unit is off, so that its level source is withdrawn (R469). -/
def Dev.unitOff (d : Dev) : FUnit → Bool
  | .eng p => d.engOff p.val
  | .lane l => d.octOff (l.val / 64)
  | .oct o => d.octOff o.val
  | _ => false

/-- A unit's fault block holds a capture that its source shows. -/
def Dev.captured (d : Dev) (u : FUnit) : Bool := d.flag (FAULT_STATUS_VALID u) && !d.unitOff u

/-- The condition of a level source (R427, R448). -/
def Dev.levelCond (d : Dev) (s : Nat) : Bool :=
  if s = 3 then d.flag GLB_LEDGER_STATUS_DISCONTINUOUS || d.flag GLB_LEDGER_STATUS_RAIL_MISSING
  else if s = 4 then d.captured .glb
  else if s < 16 then d.captured (.hp (Fin.ofNat 8 (s - 8))) || d.flag (HP_OFF_ACCESS_VALID (s - 8))
  else if s = 17 then d.captured .slc
  else if s = 18 then d.captured .sch
  else if s = 22 then d.captured .jnl
  else if s < 40 then d.captured (.mem (Fin.ofNat 16 (s - 24)))
  else if s = 40 then d.captured .brg
  else if s = 45 then !d.brg.evq.isEmpty
  else if s = 46 then d.captured .aon
  else if s = 48 then d.captured .evc
  else if s = 50 then d.captured .mgt
  else if s = 52 then d.captured .spr
  else if s = 53 then d.captured .xbar
  else if s < 192 then d.captured (.bay (Fin.ofNat 64 (s - 128)))
  else if s < 264 then d.captured (.eng (Fin.ofNat 72 (s - 192)))
  else if s < 272 then (List.range 64).any (fun j => d.captured (.lane (Fin.ofNat 512 ((s - 264) * 64 + j))))
  else d.captured (.oct (Fin.ofNat 8 (s - 272)))

/-- The notified sources that name `s` are marked withdrawn (R435). -/
def markWithdrawn (n : Tab (Nat × Bool)) (s : Nat) : Tab (Nat × Bool) :=
  n.map (fun e => if e.2.1 = s then (e.1, (s, true)) else e)

/-- A level source's condition is `c` now: pending, withdrawn, or unchanged (R428). -/
def Dev.setLevel (d : Dev) (s : Nat) (c : Bool) : Dev :=
  if d.hubOff || !srcLevel s || !srcExists s || c == d.evc.level.contains s then d
  else if c then Dev.notifyRise d { d with evc := { d.evc with level := setAdd s d.evc.level } }
  else
    let n := if d.active s then d.evc.notified else markWithdrawn d.evc.notified s
    { d with evc := { d.evc with level := setDel s d.evc.level, notified := n } }

/-- A level source is sampled (R428, R448, R469). -/
def Dev.sample (d : Dev) (s : Nat) : Dev := d.setLevel s (d.levelCond s)

/-! ## Faults -/

/-- An error a unit reports: source, instance of R456, the captured words of R448, and whether it is injected and counted. -/
structure FEv where
  unit : FUnit
  src : Nat
  inst : Nat := 0
  access : Nat := 0
  addr : Nat := 0
  port : Option Nat := none
  slice : Option Nat := none
  detail : Nat := 0
  /-- The PASID the host's request carried; a device request carries its slice's (R39). -/
  pasid : Option Nat := none
  inj : Bool := false
  noCount : Bool := false

/-- The PASID a slice's requests carry (R39). -/
def Dev.pasidOf (d : Dev) (s : Nat) : Option Nat :=
  if (d.port (d.slicePort s)).pasidEn then some (d.rd (SLC_PASID_PASID s)) else none

/-- The PASID that the request behind an event carried; an event inside the device carries none (R460). -/
def Dev.eventPasid (d : Dev) (e : FEv) : Option Nat := if e.access = 3 ∨ e.access = 4 then e.slice.bind d.pasidOf else e.pasid

/-- A fault-history entry enters the ring of 4,096, which GDDR6 holds: with the hub off there is none (R461, R462). -/
def Dev.history (d : Dev) (u : FUnit) (src what cls flags detail addr : Nat) : Dev :=
  if d.hubOff then d else
  let q := if d.flt.histSeq = 0xFFFFFFFF then 1 else d.flt.histSeq + 1
  let h : FHist := ⟨d.now, q, (unitBase u + 0xF00) % 2 ^ 26, src, what, cls, flags, detail, addr⟩
  let l := d.flt.hist ++ [h]
  { d with flt := { d.flt with hist := if 4096 < l.length then l.drop 1 else l, histSeq := q } }

/-- CLASS rises to `c` (R451, R452, R457). -/
def Dev.raiseClass (d : Dev) (u : FUnit) (c : Nat) : Dev := d.wr (FAULT_STATUS_CLASS u) (Nat.max c (d.rd (FAULT_STATUS_CLASS u)))

/-- The first event of a capture writes every word of the unit's kind (R450, R452). -/
def Dev.captureOpen (d : Dev) (e : FEv) (cls : Nat) : Dev :=
  let u := e.unit
  let full := unitFull u
  let s := e.slice.getD 0
  let d := d.wrs [(FAULT_STATUS_VALID u, 1), (FAULT_STATUS_CLASS u, cls), (FAULT_STATUS_INJ u, b2n e.inj),
    (FAULT_STATUS_COINC u, 0), (FAULT_CAPTURE_TYPES u, 2 ^ e.src), (FAULT_CAPTURE_FIRST u, e.src),
    (FAULT_CAPTURE_ACCESS u, e.access), (FAULT_CAPTURE_TIME_LO u, d.now), (FAULT_CAPTURE_TIME_HI u, d.now / 2 ^ 32),
    (FAULT_CAPTURE_DETAIL u, e.detail)]
  let d := if !full then d else d.wrs [(FAULT_CAPTURE_ADDR_LO u, e.addr), (FAULT_CAPTURE_ADDR_HI u, e.addr / 2 ^ 32),
    (FAULT_CAPTURE_PORT u, e.port.getD 0), (FAULT_CAPTURE_PORT_VALID u, b2n e.port.isSome),
    (FAULT_CAPTURE_SLICE u, s), (FAULT_CAPTURE_SLICE_VALID u, b2n e.slice.isSome),
    (FAULT_CAPTURE_REQ_ID u, if e.slice.isSome then d.rd (SLC_BIND_REQ_ID s) else 0),
    (FAULT_CAPTURE_PASID u, (d.eventPasid e).getD 0), (FAULT_CAPTURE_PASID_VALID u, b2n (d.eventPasid e).isSome)]
  d.history u e.src 1 cls (16 * b2n e.inj) e.detail (if full then e.addr else 0)

/-- A further event merges into a full capture, or sets OVERFLOW of a latch (R451, R452), with INJ and COINC of R472. -/
def Dev.captureMerge (d : Dev) (e : FEv) (cls : Nat) : Dev :=
  let u := e.unit
  let inj := d.flag (FAULT_STATUS_INJ u)
  let real := !inj || d.flag (FAULT_STATUS_COINC u)
  let d := d.incSat (FAULT_MERGE_COUNT u)
  let d := if unitFull u then d.wr (FAULT_CAPTURE_TYPES u) (Nat.lor (d.rd (FAULT_CAPTURE_TYPES u)) (2 ^ e.src))
    else d.wr (FAULT_STATUS_OVERFLOW u) 1
  let d := d.wr (FAULT_STATUS_COINC u) (b2n ((inj || e.inj) && (real || !e.inj)))
  let d := d.wr (FAULT_STATUS_INJ u) (b2n (inj || e.inj))
  d.raiseClass u cls

/-- The action a unit takes at SEVERE, as FAULT_ACTION codes it (R448, R457, R460). -/
def actionOf : FUnit → Nat
  | .eng _ => 1
  | .lane _ => 2
  | .bay _ => 3
  | .mem _ => 4
  | .xbar => 5
  | .oct _ => 6
  | _ => 0

/-- A unit that is RETIRED or BYPASSED takes no further action (R457). -/
def Dev.noAction (d : Dev) : FUnit → Bool
  | .eng p => decide (3 < d.rd (ENG_STATUS_STATE p.val))
  | .lane l => d.octOff (l.val / 64)
  | .oct o => d.octOff o.val
  | _ => false

/-- FAULT_ACTION records an action (R457). -/
def Dev.recordAction (d : Dev) (u : FUnit) (code done noSpare src : Nat) : Dev :=
  d.wrs [(FAULT_ACTION_ACTION u, code), (FAULT_ACTION_DONE u, done), (FAULT_ACTION_NO_SPARE u, noSpare),
    (FAULT_ACTION_SOURCE u, src)]

/-- The history entry of an action names the event that escalated (R462). -/
def Dev.actionEntry (d : Dev) (a : FAct) : Dev :=
  let u := a.unit
  d.history u a.src 3 (d.rd (FAULT_STATUS_CLASS u)) (actionOf u + 8 * d.rd (FAULT_ACTION_NO_SPARE u) + 16 * b2n a.inj) a.detail a.addr

/-- An action takes effect (R457, R462). -/
def Dev.actionDone (d : Dev) (a : FAct) : Dev := (d.wr (FAULT_ACTION_DONE a.unit) 1).actionEntry a

/-- An action finds no spare (R457, R462; log entry 114). -/
def Dev.actionBare (d : Dev) (a : FAct) : Dev := (d.wr (FAULT_ACTION_NO_SPARE a.unit) 1).actionEntry a

/-- An event of a source whose own action is none: capture and count only. -/
def Dev.capture (d : Dev) (e : FEv) (cls : Nat) : Dev :=
  let d := d.incSat (FAULT_COUNT_TOTAL e.unit e.src)
  let d := if d.flag (FAULT_STATUS_VALID e.unit) then d.captureMerge e cls else d.captureOpen e cls
  d.sample (unitSource e.unit)

/-- A tracked instance's window; a full GDDR6 tracker gives up the one that opened earliest (R456). -/
def Dev.openWindow (d : Dev) (u : FUnit) (src inst : Nat) : List FWin :=
  let mine := fun w : FWin => w.unit == unitBase u && w.src == src
  let own := d.flt.wins.filter mine
  let l := match u with
    | .mem _ =>
      if 32 ≤ own.length then
        let s := own.foldl (fun m w => Nat.min m w.start) d.now
        let i := d.flt.wins.findIdx (fun w => mine w && w.start == s)
        d.flt.wins.take i ++ d.flt.wins.drop (i + 1)
      else d.flt.wins
    | _ => d.flt.wins
  l ++ [⟨unitBase u, src, inst, d.now, 1⟩]

/-- Sources counted for each instance they name: ECC_CORR by row, CELL_CRC of the crossbar by plane, D2D_WIRE by wire (R456). -/
def perInstance (u : FUnit) (src : Nat) : Bool :=
  src == 2 && (match u with
    | .mem _ | .xbar | .oct _ => true
    | _ => false)

/-- An event counts in its window (R455, R456); the answer says whether the source escalates, which closes the window. -/
def Dev.countWindow (d : Dev) (u : FUnit) (src inst cls : Nat) : Bool × Dev :=
  let b := unitBase u
  let k := if perInstance u src then inst else 0
  let n := d.rd (FAULT_CLASS_CFG_N u src)
  let same := fun w : FWin => w.unit == b && w.src == src && w.inst == k
  let held := d.flt.wins.filter (fun w => same w && decide (d.now < w.start + d.winLen b src))
  let d := { d with flt := { d.flt with wins := d.flt.wins.filter (fun w => !same w || held.contains w) } }
  let c := match held with
    | [] => 1
    | w :: _ => w.count + 1
  if cls = 2 ∨ n ≤ c then
    (true, Dev.showWin { d with flt := { d.flt with wins := d.flt.wins.filter (fun w => !same w) } } b src)
  else
    let l := match held with
      | [] => d.openWindow u src k
      | _ => d.flt.wins.map (fun w => if same w then { w with count := c } else w)
    (false, Dev.showWin { d with flt := { d.flt with wins := l } } b src)

/-- CLASS rises to SEVERE and SEVERE_SEEN is set, with an ESCALATED history entry (R457, R462). -/
def Dev.escalated (d : Dev) (u : FUnit) (src flags detail addr : Nat) : Dev :=
  Dev.history ((d.raiseClass u 2).wr (FAULT_STATUS_SEVERE_SEEN u) 1) u src 2 2 flags detail addr

/-- The action of a GDDR6 channel: the row is copied to a spare row, or none is left and NO_SPARE_ROW is recorded, itself
counted (R457). -/
def Dev.rowRemap (d : Dev) (c : Fin 16) (a : FAct) : Dev :=
  let u := FUnit.mem c
  if 0 < d.rd (SPR_ROWS_SPARE_LEFT c.val) then
    let d := (d.dec (SPR_ROWS_SPARE_LEFT c.val)).inc (SPR_ROWS_REMAPPED c.val)
    (d.recordAction u 4 1 0 a.src).actionDone a
  else
    let d := (d.recordAction u 4 0 0 a.src).actionBare a
    let d := d.capture { unit := u, src := 4, inst := a.inst, detail := a.inst } 1
    match d.countWindow u 4 0 1 with
    | (true, d) => d.escalated u 4 0 a.inst 0
    | (false, d) => d

/-- An action of the unit has not yet taken effect (R459). -/
def Dev.actionUnderWay (d : Dev) (u : FUnit) : Bool :=
  d.flt.acts.any (fun a => a.unit == u) || d.mgt.swaps.any (fun w => match w.act with
    | some a => a.unit == u
    | none => false)

/-- The lower source index of two that escalate in one cycle is recorded (R459). -/
def Dev.lowerSource (d : Dev) (u : FUnit) (src : Nat) : Dev :=
  let m := fun (a : FAct) => if a.unit == u then { a with src := Nat.min a.src src } else a
  let d := { d with flt := { d.flt with acts := d.flt.acts.map m } }
  let d := { d with mgt := { d.mgt with swaps := d.mgt.swaps.map (fun (w : Swap) => { w with act := w.act.map m }) } }
  d.wr (FAULT_ACTION_SOURCE u) (Nat.min (d.rd (FAULT_ACTION_SOURCE u)) src)

/-- The source by which the unit began an action in the present cycle (R459). -/
def Dev.sameCycle (d : Dev) (u : FUnit) : Option Nat :=
  (d.flt.cycle.find? (fun (x : Nat × Nat × Nat) => x.1 == unitBase u && x.2.1 == d.now)).map (·.2.2)

/-- A source escalates (R457–R459): CLASS SEVERE, history, and, with AUTO, the unit's action unless one is under way or the unit has begun
one in the same cycle, which is the same DEVICE_TIME (log entry 115). -/
def Dev.escalate (d : Dev) (e : FEv) : Dev :=
  let u := e.unit
  let addr := if unitFull u then e.addr else 0
  let d := d.escalated u e.src (16 * b2n e.inj) e.detail addr
  if d.flag (FAULT_CLASS_CFG_AUTO u e.src) && actionOf u != 0 && !d.noAction u && !(e.src == 4 && actionOf u == 4) then
    let a : FAct := ⟨u, e.src, e.inst, e.detail, addr, e.inj⟩
    if (d.sameCycle u).any (· != e.src) then d.lowerSource u e.src
    else if d.actionUnderWay u then d
    else
      let d := { d with flt := { d.flt with cycle := (d.flt.cycle.filter (fun (x : Nat × Nat × Nat) => x.2.1 == d.now)) ++ [(unitBase u, d.now, e.src)] } }
      match u with
      | .mem c => d.rowRemap c a
      | _ => Dev.recordAction { d with flt := { d.flt with acts := d.flt.acts ++ [a] } } u (actionOf u) 0 0 e.src
  else d

/-- An event counts toward escalation (R455, R456). -/
def Dev.countEvent (d : Dev) (e : FEv) (cls : Nat) : Dev :=
  match d.countWindow e.unit e.src e.inst cls with
  | (true, d) => d.escalate e
  | (false, d) => d

/-- FAULT_N follows the scar (R464). -/
def Dev.assertFaultN (d : Dev) : Dev := d.emit (.faultN true)

/-- The bit of an error in its AER status, mask and severity registers (log entry 79). -/
def Aer.bit : Aer → Nat
  | .poisoned => 12
  | .completionTimeout => 14
  | .unexpectedCompletion => 16
  | .malformed => 18
  | .flowControl => 13
  | .unsupportedRequest => 20
  | .completerAbort => 15
  | .correctedInternal => 14
  | .uncorrectableInternal _ => 22
  | .receiverError => 0
  | .badTlp => 6
  | .badDllp => 7
  | .replayTimer => 12
  | .replayRollover => 8

/-- A correctable error (R66). -/
def Aer.correctable : Aer → Bool
  | .correctedInternal | .receiverError | .badTlp | .badDllp | .replayTimer | .replayRollover => true
  | _ => false

/-- Is an error masked on a port (R66, R67)? -/
def Port.masked (p : Port) (e : Aer) : Bool :=
  match e with
  | .uncorrectableInternal _ => p.uieMasked
  | e => bit (if e.correctable then p.ext.corMask else p.ext.uncMask) e.bit

/-- The severity of an error's message: 0 correctable, 1 non-fatal, 2 fatal (R66, R67). -/
def Port.severity (p : Port) (e : Aer) : Nat :=
  if e.correctable then 0
  else
    match e with
    | .uncorrectableInternal grave => if grave && p.uieFatal then 2 else 1
    | e => if bit p.ext.uncSev e.bit then 2 else 1

/-- An error enters a port's AER status; the first unmasked uncorrectable one with a header fills the Header Log (R66, R67). -/
def Port.record (p : Port) (e : Aer) (h : Option TlpHdr) : Port :=
  { p with aerStatus := if p.aerStatus.contains e then p.aerStatus else p.aerStatus ++ [e],
           hdrLog := if e.correctable || p.masked e then p.hdrLog else p.hdrLog.or h }

/-- AER of a port: status and header recorded, and a message unless it is masked or the link is down (R66, R67, R552). -/
def Dev.aerHdr (d : Dev) (n : Nat) (e : Aer) (h : Option TlpHdr) : Dev :=
  let p := d.port n
  let d := d.setPort n (p.record e h)
  if p.linkUp && !p.masked e then d.emit (.aer n e (p.severity e)) else d

/-- AER of a port for an error that no request caused. -/
def Dev.aer (d : Dev) (n : Nat) (e : Aer) : Dev := d.aerHdr n e none

/-- The device enters GRAVE (R466, R67): the pacer stops, a state request under way goes no further, every port reports an
Uncorrectable Internal Error. -/
def Dev.enterGrave (d : Dev) : Dev :=
  let d := { d with flt := { d.flt with grave := true }, sch := { d.sch with running := false }, pwr := { d.pwr with req := none } }
  (List.range 8).foldl (fun d n => d.aer n (.uncorrectableInternal true)) d

/-- A grave record in bank B5: TIME, UNIT and SOURCE as in the history, the scope, and with the first of device scope GLB_GRAVE_TIME.
During an entry it goes to the bank already saved as well (R410, R464, R467). -/
def Dev.graveRecord (d : Dev) (u : FUnit) (src : Nat) (device : Bool) : Dev :=
  let r := (d.now, (unitBase u + 0xF00) % 2 ^ 26, src, device)
  let d := if d.flag GLB_GRAVE_DEVICE || !device then d else d.wr64 GLB_GRAVE_TIME_LO_NS GLB_GRAVE_TIME_HI_NS d.now
  let t := fun (g : Tab Nat) => [GLB_GRAVE_TIME_LO_NS, GLB_GRAVE_TIME_HI_NS].foldl (fun (g : Tab Nat) f => g.set f.key (d.rd f) (resetField f.key)) g
  let banks := if d.pwr.banks.keys.contains 5 then
      let b := d.pwr.banks.get 5 {}
      d.pwr.banks.set 5 { b with rec5 := b.rec5 ++ [r], regs := t b.regs } {}
    else d.pwr.banks
  { d with flt := { d.flt with b5 := d.flt.b5 ++ [r] }, pwr := { d.pwr with banks := banks } }

/-- A grave condition of device scope is recorded, and the last-resort sequencer takes the device into GRAVE (R463, R464, R466). -/
def Dev.graveDevice (d : Dev) (cause : Nat) (u : FUnit) (src detail : Nat) : Dev :=
  let d := d.graveRecord u src true
  let d := if d.flag GLB_GRAVE_DEVICE then d
    else d.wrs [(GLB_GRAVE_DEVICE, 1), (GLB_GRAVE_CAUSE, cause)]
  let d := d.history u src 4 3 0 detail 0
  d.enterGrave.assertFaultN

/-- A grave fault of bay scope: the bay's scar bit (R464). -/
def Dev.graveBay (d : Dev) (b detail : Nat) : Dev :=
  let d := d.graveRecord (.bay (Fin.ofNat 64 b)) 5 false
  let f := if b < 32 then BAY_SHORTED_LO_BAY else BAY_SHORTED_HI_BAY
  let d := (d.wr f (Nat.lor (d.rd f) (2 ^ (b % 32)))).wr GLB_GRAVE_BAY 1
  (d.history (.bay (Fin.ofNat 64 b)) 5 4 3 0 detail 0).assertFaultN

/-- An error of a fault source: captured or merged, counted, escalated; a grave source is recorded instead of counted
(R450–R459, R463). A source that is RSVD reports nothing. -/
def Dev.fault (d : Dev) (e : FEv) : Dev :=
  match faultSrc e.unit e.src with
  | none => d
  | some x =>
    if x.cls = 3 then
      let d := if d.flag (FAULT_STATUS_VALID e.unit) then d.captureMerge e 3 else d.captureOpen e 3
      let d := d.sample (unitSource e.unit)
      match e.unit with
      | .bay b => d.graveBay b.val e.detail
      | .mgt => d.graveDevice 1 .mgt e.src e.detail
      | .sch => d.graveDevice 2 .sch e.src e.detail
      | u => d.graveDevice 3 u e.src e.detail
    else
      let d := d.capture e x.cls
      if e.noCount then d else d.countEvent e x.cls

/-- A capture ends (R453). -/
def Dev.faultClear (d : Dev) (u : FUnit) : Dev :=
  let z := [FAULT_STATUS_VALID u, FAULT_STATUS_OVERFLOW u, FAULT_STATUS_CLASS u, FAULT_STATUS_INJ u, FAULT_STATUS_COINC u,
    FAULT_CAPTURE_TYPES u, FAULT_CAPTURE_FIRST u, FAULT_CAPTURE_ACCESS u, FAULT_CAPTURE_ADDR_LO u, FAULT_CAPTURE_ADDR_HI u,
    FAULT_CAPTURE_PORT u, FAULT_CAPTURE_PORT_VALID u, FAULT_CAPTURE_SLICE u, FAULT_CAPTURE_SLICE_VALID u,
    FAULT_CAPTURE_REQ_ID u, FAULT_CAPTURE_PASID u, FAULT_CAPTURE_PASID_VALID u, FAULT_CAPTURE_TIME_LO u,
    FAULT_CAPTURE_TIME_HI u, FAULT_CAPTURE_DETAIL u, FAULT_MERGE_COUNT u]
  (z.foldl (fun d f => d.wr f 0) d).sample (unitSource u)

/-! ## Requests on a host port -/

/-- The header of a request of which a command carries only some parts: the others are free (R67; log entry 12). `kind`: 1 a
read, 2 a write by the host. -/
def Dev.reqHdr (d : Dev) (kind addr len : Option Nat) : TlpHdr × Dev :=
  let k := d.free
  let a := k.2.free
  let l := a.2.free
  let q := l.2.free
  let p := q.2.free
  (⟨kind.getD (3 + k.1), addr.getD a.1, len.getD l.1, q.1 % 2 ^ 16, if p.1 % 2 = 0 then none else some (p.1 / 2 % 2 ^ 20)⟩, p.2)

/-- AER for a request of a host, its header partly known. -/
def Dev.aerReq (d : Dev) (n : Nat) (e : Aer) (kind addr len : Option Nat) : Dev :=
  let r := d.reqHdr kind addr len
  r.2.aerHdr n e (some r.1)

/-- Base of the journal region in bytes (R249). -/
def Dev.jnlBase (d : Dev) : Nat := d.rd JNL_REGION_LO_BASE * 2 ^ 20 + d.rd JNL_REGION_HI_BASE * 2 ^ 32

/-- A fault event of a unit with the address and detail words free, where the manual names none for it (R448; log entry 15). -/
def Dev.faultFree (d : Dev) (e : FEv) (addrFree : Bool) (details : Nat) : Dev :=
  let (a, d) := d.free
  let (v, d) := d.free
  d.fault { e with addr := if addrFree then a else e.addr, detail := e.detail + v % details }

/-- A fault of a journal slot (R249, R267, R448). -/
def Dev.jnlFault (d : Dev) (src access n s : Nat) : Dev :=
  d.fault { unit := .jnl, src := src, access := access, addr := d.jnlBase + 1024 * n, port := some (d.slicePort s), slice := some s, detail := n }

/-- A port's failed device request is captured as DMA_FAIL; its tag is free (R118, R448, R449, R552; log entry 15). -/
def Dev.dmaFail (d : Dev) (n s addr access : Nat) : Dev :=
  d.faultFree { unit := .hp (Fin.ofNat 8 n), src := 2, access := access, addr := addr, port := some n, slice := some s } false 65536

/-- A device read's failure is captured, unless its port's buffers failed it (R66, R118, R449). -/
def Dev.readFail (d : Dev) (r : HRead) : Dev := if r.ecc then d else d.dmaFail r.port r.slice r.addr 3

/-- A read has ended; when it failed, that is captured. -/
def Dev.failedRead (d : Dev) (r : HRead) (failed : Bool) : Dev := if failed then d.readFail r else d

/-- A reset moult of the slice waits: its port issues no request for the present instar (R62, R63). -/
def Dev.resetWaits (d : Dev) (s : Nat) : Bool :=
  match (d.slice s).moult with
  | some m => m.reset && m.step == 0
  | none => false

/-- A slice bound to a PASID other than 0 makes no request while PASID Enable of its port is 0 (R39). -/
def Dev.pasidBarred (d : Dev) (s : Nat) : Bool := !(d.port (d.slicePort s)).pasidEn && d.rd (SLC_PASID_PASID s) != 0

/-- A slice's requests wait: its port's egress is held, or its PASID barred (R39, R53). -/
def Dev.egressWaits (d : Dev) (s : Nat) : Bool := d.egressHeld (d.slicePort s) || d.pasidBarred s

/-- A slice's host requests are not made at all: GRAVE, ID_MISMATCH, or a reset moult waits (R62, R69, R466). -/
def Dev.egressBarred (d : Dev) (s : Nat) : Bool := d.flt.grave || d.flag (SLC_STATE_ID_MISMATCH s) || d.resetWaits s

/-- The requests that cover `len` bytes at `addr`, as address and length: none is longer than `max` or crosses 4 KiB (R35); `fuel`
bounds their number. -/
def reqPieces (max : Nat) : (fuel addr len : Nat) → List (Nat × Nat)
  | 0, addr, len => [(addr, len)]
  | f + 1, addr, len =>
    let k := Nat.min max (4096 - addr % 4096)
    if len ≤ k then [(addr, len)] else (addr, k) :: reqPieces max f (addr + k) (len - k)

/-- Max_Payload_Size and Max_Read_Request_Size in bytes (R35). -/
def Port.maxPayload (p : Port) : Nat := 128 * 2 ^ Nat.min p.ext.mps 3
def Port.maxRead (p : Port) : Nat := 128 * 2 ^ Nat.min p.ext.mrrs 5

/-- The requests of a write of a slice (R35, R38, R39). -/
def Dev.writeMsgs (d : Dev) (s : Nat) (relaxed noSnoop : Bool) (addr : Nat) (data : List Byte) : List OutMsg :=
  let n := d.slicePort s
  let p := d.port n
  (reqPieces p.maxPayload (data.length / 64 + 2) addr data.length).map (fun x =>
    .hostWrite n s (d.pasidOf s) (relaxed && p.relaxedEn) (noSnoop && p.noSnoopEn) p.idoEn x.1 ((data.drop (x.1 - addr)).take x.2))

/-- Several messages put out in turn. -/
def Dev.emitAll (d : Dev) (l : List OutMsg) : Dev := l.foldl (fun d m => d.emit m) d

/-- A host write for a slice under an instar (R35, R38, R39, R53, R69, R85, R466, R552): the answer says whether it did not
fail. -/
def Dev.hostWrite (d : Dev) (s instar : Nat) (relaxed : Bool) (noSnoop : Bool) (addr : Nat) (data : List Byte) : Bool × Dev :=
  let n := d.slicePort s
  let ms := d.writeMsgs s relaxed noSnoop addr data
  if instar != d.sliceInstar s || d.egressBarred s then (true, d)
  else if d.egressWaits s then
    (true, d.setPort n { d.port n with held := (d.port n).held ++ ms.map (fun m => { slice := s, instar := instar, msg := m }) })
  else if d.canIssue n then (true, d.emitAll ms)
  else (false, d.dmaFail n s addr 4)

/-- The device reads a port may have outstanding (R37). -/
def Dev.tagLimit (d : Dev) (n : Nat) : Nat :=
  if d.flag (HP_STATUS_FLIT n) then 4096 else if (d.port n).tag10 then 768 else 256

/-- The requests a read makes next, as address and length (R35): of those still to be made, no more than its port has tags
(R37). -/
def Dev.readPieces (d : Dev) (r : HRead) : List (Nat × Nat) :=
  (reqPieces (d.port r.port).maxRead (r.len / 64 + 2) (r.addr + r.there) (r.len - r.there)).take (d.tagLimit r.port)

/-- The tags in use on a port: one for each request that has not completed (R37). -/
def Dev.tagsUsed (d : Dev) (n : Nat) : Nat := ((d.reads.filter (fun r => r.port == n && !r.dead)).map (·.reqs.length)).sum

/-- A read that waits for tags and will be made: its instar stands and nothing bars its slice. -/
def Dev.readWaits (d : Dev) (n : Nat) (r : HRead) : Bool :=
  r.port == n && !r.sent && r.instar == d.sliceInstar r.slice && !d.egressBarred r.slice

/-- A read finds no tags: they are in use, or reads made before it wait for some (R37). -/
def Dev.tagsOut (d : Dev) (r : HRead) : Bool := decide (d.tagLimit r.port < d.tagsUsed r.port + (d.readPieces r).length) || d.reads.any (d.readWaits r.port)

/-- The requests of a read on its port (R35, R38, R39). -/
def Dev.readMsgs (d : Dev) (r : HRead) : List OutMsg :=
  let p := d.port r.port
  r.reqs.map (fun x => .hostRead r.port r.slice (d.pasidOf r.slice) (r.noSnoop && p.noSnoopEn) p.idoEn x.1 x.2)

/-- A read of a slice's port that has its tags: held, issued, or `dead` where the port can issue no request (R39, R53, R552). -/
def Dev.readGo (d : Dev) (r : HRead) : HRead × Dev :=
  let n := r.port
  let r := { r with sent := true, issued := false, reqs := d.readPieces r }
  if d.egressWaits r.slice then
    (r, d.setPort n { d.port n with
      held := (d.port n).held ++ (d.readMsgs r).map (fun m => { slice := r.slice, instar := r.instar, msg := m, read := r.uid }) })
  else if d.canIssue n then ({ r with issued := true, since := d.now }, d.emitAll (d.readMsgs r))
  else ({ r with dead := true }, d)

/-- A host read for a slice (R35, R37, R39, R53, R69, R466, R552): issued, or held, or waiting for tags, or failed at once. Where
nothing is read for the slice, what needs the data waits (log entry 81), but that of an admin command fails (R65; log entry
111). -/
def Dev.hostRead (d : Dev) (s addr len : Nat) (noSnoop : Bool) (why : ReadFor) : Bool × Dev :=
  let n := d.slicePort s
  let r : HRead := { port := n, slice := s, instar := d.sliceInstar s, why := why, addr := addr, len := len, noSnoop := noSnoop,
                     sent := false, uid := d.readSeq + 1, issued := false }
  if d.egressBarred s then
    (true, if r.forCommand && (d.resetWaits s || why == .mirror) then
      { d with readSeq := d.readSeq + 1, reads := d.reads ++ [{ r with dead := true, ecc := true, sent := true }] } else d)
  else if !d.egressWaits s && !d.canIssue n then (false, d.dmaFail n s addr 3)
  else
    let d := { d with readSeq := d.readSeq + 1 }
    if d.tagsOut r then (true, { d with reads := d.reads ++ [r] })
    else
      let g := d.readGo r
      (true, { g.2 with reads := g.2.reads ++ [g.1] })

/-- The reads of a port that wait for tags take those now free, in order (R37); `fuel` bounds their number. -/
def Dev.nextReads (n : Nat) : Nat → Dev → Dev
  | 0, d => d
  | f + 1, d =>
    let i := d.reads.findIdx (d.readWaits n)
    match d.reads[i]? with
    | none => d
    | some r =>
      if d.tagLimit n < d.tagsUsed n + (d.readPieces r).length then d
      else
        let g := d.readGo r
        Dev.nextReads n f { g.2 with reads := g.2.reads.set i g.1 }

/-- The read at place `i` among those outstanding is over, and its tag is free. -/
def Dev.endRead (d : Dev) (i : Nat) : Dev :=
  match d.reads[i]? with
  | none => d
  | some r => Dev.nextReads r.port d.reads.length { d with reads := dropIdx d.reads i }

/-- The requests of the read at place `i` end, with data or not (R37): the last ones end the read with all its data, `ends`;
after others it goes on with further requests, as tags allow, unless its instar has ended (R84). -/
def Dev.readBrings (d : Dev) (i : Nat) (data : Option (List Byte)) (ends : Dev → Option (List Byte) → Dev) : Dev :=
  match d.reads[i]?, data with
  | some r, some l =>
    if r.last then ends d (some (r.got ++ l))
    else if l.length ≠ r.outLen then d
    else if r.instar ≠ d.sliceInstar r.slice then
      if r.forCommand then ends { d with reads := d.reads.set i { r with ecc := true } } none else d.endRead i
    else Dev.nextReads r.port d.reads.length
      { d with reads := d.reads.set i { r with got := r.got ++ l, reqs := [], sent := false, issued := false } }
  | _, _ => ends d data

/-- Reads that are made for what no longer is, as `p` says: what they bring is no longer looked at. -/
def Dev.dropReads (d : Dev) (p : HRead → Bool) : Dev :=
  { d with reads := d.reads.map (fun r => if p r then { r with why := .dropped } else r) }

/-- A ring read or a scatter-list read of queue `q`. -/
def HRead.ofQueue (r : HRead) (q : Nat) : Bool :=
  match r.why with
  | .desc x _ => x == q
  | .sgl x => x == q
  | _ => false

end Sys2Proof.Machine
end

