-- ==== Sys2Proof/Machine/Operands.lean ====
section
/-! DEFINITION. Operand forms: descriptors and admin arguments (R119–R131), run entries (R171), plan geometry
(R138–R141, R158). -/
namespace Sys2Proof.Machine

/-- `n` bytes of a descriptor from byte offset `o`, little-endian (R8, R119). -/
def darg (x : BitVec 512) (o n : Nat) : Nat := bits x.toNat (8 * o) (8 * n)

def dOpcode (x : BitVec 512) : Nat := darg x 0 1
def dFlags (x : BitVec 512) : Nat := darg x 1 1
def dNoIrq (x : BitVec 512) : Bool := bit (dFlags x) 0
def dOrdered (x : BitVec 512) : Bool := bit (dFlags x) 1 && decide (dOpcode x < 0x80)
def dNoDegrade (x : BitVec 512) : Bool := bit (dFlags x) 2
def dCid (x : BitVec 512) : Nat := darg x 2 2
def dPlan (x : BitVec 512) : Nat := darg x 4 2
def dDigest (x : BitVec 512) : Nat := darg x 6 2
def dStripe (x : BitVec 512) : Nat := darg x 8 8
def dOffset (x : BitVec 512) : Nat := darg x 0x10 4
def dLength (x : BitVec 512) : Nat := darg x 0x14 4
def dSglAddr (x : BitVec 512) : Nat := darg x 0x18 8
def dSglCount (x : BitVec 512) : Nat := darg x 0x20 4
def dArg0 (x : BitVec 512) : Nat := darg x 0x24 4
def dDigestAddr (x : BitVec 512) : Nat := darg x 0x28 8
def dArg1 (x : BitVec 512) : Nat := darg x 0x30 8

/-- The entries of a scatter list as read (R120). -/
def sglEntries : Nat → List Byte → List (Nat × Nat)
  | 0, _ => []
  | n + 1, l => (leAt l 0 8, leAt l 8 4) :: sglEntries n (l.drop 16)

/-- The data opcodes that move shards (R120). -/
def isShardOp (o : Nat) : Bool := 1 ≤ o && o ≤ 5
/-- The opcodes that write shards (R214). -/
def writesShards (o : Nat) : Bool := o == 1 || o == 4 || o == 5
/-- The admin opcodes of R131. -/
def isAdminOp (o : Nat) : Bool :=
  (0x80 ≤ o && o ≤ 0x87) || (0x90 ≤ o && o ≤ 0x92) || (0xA0 ≤ o && o ≤ 0xA2) || (0xB0 ≤ o && o ≤ 0xB1)
    || (0xC0 ≤ o && o ≤ 0xC1) || (0xD0 ≤ o && o ≤ 0xD2)

/-- The completion status codes of R132. -/
def stSuccess : Nat := 0x0
def stAborted : Nat := 0x1
def stAlreadyComplete : Nat := 0x2
def stDegradedWrite : Nat := 0x3
def stRecovered : Nat := 0x4
def stBayAbsent : Nat := 0x10
def stBayUnreachable : Nat := 0x11
def stUnrecoverable : Nat := 0x12
def stCheckFail : Nat := 0x13
def stHostDma : Nat := 0x20
def stJournalLost : Nat := 0x21
def stNotPermitted : Nat := 0x30
def stNotLoaded : Nat := 0x31
def stInvalid : Nat := 0x32
def stBusy : Nat := 0x40
def stShrink : Nat := 0x41
def stAbortedByWake : Nat := 0x42
def stQuota : Nat := 0x43
def stInternal : Nat := 0xFF

/-- The order of R216; a status outside it ranks first, as nothing competes with it. -/
def statusRank (s : Nat) : Nat :=
  if s = stInternal then 1 else if s = stJournalLost then 2 else if s = stHostDma then 3 else if s = stCheckFail then 4
  else if s = stUnrecoverable then 5 else if s = stBayUnreachable then 6 else if s = stBayAbsent then 7
  else if s = stDegradedWrite then 8 else if s = stRecovered then 9 else if s = stSuccess then 10 else 0

/-- The first of two statuses in the order of R216. -/
def firstStatus (a b : Nat) : Nat := if statusRank b < statusRank a then b else a

/-! ## Plan geometry -/

/-- Shard size (R135). -/
def Plan.shard (p : Plan) : Nat := 2 ^ p.log2s
/-- Bytes of data per stripe (R138). -/
def Plan.dataLen (p : Plan) : Nat := p.k * p.shard
/-- Positions of a stripe. -/
def Plan.width (p : Plan) : Nat := p.k + p.m
/-- Block columns of a stripe (R140). -/
def Plan.columns (p : Plan) : Nat := p.shard / 4096
/-- The logical engine that codes stripe `s` (R158). -/
def Plan.engine (p : Plan) (s : Nat) : Nat := p.f + s % 2 ^ p.log2g
/-- The link of position `i` (R185). -/
def Plan.link (p : Plan) (i : Nat) : Nat := (p.targets.getD i (0, 0)).1
/-- The bay of position `i`: its link ÷ 8 (R185). -/
def Plan.bay (p : Plan) (i : Nat) : Nat := p.link i / 8
/-- The shard address of block `b` of position `i` of stripe `s` (R139, R140). -/
def Plan.addr (p : Plan) (i s b : Nat) : Nat := (p.targets.getD i (0, 0)).2 + s * p.shard + 4096 * b

/-- The part of block `b` of data shard `c` that lies in OFFSET to OFFSET + LENGTH − 1: first byte within the block and
length, none when no byte does (R138, R141). -/
def Plan.part (p : Plan) (off len c b : Nat) : Option (Nat × Nat) :=
  let s := c * p.shard + 4096 * b
  let lo := Nat.max s off
  let hi := Nat.min (s + 4096) (off + len)
  if lo < hi then some (lo - s, hi - lo) else none

/-- The data positions of column `b` that hold bytes in range (R141). -/
def Plan.inRange (p : Plan) (off len b : Nat) : List Nat := (List.range p.k).filter (fun c => (p.part off len c b).isSome)

/-- The columns in range, in order (R141). -/
def Plan.colsIn (p : Plan) (off len : Nat) : List Nat := (List.range p.columns).filter (fun b => !(p.inRange off len b).isEmpty)

/-- The pieces of host data in the order of R141: stripe byte offset and length. -/
def Plan.pieces (p : Plan) (off len : Nat) : List (Nat × Nat) :=
  (List.range p.columns).flatMap (fun b => (List.range p.k).filterMap (fun c =>
    (p.part off len c b).map (fun x => (c * p.shard + 4096 * b + x.1, x.2))))

/-! ## Run entries (R170, R171) -/

def runSrc (w : BitVec 64) : Nat := bits w.toNat 0 12
def runDst (w : BitVec 64) : Nat := bits w.toNat 12 12
def runEngine (w : BitVec 64) : Nat := bits w.toNat 24 7
def runKind (w : BitVec 64) : Nat := bits w.toNat 32 3
def runClass (w : BitVec 64) : Nat := bits w.toNat 36 6
def runCells (w : BitVec 64) : Nat := bits w.toNat 44 5
def runBackfill (w : BitVec 64) : Nat := bits w.toNat 52 12
/-- The reserved bits of a run entry are 0. -/
def runRsvdOk (w : BitVec 64) : Bool :=
  !bit w.toNat 31 && !bit w.toNat 35 && bits w.toNat 42 2 == 0 && bits w.toNat 49 3 == 0

def isLinkEp (e : Nat) : Bool := e < 0x200
def isEngEp (e : Nat) : Bool := 0x200 ≤ e && e < 0x240
def isPortEp (e : Nat) : Bool := 0x240 ≤ e && e < 0x248
def isHubLinkEp (e : Nat) : Bool := 0x250 ≤ e && e < 0x258

/-! ## Link geometry (R14, R278) -/

/-- Lanes of a width code. -/
def lanesOf (w : Nat) : Nat := 2 ^ w
/-- The lanes of the link whose first lane is `l`. -/
def linkLanes (l w : Nat) : List Nat := (List.range (lanesOf w)).map (l + ·)

/-- Width code of the link that begins at a lane, when FIRST is set. -/
def Image.first (g : Image) (l : Nat) : Option Nat :=
  let b := g.lanes.getD l 0
  if l < 512 ∧ bit b 2 then some (b % 4) else none

/-- A link within its bay and aligned to its width (R14). -/
def linkAligned (l w : Nat) : Bool := l % 8 % lanesOf w == 0

end Sys2Proof.Machine
end

