-- ==== Sys2Proof/Machine/Journal.lean ====
section
/-! DEFINITION. The journal's life of an entry, the debt log and the scrub log, and the completion sequencer (R215–R236,
R254–R268, R123–R126). -/
namespace Sys2Proof.Machine

/-! ## Logs -/

/-- Can the debt log record this stripe and position (R224)? -/
def Dev.debtRoom (d : Dev) (plan pos stripe : Nat) : Bool :=
  d.debt.any (fun e => e.plan == plan && e.pos == pos && (e.stripe + e.count == stripe || e.stripe == stripe + 1))
    || decide (d.debt.length < 65536)

/-- An existing entry extended by one stripe at either end, if one can be (R223). -/
def debtExtend (plan pos stripe : Nat) : List Debt → Option (List Debt)
  | [] => none
  | e :: l =>
    if e.plan = plan ∧ e.pos = pos ∧ e.stripe + e.count = stripe then some ({ e with count := e.count + 1 } :: l)
    else if e.plan = plan ∧ e.pos = pos ∧ e.stripe = stripe + 1 then
      some ({ e with stripe := stripe, count := e.count + 1 } :: l)
    else (debtExtend plan pos stripe l).map (e :: ·)

/-- A degraded write's stripe and position enter the debt log (R223); a new entry, and the log filling, raise source 21. -/
def Dev.debtRecord (d : Dev) (plan pos stripe bay : Nat) : Dev :=
  match debtExtend plan pos stripe d.debt with
  | some l => { d with debt := l }
  | none =>
    if d.debt.length < 65536 then
      let d := { d with debt := d.debt ++ [Debt.mk d.now stripe 1 plan pos bay] }
      let d := d.raise 21
      if d.debt.length = 65536 then d.raise 21 else d
    else d

/-- A write that cannot be recorded is refused (R224). -/
def Dev.debtRefuse (d : Dev) : Dev := d.inc JNL_DEBT_REFUSED_COUNT

/-- One entry with a paid stripe taken out: shortened at an end, or split when the log has room (R225). -/
def debtCut (room : Bool) (stripe : Nat) (e : Debt) : List Debt :=
  if e.count = 1 then []
  else if e.stripe = stripe then [{ e with stripe := stripe + 1, count := e.count - 1 }]
  else if e.stripe + e.count = stripe + 1 then [{ e with count := e.count - 1 }]
  else if room then
    [{ e with count := stripe - e.stripe },
     { e with stripe := stripe + 1, count := e.stripe + e.count - stripe - 1 }]
  else [e]

/-- A paid stripe and position taken out of every entry that covers them, in turn, with room for `room` more entries (R225). -/
def debtPaid (plan pos stripe : Nat) : Nat → List Debt → List Debt
  | _, [] => []
  | room, e :: l =>
    if e.plan = plan ∧ e.pos = pos ∧ e.stripe ≤ stripe ∧ stripe < e.stripe + e.count then
      let c := debtCut (decide (0 < room)) stripe e
      c ++ debtPaid plan pos stripe (room + 1 - c.length) l
    else e :: debtPaid plan pos stripe room l

/-- A stripe's debt for a position is paid down (R225). -/
def Dev.debtPay (d : Dev) (plan pos stripe : Nat) : Dev := { d with debt := debtPaid plan pos stripe (65536 - d.debt.length) d.debt }

/-- The scrub-log reasons of R235. -/
def scInconsistent : Nat := 1
def scCheckFail : Nat := 2
def scNotChecked : Nat := 3
def scUnreadable : Nat := 4
def scPartialWrite : Nat := 5
def scMoult : Nat := 6

/-- Does a finding merge into entry `e` (R236)? -/
def scrubMerges (plan slice reason pos source stride stripe : Nat) (e : ScrubE) : Bool :=
  e.plan == plan && e.slice == slice && e.reason == reason && e.pos == pos && e.source == source && e.stride == stride
    && e.stripe + e.count * stride == stripe

/-- A finding enters the scrub log (R235, R236). Of several entries it could merge into, the oldest takes it (log entry 134). -/
def Dev.finding (d : Dev) (plan slice reason pos source stride stripe : Nat) : Dev :=
  let old := d.scrub.length - 8
  let m := scrubMerges plan slice reason pos source stride stripe
  if (d.scrub.drop old).any m then
    let i := (d.scrub.drop old).findIdx m
    { d with scrub := d.scrub.mapIdx (fun j e => if j = old + i then { e with count := e.count + 1, time := d.now } else e) }
  else
    let q := d.rd JNL_SCRUB_SEQ_SEQ
    let q := if q = 0xFFFFFFFF then 1 else q + 1
    let l := d.scrub ++ [⟨d.now, stripe, 1, q, plan, slice, reason, pos, source, stride⟩]
    let d := Dev.wr { d with scrub := if 65536 < l.length then l.drop 1 else l } JNL_SCRUB_SEQ_SEQ q
    if reason = 1 ∨ reason = 2 ∨ reason = 4 then d.raise 21 else d

/-! ## Entries -/

/-- The SOURCE code of an operation's scrub-log findings (R235). -/
def scrubSource (op : Nat) : Nat :=
  if op = 1 then 3 else if op = 2 then 2 else if op = 3 then 0 else if op = 4 then 4 else 5

/-- A finding by an item's operation (R235). -/
def Dev.itemFinding (d : Dev) (n reason pos stripe : Nat) : Dev :=
  let e := d.entry n
  let op := dOpcode e.desc
  d.finding (if op = 5 ∧ reason = scPartialWrite then dArg0 e.desc % 4096 else dPlan e.desc) e.slice reason pos (scrubSource op) 1 stripe

/-- The stripe number an item works on: the destination's for a MIGRATE write (R241). -/
def Dev.itemStripe (d : Dev) (n : Nat) : Nat := dStripe (d.entry n).desc + (d.wk n).stripe
def Dev.itemTarget (d : Dev) (n : Nat) : Nat :=
  let e := d.entry n
  if dOpcode e.desc = 5 then dArg1 e.desc % 2 ^ 40 + (d.wk n).stripe else d.itemStripe n

/-- The plan an item writes: the destination plan of MIGRATE, its own plan otherwise. -/
def Dev.writePlanNo (d : Dev) (n : Nat) : Nat :=
  let e := d.entry n
  if dOpcode e.desc = 5 then dArg0 e.desc % 4096 else dPlan e.desc

/-- The staging space an item holds is freed (R84, R164). -/
def Dev.freeStage (d : Dev) (n : Nat) : Dev :=
  let e := d.entry n
  let c := d.slice e.slice
  if e.stage = 0 then d else d.setSlice e.slice { c with stageUse := c.stageUse - e.stage }

/-- The index word of an entry (R255). -/
def JEntry.word (e : JEntry) : JIdx := { slice := e.slice, instar := e.instar, queue := e.queue, cid := dCid e.desc, opcode := dOpcode e.desc, valid := true }

/-- A descriptor enters slot `n`: the entry and the index word (R255, R256). -/
def Dev.openEntry (d : Dev) (n : Nat) (e : JEntry) : Dev := (d.setEntry n e).setIdx n e.word

/-- What an item has given the completion sequencer: its completion, or its abort request. -/
def SeqReq.ofSlot (n : Nat) : SeqReq → Bool
  | .done x => x == n
  | .abort a _ _ => a == n
  | _ => false

/-- A slot is released (R257). -/
def Dev.release (d : Dev) (n : Nat) : Dev :=
  let d := d.freeStage n
  { d with jnl := d.jnl.drop n, jidx := d.jidx.drop n, work := d.work.drop n, aborts := d.aborts.filter (fun a => a.1 != n && a.2 != n),
           seqQ := d.seqQ.filter (fun r => !r.ofSlot n) }

/-- An item reaches the completion sequencer with its status and result (R256, R215). -/
def Dev.complete (d : Dev) (n status result hi : Nat) : Dev :=
  let e := d.entry n
  if e.state = 0 ∨ e.state = 7 then d
  else
    let d := d.setEntry n { e with state := 7, status := status, result := result % 2 ^ 32, resultHi := hi % 2 ^ 16 }
    { d with seqQ := d.seqQ ++ [.done n] }

/-- A command on the admin ring completes with a status and a 48-bit result (R131). -/
def Dev.finish (d : Dev) (n status : Nat) (result : Nat := 0) : Dev := d.complete n status result (result / 2 ^ 32)

/-- A status an operation meets (R216). -/
def Dev.meet (d : Dev) (n status : Nat) : Dev :=
  let e := d.entry n
  d.setEntry n { e with status := firstStatus e.status status }

/-- A column's emitted blocks are durable but for the dropped position (R218). -/
def Work.durable (w : Work) (dropped : Option Nat) (col : Nat) : Bool :=
  (maskList (w.outs.get col 0) 32).all (fun i => dropped == some i || bit (w.acks.get col 0) i)

/-- Every block of the stripe an item writes has been sent and acknowledged. -/
def Dev.allAcked (d : Dev) (n : Nat) : Bool :=
  let e := d.entry n
  let w := d.wk n
  match d.plan (d.writePlanNo n) with
  | some p => decide (p.columns ≤ (if dOpcode e.desc = 4 then w.rcol else w.wcol)) && (List.range p.columns).all (w.durable e.dropped)
  | none => false

/-- Does the stripe an item writes end as a partial write (R219, R220, R246, R266)? -/
def Dev.partialDue (d : Dev) (n : Nat) : Bool :=
  let w := d.wk n
  writesShards (dOpcode (d.entry n).desc)
    && (w.partialIf == 2 || (w.partialIf == 1 && w.sent) || (w.partialIf == 3 && w.sent && !d.allAcked n))

/-- A stripe that ends as a partial write enters the scrub log. -/
def Dev.logPartial (d : Dev) (n : Nat) : Dev :=
  if d.partialDue n then d.itemFinding n scPartialWrite 0xFF (d.itemTarget n) else d

/-- When the present stripe has ended, it is a partial write under the condition `k` of `Work.partialIf`. -/
def Dev.markPartial (d : Dev) (n k : Nat) : Dev := d.setWk n { d.wk n with partialIf := k }

/-- An operation's status is decided: it completes once no block sent still awaits acknowledgement, and is ENDING until
then (R219, R256). -/
def Dev.conclude (d : Dev) (n status : Nat) : Dev :=
  let d := (d.meet n status).setWk n { d.wk n with replay := none }
  let e := d.entry n
  if (d.wk n).opens = 0 then (d.logPartial n).complete n e.status e.result e.resultHi
  else d.setEntry n { e with state := 6 }

/-! ## Completion entries -/

/-- The queue's interrupt fires (R126). -/
def Dev.fireIrq (d : Dev) (q : Nat) : Dev :=
  let c := d.queue q
  let s := d.queueSlice q
  let d := d.setQueue q { c with coalCount := 0, coalStart := 0 }
  d.msix (d.slicePort s) (d.rd (SLC_VECTORS_BASE s) + c.vecOff)

/-- A completion entry counts toward coalescing (R126). -/
def Dev.countIrq (d : Dev) (q : Nat) : Dev :=
  let c := d.queue q
  if c.irqCount = 0 then d
  else
    let d := d.setQueue q { c with coalCount := c.coalCount + 1, coalStart := if c.coalCount = 0 then d.now else c.coalStart }
    if c.irqCount ≤ c.coalCount + 1 then d.fireIrq q else d

/-- The 16 bytes of a completion entry (R123). -/
def cqEntry (cid status result sqHead hi instar : Nat) (phase : Bool) : List Byte :=
  leBytes 2 cid ++ leBytes 2 status ++ leBytes 4 result ++ leBytes 4 sqHead ++ leBytes 2 hi ++ leBytes 1 instar
    ++ leBytes 1 (b2n phase)

/-- A completion entry is written to its queue's ring, and CQ_TAIL and PHASE move on (R118, R123–R126, R552). A queue
halted with CQ_DMA gets none. -/
def Dev.writeCq (d : Dev) (q cid status result hi instar : Nat) (irq : Bool) : Dev :=
  let c := d.queue q
  let s := d.queueSlice q
  if c.cqDead then d
  else
    let n := 2 ^ c.cqLog2
    let a := c.cqBase + 16 * (c.cqTail % n)
    match d.hostWrite s instar false false a (cqEntry cid status result c.sqHead hi instar c.phase) with
    | (true, d) =>
      let t := (c.cqTail + 1) % 2 ^ 32
      let d := d.setQueue q { d.queue q with cqTail := t, phase := if t % n = 0 then !c.phase else c.phase }
      let x := d.slice s
      let d := d.setSlice s { x with completed := x.completed + 1 }
      if irq then d.countIrq q else d
    | (false, d) =>
      let d := d.setQueue q { d.queue q with state := 3, err := 0xA, cqDead := true }
      let d := d.fault { unit := .slc, src := 4, access := 4, addr := a, port := some (d.slicePort s), slice := some s, detail := q }
      d.raise 16

/-- A stale item is discarded without an entry (R85). An admin command is counted now (R99); a data item was when the moult
began. -/
def Dev.discard (d : Dev) (n : Nat) : Dev :=
  let e := d.entry n
  let d := d.release n
  if 0x80 ≤ dOpcode e.desc then d.incSat (SLC_STALE_DISCARDED e.slice) else d

/-- The aborts that won against an item and wait for its entry succeed, and its slot is released (R245, R257). -/
def Dev.delivered (d : Dev) (n : Nat) : Dev :=
  let waiting := d.aborts.filter (fun a => a.2 == n)
  waiting.foldl (fun d a => d.complete a.1 stSuccess 0 0) (d.release n)

/-- An item's entry is written. Its slot is released once the entry has been issued at host egress: at once, or when the port's
held egress leaves (R53, R257). -/
def Dev.deliver (d : Dev) (n : Nat) : Dev :=
  let e := d.entry n
  let p := d.slicePort e.slice
  let k := (d.port p).held.length
  let d := d.writeCq e.queue (dCid e.desc) e.status e.result e.resultHi e.instar (!dNoIrq e.desc)
  match (d.port p).held[k]? with
  | some h => d.setPort p { d.port p with held := (d.port p).held.set k { h with entry := some (n, e.serial) } }
  | none => d.delivered n

/-- An item's completion has passed the sequencer and waits for host egress (R257). -/
def Dev.passed (d : Dev) (n : Nat) : Bool :=
  (d.port (d.slicePort (d.entry n).slice)).held.any (fun h => h.entry == some (n, (d.entry n).serial))

/-- Is the item of a held completion entry still in its slot? -/
def Dev.holds (d : Dev) (x : Nat × Nat) : Bool := d.live x.1 && (d.entry x.1).serial == x.2

/-- An abort wins against a live target (R245, R246); one that an earlier abort has won waits for the same entry. -/
def Dev.abortWins (d : Dev) (a t : Nat) : Dev :=
  let e := d.entry t
  let d := { d with aborts := d.aborts ++ [(a, t)] }
  if e.abortReq then d
  else
  let d := { d with seqQ := d.seqQ.filter (fun r => r != SeqReq.done t) }
  let d := d.setEntry t { e with abortReq := true, state := 2, status := stAborted, resultHi := 0 }
  let d := (d.markPartial t 3).setWk t { (d.markPartial t 3).wk t with replay := none }
  if (d.wk t).opens = 0 then (d.logPartial t).complete t stAborted e.result 0
  else d.setEntry t { d.entry t with state := 6 }

/-- One request through the completion sequencer (R215): stale discard, abort decision, then the entry. -/
def Dev.sequence (d : Dev) (r : SeqReq) : Dev :=
  match r with
  | .done n =>
    let e := d.entry n
    if e.state != 7 then d
    else if e.instar != d.sliceInstar e.slice then d.discard n
    else d.deliver n
  | .abort a t serial =>
    let e := d.entry a
    if e.state = 0 then d
    else if e.instar != d.sliceInstar e.slice then d.discard a
    else if d.live t && (d.entry t).serial == serial && !d.passed t then d.abortWins a t
    else d.complete a stAlreadyComplete 0 0
  | .queueReport q s instar cid status result irq =>
    if instar != d.sliceInstar s || d.queueSlice q != s then d else d.writeCq q cid status result 0 instar irq

/-! ## Scatter lists (R252) -/

/-- Entries of an item's scatter list are missing: its slot holds the first 56 (R252). -/
def Dev.listShort (d : Dev) (n : Nat) : Bool :=
  let x := (d.entry n).desc
  (dOpcode x == 1 || dOpcode x == 2) && decide ((d.entry n).sgl.length < dSglCount x % 65536)

/-- The missing entries are read from SGL_ADDR (R252); a failed read ends the item (R267). -/
def Dev.askList (d : Dev) (n : Nat) : Dev :=
  let e := d.entry n
  let k := e.sgl.length
  if !d.listShort n || 5 ≤ e.state || d.reads.any (fun r => r.why == .list n e.serial) then d
  else
    match d.hostRead e.slice (dSglAddr e.desc + 16 * k) (16 * (dSglCount e.desc % 65536 - k)) false (.list n e.serial) with
    | (true, d) => d
    | (false, d) => (d.markPartial n 1).conclude n stHostDma

/-! ## Replay (R260–R266) -/

/-- An entry ends for having been replayed too often (R266). -/
def Dev.replayLimit (d : Dev) (n : Nat) : Dev :=
  let e := d.entry n
  let d := d.jnlFault 4 0 n e.slice
  let d := (d.inc JNL_REPLAY_LIMIT_COUNT).markPartial n 1
  d.conclude n stInternal

/-- A replay trigger applies to an entry: it is in REPLAY until the boundary, the lower code standing (R256, R260, R262). A stale
or ending entry is not replayed (R265). -/
def Dev.askReplay (d : Dev) (n trigger : Nat) : Dev :=
  let e := d.entry n
  let w := d.wk n
  if e.state = 0 ∨ 5 ≤ e.state ∨ e.instar ≠ d.sliceInstar e.slice ∨ e.abortReq then d
  else
    let t := match w.replay with
      | none => trigger
      | some x => Nat.min x trigger
    let d := if isShardOp (dOpcode e.desc) ∧ (e.state = 2 ∨ e.state = 3) then d.setEntry n { e with state := 4 } else d
    d.setWk n { w with replay := some t }

/-- Host bytes of the columns before column `b` (R141). -/
def Plan.bytesTo (p : Plan) (off len b : Nat) : Nat :=
  (List.range b).foldl (fun a c => (List.range p.k).foldl (fun a i => a + ((p.part off len i c).map (·.2)).getD 0) a) 0

/-- The first column from `c` on that an item reads. -/
def nextCol (p : Plan) (off len c : Nat) : Nat :=
  (((List.range p.columns).filter (fun b => decide (c ≤ b) && !(p.inRange off len b).isEmpty)).head?).getD p.columns

/-- The passing state an entry resumes with at its column cursor (R258, R260): everything in transit is dropped. Staged
data stays (R164), and a merged stripe is not read again. -/
def Work.restart (w : Work) (p : Option Plan) (e : JEntry) : Work :=
  let x := e.desc
  let before := (p.map (fun p => p.bytesTo (dOffset x) (dLength x) e.col)).getD 0
  let w := { w with cells := [], part := [], blocks := [], linkOut := [], asks := 0, wit := none, witness := none, enc := [] }
  let w := { w with full := false, ml := false, matWait := false, replay := none, wcol := e.col, att := w.att + 1 }
  if dOpcode x = 1 ∧ w.merged then { w with merged := false }
  else if dOpcode x = 1 ∧ e.staged then { w with asked := 0, rcol := 0, have_ := [], given := 0 }
  else if dOpcode x = 1 then { w with asked := before, have_ := [] }
  else if dOpcode x = 5 then { w with rcol := 0, have_ := [] }
  else if dOpcode x = 2 then { w with given := before, rcol := (p.map (fun p => nextCol p (dOffset x) (dLength x) e.col)).getD e.col }
  else { w with rcol := e.col }

/-- The entry is replayed from its column cursor (R258, R260, R262): what was under way is dropped, REPLAYS and the
trigger's counter step, or the entry ends at REPLAY_MAX (R266). -/
def Dev.replay (d : Dev) (n : Nat) : Dev :=
  let e := d.entry n
  let w := d.wk n
  match w.replay with
  | none => d
  | some t =>
    -- R265: an entry that is ending, aborted or stale is not replayed
    if e.state = 0 ∨ 5 ≤ e.state ∨ e.abortReq ∨ e.instar ≠ d.sliceInstar e.slice then d.setWk n { w with replay := none }
    else if d.rd JNL_CFG_REPLAY_MAX < e.replays + 1 then Dev.replayLimit (d.setWk n { w with replay := none }) n
    else
      let w' := w.restart (d.plan (dPlan e.desc)) e
      let st := if e.state ≠ 4 then e.state else if e.held then 3 else 2
      let d := (d.setWk n w').setEntry n { e with state := st, replays := Nat.min 255 (e.replays + 1), trigger := t, sgl := e.sgl.take 56 }
      d.inc (JNL_REPLAY_COUNT (t - 1))

/-- Every entry a trigger applies to. -/
def Dev.askReplayAll (d : Dev) (trigger : Nat) (p : Nat → Bool) : Dev :=
  (d.liveSlots.filter p).foldl (fun d n => d.askReplay n trigger) d

end Sys2Proof.Machine
end

