-- ==== Sys2Proof/Machine/Slices.lean ====
section
/-! DEFINITION. Slices: tenants by process identifier (R68–R101) and their admin commands. -/
namespace Sys2Proof.Machine

/-! ## When a command may start -/

/-- Items of the same queue accepted earlier and not yet released. -/
def Dev.earlier (d : Dev) (n : Nat) : List Nat :=
  let e := d.entry n
  d.liveSlots.filter (fun x => (d.entry x).queue == e.queue && decide ((d.entry x).serial < e.serial)
    && (d.entry x).slice == e.slice)

/-- May an item start (R127): no uncompleted FENCE before it, nothing at all before a FENCE or an ORDERED item? -/
def Dev.mayStart (d : Dev) (n : Nat) : Bool :=
  let e := d.entry n
  let l := d.earlier n
  if dOpcode e.desc = 6 ∨ dOrdered e.desc then l.isEmpty else !l.any (fun x => dOpcode (d.entry x).desc == 6)

/-- The slice an admin command names (R131), for the slice commands. -/
def sliceArg (x : BitVec 512) : Nat := darg x 4 2

/-- A slice command. -/
def isSliceOp (o : Nat) : Bool := 0x80 ≤ o && o ≤ 0x87

/-- Does the earlier command `x` bar command `n`, both naming the same slice (R81)? A moult or a destruction supersedes
a quiesce or a cocoon under way. -/
def Dev.barsSlice (d : Dev) (n x : Nat) : Bool :=
  let e := d.entry n
  let f := d.entry x
  let o := dOpcode f.desc
  isSliceOp o && sliceArg f.desc == sliceArg e.desc && decide (f.serial < e.serial) && f.state != 7
    && !((dOpcode e.desc == 0x82 || dOpcode e.desc == 0x81) && (o == 0x83 || o == 0x84) && f.state == 2)

/-- Is the admin command in slot `n`, of opcode `op`, accepted and free to start (R81, R127, R130)? A command accepted before
a reset of the manager port runs all the same (R65). -/
def Dev.adminReady (d : Dev) (n op : Nat) : Bool :=
  let e := d.entry n
  e.state == 1 && dOpcode e.desc == op && e.slice == 0 && d.mayStart n
    && !(isSliceOp op && d.liveSlots.any (d.barsSlice n)) && !d.flt.grave

/-- An admin command starts and has its effect; nothing happens while it may not start. -/
def Dev.admin (d : Dev) (n op : Nat) (f : BitVec 512 → Dev → Dev) : Dev :=
  let e := d.entry n
  if d.adminReady n op then f e.desc (d.setEntry n { e with state := 2 }) else d

/-! ## Descriptor fetch (R113–R116) -/

/-- Intake is open: the device is ACTIVE with GDDR6 trained, and no entry into another state has stopped it (R395, R410,
R466, R510). -/
def Dev.intake (d : Dev) : Bool := d.pwr.mode == 0 && d.pwr.trained && !d.pwr.noIntake && !d.flt.grave

/-- May descriptors of a slice be fetched (R39, R53, R69, R79, R91, R94, R422)? -/
def Dev.canFetch (d : Dev) (s : Nat) : Bool :=
  let n := d.slicePort s
  d.intake && (s == 0 || !d.flag AON_STATE_INCOMPLETE) && d.sliceState s == 1 && !d.flag (SLC_STATE_DRAINING s) && !d.flag (SLC_STATE_ID_MISMATCH s) && !d.egressHeld n
    && ((d.port n).pasidEn || d.rd (SLC_PASID_PASID s) == 0)

/-- A queue halts with a cause and reports it (R115, R118). -/
def Dev.haltQueue (d : Dev) (q err src addr status result : Nat) : Dev :=
  let s := d.queueSlice q
  let d := d.setQueue q { d.queue q with state := 3, err := err }
  let d := d.fault { unit := .slc, src := src, access := 3, addr := addr, port := some (d.slicePort s), slice := some s, detail := q }
  { d with seqQ := d.seqQ ++ [.queueReport q s (d.sliceInstar s) 0xFFFF status result true] }

/-- Descriptors are read from slot SQ_HEAD on: at most 64, not across the ring's end, up to SQ_PI or, for a removed
queue, up to its recorded index (R93, R114). -/
def Dev.readMore (d : Dev) (q : Nat) : Dev :=
  let c := d.queue q
  let s := d.queueSlice q
  let n := 2 ^ c.sqLog2
  let pi := c.limit.getD c.sqPi
  let ahead := (pi + 2 ^ 32 - c.sqHead) % 2 ^ 32
  let slot := c.sqHead % n
  let k := Nat.min 64 (Nat.min ahead (n - slot))
  if c.state ≠ 1 ∨ c.hold ∨ c.reading ∨ ¬c.fetched.isEmpty ∨ k = 0 ∨ n < ahead ∨ ¬d.canFetch s then d
  else
    match d.hostRead s (c.sqBase + 64 * slot) (64 * k) false (.desc q k) with
    | (true, d) => d.setQueue q { d.queue q with reading := true, rechecked := false }
    | (false, d) => d.haltQueue q 9 3 (c.sqBase + 64 * slot) stHostDma 0

/-! ## Pools (R71–R73) -/

/-- The tenant-assignable hub runs of a port in an image, in pool order (R191). -/
def Image.pool (g : Image) (n : Nat) : List Nat := g.pools.getD n []

/-- The size of a port's pool in the image in force (R99). -/
def Dev.poolSize (d : Dev) (n : Nat) : Nat := ((d.inForce.map (fun g => (g.pool n).length))).getD 0

/-- The slot of an accepted image switch, by command or by a profile change. -/
def Dev.nextImage (d : Dev) : Option Nat :=
  match d.sch.switch with
  | some w => some w.slot
  | none => d.sch.prof.map (·.slot)

/-- The runs of a port that may be assigned: those of the image in force, and of an image an accepted switch will bring (R71). -/
def Dev.poolRoom (d : Dev) (n : Nat) : Nat :=
  match d.nextImage.bind d.image with
  | some g => Nat.min (d.poolSize n) (g.pool n).length
  | none => d.poolSize n

/-- The last queue of a slice's range, with an accepted SET_SHARE that raises it (R71, R92). -/
def Dev.lastComing (d : Dev) (s : Nat) : Nat :=
  match (d.slice s).share with
  | some r => if bit r.mask 3 then Nat.max r.qlast (d.rd (SLC_QUEUES_LAST s)) else d.rd (SLC_QUEUES_LAST s)
  | none => d.rd (SLC_QUEUES_LAST s)

/-- Runs assigned to the slices of a port (R99). -/
def Dev.runsAssigned (d : Dev) (n : Nat) : Nat :=
  ((d.portSlices n).filter (· ≠ 0)).foldl (fun a s => a + d.rd (SLC_SHARE_RUNS s)) 0

/-- What an accepted SET_SHARE of the other slices will add at its boundary to a resource of R92: `f` picks it, `cur` reads it. -/
def Dev.pendingRaise (d : Dev) (s0 bitNo : Nat) (f : ShareReq → Nat) (cur : Nat → Nat) (p : Nat → Bool) : Nat :=
  ((d.liveSlices.filter (fun s => s != s0 && p s)).map (fun s =>
    match (d.slice s).share with
    | some r => if bit r.mask bitNo then f r - cur s else 0
    | none => 0)).sum

/-- Runs of a port, staging MiB and journal units that accepted SET_SHAREs will draw (R71, R92). -/
def Dev.runsComing (d : Dev) (s0 n : Nat) : Nat :=
  d.pendingRaise s0 0 (·.runs) (fun s => d.rd (SLC_SHARE_RUNS s)) (fun s => d.slicePort s == n)
def Dev.stageComing (d : Dev) (s0 : Nat) : Nat :=
  d.pendingRaise s0 1 (·.stage) (fun s => d.rd (SLC_QUOTA_STAGE_MIB s)) (fun _ => true)
def Dev.jnlComing (d : Dev) (s0 : Nat) : Nat :=
  d.pendingRaise s0 2 (·.jnl) (fun s => d.rd (SLC_QUOTA_JNL_UNITS s)) (fun _ => true)

/-- Staging MiB assigned to slices. -/
def Dev.stageAssigned (d : Dev) : Nat := d.liveSlices.foldl (fun a s => a + d.rd (SLC_QUOTA_STAGE_MIB s)) 0

/-- The staging region less the recovery reserve (R164): what quotas are drawn from. -/
def Dev.stagePool (d : Dev) : Nat := d.rd MEM_STAGE_SIZE_MIB - 256

/-- Journal units assigned to slices other than 0, and the pool (R251). -/
def Dev.jnlAssigned (d : Dev) : Nat :=
  (d.liveSlices.filter (· ≠ 0)).foldl (fun a s => a + d.rd (SLC_QUOTA_JNL_UNITS s)) 0
def Dev.jnlPool (d : Dev) : Nat := d.capacity / 16 - 256

/-- Runs of a slice assigned anew from an image's pool: the first free ones in pool order (R72). -/
def assignRuns (pool : List Nat) (a : Tab Nat) (s runs : Nat) : Tab Nat :=
  ((pool.filter (fun x => a.get x 0 == 0)).take runs).foldl (fun a x => a.set x (s + 1) 0) a

/-- A slice's runs given back and `runs` assigned (R72). -/
def Dev.reassign (d : Dev) (s runs : Nat) : Dev :=
  let free := d.sch.assign.filter (fun e => e.2 != s + 1)
  let pool := (d.inForce.map (fun g => g.pool (d.slicePort s))).getD []
  { d with sch := { d.sch with assign := assignRuns pool free s runs } }

/-- Journal entries of a slice in use (R99). -/
def Dev.jnlUse (d : Dev) (s : Nat) : Nat := (d.sliceSlots s).length

/-! ## CREATE_SLICE (R71, R82) -/

/-- Two closed ranges overlap. -/
def overlap (a b c e : Nat) : Bool := decide (a ≤ e) && decide (c ≤ b)

/-- A journal quota outside the limits of R71. -/
def jnlBad (units : Nat) : Bool := units == 0 || decide (16384 < units)

/-- The INVALID_DESCRIPTOR conditions of CREATE_SLICE (R39, R49, R68, R69, R71, R82); that a share of more than 4,096 runs and a
journal quota of 0 or above 16,384 units are among them is a choice (log entry 80). -/
def Dev.createBad (d : Dev) (x : BitVec 512) : Bool :=
  let s := darg x 4 2
  let n := darg x 6 2
  let req := darg x 8 2
  let pasid := darg x 0xC 4
  let qb := darg x 0x10 2
  let ql := darg x 0x12 2
  let vb := darg x 0x14 2
  let vl := darg x 0x16 2
  let others := d.liveSlices.filter (· ≠ 0)
  s == 0 || decide (1023 < s) || d.sliceState s != 0
    || d.liveSlices.any (fun t => d.slicePort t == n && d.rd (SLC_BIND_REQ_ID t) == req && d.rd (SLC_PASID_PASID t) == pasid)
    || req != (d.port n).reqId || (pasid != 0 && !(d.port n).pasidEn)
    || qb == 0 || decide (ql < qb) || others.any (fun t => overlap qb ql (d.rd (SLC_QUEUES_BASE t)) (d.lastComing t))
    || decide (vl < vb) || decide (2047 < vl) || (n == d.mgrPort && decide (vb < 8))
    || (others.filter (fun t => d.slicePort t == n)).any
        (fun t => overlap vb vl (d.rd (SLC_VECTORS_BASE t)) (d.rd (SLC_VECTORS_LAST t)))
    || jnlBad (darg x 0x1E 2) || decide (4096 < darg x 0x18 2)

/-- The QUOTA_EXCEEDED conditions of CREATE_SLICE (R71, R82). -/
def Dev.createOver (d : Dev) (x : BitVec 512) : Bool :=
  let s := darg x 4 2
  let n := darg x 6 2
  decide (d.poolRoom n < d.runsAssigned n + d.runsComing s n + darg x 0x18 2)
    || decide (d.stagePool < d.stageAssigned + d.stageComing s + darg x 0x1C 2)
    || decide (d.jnlPool < d.jnlAssigned + d.jnlComing s + darg x 0x1E 2)

/-- The fields of a slice's table entry but its instar return to their Reset values. -/
def Dev.clearSliceRegs (d : Dev) (s : Nat) : Dev :=
  let i := d.sliceInstar s
  let b := 0x210000 + 0x100 * s
  let d := d.resetExcept (fun a => !(decide (b ≤ a) && decide (a < b + 0x100)))
  d.wr (SLC_STATE_INSTAR s) i

/-- The permission bitmap of a slice is cleared (R100). -/
def Dev.clearPerm (d : Dev) (s : Nat) : Dev :=
  let b := 0x300000 + 0x400 * s
  d.resetExcept (fun a => !(decide (b ≤ a) && decide (a < b + 0x400)))

/-- The queues of a slice's range from queue `from_` on return to the values of R106; what their ring and list reads bring is
no longer looked at. -/
def Dev.clearQueuesFrom (d : Dev) (s from_ : Nat) : Dev :=
  let mine := fun q : Nat => decide (from_ ≤ q) && decide (q ≤ d.rd (SLC_QUEUES_LAST s))
  { (d.dropReads (fun r => (match r.why with | .desc x _ => mine x | .sgl x => mine x | _ => false))) with
    queues := d.queues.filter (fun e => !mine e.1) }

/-- Every queue context of a slice returns to the values of R106. -/
def Dev.clearQueues (d : Dev) (s : Nat) : Dev := d.clearQueuesFrom s (d.rd (SLC_QUEUES_BASE s))

/-- CREATE_SLICE (R71, R82, R83, R100, R101). -/
def createSlice (n : Nat) (d : Dev) : Dev :=
  d.admin n 0x80 (fun x d =>
    let s := darg x 4 2
    if d.createBad x then d.finish n stInvalid
    else if d.createOver x then d.finish n stQuota
    else
      let target := darg x 0xA 2 % 2
      let d := (d.clearSliceRegs s).clearPerm s
      let d := d.wrs [(SLC_STATE_STATE s, if target = 1 then 2 else 1), (SLC_STATE_RESTORE_TARGET s, target),
        (SLC_BIND_REQ_ID s, darg x 8 2), (SLC_BIND_PORT s, darg x 6 2), (SLC_PASID_PASID s, darg x 0xC 4),
        (SLC_QUEUES_BASE s, darg x 0x10 2), (SLC_QUEUES_LAST s, darg x 0x12 2), (SLC_QUEUES_NEXT_BASE s, darg x 0x10 2),
        (SLC_QUEUES_NEXT_LAST s, darg x 0x12 2), (SLC_VECTORS_BASE s, darg x 0x14 2), (SLC_VECTORS_LAST s, darg x 0x16 2),
        (SLC_SHARE_RUNS s, darg x 0x18 2), (SLC_SHARE_RPOLL s, darg x 0x1A 2), (SLC_QUOTA_STAGE_MIB s, darg x 0x1C 2),
        (SLC_QUOTA_JNL_UNITS s, darg x 0x1E 2)]
      let d := (d.setSlice s { lastPoll := d.epoch }).clearQueues s
      (d.reassign s (darg x 0x18 2)).finish n stSuccess)

/-! ## Moult (R84–R90) -/

/-- The instar mechanism is unavailable to a slice (R90). -/
def Dev.period (d : Dev) (s : Nat) : Bool := d.flag SLC_GLOBAL_INSTAR_BUSY || d.flag (SLC_STATE_TEST_BUSY s)

/-- Work of the instar before the current one is still live (R89). -/
def Dev.oldWork (d : Dev) (s : Nat) : Bool := (d.sliceSlots s).any (fun n => (d.entry n).instar != d.sliceInstar s)

/-- Host reads of an earlier instar are outstanding (step 4 of R84). -/
def Dev.oldReads (d : Dev) (s : Nat) : Bool := d.reads.any (fun r => r.slice == s && r.instar != d.sliceInstar s)

/-- A quiesce or cocoon under way ends with ABORTED (R81). -/
def Dev.abortDrain (d : Dev) (s : Nat) : Dev :=
  let c := d.slice s
  match c.drainCmd with
  | none => d
  | some (m, _) => ((d.setSlice s { c with drainCmd := none }).wr (SLC_STATE_DRAINING s) 0).finish m stAborted

/-- One entry of the old instar at steps 2 and 3 of R84: not fired, it is freed; fired, its runs end, its stripe is
indeterminate when blocks were sent and not all of it is acknowledged (R88), and it stays until its blocks are acknowledged. An admin command runs to
completion (R65). -/
def Dev.moultEntry (d : Dev) (s n : Nat) : Dev :=
  let e := d.entry n
  let w := d.wk n
  if 0x80 ≤ dOpcode e.desc then d
  else if !w.fired || e.state = 5 then (d.release n).incSat (SLC_STALE_DISCARDED s)
  else
    let d := d.incSat (SLC_STALE_DISCARDED s)
    let d := if e.state != 7 && w.sent && !d.allAcked n && writesShards (dOpcode e.desc) then
        (d.finding (d.writePlanNo n) 0 scMoult 0xFF 6 1 (d.itemTarget n)).incSat (SLC_STALE_INDETERMINATE s)
      else d
    if w.opens = 0 then d.release n else (d.setEntry n { e with state := 6, status := stAborted }).setWk n { d.wk n with replay := none }

/-- A request or read of a stale instar of slice `s` that has not been issued. -/
def Dev.staleHeld (d : Dev) (s : Nat) (h : Held) : Bool := h.slice == s && h.instar != d.sliceInstar s
def Dev.staleRead (d : Dev) (s : Nat) (r : HRead) : Bool := r.slice == s && r.instar != d.sliceInstar s && !r.issued

/-- A held request is never made: the item whose completion entry it is leaves its slot (R85, R257). -/
def Dev.discardHeld (d : Dev) (h : Held) : Dev :=
  match h.entry with
  | some x => if d.holds x then d.discard x.1 else d
  | none => d

/-- Held egress of a stale instar is discarded instead of held (R85), and its reads not yet issued never will be (R84): that of an
admin command fails, so that the command runs to completion (R65; log entry 111). -/
def Dev.dropHeld (d : Dev) (s : Nat) : Dev :=
  let n := d.slicePort s
  let p := d.port n
  let gone := p.held.filter (d.staleHeld s)
  let d := d.setPort n { p with held := p.held.filter (fun h => !d.staleHeld s h) }
  let d := gone.foldl (fun d h => d.discardHeld h) d
  Dev.nextReads n d.reads.length { d with reads := (d.reads.filter (fun r => r.forCommand || !d.staleRead s r)).map (fun r =>
    if d.staleRead s r then { r with dead := true, ecc := true, reqs := [] } else r) }

/-- Completions of a stale instar that wait for the sequencer are discarded (R85): reports on the slice's queues. -/
def Dev.dropReports (d : Dev) (s : Nat) : Dev :=
  { d with seqQ := d.seqQ.filter (fun r => match r with
      | .queueReport _ t i _ _ _ _ => !(t == s && i != d.sliceInstar s)
      | _ => true) }

/-- Steps 1 to 3 of R84. -/
def Dev.moultStart (d : Dev) (s : Nat) : Dev :=
  let c := d.slice s
  match c.moult with
  | none => d
  | some m =>
    let d := d.wrs [(SLC_STATE_INSTAR s, d.sliceInstar s + 1), (SLC_STATE_MOULT_DEFERRED s, 0), (SLC_STATE_NUDGE_HELD s, 0),
      (SLC_STALE_DISCARDED s, 0), (SLC_STALE_INDETERMINATE s, 0)]
    let dropped := (d.sliceQueues s).foldl (fun a q => a + (d.queue q).fetched.length) 0
    let d := d.wr (SLC_STALE_DISCARDED s) (Nat.min 65535 dropped)
    let d := (d.sliceQueues s).foldl (fun d q => d.setQueue q { d.queue q with fetched := [], sgl := none, sglBusy := false }) d
    let d := (d.sliceSlots s).foldl (fun d n => d.moultEntry s n) d
    ((d.setSlice s { d.slice s with moult := some { m with step := 4 } }).dropHeld s).dropReports s

/-- The record address of step 6 of R84: the lowest-numbered queue enabled since the slice's creation, restore or last moult. -/
def Dev.moultRec (d : Dev) (s : Nat) : Option Nat := ((d.sliceQueues s).filterMap (fun q => (d.queue q).enabledRec)).head?

/-- Steps 4 to 6 of R84: once old reads and runs are gone, the zero-length read is issued, or skipped; for a slice with
ID_MISMATCH, which makes no host request (R69), it is skipped too (log entry 81). -/
def Dev.moultTry (d : Dev) (s : Nat) : Dev :=
  let c := d.slice s
  match c.moult with
  | none => d
  | some m =>
    if m.step ≠ 4 ∨ d.oldReads s then d
    else
      match (if d.slicePort s = d.mgrPort ∨ m.reset ∨ d.flag (SLC_STATE_ID_MISMATCH s) then none else d.moultRec s) with
      | none => d.setSlice s { c with moult := some { m with step := 7 } }
      | some a =>
        match d.hostRead s a 0 false (.moult s) with
        | (true, d) => d.setSlice s { c with moult := some { m with step := 6 } }
        | (false, d) => d.setSlice s { c with moult := some { m with step := 7, failed := true } }

/-- Reads not yet issued are made no more, nor are their requests held (R84). -/
def Dev.unmake (d : Dev) (p : HRead → Bool) : Dev :=
  let gone := d.reads.filter p
  let d := gone.foldl (fun d r =>
    let q := d.port r.port
    d.setPort r.port { q with held := q.held.filter (fun h => h.read != r.uid) }) d
  { d with reads := d.reads.filter (fun r => !p r) }

/-- A moult of a slice is asked for by a command, a destruction or a reset (R62, R64, R81, R84, R89). Under way already,
the asker joins it; a reset skips a step 6 whose read has not been issued. -/
def Dev.askMoult (d : Dev) (s : Nat) (cmd : Option Nat) (reset : Bool) (destroy : Option Nat) : Dev :=
  let d := d.abortDrain s
  let c := d.slice s
  match c.moult with
  | some m =>
    let m' := { m with cmds := m.cmds ++ cmd.toList, reset := m.reset || reset }
    let unsent := fun r : HRead => r.why == .moult s && !r.issued
    let skip := reset && m.step == 6 && d.reads.any unsent
    let d := if skip then d.unmake unsent else d
    d.setSlice s { c with moult := some { m' with step := if skip then 7 else m.step,
                                                  destroy := if m.destroy.isSome then m.destroy else destroy } }
  | none =>
    let wait := d.oldWork s || (reset && d.period s)
    let d := d.wrs [(SLC_STATE_STATE s, 4), (SLC_STATE_MOULT_DEFERRED s, b2n wait)]
    let d := d.setSlice s { c with moult := some ⟨0, cmd.toList, reset, destroy, false⟩ }
    if wait then d else (d.moultStart s).moultTry s

/-- A slice is freed: its resources return to their pools, its energy is reported and cleared (R83). An entry whose shard writes
are not yet acknowledged stays until they are (R89), without staging space. The other registers of the entry return to their Reset values (log entry
82). -/
def Dev.freeSlice (d : Dev) (s n : Nat) : Dev :=
  let mj := d.rd (SLC_ENERGY_LO_MJ s) + 2 ^ 32 * d.rd (SLC_ENERGY_HI_MJ s)
  let d := (d.sliceSlots s).foldl (fun d x => if (d.wk x).opens = 0 then d.release x else d.setEntry x { d.entry x with stage := 0 }) d
  let d := d.dropReads (fun r => r.slice == s && (match r.why with | .record _ _ _ => true | _ => false))
  let d := { (d.clearQueues s) with sch := { d.sch with assign := d.sch.assign.filter (fun e => e.2 != s + 1) } }
  let d := ((d.clearSliceRegs s).setSlice s {}).wrs [(SLC_STATE_STATE s, 0), (SLC_ENERGY_LO_MJ s, 0), (SLC_ENERGY_HI_MJ s, 0)]
  d.finish n stSuccess mj

/-- A held request is made: its PASID is the one it carries now (R39), a read is issued, and a completion entry frees its item's slot
(R257). -/
def Dev.release1 (d : Dev) (h : Held) : Dev :=
  match h.msg with
  | .msix n v => d.msix n v
  | .hostWrite n s _ rx ns ido a b =>
    let d := d.emit (.hostWrite n s (d.pasidOf s) rx ns ido a b)
    match h.entry with
    | some x => if d.holds x then d.delivered x.1 else d
    | none => d
  | .hostRead n s _ ns ido a k =>
    Dev.emit { d with reads := d.reads.map (fun r => if r.uid = h.read then { r with issued := true, since := d.now } else r) }
      (.hostRead n s (d.pasidOf s) ns ido a k)
  | m => d.emit m

/-- A held request stays held: its slice's PASID is barred (R39). MSI-X messages belong to no slice. -/
def Dev.staysHeld (d : Dev) (h : Held) : Bool := h.slice != 1024 && d.pasidBarred h.slice

/-- A held request is never made: its instar is stale, or nothing is made for its slice (R69, R85). -/
def Dev.neverMade (d : Dev) (h : Held) : Bool := h.slice != 1024 && (h.instar != d.sliceInstar h.slice || d.egressBarred h.slice)

/-- The egress that a port held leaves in its order (R39, R53, R85), once the port can issue requests; until then it stays held
(R552). -/
def Dev.flushHeld (d : Dev) (n : Nat) : Dev :=
  let p := d.port n
  if d.egressHeld n || !d.canIssue n || p.held.isEmpty then d
  else
    (p.held.filter (fun h => !d.staysHeld h)).foldl (fun e h => if d.neverMade h then e.discardHeld h else e.release1 h)
      (d.setPort n { p with held := p.held.filter d.staysHeld })

/-- Messages whose PBA bit is set are sent once nothing masks them and the port can issue requests (R49, R552). -/
def Dev.sendPending (d : Dev) (n : Nat) : Dev :=
  let p := d.port n
  if d.flt.grave || d.egressHeld n || !d.canIssue n then d
  else
    let go := p.pba.filter p.open
    go.foldl (fun d v => d.emit (.msix n v)) (d.setPort n { p with pba := p.pba.filter (fun v => !p.open v) })

/-- EGRESS_HOLD clears and the held egress resumes (R53, R63). -/
def Dev.resumeEgress (d : Dev) (n : Nat) : Dev := (d.wr (HP_STATUS_EGRESS_HOLD n) 0).flushHeld n

/-- Descriptors of a port's slices are read on (R39, R53). -/
def Dev.fetchPort (d : Dev) (n : Nat) : Dev := (d.portSlices n).foldl (fun d s => (d.sliceQueues s).foldl (fun d q => d.readMore q) d) d

/-- A deferral of port `n` goes on (R63). -/
def Dev.deferring (d : Dev) (n : Nat) : Bool :=
  d.flag SLC_GLOBAL_INSTAR_BUSY || (d.portSlices n).any (fun s => ((d.slice s).moult.map (·.reset)).getD false)

/-- The period of a deferral is over and every moult that a reset of a port asked for has been carried out: MOULT_DEFERRED clears, and EGRESS_HOLD unless the
function is in D3hot (R53, R63). -/
def Dev.deferEnd (d : Dev) (n : Nat) : Dev :=
  if !d.flag (HP_FLR_MOULT_DEFERRED n) || d.deferring n then d
  else
    let d := d.wr (HP_FLR_MOULT_DEFERRED n) 0
    if (d.port n).d3 then d else ((d.resumeEgress n).sendPending n).fetchPort n

/-- Step 7 of R84: queues disabled, the commands complete with the new instar, the slice is ACTIVE, or is freed (R83),
and the port's deferral may be over (R63). -/
def Dev.moultEnd (d : Dev) (s : Nat) : Dev :=
  let c := d.slice s
  match c.moult with
  | none => d
  | some m =>
    let d := (d.clearQueues s).wrs [(SLC_STATE_STATE s, 1), (SLC_STATE_DRAINING s, 0), (SLC_STATE_EXPORTED s, 0),
      (SLC_STATE_RESTORE_TARGET s, 0), (SLC_STATE_NUDGE_HELD s, 0), (SLC_STATE_MOULT_DEFERRED s, 0)]
    let d := d.setSlice s { c with moult := none, qsel := 0, drainCmd := none, duePages := [], lastPoll := d.epoch }
    let d := m.cmds.foldl (fun d n => d.finish n (if m.failed then stHostDma else stSuccess) (d.sliceInstar s)) d
    let n := d.slicePort s
    let d := match m.destroy with
      | none => d
      | some n => d.freeSlice s n
    d.deferEnd n

/-- A moult held under R89 or R63 begins once it may (R63, R89). -/
def moultBegin (s : Nat) (d : Dev) : Dev :=
  match (d.slice s).moult with
  | none => d
  | some m => if m.step ≠ 0 ∨ d.oldWork s ∨ (m.reset ∧ d.period s) then d else (d.moultStart s).moultTry s

/-- A moult whose steps 4 to 6 are done completes (R84, R87, R64). -/
def moultComplete (s : Nat) (d : Dev) : Dev :=
  let d := d.moultTry s
  match (d.slice s).moult with
  | none => d
  | some m => if m.step = 7 then d.moultEnd s else d

/-- MOULT_SLICE (R64, R82, R84, R90). -/
def moultSlice (n : Nat) (d : Dev) : Dev :=
  d.admin n 0x82 (fun x d =>
    let s := darg x 4 2
    if s = 0 ∨ 1023 < s ∨ d.sliceState s = 0 then d.finish n stInvalid
    else if d.period s then d.finish n stBusy
    else d.askMoult s (some n) false none)

/-- DESTROY_SLICE (R82, R83, R90). -/
def destroySlice (n : Nat) (d : Dev) : Dev :=
  d.admin n 0x81 (fun x d =>
    let s := darg x 4 2
    let st := d.sliceState s
    if s = 0 ∨ 1023 < s ∨ st = 0 then d.finish n stInvalid
    else if st = 1 ∧ d.period s then d.finish n stBusy
    else if st = 1 ∨ st = 4 then d.askMoult s none false (some n)
    else (d.abortDrain s).freeSlice s n)

/-! ## Quiesce, cocoon (R91, R94) -/

/-- The record pages of a slice: the distinct 4 KiB pages that hold records of its enabled queues, at most 128 (R113, R133); of
more, the lowest 128 (log entry 83). -/
def Dev.recordPages (d : Dev) (s : Nat) : List Nat :=
  ((d.sliceQueues s).foldl (fun l q => let c := d.queue q; if c.state = 1 then setAdd (c.recAddr / 4096) l else l) []).take 128

/-- A fetch of a record page is outstanding. -/
def Dev.fetching (d : Dev) (s page : Nat) : Bool :=
  d.reads.any (fun r => r.slice == s && r.instar == d.sliceInstar s && (r.why == .record s page true || r.why == .record s page false))

/-- A failed record-page read is captured by the queue manager; the queue is free where the page serves several (R118, R448; log
entry 15). -/
def Dev.recordFault (d : Dev) (n s page : Nat) : Dev :=
  let f : FEv := { unit := .slc, src := 2, access := 3, addr := page * 4096, port := some n, slice := some s }
  match (d.sliceQueues s).filter (fun q => (d.queue q).state == 1 && (d.queue q).recAddr / 4096 == page) with
  | [q] => d.fault { f with detail := q }
  | _ => d.faultFree f false 65536

/-- A record page is fetched (R113, R116, R118). -/
def Dev.fetchPage (d : Dev) (s page : Nat) (recheck : Bool) : Dev :=
  match d.hostRead s (page * 4096) 4096 false (.record s page recheck) with
  | (true, d) => d
  | (false, d) => d.recordFault (d.slicePort s) s page

/-- Every record page of a slice is fetched, from which its record-poll interval counts (R113). -/
def Dev.fetchAll (d : Dev) (s : Nat) (f : Nat → Dev → Dev) : Dev :=
  (d.recordPages s).foldl (fun d p => f p d) (d.setSlice s { d.slice s with lastPoll := d.epoch })

/-- A slice returns to ACTIVE: its record pages are fetched once and NUDGE_HELD clears (R79). -/
def Dev.resume (d : Dev) (s : Nat) : Dev :=
  let d := d.wrs [(SLC_STATE_STATE s, 1), (SLC_STATE_NUDGE_HELD s, 0)]
  let d := d.fetchAll s (fun p d => d.fetchPage s p false)
  (d.sliceQueues s).foldl (fun d q => d.readMore q) d

/-- QUIESCE_SLICE, with and without RESUME (R82, R91). -/
def quiesceSlice (n : Nat) (d : Dev) : Dev :=
  d.admin n 0x83 (fun x d =>
    let s := darg x 4 2
    let st := d.sliceState s
    if s = 0 ∨ 1023 < s then d.finish n stInvalid
    else if bit (darg x 6 2) 0 then (if st = 3 then (d.resume s).finish n stSuccess else d.finish n stInvalid)
    else if st ≠ 1 then d.finish n stInvalid
    else (d.wr (SLC_STATE_DRAINING s) 1).setSlice s { d.slice s with drainCmd := some (n, false) })

/-- The last accepted work of a quiescing slice completes (R91). -/
def quiesceComplete (s : Nat) (d : Dev) : Dev :=
  match (d.slice s).drainCmd with
  | some (n, false) =>
    if (d.sliceSlots s).isEmpty then
      ((d.wrs [(SLC_STATE_STATE s, 3), (SLC_STATE_DRAINING s, 0)]).setSlice s { d.slice s with drainCmd := none }).finish n stSuccess
    else d
  | _ => d

/-- Entries whose first run has not fired are parked (R94, R256). -/
def Dev.park (d : Dev) (s : Nat) : Dev :=
  (d.sliceSlots s).foldl (fun d n =>
    let e := d.entry n
    if !(d.wk n).fired && e.state < 5 then { (d.setEntry n { e with state := 5 }) with work := d.work.drop n } else d) d

/-- Parked entries of a slice. -/
def Dev.parkedOf (d : Dev) (s : Nat) : List Nat := (d.sliceSlots s).filter (fun n => (d.entry n).state == 5)

/-- Parked entries resume in their order; one naming a plan the image in force no longer holds as it was completes
PLAN_NOT_LOADED (R94, R96, R204). -/
def Dev.unpark (d : Dev) (s : Nat) : Dev :=
  (d.parkedOf s).foldl (fun d n =>
    let e := d.entry n
    let d := d.setEntry n { e with state := 1, planGone := false }
    if e.planGone then d.complete n stNotLoaded 0 0 else d) d

/-- COCOON_SLICE, with and without RESUME (R82, R94). -/
def cocoonSlice (n : Nat) (d : Dev) : Dev :=
  d.admin n 0x84 (fun x d =>
    let s := darg x 4 2
    let st := d.sliceState s
    if s = 0 ∨ 1023 < s then d.finish n stInvalid
    else if bit (darg x 6 2) 0 then
      if st = 2 ∧ ¬d.flag (SLC_STATE_EXPORTED s) then
        let k := (d.parkedOf s).length
        ((d.unpark s).resume s).finish n stSuccess k
      else d.finish n stInvalid
    else if st ≠ 1 then d.finish n stInvalid
    else ((d.park s).wr (SLC_STATE_DRAINING s) 1).setSlice s { d.slice s with drainCmd := some (n, true) })

/-- The last unparked work of a cocooning slice completes (R94). -/
def cocoonComplete (s : Nat) (d : Dev) : Dev :=
  match (d.slice s).drainCmd with
  | some (n, true) =>
    if (d.sliceSlots s).all (fun x => (d.entry x).state == 5) then
      ((d.wrs [(SLC_STATE_STATE s, 2), (SLC_STATE_DRAINING s, 0)]).setSlice s { d.slice s with drainCmd := none }).finish n stSuccess
        (d.parkedOf s).length
    else d
  | _ => d

/-! ## Save and restore (R95–R98) -/

/-- The 128 bytes of a journal entry (R254), its queue as given. -/
def entryBytes (e : JEntry) (queue : Nat) : List Byte :=
  let flags := b2n e.dropped.isSome + 2 * e.dropped.getD 0 + 64 * b2n e.decoded + 128 * b2n e.staged + 256 * b2n e.held
    + 512 * b2n e.abortReq
  let body := leBytes 64 e.desc.toNat ++ leBytes 8 e.acceptTime ++ leBytes 4 e.gen ++ leBytes 2 e.slice ++ leBytes 1 e.instar
    ++ leBytes 1 e.state ++ leBytes 2 queue ++ leBytes 2 0 ++ leBytes 4 e.done ++ leBytes 8 e.stripeDone ++ leBytes 2 e.col
    ++ leBytes 2 flags ++ leBytes 4 e.lost ++ leBytes 4 e.result ++ leBytes 2 e.status ++ leBytes 1 e.replays
    ++ leBytes 1 e.trigger ++ leBytes 8 (if e.staged then (Config.stageAddr e.serial).toNat else 0)
    ++ leBytes 4 (if dSglCount e.desc % 65536 = 0 then 0 else Nat.min 56 e.sgl.length)
  body ++ leBytes 4 (crc32c body).toNat

/-- A journal entry read back from its 128 bytes (R254). -/
def entryOf (l : List Byte) : JEntry :=
  let f := leAt l 0x62 2
  let a : JEntry := { desc := BitVec.ofNat 512 (leAt l 0 64), acceptTime := leAt l 0x40 8, gen := leAt l 0x48 4 }
  let b : JEntry := { a with slice := leAt l 0x4C 2 % 1024, instar := leAt l 0x4E 1, state := leAt l 0x4F 1 % 16 }
  let c : JEntry := { b with queue := leAt l 0x50 2, done := leAt l 0x54 4, stripeDone := leAt l 0x58 8, col := leAt l 0x60 2 }
  let e : JEntry := { c with dropped := if bit f 0 then some (bits f 1 5) else none, decoded := bit f 6, staged := bit f 7, lost := leAt l 0x64 4 }
  { e with result := leAt l 0x68 4, status := leAt l 0x6C 2, replays := leAt l 0x6E 1, trigger := leAt l 0x6F 1 }

/-- A queue record of the slice state image (R98). -/
def queueBytes (c : QCtx) : List Byte :=
  let on := c.state = 1
  leBytes 8 c.sqBase ++ leBytes 8 c.cqBase ++ leBytes 8 c.recAddr ++ leBytes 4 (if on then 2 ^ c.sqLog2 else 0)
    ++ leBytes 4 (2 ^ c.cqLog2) ++ leBytes 4 c.sqHead ++ leBytes 4 c.cqTail ++ leBytes 4 c.nudgeAt
    ++ leBytes 4 (c.irqCount + 256 * c.irqTime) ++ leBytes 2 c.vecOff
    ++ leBytes 2 (b2n c.phase + 2 * b2n c.noSnoop + 4 * b2n on) ++ leBytes 12 0

/-- A queue context read back from its record (R98). -/
def queueOf (l : List Byte) : QCtx :=
  let n := leAt l 0x18 4
  let f := leAt l 0x32 2
  let a : QCtx := { sqBase := leAt l 0 8, cqBase := leAt l 8 8, recAddr := leAt l 0x10 8, sqLog2 := Nat.log2 n }
  let b : QCtx := { a with cqLog2 := Nat.log2 (leAt l 0x1C 4), sqHead := leAt l 0x20 4, cqTail := leAt l 0x24 4 }
  let c : QCtx := { b with nudgeAt := leAt l 0x28 4, irqCount := leAt l 0x2C 4 % 256, irqTime := leAt l 0x2C 4 / 256 % 65536 }
  { c with vecOff := leAt l 0x30 2, phase := bit f 0, noSnoop := bit f 1, state := if bit f 2 ∧ n ≠ 0 then 1 else 0,
           enabledRec := if bit f 2 ∧ n ≠ 0 then some (leAt l 0x10 8) else none, sqPi := leAt l 0x20 4 }

/-- The queue numbers of a slice, all of its range. -/
def Dev.queueRange (d : Dev) (s : Nat) : List Nat :=
  let b := d.rd (SLC_QUEUES_BASE s)
  (List.range (d.rd (SLC_QUEUES_LAST s) + 1 - b)).map (b + ·)

/-- The slice state image (R98). -/
def Dev.sliceImage (d : Dev) (s : Nat) : List Byte :=
  let c := d.slice s
  let qs := d.queueRange s
  let ps := d.parkedOf s
  let head := leBytes 4 0x53494C53 ++ leBytes 2 1 ++ leBytes 2 0 ++ leBytes 8 ((d.inForce.map (·.sig)).getD 0)
    ++ leBytes 8 Config.dsn.toNat ++ leBytes 8 d.now ++ leBytes 4 qs.length
    ++ leBytes 2 (d.rd (SLC_VECTORS_LAST s) + 1 - d.rd (SLC_VECTORS_BASE s)) ++ leBytes 1 (d.sliceInstar s) ++ leBytes 1 0
    ++ leBytes 4 ps.length ++ leBytes 4 0 ++ leBytes 8 (d.rd (SLC_ENERGY_LO_MJ s) + 2 ^ 32 * d.rd (SLC_ENERGY_HI_MJ s))
    ++ leBytes 8 (d.rd64 (SLC_CELLS_LO_CELLS s) (SLC_CELLS_HI_CELLS s)) ++ leBytes 8 c.accepted ++ leBytes 8 c.completed
    ++ leBytes 176 0
  let body := head ++ qs.flatMap (fun q => queueBytes (d.queue q))
    ++ ps.flatMap (fun n => entryBytes (d.entry n) ((d.entry n).queue - d.rd (SLC_QUEUES_BASE s)))
  body ++ leBytes 4 (crc32c body).toNat ++ leBytes 4 0

/-- The length of the slice state image (R98). -/
def Dev.imageLen (d : Dev) (s : Nat) : Nat := 0x108 + 0x40 * (d.queueRange s).length + 0x80 * (d.parkedOf s).length

/-- SAVE_SLICE (R82, R95, R98). -/
def saveSlice (n : Nat) (d : Dev) : Dev :=
  d.admin n 0x85 (fun x d =>
    let s := darg x 4 2
    let len := d.imageLen s
    if 1023 < s ∨ d.sliceState s ≠ 2 ∨ d.flag (SLC_STATE_EXPORTED s) then d.finish n stInvalid
    else if darg x 0x10 4 < len then d.finish n stInvalid len
    else
      match d.hostWrite 0 (d.entry n).instar true false (darg x 8 8) (d.sliceImage s) with
      | (true, d) => (d.wr (SLC_STATE_EXPORTED s) 1).finish n stSuccess len
      | (false, d) => d.finish n stHostDma)

/-- A free journal slot: the lowest one not in use. -/
def freeSlotFrom (used : List Nat) : Nat → Nat → Nat
  | 0, n => n
  | k + 1, n => if used.contains n then freeSlotFrom used k (n + 1) else n
def Dev.freeSlot (d : Dev) : Nat := freeSlotFrom d.liveSlots d.liveSlots.length 0

/-- The plans a data descriptor needs READ and WRITE of (R75). -/
def needsRead (x : BitVec 512) : Option Nat :=
  let o := dOpcode x
  if o = 2 ∨ o = 3 ∨ o = 5 then some (dPlan x) else none
def needsWrite (x : BitVec 512) : Option Nat :=
  let o := dOpcode x
  if o = 1 ∨ o = 4 then some (dPlan x) else if o = 5 then some (dArg0 x % 4096) else none

/-- Does slice `s` hold the permissions of R75? -/
def Dev.permitted (d : Dev) (s : Nat) (x : BitVec 512) : Bool :=
  ((needsRead x).all (fun p => d.flag (SLC_PERM_READ s p))) && ((needsWrite x).all (fun p => d.flag (SLC_PERM_WRITE s p)))

/-- The parked entries of a slice state image. -/
def imageParked (l : List Byte) : List JEntry :=
  let q := leAt l 0x20 4
  (List.range (leAt l 0x28 4)).map (fun i => entryOf ((l.drop (0x100 + 0x40 * q + 0x80 * i)).take 0x80))

/-- Is the slice state image whole, and do its counts match the target (R97)? -/
def Dev.imageGood (d : Dev) (s : Nat) (l : List Byte) : Bool :=
  let q := leAt l 0x20 4
  let len := 0x108 + 0x40 * q + 0x80 * leAt l 0x28 4
  l.length == len && leAt l 0 4 == 0x53494C53 && leAt l 4 2 == 1 && leAt l (len - 8) 4 == (crc32c (l.take (len - 8))).toNat
    && q == (d.queueRange s).length && leAt l 0x24 2 == d.rd (SLC_VECTORS_LAST s) + 1 - d.rd (SLC_VECTORS_BASE s)

/-- A parked entry of a slice state image enters the journal (R96); its scatter list is read again from SGL_ADDR (R252). -/
def Dev.restoreEntry (d : Dev) (s : Nat) (e : JEntry) : Dev :=
  let n := d.freeSlot
  let x := e.desc
  let need := if e.staged then ((d.plan (dPlan x)).map (·.dataLen)).getD 0 else 0
  let data := dOpcode x == 1 || dOpcode x == 2
  let k := dSglCount x % 65536
  let c := d.slice s
  let e := { e with slice := s, queue := d.rd (SLC_QUEUES_BASE s) + e.queue, state := 1, stage := need, serial := d.serial + 1 }
  let d := d.openEntry n { e with sgl := if data && k == 0 then [(dSglAddr x, dLength x)] else [] }
  let d := Dev.setSlice { d with serial := d.serial + 1 } s { c with stageUse := c.stageUse + need }
  d.askList n

/-- A restored image takes effect on its target (R96). -/
def Dev.restoreFrom (d : Dev) (s : Nat) (l : List Byte) : Dev :=
  let d := d.wrs [(SLC_STATE_INSTAR s, leAt l 0x26 1), (SLC_ENERGY_LO_MJ s, leAt l 0x30 8), (SLC_ENERGY_HI_MJ s, leAt l 0x30 8 / 2 ^ 32),
    (SLC_CELLS_LO_CELLS s, leAt l 0x38 8), (SLC_CELLS_HI_CELLS s, leAt l 0x38 8 / 2 ^ 32), (SLC_STATE_RESTORE_TARGET s, 0)]
  let d := d.setSlice s { d.slice s with accepted := leAt l 0x40 8, completed := leAt l 0x48 8, lastPoll := d.epoch }
  let b := d.rd (SLC_QUEUES_BASE s)
  let d := (List.range (leAt l 0x20 4)).foldl (fun d i =>
    d.setQueue (b + i) (queueOf ((l.drop (0x100 + 0x40 * i)).take 0x40))) d
  ((imageParked l).foldl (fun d e => d.restoreEntry s e) d).resume s

/-- Why a slice state image does not restore, as a status; none when it does (R75, R82, R97). -/
def Dev.restoreBad (d : Dev) (s : Nat) (l : List Byte) : Option Nat :=
  if !d.imageGood s l then some stInvalid
  else if leAt l 8 8 != (d.inForce.map (·.sig)).getD 0 then some stNotLoaded
  else if (imageParked l).any (fun e => !d.permitted s e.desc) then some stNotPermitted
  else if d.rd (SLC_QUOTA_JNL_UNITS s) * 16 < (imageParked l).length then some stQuota
  else none

/-- A slice that RESTORE_SLICE may load: COCOONED with RESTORE_TARGET, never saved, and its requester ID the one its port has
captured (R69, R82, R95); the status of a mismatch is a choice (log entry 84). -/
def Dev.restorable (d : Dev) (s : Nat) : Bool :=
  decide (s ≤ 1023) && d.sliceState s == 2 && d.flag (SLC_STATE_RESTORE_TARGET s) && !d.flag (SLC_STATE_EXPORTED s)
    && d.rd (SLC_BIND_REQ_ID s) == (d.port (d.slicePort s)).reqId

/-- RESTORE_SLICE (R82, R96): the image is read from the manager's host memory. -/
def restoreSlice (n : Nat) (d : Dev) : Dev :=
  d.admin n 0x86 (fun x d =>
    if !d.restorable (darg x 4 2) then d.finish n stInvalid
    else
      match d.hostRead 0 (darg x 8 8) (darg x 0x10 4) false (.sliceImage n (d.entry n).serial) with
      | (true, d) => d
      | (false, d) => d.finish n stHostDma)

/-- The read of a slice state image by the RESTORE_SLICE in slot `n` has ended (R82, R96, R97): bytes of the buffer beyond the
image are not looked at. -/
def Dev.restoreRead (d : Dev) (n serial : Nat) (data : Option (List Byte)) : Dev :=
  let e := d.entry n
  let s := darg e.desc 4 2
  if e.state ≠ 2 ∨ e.serial ≠ serial then d
  else
    match data with
    | none => d.finish n stHostDma
    | some l =>
      let l := l.take (0x108 + 0x40 * leAt l 0x20 4 + 0x80 * leAt l 0x28 4)
      if !d.restorable s then d.finish n stInvalid
      else
        match d.restoreBad s l with
        | some st => d.finish n st
        | none => (d.restoreFrom s l).finish n stSuccess (imageParked l).length

/-! ## SET_SHARE (R92, R93) -/

/-- Does a raise of SET_SHARE exceed a pool (R92)? -/
def Dev.shareOver (d : Dev) (s : Nat) (x : BitVec 512) : Bool :=
  let m := darg x 6 2
  let n := d.slicePort s
  (bit m 0 && decide (d.poolRoom n + d.rd (SLC_SHARE_RUNS s) < d.runsAssigned n + d.runsComing s n + darg x 8 2))
    || (bit m 1 && decide (d.stagePool + d.rd (SLC_QUOTA_STAGE_MIB s) < d.stageAssigned + d.stageComing s + darg x 0xC 2))
    || (bit m 2 && decide (d.jnlPool + d.rd (SLC_QUOTA_JNL_UNITS s) < d.jnlAssigned + d.jnlComing s + darg x 0xE 2))

/-- A raised QLAST that runs into another slice's range (R71, R92). -/
def Dev.shareOverLast (d : Dev) (s : Nat) (x : BitVec 512) : Bool :=
  let b := d.rd (SLC_QUEUES_BASE s)
  let l := darg x 0x10 2
  bit (darg x 6 2) 3 && decide (d.rd (SLC_QUEUES_LAST s) < l) && (d.liveSlices.filter (fun t => t ≠ 0 ∧ t ≠ s)).any
    (fun t => overlap b l (d.rd (SLC_QUEUES_BASE t)) (d.lastComing t))

/-- A SET_SHARE outside the limits of R71: QLAST below QBASE, more than 4,096 runs, a journal quota of 0 or above 16,384 units.
Its status is a choice (log entry 80). -/
def Dev.shareBad (d : Dev) (s : Nat) (x : BitVec 512) : Bool :=
  let m := darg x 6 2
  (bit m 3 && decide (darg x 0x10 2 < d.rd (SLC_QUEUES_BASE s))) || (bit m 0 && decide (4096 < darg x 8 2)) || (bit m 2 && jnlBad (darg x 0xE 2))

/-- SET_SHARE is accepted and waits for the next boundary, or fails (R70, R82, R92, R93, R95). While a shrink is pending it
waits. -/
def setShare (n : Nat) (d : Dev) : Dev :=
  let s := darg (d.entry n).desc 4 2
  if s ≤ 1023 ∧ d.flag (SLC_STATE_SHRINK_PENDING s) then d
  else d.admin n 0x87 (fun x d =>
    let st := d.sliceState s
    let m := darg x 6 2
    if 1023 < s ∨ st = 0 ∨ st = 4 ∨ d.flag (SLC_STATE_EXPORTED s) ∨ (s = 0 ∧ (bit m 0 ∨ bit m 2 ∨ bit m 3)) then d.finish n stInvalid
    else if d.shareBad s x then d.finish n stInvalid
    else if d.shareOver s x || d.shareOverLast s x then d.finish n stQuota
    else d.setSlice s { d.slice s with share := some ⟨n, m, darg x 8 2, darg x 0xC 2, darg x 0xE 2, darg x 0x10 2⟩ })

/-- Completions a queue still owes: accepted and uncompleted items and reports not yet written. -/
def Dev.owed (d : Dev) (q : Nat) : Nat :=
  (d.queueSlots q).length + (d.seqQ.filter (fun r => match r with | .queueReport x _ _ _ _ _ _ => x == q | _ => false)).length

/-- A removed queue has no work left: none accepted, none to report, and, while it is ENABLED, no descriptor up to the index `pi` (R93). -/
def Dev.queueIdle (d : Dev) (q pi : Nat) : Bool :=
  let c := d.queue q
  d.owed q == 0 && c.fetched.isEmpty && (c.state != 1 || pi == c.sqHead)

/-- Removed queues are released (R93). -/
def Dev.shrinkTo (d : Dev) (s last : Nat) : Dev :=
  (d.clearQueuesFrom s (last + 1)).wrs [(SLC_QUEUES_LAST s, last), (SLC_QUEUES_NEXT_LAST s, last), (SLC_STATE_SHRINK_PENDING s, 0)]

/-- A SET_SHARE takes effect at a boundary (R92, R93). -/
def Dev.applyShare (d : Dev) (s : Nat) : Dev :=
  match (d.slice s).share with
  | none => d
  | some r =>
    let d := d.setSlice s { d.slice s with share := none }
    let d := if bit r.mask 0 then (d.wr (SLC_SHARE_RUNS s) r.runs).reassign s r.runs else d
    let d := if bit r.mask 1 then d.wr (SLC_QUOTA_STAGE_MIB s) r.stage else d
    let d := if bit r.mask 2 then d.wr (SLC_QUOTA_JNL_UNITS s) r.jnl else d
    let last := d.rd (SLC_QUEUES_LAST s)
    if bit r.mask 3 ∧ r.qlast < last then
      let gone := (d.sliceQueues s).filter (fun q => decide (r.qlast < q))
      if gone.all (fun q => d.queueIdle q (d.queue q).sqPi) then
        (d.shrinkTo s r.qlast).finish r.slot stSuccess d.epoch
      else
        let d := gone.foldl (fun d q => d.setQueue q { d.queue q with limit := some (d.queue q).sqPi }) d
        (d.wrs [(SLC_STATE_SHRINK_PENDING s, 1), (SLC_QUEUES_NEXT_LAST s, r.qlast)]).finish r.slot stShrink d.epoch
    else
      let d := if bit r.mask 3 then d.wrs [(SLC_QUEUES_LAST s, r.qlast), (SLC_QUEUES_NEXT_LAST s, r.qlast)] else d
      d.finish r.slot stSuccess d.epoch

/-- The last removed queue of a pending shrink has no work left (R93). -/
def shrinkRelease (s : Nat) (d : Dev) : Dev :=
  let next := d.rd (SLC_QUEUES_NEXT_LAST s)
  let gone := (d.sliceQueues s).filter (fun q => decide (next < q))
  if d.flag (SLC_STATE_SHRINK_PENDING s) ∧ gone.all (fun q => d.queueIdle q ((d.queue q).limit.getD (d.queue q).sqPi)) then (d.shrinkTo s next).raise 16 else d

/-- SLC_PERM: a write takes effect for later acceptances; dropped for a FREE slice and for slice 0 (R76, R100). -/
def Dev.permWrite (d : Dev) (s w v : Nat) : Dev :=
  if s = 0 ∨ d.sliceState s = 0 then d else d.writeWord (SLC_PERM s w) v

end Sys2Proof.Machine
end

