-- ==== Sys2Proof/Machine/Access.lean ====
section
/-! DEFINITION. How a host access to the set-up space reaches a register: the lock (R47), units that are off (R45, R420,
R468), domains that sleep in DORMANT (R59, R401), and GRAVE (R466). -/
namespace Sys2Proof.Machine

/-- The blocks that answer from E3 to E5 (R420): GLB, AON, EVC and MGT. -/
def hubBlock (a : Nat) : Bool :=
  decide (a < 0x100000) || (decide (0x1500000 ≤ a) && decide (a < 0x1800000)) || (decide (0x1C00000 ≤ a) && decide (a < 0x4000000))

/-- Engine, lane or octant whose window holds `a`. -/
def engAt (a : Nat) : Option Nat := if 0x500000 ≤ a ∧ a < 0x548000 then some ((a - 0x500000) / 0x1000) else none
def laneAt (a : Nat) : Option Nat := if 0x800000 ≤ a ∧ a < 0xA00000 then some ((a - 0x800000) / 0x1000) else none
def octAt (a : Nat) : Option Nat := if 0xB00000 ≤ a ∧ a < 0xB08000 then some ((a - 0xB00000) / 0x1000) else none

/-- ENG_STATUS, which the hub holds (R468). -/
def isEngStatus (a : Nat) : Bool := match engAt a with | some p => a == (ENG_STATUS p) | none => false

/-- The unit at BAR0 offset `a` is off (R420, R468, R502). A RETIRED engine is off except for its fault block. -/
def Dev.addrOff (d : Dev) (a : Nat) : Bool :=
  if d.flag GLB_BOOT_FW_FAIL && decide (0x100000 ≤ a) then true
  else if d.pwr.mode == 3 && !hubBlock a then true
  else if isEngStatus a then false
  else
    match engAt a, laneAt a, octAt a with
    | some p, _, _ => d.engOff p || (d.rd (ENG_STATUS_STATE p) == 4 && decide (a % 0x1000 < 0xF00))
    | _, some l, _ => d.octOff (l / 64)
    | _, _, some o => d.octOff o
    | _, _, _ => false

/-- An access to an off unit is latched for its port (R52, R468). -/
def Dev.offAccess (d : Dev) (n a : Nat) (write : Bool) : Dev :=
  let d := if d.flag (HP_OFF_ACCESS_VALID n) then d.wr (HP_OFF_ACCESS_OVERFLOW n) 1
    else d.wrs [(HP_OFF_ACCESS_VALID n, 1), (HP_OFF_ACCESS_WRITE n, b2n write), (HP_OFF_ADDR_OFFSET n, a)]
  d.sample (8 + n)

/-- The domain an access needs in DORMANT (R59, R401): engine p, GDDR6 channel c as 100 + c, octant o as 200 + o. -/
def domainOf (a : Nat) : Option Nat :=
  if isEngStatus a then none
  else
    match engAt a, laneAt a, octAt a with
    | some p, _, _ => some p
    | _, some l, _ => some (200 + l / 64)
    | _, _, some o => some (200 + o)
    | _, _, _ => if 0x700000 ≤ a ∧ a < 0x800000 then some (100 + (a - 0x700000) / 0x10000) else none

/-- A domain that would have to wake first (R401). -/
def Dev.asleep (d : Dev) (a : Nat) : Option Nat :=
  if d.pwr.mode ≠ 1 then none
  else
    match domainOf a with
    | some m => if d.pwr.awake.get m 0 = 0 then some m else none
    | none => none

/-- An awake domain's idle time restarts (R401). -/
def Dev.touch (d : Dev) (a : Nat) : Dev :=
  match domainOf a with
  | some m => if d.pwr.mode = 1 then { d with pwr := { d.pwr with awake := d.pwr.awake.set m (d.now + 1) 0 } } else d
  | none => d

/-- A manager-port write of `v` to a register at BAR0 offset `a` whose own effect is `f` (R45, R47, R401, R466, R468). -/
def Dev.setup (d : Dev) (a v : Nat) (f : Dev → Dev) : Dev :=
  if d.hubOff then d
  else
    let d := { d with keyHalf := false }
    if d.flt.grave then d
    else if d.flag GLB_SETUP_LOCK_LOCKED then d.wr GLB_SETUP_LOCK_LOCKED_WRITE 1
    else if d.addrOff a then d.offAccess d.mgrPort a true
    else
      match d.asleep a with
      | some m => { d with pwr := { d.pwr with stalls := d.pwr.stalls ++ [.write m a v] } }
      | none => f (d.touch a)

/-- What the lock, GRAVE and an off unit do with a manager-port write that covers part of a register, which is dropped (R2,
R47, R468). It wakes no domain (log entry 78). -/
def Dev.setupPart (d : Dev) (a : Nat) : Dev :=
  if d.hubOff then d
  else
    let d := { d with keyHalf := false }
    if d.flt.grave || a == GLB_SETUP_KEY then d
    else if d.flag GLB_SETUP_LOCK_LOCKED then d.wr GLB_SETUP_LOCK_LOCKED_WRITE 1
    else if d.addrOff a then d.offAccess d.mgrPort a true
    else d

/-- GLB_SETUP_KEY (R47): the sequence 0x0000_5120, 0xFFFF_AEDF unlocks the set-up space. -/
def setupKeyWrite (v : Nat) (d : Dev) : Dev :=
  if d.hubOff || d.flt.grave then d
  else if d.keyHalf && v == 0xFFFFAEDF then
    Dev.wr { d with keyHalf := false, pwr := { d.pwr with unlocked := true } } GLB_SETUP_LOCK_LOCKED 0
  else { d with keyHalf := v == 0x5120 }

/-- The index of the register at `a` in a run of `n` registers that starts at `base` with the given stride. -/
def regIdx (base stride n a : Nat) : Option Nat :=
  if base ≤ a ∧ (a - base) % stride = 0 ∧ (a - base) / stride < n then some ((a - base) / stride) else none

/-- A register of a window: port, window and offset within its 0x20 bytes (R364). -/
def winReg (a : Nat) : Option (Nat × Nat × Nat) :=
  if 0x1010000 ≤ a ∧ a < 0x1020000 then some ((a - 0x1010000) / 0x2000, (a - 0x1010000) % 0x2000 / 0x20, (a - 0x1010000) % 0x20)
  else none

end Sys2Proof.Machine
end

