-- ==== Sys2Proof/Machine/Event.lean ====
section
/-! DEFINITION. The event controller's commands: claims, ends of interrupt, mask writes, coalescing (R427–R447). -/
namespace Sys2Proof.Machine

/-- After a claim or an end of interrupt of target `t`: `t` is notified when its REQUEST is left at 1, any other target
when its REQUEST rose since `d0` (R433). -/
def Dev.renotify (d0 d : Dev) (t : Nat) : Dev :=
  (List.range 8).foldl (fun e u => if (d.best u).isSome && (u == t || (d0.best u).isNone) then e.notify u else e) d

/-- A mask write since `d0`: notified sources it removed from candidacy are forgotten, so that no later claim reports them
(R437); a REQUEST that rose is notified (R433). -/
def Dev.masked (d0 d : Dev) : Dev :=
  let keep := fun e : Nat × (Nat × Bool) => !(d0.candidate e.1 e.2.1 && !d.candidate e.1 e.2.1)
  Dev.notifyRise d0 { d with evc := { d.evc with notified := d.evc.notified.filter keep } }

/-- An edge source's event (R428, R429). -/
def eventSourceEdge (s : Nat) (d : Dev) : Dev := d.raise s

/-- A level source is sampled (R428, R469). -/
def levelSourceChange (s : Nat) (d : Dev) : Dev := d.sample s

/-- The coalescing timer of an edge source reaches TIME_US (R429). -/
def evcCoalesceExpire (s : Nat) (d : Dev) : Dev :=
  let c := d.evc.coal.get s (0, 0)
  let us := d.rd (EVC_SRC_COAL_TIME_US s)
  if d.hubOff || c.1 == 0 || us == 0 || d.evc.pend.contains s then d
  else
    (d.advance (c.2 + 1000 * us)).becomesPending s

/-- The CLAIM word (R447). -/
def claimWord (source outcome depth : Nat) : Nat := source + outcome * 2 ^ 12 + depth * 2 ^ 16

/-- Source `s` is claimed for target `t`: active, no longer pending, RUNNING pushed (R429, R431, R432). -/
def Dev.push (d : Dev) (t s : Nat) : Dev :=
  let e := d.evc
  let st := (s, d.rd (EVC_SRC_CFG_PRIORITY s)) :: d.stack t
  { d with evc := { e with pend := setDel s e.pend, stk := e.stk.set t st [], coal := e.coal.set s (0, 0) (0, 0),
                           notified := e.notified.set t (0, false) (0, false) } }

/-- A claim of target `t`: the word it returns (R431–R435). -/
def Dev.claim (d : Dev) (t : Nat) : Nat × Dev :=
  match d.best t with
  | some s =>
    let e := d.push t s
    (claimWord s 1 (e.stack t).length, Dev.renotify d e t)
  | none =>
    let n := d.evc.notified.get t (0, false)
    let d := { d with evc := { d.evc with notified := d.evc.notified.set t (0, false) (0, false) } }
    let k := (d.stack t).length
    if n.1 ≠ 0 ∧ (List.range 8).any (fun u => u != t && d.activeAt u n.1) then (claimWord n.1 2 k, d)
    else if n.1 ≠ 0 ∧ n.2 then (claimWord n.1 3 k, d)
    else (claimWord 0 0 k, d)

/-- The management core that may claim: the active one, at its own target (R439, R487). -/
def Dev.coreTarget (d : Dev) (t : Nat) : Bool := t == d.rd MGT_STATUS_ACTIVE_CORE

/-- The claim at the top of the stack of `t` ends; a level source is sampled again (R436, R438). -/
def Dev.pop (d : Dev) (t : Nat) : Dev :=
  match d.stack t with
  | [] => d
  | e :: l =>
    let d := { d with evc := { d.evc with stk := d.evc.stk.set t l [] } }
    d.sample e.1

/-- An end of interrupt of `t` that names `s` (R433, R436, R438). -/
def Dev.endClaim (d : Dev) (t s : Nat) : Dev :=
  match d.stack t with
  | e :: _ => if e.1 = s then Dev.renotify d (d.pop t) t else d.wr (EVC_TSTATUS_EOI_MISMATCH t) 1
  | [] => d.wr (EVC_TSTATUS_EOI_MISMATCH t) 1

/-- EVC_EOI of target `t` (R436, R439). -/
def evcEoi (t v : Nat) (host : Bool) (d : Dev) : Dev :=
  if d.hubOff then d
  else if host then d.setup (EVC_EOI t) v (fun d => if t < 2 then d else d.endClaim t (v % 1024))
  else if t < 2 ∧ d.coreTarget t then d.endClaim t (v % 1024)
  else d

/-- EVC_PENDING word `w`: the edge sources whose bit is 1 are cleared (R437, R446). -/
def evcPendingClear (w v : Nat) (d : Dev) : Dev :=
  d.setup (EVC_PENDING w) v (fun d =>
    Dev.masked d { d with evc := { d.evc with pend := d.evc.pend.filter (fun s => !(s / 32 == w && bit v (s % 32))) } })

/-- The number of marked sources (R443). -/
def Dev.markedCount (d : Dev) : Nat := ((List.range 512).filter (fun s => d.flag (EVC_SRC_CFG_EYESPOT s))).length

/-- EVC_SRC_CFG: the write is stored, or, when it would mark a source that is not eligible or a 33rd, dropped with
REFUSED (R427, R437, R443). -/
def eyespotMark (s v : Nat) (d : Dev) : Dev :=
  d.setup (EVC_SRC_CFG s) v (fun d =>
    if !srcExists s then d
    else if bit v 16 && !d.flag (EVC_SRC_CFG_EYESPOT s) && (!srcEligible s || decide (32 ≤ d.rd EVC_EYESPOT_MARKED)) then
      d.wr EVC_EYESPOT_REFUSED 1
    else
      let e := d.writeWord (EVC_SRC_CFG s) v
      Dev.masked d (e.wr EVC_EYESPOT_MARKED e.markedCount))

/-- A write of EVC_THRESHOLD of target `t` (R437, R439). -/
def Dev.thresholdWrite (d : Dev) (t v : Nat) : Dev :=
  if t < 2 then d else Dev.masked d (d.writeWord (EVC_THRESHOLD t) v)

/-- The claims of the targets in `l` end as if by end of interrupt, in stack order, and their notified sources are cleared
(R441, R488). -/
def Dev.endClaims (d : Dev) (l : List Nat) : Dev :=
  let e := l.foldl (fun d t =>
    let srcs := (d.stack t).map (·.1)
    let d := { d with evc := { d.evc with stk := d.evc.stk.set t [] [], notified := d.evc.notified.set t (0, false) (0, false) } }
    srcs.foldl (fun d s => d.sample s) d) d
  Dev.notifyRise d e

/-- The event controller after the hub lost power: pending, active and stacks gone, but for the source that woke the
device, which is notified; level sources sampled (R433, R445). -/
def Dev.evcRestart (d : Dev) (spot : Option Nat) : Dev :=
  let d := Dev.notifyRise { d with evc := {} } { d with evc := { pend := spot.toList.filter (fun s => !srcLevel s) } }
  (List.range 512).foldl (fun d s => if srcExists s && srcLevel s then d.sample s else d) d

end Sys2Proof.Machine
end

