-- ==== Sys2Proof/Machine/Shelf.lean ====
section
/-! DEFINITION. The shelf link's shared operations: sessions, messages to send, shard streams and how they end
(R298–R331). -/
namespace Sys2Proof.Machine

/-! ## Links -/

/-- Training states (R281). -/
def lsDisabled : Nat := 0
def lsDetect : Nat := 1
def lsSync : Nat := 2
def lsEqualize : Nat := 3
def lsNegotiate : Nat := 4
def lsIdentify : Nat := 5
def lsActive : Nat := 6
def lsHalted : Nat := 7

/-- The training state a lane shows. -/
def Dev.laneState (d : Dev) (l : Nat) : Nat := d.rd (LNK_STATE_STATE l)

/-- Lane `l` is the first lane of a link (R279). -/
def Dev.isLink (d : Dev) (l : Nat) : Bool := d.flag (LNK_STATE_FIRST l)

/-- A link in ACTIVE. -/
def Dev.linkActive (d : Dev) (l : Nat) : Bool := d.isLink l && d.laneState l == lsActive

/-- A link on which flits run: IDENTIFY or ACTIVE. -/
def Dev.flitting (d : Dev) (l : Nat) : Bool := d.isLink l && (d.laneState l == lsActive || d.laneState l == lsIdentify)

/-- The lanes of a link's admitted geometry (R279). -/
def Dev.geomLanes (d : Dev) (l : Nat) : List Nat := linkLanes l (((d.link l).geom).getD 0)

/-- The lanes of a link's trained group (R279). -/
def Dev.groupLanes (d : Dev) (l : Nat) : List Nat :=
  linkLanes (l / 8 * 8 + d.rd (LNK_STATE_TR_FIRST l)) (d.rd (LNK_STATE_TR_WIDTH l))

/-- The link whose admitted geometry holds a lane. -/
def Dev.linkOf (d : Dev) (lane : Nat) : Option Nat :=
  ((List.range 8).map (lane / 8 * 8 + ·)).find? (fun l => (d.link l).geom.isSome && (d.geomLanes l).contains lane)

/-- Every link that is ACTIVE. -/
def Dev.activeLinks (d : Dev) : List Nat := (List.range 512).filter d.linkActive

/-- A change of a link's session. -/
def Dev.setSess (d : Dev) (l : Nat) (s : Session) : Dev := d.setLink l { d.link l with sess := s }

/-- The event source of a link's octant (R285, R289, R427). -/
def lnkSource (l : Nat) : Nat := 56 + l / 64

/-- The session begins as the link enters IDENTIFY: numbers from 0, all buffer space granted, the counters of R332 that neither wrap nor
saturate at 0; the window of CRC failures goes on (R303, R313, R329, R332; log entry 121). -/
def Dev.beginSession (d : Dev) (l : Nat) : Dev :=
  let w := 2 ^ d.rd (LNK_STATE_TR_WIDTH l)
  let g := Tab.set (Tab.set (Tab.set [] 0 (128 * w) 0) 1 32 0) 2 64 0
  let o := (d.link l).sess
  let s : Session := { width := w, granted := g, lastGood := d.now, slots := o.slots, crcFails := o.crcFails }
  let d := d.setLink l { d.link l with sess := s, streams := [], inbox := [], ident := [], identSince := d.now }
  d.wrs [(LNK_WINDOW_MAX_REXMIT l, 0),
    (LNK_FLIT_STATUS_TX_UNACKED l, 0), (LNK_FLIT_STATUS_RX_HELD l, 0), (LNK_STREAMS_OPEN l, 0), (LNK_CREDIT_VC0 l, 0),
    (LNK_CREDIT_VC1 l, 0), (LNK_CREDIT_VC2 l, 0)]

/-- The credit a link's partner allows on a channel (R311). -/
def Session.credit (s : Session) (vc : Nat) : Nat :=
  let x := (s.limit.get vc 0 + 65536 - s.sent.get vc 0) % 65536
  if 0x7FFF < x then 0 else x

/-! ## Messages (R315) -/

/-- A message: type, a reserved byte, its length, then the rest (R315). -/
def message (type : Nat) (body : List Byte) : List Byte := leBytes 1 type ++ [0#8] ++ leBytes 2 (body.length + 4) ++ body

/-- A message waits to be sent on a virtual channel of a link, while flits run on it. -/
def Dev.txMsg (d : Dev) (l vc : Nat) (m : List Byte) : Dev :=
  if d.flitting l then
    let s := (d.link l).sess
    d.setSess l { s with tx := s.tx.set vc (s.tx.get vc [] ++ [m]) [] }
  else d

/-- STREAM_OPEN (R317). -/
def streamOpen (id dir blocks addr stripe plan shard gen : Nat) : List Byte :=
  message 0x10 (leBytes 2 id ++ leBytes 1 dir ++ leBytes 1 (blocks - 1) ++ leBytes 8 addr ++ leBytes 8 stripe
    ++ leBytes 2 plan ++ leBytes 1 shard ++ leBytes 1 0 ++ leBytes 4 gen ++ leBytes 8 0)

/-- STREAM_CANCEL (R324). -/
def streamCancel (id : Nat) : List Byte := message 0x11 (leBytes 4 id)

/-- TRAILER_READ (R325). -/
def trailerRead (id addr : Nat) : List Byte := message 0x12 (leBytes 4 id ++ leBytes 8 addr ++ leBytes 8 0)

/-- The trailer of a shard block (R145): CRC-32C over the block and the GEN, then the GEN. -/
def trailer (data : List Byte) (gen : Nat) : List Byte :=
  leBytes 4 (crc32c (data ++ leBytes 4 gen)).toNat ++ leBytes 4 gen

/-- BLOCK (R317). -/
def blockMsg (id i : Nat) (data : List Byte) (gen : Nat) : List Byte :=
  message 0x01 (leBytes 2 id ++ leBytes 1 i ++ leBytes 1 0 ++ data ++ trailer data gen)

/-! ## Streams (R317–R326) -/

/-- The stream of an identifier on a link. -/
def Dev.stream (d : Dev) (l id : Nat) : Option Stream := (d.link l).streams.find? (fun x => x.id == id)

/-- A change of one stream. -/
def Dev.setStream (d : Dev) (l : Nat) (x : Stream) : Dev :=
  let k := d.link l
  d.setLink l { k with streams := k.streams.map (fun y => if y.id = x.id then x else y) }

/-- LNK_STREAMS.OPEN follows the streams. -/
def Dev.countStreams (d : Dev) (l : Nat) : Dev := d.wr (LNK_STREAMS_OPEN l) (d.link l).streams.length

/-- A stream ends and its identifier is free (R318). -/
def Dev.dropStream (d : Dev) (l id : Nat) : Dev :=
  let k := d.link l
  (d.setLink l { k with streams := k.streams.filter (fun y => y.id != id) }).countStreams l

/-- The messages of a channel of a link that have not been sent in full (R314). -/
def Dev.unsent (d : Dev) (l vc : Nat) : List (List Byte) := (d.link l).sess.tx.get vc []

/-- The identifier a stream message names: its bytes 4 and 5 (R317, R324, R325). -/
def msgId (m : List Byte) : Nat := leAt m 4 2

/-- A STREAM_OPEN, TRAILER_READ or BLOCK of an identifier has not been sent in full. -/
def Dev.streamUnsent (d : Dev) (l id : Nat) : Bool :=
  (d.unsent l 0).any (fun m => msgId m == id) ||
  (d.unsent l 1).any (fun m => (leAt m 0 1 == 0x10 || leAt m 0 1 == 0x12) && msgId m == id)

/-- The lowest identifier no open item of the link uses, and no message still to be sent names; none while 1,024 are open (R318). -/
def Dev.freeId (d : Dev) (l : Nat) : Option Nat :=
  let used := (d.link l).streams.map (·.id)
  if 1024 ≤ used.length then none else (List.range 4096).find? (fun i => !used.contains i && !d.streamUnsent l i)

/-- A stream is opened on a link; none when no identifier is free. -/
def Dev.openStream (d : Dev) (l : Nat) (f : Nat → Stream) : Option (Nat × Dev) :=
  (d.freeId l).map (fun i =>
    let k := d.link l
    (i, (d.setLink l { k with streams := k.streams ++ [f i] }).countStreams l))

/-- An ENDING item whose last block sent is settled completes, or is freed when it is stale (R85, R219, R246, R256). -/
def Dev.settleEnding (d : Dev) (n : Nat) : Dev :=
  let e := d.entry n
  if e.state ≠ 6 ∨ (d.wk n).opens ≠ 0 then d
  else if e.instar ≠ d.sliceInstar e.slice then d.release n
  else
    let d := d.logPartial n
    if e.abortReq then d.complete n stAborted e.result 0 else d.complete n e.status e.result e.resultHi

/-- One write stream of an item has settled: acknowledged, failed or abandoned. -/
def Dev.writeSettled (d : Dev) (n : Nat) : Dev :=
  let w := d.wk n
  (d.setWk n { w with opens := w.opens - 1 }).settleEnding n

/-- The item a stream belongs to still stands as it was when the stream was opened. -/
def Dev.streamLive (d : Dev) (x : Stream) : Bool :=
  let e := d.entry x.slot
  e.state != 0 && e.serial == x.serial && e.instar == x.instar

/-- Reading of a position of the present column has failed: it is lost from this column on, by a check failure when `chk`
(R149, R229). -/
def Dev.losePos (d : Dev) (n pos : Nat) (chk : Bool) : Dev :=
  let e := d.entry n
  let w := d.wk n
  let d := d.setEntry n { e with lost := Nat.lor e.lost (2 ^ pos) }
  if chk then d.setWk n { w with chk := Nat.lor w.chk (2 ^ pos) } else d

/-- A stream of the present stripe and column of a live item that is not being replayed. -/
def Dev.streamCurrent (d : Dev) (x : Stream) : Bool :=
  let w := d.wk x.slot
  d.streamLive x && ((d.entry x.slot).state == 2 || (d.entry x.slot).state == 3) && x.stripe == w.stripe && x.col == w.rcol && bit w.asks x.pos

/-- The streams of a link end with its session (R330): blocks not acknowledged and reads under way are owed to a replay
(R260); a write that waited for them goes on. -/
def Dev.endStreams (d : Dev) (l : Nat) : Dev :=
  let k := d.link l
  let owed := (k.streams.filter (fun x => x.kind != 2 && d.streamLive x && !x.timedOut && !x.cancelled)).foldl (fun o x => setAdd x.slot o) k.owed
  let d := (d.setLink l { k with streams := [], owed := owed }).countStreams l
  k.streams.foldl (fun d x =>
    if x.kind = 0 ∧ ¬x.timedOut ∧ d.streamLive x then d.writeSettled x.slot
    else if x.kind = 2 ∧ d.streamLive x ∧ (d.wk x.slot).wit = some x.pos then
      d.setWk x.slot { d.wk x.slot with wit := none }
    else d) d

/-- The captured fault of a failed stream (R326, R449). -/
def Dev.streamFault (d : Dev) (l code : Nat) : Dev :=
  d.fault { unit := .lane (Fin.ofNat 512 l), src := 5, access := 7, detail := code }

end Sys2Proof.Machine
end

