-- ==== Sys2Proof/Machine/Windows.lean ====
section
/-! DEFINITION. The bridge's shared operations: windows, tags, prefetched pages, posted writes and the two logs
(R335–R355). -/
namespace Sys2Proof.Machine

/-! ## Windows (R335–R338) -/

def Dev.winBase (d : Dev) (n w : Nat) : Nat :=
  d.rd (BRG_WIN_BASE_LO_ADDR n w) * 4096 + d.rd (BRG_WIN_BASE_HI_ADDR n w) * 2 ^ 32
def Dev.winSize (d : Dev) (n w : Nat) : Nat := 2 ^ d.rd (BRG_WIN_CTRL_LOG2SIZE n w)
def Dev.winTarget (d : Dev) (n w : Nat) : Nat := d.rd (BRG_WIN_TARGET_ADDR n w) * 4096
def Dev.winLink (d : Dev) (n w : Nat) : Nat := d.rd (BRG_WIN_CTRL_LINK n w)
def Dev.winSlice (d : Dev) (n w : Nat) : Nat := d.rd (BRG_WIN_SLICE_SLICE n w) % 1024
def Dev.winOn (d : Dev) (n w : Nat) : Bool := d.flag (BRG_WIN_CTRL_ENABLE n w)
/-- The host address that reaches control address `a` through a window. -/
def Dev.barAddr (d : Dev) (n w a : Nat) : Nat := (d.port n).ext.bar4 + d.winBase n w + (a - d.winTarget n w)

/-- The window of a port that wholly holds BAR4 offsets `o` to `o + len - 1` (R335). -/
def Dev.winAt (d : Dev) (n o len : Nat) : Option Nat :=
  (List.range 256).find? (fun w => d.winOn n w && decide (d.winBase n w ≤ o) && decide (o + len ≤ d.winBase n w + d.winSize n w))

/-- The device clears ENABLE of a window of its own accord (R338). -/
def Dev.winGone (d : Dev) (n w state : Nat) : Dev :=
  let d := { d with brg := { d.brg with gone := setAdd (n * 256 + w) d.brg.gone } }
  d.wrs [(BRG_WIN_CTRL_ENABLE n w, 0), (BRG_WIN_STATE_STATE n w, state), (BRG_WIN_STATE_REASON n w, 0)]

/-- Every enabled window for which `p` holds is disabled (R338). -/
def Dev.winGoneAll (d : Dev) (p : Nat → Nat → Bool) (state : Nat) : Dev :=
  (List.range 8).foldl (fun d n => (List.range 256).foldl (fun d w =>
    if d.winOn n w && p n w then d.winGone n w state else d) d) d

/-- The identity record of a link, as the device holds it. -/
def Dev.identByte (d : Dev) (l i : Nat) : Nat := d.rd (LNK_IDENT_DATA l (i / 4)) / 2 ^ (8 * (i % 4)) % 256
def Dev.identCaps (d : Dev) (l : Nat) : Nat := d.identByte l 0x38
def Dev.identCtrlSize (d : Dev) (l : Nat) : Nat := d.rd (LNK_IDENT_DATA l 15)

/-- The first failing check of R336 as a REASON code; 0 when every check passes. -/
def Dev.winCheck (d : Dev) (n w : Nat) : Nat :=
  let k := d.rd (BRG_WIN_CTRL_LOG2SIZE n w)
  let z := 2 ^ k
  let b := d.winBase n w
  let l := d.winLink n w
  let s := d.winSlice n w
  let past := (List.range 256).any (fun v => v != w && d.winOn n v
    && decide (d.winBase n v < b + z) && decide (b < d.winBase n v + d.winSize n v))
  if k < 12 ∨ 32 < k then 1
  else if b % z ≠ 0 then 2
  else if 2 ^ (d.port n).bar4 < b + z then 3
  else if past then 4
  else if !(d.link l).admitted.isSome then 5
  else if !bit (d.identCaps l) 0 then 6
  else if d.identCtrlSize l < d.winTarget n w + z then 7
  else if d.sliceState s = 0 ∨ d.slicePort s ≠ n then 8
  else if d.flag (BRG_WIN_CTRL_PREFETCHABLE n w) && d.flag (BRG_WIN_CTRL_STRICT_ORDER n w) then 9
  else if s ≠ 0 ∧ d.rd (SLC_VECTORS_LAST s) < d.rd (SLC_VECTORS_BASE s) + d.rd (BRG_WIN_SLICE_VEC_OFFSET n w) then 10
  else 0

/-! ## Logs (R351, R355) -/

/-- A sequence number after `q`, from 1 upward (R355). -/
def seqNext (q : Nat) : Nat := if q = 0xFFFFFFFF then 1 else q + 1

/-- A ring of 16,384 entries takes one more (R355). -/
def ringAdd (l : List BLog) (e : BLog) : List BLog := if l.length < 16384 then l ++ [e] else l.drop 1 ++ [e]

/-- An entry of the discarded-read log (R355); source 41 is raised. -/
def Dev.logRead (d : Dev) (n w l addr size tag reason : Nat) : Dev :=
  let q := seqNext d.brg.dseq
  let e : BLog := ⟨d.now, addr, q, l, size, n, w, tag, reason, d.winSlice n w, 0, none⟩
  Dev.raise { d with brg := { d.brg with dlog := ringAdd d.brg.dlog e, dseq := q } } 41

/-- An entry of the posted-write failure log (R355). -/
def Dev.logWrite (d : Dev) (n w l addr bytes reqId : Nat) (pasid : Option Nat) (reason : Nat) : Dev :=
  let q := seqNext d.brg.wlogSeq
  let e : BLog := ⟨d.now, addr, q, l, bytes, n, w, 0, reason, d.winSlice n w, reqId, pasid⟩
  Dev.raise { d with brg := { d.brg with wlog := ringAdd d.brg.wlog e, wlogSeq := q } } 41

/-- A failed posted write: logged, counted, and signalled to the window's slice at most once per 1 ms, and not at all for a
window that R338 disabled (R351). -/
def Dev.writeFails (d : Dev) (n w l addr bytes reqId : Nat) (pasid : Option Nat) (reason : Nat) : Dev :=
  let d := (d.logWrite n w l addr bytes reqId pasid reason).incSat (BRG_WIN_STATE_FAILURES n w)
  let k := n * 256 + w
  let t := d.brg.signal.get k 0
  if d.brg.gone.contains k || (t != 0 && decide (d.now < t - 1 + 1000000)) then d
  else
    let d := { d with brg := { d.brg with signal := d.brg.signal.set k (d.now + 1) 0 } }
    let s := d.winSlice n w
    if s = 0 then d.raise 42
    else d.msix n (d.rd (SLC_VECTORS_BASE s) + d.rd (BRG_WIN_SLICE_VEC_OFFSET n w))

/-- A queued or forwarded write fails (R351, R353). -/
def Dev.bwriteFails (d : Dev) (x : BWrite) (reason : Nat) : Dev :=
  d.writeFails x.port x.win x.link x.addr x.data.length x.reqId x.pasid reason

/-- The tag of a host read: its own, or that of the page it waits for. -/
def Dev.readTag (d : Dev) (r : BRead) : Option Nat :=
  if r.tag.isSome then r.tag
  else if !r.paged then none
  else (d.brg.pages.find? (fun p => p.port == r.port && p.link == r.link && p.data.isEmpty
    && decide (p.addr < r.addr + r.len) && decide (r.addr < p.addr + 4096))).bind (·.tag)

/-- A host read enters the discarded-read log (R355); the TAG of one that holds none is a free value (log entry 12). -/
def Dev.logHostRead (d : Dev) (r : BRead) (reason : Nat) : Dev :=
  match d.readTag r with
  | some t => d.logRead r.port r.win r.link r.addr r.len t reason
  | none =>
    let (t, d) := d.free
    d.logRead r.port r.win r.link r.addr r.len (t % 256) reason

/-- A host read ends with Completer Abort and is logged (R66, R345, R352). -/
def Dev.readAborts (d : Dev) (r : BRead) (reason : Nat) : Dev :=
  let d := (d.emit (.completerAbort r.port)).aerReq r.port .completerAbort (some 1) (some (d.barAddr r.port r.win r.addr)) (some r.len)
  (d.logHostRead r reason).incSat (BRG_WIN_STATE_FAILURES r.port r.win)

/-! ## Tags (R344, R346) -/

def Dev.btag (d : Dev) (l t : Nat) : Option RTag := d.brg.tags.get (l * 256 + t) none
def Dev.setTag (d : Dev) (l t : Nat) (x : Option RTag) : Dev :=
  { d with brg := { d.brg with tags := d.brg.tags.set (l * 256 + t) x none } }

/-- The tags of a link in use. -/
def Dev.linkTags (d : Dev) (l : Nat) : List (Nat × RTag) :=
  d.brg.tags.filterMap (fun e => if e.1 / 256 = l then e.2.map (fun x => (e.1 % 256, x)) else none)

/-- BRG_LINK follows the tags (R346, R364). -/
def Dev.countTags (d : Dev) (l : Nat) : Dev :=
  let t := d.linkTags l
  d.wrs [(BRG_LINK_TAGS_BUSY l, t.length), (BRG_LINK_QUARANTINED l, (t.filter (fun e => e.2.state == 4)).length)]

/-- The lowest free tag of a link. -/
def Dev.freeTag (d : Dev) (l : Nat) : Option Nat := (List.range 256).find? (fun t => (d.btag l t).isNone)

/-! ## Pages (R347, R348) -/

/-- The page of a port's buffer at a control address of a link, unless it has been invalidated. -/
def Dev.page (d : Dev) (n l addr : Nat) : Option BPage :=
  d.brg.pages.find? (fun p => p.port == n && p.link == l && p.addr == addr && !p.stale)

/-- A page leaves the buffer; it is logged when no host read has taken a byte of it (R348). -/
def Dev.pageOut (d : Dev) (p : BPage) (reason : Nat) : Dev :=
  let d := { d with brg := { d.brg with pages := d.brg.pages.filter (fun q => q != p) } }
  if p.taken then d else d.logRead p.port p.win p.link p.addr 4096 (p.tag.getD 0) reason

/-- Room for one more page of a port: the least recently used page goes (R348). -/
def Dev.evict (d : Dev) (n : Nat) : Dev :=
  let l := d.brg.pages.filter (fun p => p.port == n)
  if l.length < 32 then d
  else
    let u := l.foldl (fun m p => Nat.min m p.used) d.now
    match l.find? (fun p => p.used == u) with
    | some p => d.pageOut p 5
    | none => d

/-- CTRL_READ (R339). -/
def ctrlRead (tag prefetch dwords addr be : Nat) : List Byte :=
  message 0x48 (leBytes 1 tag ++ leBytes 1 prefetch ++ leBytes 2 dwords ++ leBytes 4 addr ++ leBytes 1 be ++ leBytes 3 0)

/-- CTRL_WRITE (R339). -/
def ctrlWrite (wseq addr be : Nat) (data : List Byte) : List Byte :=
  message 0x4A (leBytes 2 wseq ++ leBytes 2 (data.length / 4) ++ leBytes 4 addr ++ leBytes 1 be ++ leBytes 3 0 ++ data)

/-- One page is read from its partner: a tag, a CTRL_READ of 1,024 dwords, and the discard timer from now (R346, R347);
none when no tag is free. -/
def Dev.readPage (d : Dev) (n w l addr : Nat) (prefetch : Bool) : Option Dev :=
  (d.freeTag l).map (fun t =>
    let d := d.evict n
    let d := (d.setTag l t (some ⟨2, n, w, addr, 4096, d.now⟩)).countTags l
    let p : BPage := ⟨n, w, l, addr, some t, prefetch, d.now, [], false, d.now, false⟩
    let d := { d with brg := { d.brg with pages := d.brg.pages ++ [p] } }
    d.txMsg l 1 (ctrlRead t (b2n prefetch) 1024 addr 0xFF))

/-- The pages a host read touches (R347). -/
def BRead.pages (r : BRead) : List Nat :=
  let a := r.addr / 4096
  (List.range ((r.addr + r.len - 1) / 4096 - a + 1)).map (fun i => (a + i) * 4096)

/-- The pages a host read still needs. -/
def Dev.missing (d : Dev) (r : BRead) : List Nat := r.pages.filter (fun a => (d.page r.port r.link a).isNone)

/-- The next page after a read that ends within the last 1,024 B of one, when it is to be prefetched (R347). -/
def Dev.nextPage (d : Dev) (r : BRead) : Option Nat :=
  let e := r.addr + r.len
  let a := (e - 1) / 4096 * 4096 + 4096
  if a - 1024 < e ∧ a < d.winTarget r.port r.win + d.winSize r.port r.win ∧ (d.page r.port r.link a).isNone then some a else none

/-! ## Forwarding (R342–R350) -/

/-- A host read not yet forwarded: one served from pages, while it lacks one or the page after it has not been considered. -/
def Dev.unsentRead (d : Dev) (r : BRead) : Bool := if r.paged then !(d.missing r).isEmpty || !r.ahead else r.tag.isNone

/-- Writes of a link that lack a status and have not timed out (R350). -/
def Dev.openWrites (d : Dev) (l : Nat) : Nat := (d.brg.writes.filter (fun w => w.link == l && w.sent.isSome && !w.dead)).length

/-- Has a request of a STRICT_ORDER window every earlier request of its window behind it (R342)? -/
def Dev.strictOk (d : Dev) (n w seq : Nat) : Bool :=
  !d.flag (BRG_WIN_CTRL_STRICT_ORDER n w)
    || !(d.brg.reads.any (fun r => r.port == n && r.win == w && decide (r.seq < seq))
      || d.brg.writes.any (fun x => x.port == n && x.win == w && decide (x.seq < seq) && !x.dead))

/-- The page after a host read is read ahead where R347 asks for it and a tag is free, once for each read. -/
def Dev.readAhead (d : Dev) (r : BRead) : Dev :=
  if r.ahead then d
  else
    let l := d.brg.reads.map (fun x => if x.seq = r.seq then { x with ahead := true } else x)
    let d := { d with brg := { d.brg with reads := l } }
    match d.nextPage r with
    | some a => (d.readPage r.port r.win r.link a true).getD d
    | none => d

/-- The pages a read needs are read, as far as tags allow, and then the next one. -/
def Dev.readPages (d : Dev) (r : BRead) : Dev :=
  let d := (d.missing r).foldl (fun d a => (d.readPage r.port r.win r.link a false).getD d) d
  if (d.missing r).isEmpty then d.readAhead r else d

/-- A host read of its own is forwarded as one CTRL_READ, if a tag is free (R344, R345). -/
def Dev.sendRead (d : Dev) (r : BRead) : Dev :=
  match d.freeTag r.link with
  | none => d
  | some t =>
    let d := (d.setTag r.link t (some ⟨1, r.port, r.win, r.addr, r.len, 0⟩)).countTags r.link
    let l := d.brg.reads.map (fun x => if x.seq = r.seq then { x with tag := some t } else x)
    Dev.txMsg { d with brg := { d.brg with reads := l } } r.link 1 (ctrlRead t 0 (r.len / 4) r.addr r.be)

/-- A write of `len` bytes at a control address of a link invalidates the pages it overlaps, in every port's buffer (R348): a
buffered page goes at once, one in flight on arrival. -/
def Dev.invalidate (d : Dev) (l addr len : Nat) : Dev :=
  let hit := fun p : BPage => p.link == l && decide (p.addr < addr + len) && decide (addr < p.addr + 4096)
  d.brg.pages.foldl (fun d p =>
    if !hit p then d
    else if p.data.isEmpty then
      { d with brg := { d.brg with pages := d.brg.pages.map (fun q => if q = p then { q with stale := true } else q) } }
    else d.pageOut p 4) d

/-- A host write is forwarded as one CTRL_WRITE, while fewer than 256 of its link lack a status (R340, R350); a page read since it arrived
may hold what stood before it, and is discarded (R348). -/
def Dev.sendWrite (d : Dev) (x : BWrite) : Dev :=
  if 256 ≤ d.openWrites x.link then d
  else
    let q := d.brg.wseq.get x.link 0
    let l := d.brg.writes.map (fun y => if y.seq = x.seq then { y with sent := some d.now, wseq := q } else y)
    let d := { d with brg := { d.brg with writes := l, wseq := d.brg.wseq.set x.link ((q + 1) % 2 ^ 16) 0 } }
    (d.txMsg x.link 1 (ctrlWrite q x.addr x.be x.data)).invalidate x.link x.addr x.data.length

/-- The first request of a link that has not been forwarded is forwarded, if it may be (R342). -/
def Dev.forward1 (d : Dev) (l : Nat) : Dev :=
  let r := d.brg.reads.find? (fun r => r.link == l && d.unsentRead r)
  let w := d.brg.writes.find? (fun x => x.link == l && x.sent.isNone)
  let rs := (r.map (·.seq)).getD (d.brg.seq + 1)
  let ws := (w.map (·.seq)).getD (d.brg.seq + 1)
  if rs < ws then
    match r with
    | some r => if !d.strictOk r.port r.win r.seq then d else if r.paged then d.readPages r else d.sendRead r
    | none => d
  else
    match w with
    | some x => if d.strictOk x.port x.win x.seq then d.sendWrite x else d
    | none => d

/-- Every request of a link that may be forwarded is (R342). -/
def Dev.forward (d : Dev) (l : Nat) : Dev :=
  let k := (d.brg.reads.filter (fun r => r.link == l)).length + (d.brg.writes.filter (fun x => x.link == l && x.sent.isNone)).length
  (List.range k).foldl (fun d _ => d.forward1 l) d

/-- Bytes of a page-served read. -/
def Dev.pageBytes (d : Dev) (r : BRead) : List Byte :=
  let all := r.pages.flatMap (fun a => ((d.page r.port r.link a).map (·.data)).getD [])
  (all.drop (r.addr % 4096)).take r.len

/-- Host reads whose pages are all buffered complete from them, the next page read first where it is due (R347, R348). -/
def Dev.servePages (d : Dev) : Dev :=
  d.brg.reads.foldl (fun d r =>
    let ready := r.paged && r.pages.all (fun a => match d.page r.port r.link a with | some p => !p.data.isEmpty | none => false)
    if !ready then d
    else
      let d := (d.emit (.readData r.port (d.pageBytes r))).readAhead r
      let touch := fun p : BPage =>
        if p.port = r.port ∧ p.link = r.link ∧ r.pages.contains p.addr ∧ ¬p.stale then { p with taken := true, used := d.now } else p
      { d with brg := { d.brg with reads := d.brg.reads.filter (fun x => x.seq != r.seq), pages := d.brg.pages.map touch } }) d

/-- A link goes down (R353, R348): reads end, tags are freed, pages go, writes fail, WSEQ starts again. A page in flight for a
host read that waits for it goes with that read's entry. -/
def Dev.bridgeDown (d : Dev) (l : Nat) : Dev :=
  let rs := d.brg.reads.filter (fun r => r.link == l)
  let ws := d.brg.writes.filter (fun w => w.link == l)
  let d := { d with brg := { d.brg with reads := d.brg.reads.filter (fun r => r.link != l),
                                        writes := d.brg.writes.filter (fun w => w.link != l) } }
  let d := rs.foldl (fun d r => d.readAborts r 6) d
  let d := ws.foldl (fun d w => if w.dead then d else d.bwriteFails w (if w.sent.isSome then 5 else 6)) d
  let asked := fun p : BPage => p.data.isEmpty && rs.any (fun r => r.paged && r.port == p.port && r.pages.contains p.addr)
  let d := { d with brg := { d.brg with pages := d.brg.pages.filter (fun p => !(p.link == l && asked p)) } }
  let d := (d.brg.pages.filter (fun p => p.link == l)).foldl (fun d p => d.pageOut p 6) d
  let tags := d.brg.tags.filter (fun e => e.1 / 256 != l)
  let b := { d.brg with tags, wseq := d.brg.wseq.set l 0 0, polled := d.brg.polled.set l 0 0, pseq := d.brg.pseq.set l 0 0 }
  Dev.countTags { d with brg := b } l

/-- A host read of port `n` that stalls for a sleeping octant (R401). -/
def Stall.readOf (x : Stall) (n : Nat) : Bool :=
  match x with
  | .bridgeRead _ p _ _ _ _ => p == n
  | _ => false

/-- The host reads of a port that stall, as the reads of the windows they go through. -/
def Dev.stalledReads (d : Dev) (n : Nat) : List BRead :=
  d.pwr.stalls.filterMap (fun x => match x with
    | .bridgeRead _ p off dwords be since =>
      if p = n then
        (d.winAt n off (4 * dwords)).map (fun w =>
          ⟨n, w, d.winLink n w, d.winTarget n w + (off - d.winBase n w), 4 * dwords, be, since, 0, none, false, false⟩)
      else none
    | _ => none)

/-- A Function Level Reset of port `n` (R338, R354): its windows are disabled, its host reads and buffered pages are
discarded and logged; tags still in flight take their discard timers, page reads among them. -/
def Dev.bridgeReset (d : Dev) (n : Nat) : Dev :=
  let d := (d.stalledReads n).foldl (fun d r => d.logHostRead r 9) d
  let d := { d with pwr := { d.pwr with stalls := d.pwr.stalls.filter (fun x => !x.readOf n) } }
  let d := d.winGoneAll (fun p _ => p == n) 0
  let rs := d.brg.reads.filter (fun r => r.port == n)
  let d := { d with brg := { d.brg with reads := d.brg.reads.filter (fun r => r.port != n) } }
  let d := rs.foldl (fun d r =>
    let d := d.logHostRead r 9
    match r.tag with
    | some t => d.setTag r.link t (some ⟨3, n, r.win, r.addr, r.len, d.now⟩)
    | none => d) d
  let gone := fun p : BPage => p.port == n && !p.data.isEmpty
  let ps := d.brg.pages.filter gone
  ps.foldl (fun d p => d.pageOut { p with taken := false } 9) { d with brg := { d.brg with pages := d.brg.pages.filter (fun p => !gone p) } }

end Sys2Proof.Machine
end

