-- ==== Sys2Proof/Machine/Training.lean ====
section
/-! DEFINITION. Lanes, training, link down and admission (R274–R297, R329, R330, R553). -/
namespace Sys2Proof.Machine

/-! ## Lane states (R281) -/

/-- A lane may train: its bay's power-good is asserted, ENABLE is 1, the bay is not held retired, its octant is neither
bypassed nor in reset, and the device is ACTIVE (R281, R292, R400, R483, R553). -/
def Dev.laneMay (d : Dev) (l : Nat) : Bool :=
  d.flag (BAY_STATUS_PG (l / 8)) && d.flag (LNK_CTRL_ENABLE l) && d.pwr.mode == 0
    && (!d.lnk.retired.contains (l / 8) || d.lnk.released.contains l)
    && !d.octOff (l / 64) && !bit (d.rd SPR_OCTANT_RESETTING) (l / 64)

/-- The lanes of a bay. -/
def bayLanes (b : Nat) : List Nat := (List.range 8).map (8 * b + ·)

/-- The lanes of the group chosen for a link. -/
def Dev.chosenLanes (d : Dev) (l : Nat) : List Nat :=
  match (d.link l).choice with
  | some c => linkLanes (l / 8 * 8 + c.2.1) c.2.2
  | none => []

/-- A lane sends training blocks: in SYNC, in EQUALIZE unless it is FAULTY, and in NEGOTIATE in the chosen group; the others are in link
low-power state (R280, R282, R284). -/
def Dev.sends (d : Dev) (l : Nat) : Bool :=
  let s := d.laneState l
  s == lsSync || (s == lsEqualize && !d.flag (LNK_LANE_FAULTY l))
    || (s == lsNegotiate && (match d.linkOf l with | some k => (d.chosenLanes k).contains l | none => false))

/-- The training block a lane sends in its state, behind the alignment pattern (R280; log entry 123). What the manual does not give
of the device's own block, LINK before NEGOTIATE, CAPS and PRESET_REQ, is a free value. -/
def Dev.sendTraining (d : Dev) (l phase : Nat) : Dev :=
  let k := d.link ((d.linkOf l).getD l)
  let f := d.free
  let d := f.2
  let ok := listMask ((List.range 8).filter (fun i => (d.lane (l / 8 * 8 + i)).eqNear))
  let c := k.choice.getD (0, 0, 0)
  let link := if phase = 3 then c.2.1 + 8 * c.2.2 else f.1 % 32
  let b := leBytes 2 0xB01E ++ leBytes 1 phase ++ leBytes 1 (2 * (l % 8)) ++ leBytes 1 link
    ++ leBytes 1 (7 + (if phase = 3 then 16 * c.1 else 0)) ++ leBytes 1 ok ++ leBytes 1 (f.1 / 32 % 8) ++ leBytes 2 0x0100
    ++ leBytes 1 (f.1 / 256 % 8 + 8 * b2n (d.lane l).eqNear) ++ leBytes 1 0
  d.emit (.training l (leBytes 8 0xA5A55A5A0F0FF0F0 ++ b ++ leBytes 4 (crc32c b).toNat))

/-- The lanes of a bay that are training send what stands now: LANES_OK has changed (R280). -/
def Dev.sendBay (d : Dev) (b : Nat) : Dev :=
  (bayLanes b).foldl (fun d i => if d.sends i then d.sendTraining i (d.laneState i - 1) else d) d

/-- A lane enters a training state; in SYNC, EQUALIZE and NEGOTIATE it sends training blocks. The EQ_DONE bits of EQUALIZE
stand on in NEGOTIATE. -/
def Dev.laneEnter (d : Dev) (l s : Nat) : Dev :=
  let t := d.lane l
  let keep := s == lsNegotiate
  let d := d.setLane l { t with since := d.now, count := 0, eqNear := t.eqNear && keep, eqFar := t.eqFar && keep, negAck := false }
  let d := (d.wr (LNK_STATE_STATE l) s).wr (LNK_STATE_NO_PARTNER l) 0
  if d.sends l then d.sendTraining l (s - 1) else d

/-- A test on a lane ends (R294, R295, R486): 1 PASS, 2 FAIL, 3 ABORTED. -/
def Dev.laneTestEnd (d : Dev) (l outcome : Nat) : Dev :=
  let t := d.lane l
  match t.test with
  | none => d
  | some x =>
    let d := (d.setLane l { t with test := none }).wrs [(LNK_LANE_TESTING l, 0), (LNK_PRBS_STATUS_RESULT l, outcome)]
    { d with lnk := { d.lnk with ended := d.lnk.ended ++ [(x.slot, l, outcome)] } }

/-- The lanes whose tests a link carries. -/
def Dev.testsOn (d : Dev) (l : Nat) : List Nat :=
  (bayLanes (l / 8)).filter (fun i => match (d.lane i).test with | some x => x.carrier == l | none => false)

/-- Tests on some lanes end ABORTED (R295). -/
def Dev.abortTests (d : Dev) (ls : List Nat) : Dev := ls.foldl (fun d i => d.laneTestEnd i 3) d

/-- The session of a link ends: nothing is sent, every buffer, partly received message, credit and stream is discarded, the work on
it is owed a replay, and the bridge acts at once (R330, R353). -/
def Dev.endSession (d : Dev) (l : Nat) : Dev :=
  if !d.flitting l then d
  else
    let was := d.laneState l == lsActive
    let d := d.endStreams l
    let k := d.link l
    let d := d.setLink l { k with sess := { slots := k.sess.slots, crcFails := k.sess.crcFails }, left := if was then some d.now else k.left, expired := if was then false else k.expired }
    let d := (d.groupLanes l).foldl (fun d i => d.wr (LNK_LANE_IN_LINK i) 0) d
    let d := d.wrs [(LNK_FLIT_STATUS_TX_UNACKED l, 0), (LNK_FLIT_STATUS_RX_HELD l, 0), (LNK_CREDIT_VC0 l, 0), (LNK_CREDIT_VC1 l, 0),
      (LNK_CREDIT_VC2 l, 0), (LNK_STATE_AWAIT_ADMIT l, 0), (LNK_STATE_TR_WIDTH l, 0), (LNK_STATE_TR_FIRST l, 0), (LNK_STATE_TR_RATE l, 3)]
    let d := d.bridgeDown l
    d.abortTests (d.testsOn l)

/-- A lane is training or in a link that flits run on. -/
def Dev.laneTrains (d : Dev) (l : Nat) : Bool := decide (2 ≤ d.laneState l) && decide (d.laneState l ≤ 6)

/-- A link goes to SYNC with those lanes of its admitted geometry that take part (R281, R553): HALTED lanes and lanes in DETECT, which see no
partner signal, stay; a lane enabled since goes to DETECT. -/
def Dev.toSync (d : Dev) (l : Nat) : Dev :=
  let d := d.endSession l
  let d := d.setLink l { d.link l with choice := none, tried := [] }
  (d.geomLanes l).foldl (fun d i =>
    if d.laneTrains i then d.laneEnter i (if d.laneMay i then lsSync else lsDisabled)
    else if d.laneState i = lsDisabled ∧ d.laneMay i then d.laneEnter i lsDetect
    else d) d

/-- A link is given up: its lanes belong to no link. -/
def Dev.unlink (d : Dev) (l : Nat) : Dev :=
  let k := d.link l
  (d.setLink l { k with geom := none, choice := none, tried := [] }).wrs [(LNK_STATE_FIRST l, 0), (LNK_STATE_ADM_WIDTH l, 0)]

/-- A failed attempt of some lanes (R285): counted, captured, and DETECT, or HALTED beyond TRAIN_RETRY. -/
def Dev.attemptFails (d : Dev) (ls : List Nat) (reason : Nat) : Dev :=
  let d := ls.foldl (fun d l =>
    let d := d.incSat (LNK_TRAIN_ATTEMPTS l)
    let d := d.wr (LNK_TRAIN_REASON l) reason
    d.fault { unit := .lane (Fin.ofNat 512 l), src := 4, access := 7, detail := reason }) d
  let halt := fun l => decide (d.rd LNK_TIMERS2_TRAIN_RETRY < d.rd (LNK_TRAIN_ATTEMPTS l))
  let e := ls.foldl (fun e l => e.laneEnter l (if halt l then lsHalted else lsDetect)) d
  match ls.find? halt with
  | some l => e.raise (lnkSource l)
  | none => e

/-- The attempt of a link fails: the lanes that took part return to DETECT, or halt; a first lane with ENABLE 0, whose unit held the
link's state, is DISABLED (R285, R553). -/
def Dev.linkFails (d : Dev) (l reason : Nat) : Dev :=
  let d := d.endSession l
  let d := if d.laneTrains l && !d.flag (LNK_CTRL_ENABLE l) then d.laneEnter l lsDisabled else d
  (d.attemptFails ((d.geomLanes l).filter d.laneTrains) reason).unlink l

/-- A link goes down in flight (R329, R330): recorded and captured; from ACTIVE it retrains from SYNC, in IDENTIFY it sends SYNC blocks
and the attempt fails with PROTO. -/
def Dev.linkDown (d : Dev) (l reason : Nat) : Dev :=
  if !d.flitting l then d
  else
    let active := d.linkActive l
    let d := (d.wr (LNK_DOWN_REASON l) reason).inc (LNK_DOWN_COUNT l)
    let d := d.fault { unit := .lane (Fin.ofNat 512 l), src := 3, access := 7, detail := reason }
    if active then d.toSync l else ((d.groupLanes l).foldl (fun d i => d.sendTraining i 1) d).linkFails l 9

/-! ## Power and retirement -/

/-- A lane belongs to a link that is training or ACTIVE. -/
def Dev.inTraining (d : Dev) (l : Nat) : Bool :=
  match d.linkOf l with
  | some k => (d.geomLanes k).any (fun i => 2 ≤ d.laneState i && d.laneState i ≤ 6)
  | none => false

/-- Lanes go DISABLED, with the links they form (R281). -/
def Dev.lanesOff (d : Dev) (ls : List Nat) : Dev :=
  let d := (ls.foldl (fun d l => d.endSession l) d).abortTests ls
  let d := ls.foldl (fun d l => if (d.link l).geom.isSome then d.unlink l else d) d
  ls.foldl (fun d l =>
    let d := if d.laneState l = lsHalted then d.wr (LNK_TRAIN_ATTEMPTS l) 0 else d
    d.laneEnter l lsDisabled) d

/-- Lanes that may train leave DISABLED (R281). -/
def Dev.lanesOn (d : Dev) (ls : List Nat) : Dev :=
  ls.foldl (fun d l => if d.laneMay l && d.laneState l == lsDisabled && !d.inTraining l then d.laneEnter l lsDetect else d) d

/-- Power-good of a bay deasserts (R281, R295). -/
def Dev.bayLinksDown (d : Dev) (b : Nat) : Dev := d.lanesOff (bayLanes b)

/-- Power-good of a bay asserts: a retirement ends, FAULTY clears after a bay power cycle, and the lanes train (R281, R292, R295). -/
def Dev.bayLinksUp (d : Dev) (b : Nat) (cycled : Bool) : Dev :=
  let k := { d.lnk with retired := setDel b d.lnk.retired, released := d.lnk.released.filter (fun l => l / 8 != b) }
  let d := { d with lnk := k }
  let d := if cycled then (bayLanes b).foldl (fun d l => d.wr (LNK_LANE_FAULTY l) 0) d else d
  d.lanesOn (bayLanes b)

/-- The lanes of a list of octants. -/
def octLanes (octs : List Nat) : List Nat := octs.flatMap (fun o => (List.range 64).map (64 * o + ·))

/-- Every link of some octants moves to DISABLED; admitted records are kept (R400, R483). -/
def Dev.linksOff (d : Dev) (octs : List Nat) : Dev := d.lanesOff (octLanes octs)

/-- The links of some octants train again. -/
def Dev.linksOn (d : Dev) (octs : List Nat) : Dev := d.lanesOn (octLanes octs)

/-- WIDTH_DOWN: a lane is FAULTY, and a link whose trained group holds it retrains without it (R283, R457). -/
def Dev.laneFault (d : Dev) (l : Nat) : Dev :=
  let d := d.wr (LNK_LANE_FAULTY l) 1
  match d.linkOf l with
  | some k => if d.flitting k && (d.groupLanes k).contains l then d.toSync k else d
  | none => d

/-! ## SYNC (R277, R278, R281) -/

/-- A partner signal is detected on a lane in DETECT (R281). -/
def partnerSignalDetect (l : Nat) (d : Dev) : Dev :=
  if d.laneState l = lsDetect ∧ d.laneMay l then d.laneEnter l lsSync else d

/-- A lane has stayed in DETECT longer than DETECT_REPORT (R281). -/
def noPartner (l : Nat) (d : Dev) : Dev :=
  if d.laneState l = lsDetect then
    (d.advance ((d.lane l).since + 1000000 * d.rd LNK_TIMERS2_DETECT_REPORT + 1)).wr (LNK_STATE_NO_PARTNER l) 1
  else d

/-- First lane and lanes of the link that a LINK field proposes for a bay. -/
def proposed (bay link : Nat) : List Nat := linkLanes (8 * bay + link % 8) (link / 8 % 4)

/-- A proposal that breaks R14, does not hold its own lane, or overlaps another of the bay (R278). -/
def Dev.badSplit (d : Dev) (l : Nat) : Bool :=
  let k := (d.lane l).link % 32
  let mine := proposed (l / 8) k
  !linkAligned (8 * (l / 8) + k % 8) (k / 8) || !mine.contains l
    || (bayLanes (l / 8)).any (fun i => i != l && d.laneState i != lsHalted && (decide (3 ≤ d.laneState i) || (d.laneState i == lsSync && decide (0 < (d.lane i).count)))
      && (d.lane i).link % 32 != k && (proposed (l / 8) ((d.lane i).link % 32)).any mine.contains)

/-- The links in EQUALIZE or NEGOTIATE whose proposal overlaps lane `l`'s. -/
def Dev.splitLinks (d : Dev) (l : Nat) : List Nat :=
  let k := (d.lane l).link % 32
  let mine := proposed (l / 8) k
  (bayLanes (l / 8)).filter (fun f => (d.link f).geom.isSome && (f != 8 * (l / 8) + k % 8 || (d.link f).geom != some (k / 8))
    && (d.geomLanes f).any mine.contains && (d.geomLanes f).any (fun i => d.laneState i == lsEqualize || d.laneState i == lsNegotiate))

/-- The lanes concerned by a bad split that are in SYNC: those whose proposals overlap lane `l`'s. -/
def Dev.splitLanes (d : Dev) (l : Nat) : List Nat :=
  let mine := proposed (l / 8) ((d.lane l).link % 32)
  (bayLanes (l / 8)).filter (fun i => d.laneState i == lsSync
    && (i == l || mine.contains i || (0 < (d.lane i).count && (proposed (l / 8) ((d.lane i).link % 32)).any mine.contains)))

/-- The lanes of a candidate link: those of the proposal in SYNC with the same LINK field (R278). -/
def Dev.candidateLanes (d : Dev) (l : Nat) : List Nat :=
  (proposed (l / 8) ((d.lane l).link % 32)).filter (fun i => d.laneState i == lsSync)

/-- A proposal breaks R14 or overlaps another: every lane concerned fails with BAD_SPLIT (R278). -/
def Dev.splitFails (d : Dev) (l : Nat) : Dev :=
  let ls := d.splitLanes l
  let d := (d.splitLinks l).foldl (fun d f => d.linkFails f 3) d
  d.attemptFails (ls.filter (fun i => d.laneState i == lsSync)) 3

/-- Rates common to both ends and allowed by MAX_RATE of every lane, highest first (R282). -/
def Dev.commonRates (d : Dev) (ls : List Nat) : List Nat :=
  (List.range 3).filter (fun c => ls.all (fun i => bit (d.lane i).rates c && decide (d.rd (LNK_CTRL_MAX_RATE i) ≤ c)))

/-- The lanes of a link in EQUALIZE that adapt: those that are not FAULTY (R282, R283). -/
def Dev.eqLanes (d : Dev) (l : Nat) : List Nat :=
  (d.geomLanes l).filter (fun i => d.laneState i == lsEqualize && !d.flag (LNK_LANE_FAULTY i))

/-- The lanes-in-bay of a link clean at both ends at the present rate. -/
def Dev.cleanMask (d : Dev) (l : Nat) : Nat :=
  listMask (((d.eqLanes l).filter (fun i => (d.lane i).eqNear && (d.lane i).eqFar)).map (· % 8))

/-- EQUALIZE at a rate begins (R282). -/
def Dev.beginRate (d : Dev) (l r : Nat) : Dev :=
  let d := d.setLink l { d.link l with rate := r, rateSince := d.now }
  let d := (d.geomLanes l).foldl (fun d i =>
    if d.laneState i = lsEqualize then d.setLane i { d.lane i with eqNear := false, eqFar := false } else d) d
  d.sendBay (l / 8)

/-- SYNC is complete: the link is formed and EQUALIZE begins at its highest common rate (R278, R279, R281, R282). -/
def Dev.syncDone (d : Dev) (l : Nat) : Dev :=
  let k := (d.lane l).link % 32
  let f := 8 * (l / 8) + k % 8
  let ls := d.candidateLanes l
  let d := (bayLanes (l / 8)).foldl (fun d i => if (d.link i).geom.isSome && (d.geomLanes i).any (linkLanes f (k / 8)).contains then d.unlink i else d) d
  let d := d.setLink f { d.link f with geom := some (k / 8), tried := [], choice := none }
  let d := d.wrs [(LNK_STATE_FIRST f, 1), (LNK_STATE_ADM_WIDTH f, k / 8), (LNK_STATE_ADMITTED f, b2n (d.link f).admitted.isSome)]
  let rates := d.commonRates ls
  let d := ls.foldl (fun d i => d.laneEnter i lsEqualize) d
  match rates with
  | [] => d.linkFails f 4
  | r :: _ => d.beginRate f r

/-- A good SYNC block of a lane (R277, R278, R281). -/
def Dev.syncBlock (d : Dev) (l : Nat) (b : List Byte) : Dev :=
  let t := d.lane l
  let link := leAt b 4 1
  let rates := leAt b 5 1 % 8
  let proto := leAt b 8 2
  if leAt b 3 1 / 2 % 8 ≠ l % 8 then d.attemptFails [l] 2
  else if proto / 256 ≠ 1 then d.attemptFails [l] 9
  else
    let same := 0 < t.count ∧ t.link = link ∧ t.rates = rates ∧ t.proto = proto
    let d := d.setLane l { t with count := if same then t.count + 1 else 1, link, rates, proto, caps := leAt b 7 1 }
    if d.badSplit l then d.splitFails l
    else if (proposed (l / 8) (link % 32)).any (fun i => decide (3 ≤ d.laneState i) && decide (d.laneState i ≤ 6)) then d
    else if (d.candidateLanes l).all (fun i => 8 ≤ (d.lane i).count && (d.lane i).link == link) then d.syncDone l
    else d

/-- SYNC_TO expires before SYNC completes (R281). -/
def syncTimeout (l : Nat) (d : Dev) : Dev :=
  if d.laneState l = lsSync then
    let d := d.advance ((d.lane l).since + 250000 * d.rd LNK_TIMERS_SYNC_TO)
    d.attemptFails (if (d.lane l).count = 0 then [l] else d.candidateLanes l) 1
  else d

/-! ## EQUALIZE (R282, R283) -/

/-- Line rate of a rate code in Gbit/s (R274). -/
def lineRate (c : Nat) : Nat := if c = 0 then 112 else if c = 1 then 56 else 28

/-- The aligned groups within an admitted geometry, as first lane-in-bay and width code. -/
def groups (f w : Nat) : List (Nat × Nat) :=
  (List.range (w + 1)).flatMap (fun v => (List.range (2 ^ (w - v))).map (fun i => (f + i * 2 ^ v, v)))

/-- The choices that clean lanes at a rate allow: rate, first lane-in-bay, width code (R283). -/
def choicesAt (f w rate clean : Nat) : List (Nat × Nat × Nat) :=
  (groups f w).filterMap (fun g => if (linkLanes g.1 g.2).all (bit clean) then some (rate, g.1, g.2) else none)

/-- The better of two choices: lanes × rate, then the higher rate, then the lower first lane (R283). -/
def betterChoice (a : Option (Nat × Nat × Nat)) (c : Nat × Nat × Nat) : Option (Nat × Nat × Nat) :=
  match a with
  | none => some c
  | some b =>
    let x := 2 ^ b.2.2 * lineRate b.1
    let y := 2 ^ c.2.2 * lineRate c.1
    if x < y ∨ (x = y ∧ c.1 < b.1) ∨ (x = y ∧ c.1 = b.1 ∧ c.2.1 < b.2.1) then some c else some b

/-- The rate sequence has ended: the group is chosen, lanes not clean at its rate are FAULTY, NEGOTIATE begins (R283). -/
def Dev.chooseGroup (d : Dev) (l : Nat) : Dev :=
  let k := d.link l
  let f := l % 8
  let w := k.geom.getD 0
  match (k.tried.flatMap (fun t => choicesAt f w t.1 t.2)).foldl betterChoice none with
  | none => d.linkFails l 4
  | some c =>
    let clean := ((k.tried.find? (fun t => t.1 == c.1)).map (·.2)).getD 0
    let d := d.setLink l { k with choice := some c }
    let ls := (d.geomLanes l).filter (fun i => d.laneState i == lsEqualize)
    let d := ls.foldl (fun d i => if bit clean (i % 8) then d else d.wr (LNK_LANE_FAULTY i) 1) d
    ls.foldl (fun d i => d.laneEnter i lsNegotiate) d

/-- A rate ends: the next lower common rate, or the choice (R282). -/
def Dev.rateEnds (d : Dev) (l : Nat) : Dev :=
  let k := d.link l
  let all := !(d.eqLanes l).isEmpty && (d.eqLanes l).all (fun i => (d.lane i).eqNear && (d.lane i).eqFar)
  let d' := d.setLink l { k with tried := k.tried ++ [(k.rate, d.cleanMask l)] }
  match (d.commonRates ((d.geomLanes l).filter (fun i => d.laneState i == lsEqualize))).filter (fun r => decide (k.rate < r)) with
  | r :: _ => if all then d'.chooseGroup l else d'.beginRate l r
  | [] => d'.chooseGroup l

/-- A rate at which every lane is clean at both ends ends at once (R282). -/
def Dev.eqCheck (d : Dev) (l : Nat) : Dev :=
  if !(d.eqLanes l).isEmpty && (d.eqLanes l).all (fun i => (d.lane i).eqNear && (d.lane i).eqFar) then d.rateEnds l else d

/-- A lane's own receiver reaches EQ_DONE (R282). -/
def eqDone (l : Nat) (d : Dev) : Dev :=
  match d.linkOf l with
  | some k =>
    if d.laneState l = lsEqualize ∧ ¬d.flag (LNK_LANE_FAULTY l) then
      ((d.setLane l { d.lane l with eqNear := true }).sendBay (l / 8)).eqCheck k
    else d
  | none => d

/-- A good EQUALIZE block: the preset the partner asks for, and its EQ_DONE (R282). -/
def Dev.eqBlock (d : Dev) (l : Nat) (b : List Byte) : Dev :=
  let q := leAt b 0xA 1
  let d := (d.wr (LNK_LANE_PRESET l) (q % 8)).setLane l { d.lane l with eqFar := bit q 3 }
  match d.linkOf l with
  | some k => d.eqCheck k
  | none => d

/-- EQ_TO expires at a rate (R282). -/
def eqTimeout (l : Nat) (d : Dev) : Dev :=
  if d.isLink l && (d.geomLanes l).any (fun i => d.laneState i == lsEqualize) then
    (d.advance ((d.link l).rateSince + 1000000 * d.rd LNK_TIMERS_EQ_TO)).rateEnds l
  else d

/-! ## NEGOTIATE (R284) -/

/-- NEGOTIATE is complete: the link enters IDENTIFY and its session begins (R281, R303). -/
def Dev.toIdentify (d : Dev) (l : Nat) : Dev :=
  let c := ((d.link l).choice).getD (0, 0, 0)
  let d := (d.geomLanes l).foldl (fun d i => if d.laneState i = lsNegotiate then d.laneEnter i lsIdentify else d) d
  let d := (d.chosenLanes l).foldl (fun d i => d.wr (LNK_LANE_IN_LINK i) 1) d
  (d.wrs [(LNK_STATE_STATE l, lsIdentify), (LNK_STATE_TR_RATE l, c.1), (LNK_STATE_TR_FIRST l, c.2.1), (LNK_STATE_TR_WIDTH l, c.2.2)]).beginSession l

/-- A good NEG_ACK: it echoes the choice, or the attempt fails with NEG_MISMATCH (R284). -/
def Dev.negBlock (d : Dev) (l : Nat) (b : List Byte) : Dev :=
  match d.linkOf l with
  | none => d
  | some k =>
    match (d.link k).choice with
    | none => d
    | some c =>
      if !(d.chosenLanes k).contains l then d
      else if leAt b 4 1 % 32 ≠ c.2.1 + 8 * c.2.2 ∨ leAt b 5 1 / 16 % 4 ≠ c.1 then d.linkFails k 6
      else
        let d := d.setLane l { d.lane l with negAck := true }
        if (d.chosenLanes k).all (fun i => (d.lane i).negAck) then d.toIdentify k else d

/-- NEG_TO expires (R284). -/
def negTimeout (l : Nat) (d : Dev) : Dev :=
  if d.isLink l && (d.geomLanes l).any (fun i => d.laneState i == lsNegotiate) then
    let s := ((d.geomLanes l).filter (fun i => d.laneState i == lsNegotiate)).foldl (fun m i => Nat.max m (d.lane i).since) 0
    (d.advance (s + 250000 * d.rd LNK_TIMERS_NEG_TO)).linkFails l 5
  else d

/-- A training block whose MAGIC and CRC are good, from the partner (R280). -/
def goodBlock (b : List Byte) : Bool := leAt b 0 2 == 0xB01E && leAt b 12 4 == (crc32c (b.take 12)).toNat && bit (leAt b 3 1) 0

/-- Every bit inverted (R277). -/
def inverted (b : List Byte) : List Byte := b.map (fun x => ~~~x)

/-- What the receiver makes of a block as it stands on the wire: inverted back where POL_INV says so; in SYNC a block that is good only
the other way round turns POL_INV (R277; log entry 99). -/
def Dev.polarity (d : Dev) (l : Nat) (b : List Byte) : List Byte × Dev :=
  let x := if d.flag (LNK_LANE_POL_INV l) then inverted b else b
  if d.laneState l = lsSync ∧ ¬goodBlock x ∧ goodBlock (inverted x) then
    (inverted x, d.wr (LNK_LANE_POL_INV l) (b2n !d.flag (LNK_LANE_POL_INV l)))
  else (x, d)

/-- A good training block acts in its lane's state (R281–R284); where flits are expected it takes the link down with REMOTE (R329). -/
def Dev.takeTraining (d : Dev) (l : Nat) (b : List Byte) : Dev :=
  let p := leAt b 2 1
  match d.linkOf l with
  | some k =>
    if d.flitting k && (d.groupLanes k).contains l then d.linkDown k 7
    else if d.laneState l = lsSync ∧ p = 1 then d.syncBlock l b
    else if d.laneState l = lsEqualize ∧ p = 2 then d.eqBlock l b
    else if d.laneState l = lsNegotiate ∧ p = 4 then d.negBlock l b
    else d
  | none => if d.laneState l = lsSync ∧ p = 1 then d.syncBlock l b else d

/-- A training block is received on a lane (R277, R280): ignored when its MAGIC or CRC is bad. -/
def trainingBlock (l : Nat) (b : List Byte) (d : Dev) : Dev :=
  let x := d.polarity l b
  if goodBlock x.1 then x.2.takeTraining l x.1 else d

/-! ## IDENTIFY and admission (R287–R292) -/

/-- A link enters ACTIVE (R281, R285, R289). -/
def Dev.goActive (d : Dev) (l : Nat) : Dev :=
  let d := (d.geomLanes l).foldl (fun d i => (d.wr (LNK_TRAIN_ATTEMPTS i) 0).wr (LNK_STATE_STATE i)
    (if d.laneState i = lsIdentify then lsActive else d.laneState i)) d
  let d := (d.inc (LNK_TRAIN_TRAININGS l)).wrs [(LNK_STATE_STATE l, lsActive), (LNK_STATE_AWAIT_ADMIT l, 0)]
  d.setLink l { d.link l with left := none, expired := false }

/-- The failures of R288. -/
def identBad (r : List Byte) : Bool :=
  let c := leAt r 6 1
  leAt r 0 4 != 0x44495450 || leAt r 4 2 != 1 || leAt r 0xFC 4 != (crc32c (r.take 0xFC)).toNat || c == 0 || decide (3 < c)
    || leAt r 0x39 1 != 1 || (c == 1 && !bit (leAt r 0x38 1) 3) || leAt r 0x30 8 % 4096 != 0

/-- The record the device would keep of a link with this identity (R289). -/
def admitOf (width : Nat) (r : List Byte) : Admit := ⟨width, leAt r 8 2, leAt r 0xA 2, (r.drop 0x10).take 32, leAt r 0x30 8⟩

/-- The bay's bit of LNK_DISCOVERED or LNK_ADMITTED. -/
def discBit (b : Nat) : Fld := ⟨if b < 32 then LNK_DISCOVERED_LO else LNK_DISCOVERED_HI, 0, 32⟩
def admBit (b : Nat) : Fld := ⟨if b < 32 then LNK_ADMITTED_LO else LNK_ADMITTED_HI, 0, 32⟩
def Dev.bayMask (d : Dev) (f : Fld) (b : Nat) (on : Bool) : Dev :=
  let x := d.rd f
  d.wr f (if on then Nat.lor x (2 ^ (b % 32)) else x - (if bit x (b % 32) then 2 ^ (b % 32) else 0))

/-- A valid identity record is judged (R288–R290): ACTIVE on a match; otherwise AWAIT_ADMIT, DISCOVERED, and a hold of the
link ends at once, as one that has expired. -/
def Dev.identified (d : Dev) (l : Nat) (r : List Byte) : Dev :=
  if identBad r then d.linkFails l 8
  else
    let d := (List.range 64).foldl (fun d w => d.wr (LNK_IDENT_DATA l w) (leAt r (4 * w) 4)) d
    let k := d.link l
    if k.admitted = some (admitOf (k.geom.getD 0) r) then d.goActive l
    else
      let b := l / 8
      let d := (d.setLink l { k with owed := [], expired := k.left.isSome, other := k.left.isSome }).wr (LNK_STATE_AWAIT_ADMIT l) 1
      if bit (d.rd (discBit b)) (b % 32) then d else (d.bayMask (discBit b) b true).raise (lnkSource l)

/-- IDENT_TO expires (R286, R288). -/
def identTimeout (l : Nat) (d : Dev) : Dev :=
  if d.isLink l && d.laneState l == lsIdentify && !d.flag (LNK_STATE_AWAIT_ADMIT l) then
    (d.advance ((d.link l).identSince + 1000000 * d.rd LNK_TIMERS_IDENT_TO)).linkFails l 7
  else d

/-- The links of a bay that are ACTIVE or await admission (R291). -/
def Dev.admissible (d : Dev) (b : Nat) : List Nat :=
  (bayLanes b).filter (fun l => d.linkActive l || (d.isLink l && d.flag (LNK_STATE_AWAIT_ADMIT l)))

/-- The topology check of R291. -/
def Dev.topoOk (d : Dev) (l : Nat) : Bool :=
  match d.inForce with
  | some g => g.first l == (d.link l).geom
  | none => false

/-- The identity record as LNK_IDENT holds it. -/
def Dev.identRecord (d : Dev) (l : Nat) : List Byte := (List.range 64).flatMap (fun w => leBytes 4 (d.rd (LNK_IDENT_DATA l w)))

/-- One link is admitted (R291); a window on it is disabled when the partner is another than it was, or was before RETIRE_BAY (R338). -/
def Dev.admitLink (d : Dev) (l : Nat) : Dev :=
  let k := d.link l
  let a := admitOf (k.geom.getD 0) (d.identRecord l)
  let changed := match k.admitted.or k.former with
    | some o => o.maker != a.maker || o.model != a.model || o.serial != a.serial || o.capacity != a.capacity
    | none => false
  let d := (d.setLink l { k with admitted := some a, former := none }).wrs [(LNK_STATE_ADMITTED l, 1), (LNK_STATE_TOPO_MISMATCH l, 0)]
  let d := if changed then d.winGoneAll (fun n w => d.winLink n w == l) 4 else d
  if d.laneState l = lsIdentify then d.goActive l else d

/-- The links of bay `b` are admitted, if they can be: status and count (R291). -/
def Dev.admitBay (d : Dev) (b : Nat) : Nat × Nat × Dev :=
  let ls := d.admissible b
  let bad := ls.filter (fun l => !d.topoOk l)
  if 63 < b then (stInvalid, 0, d)
  else if ls.isEmpty then (stBayAbsent, 0, d)
  else if !bad.isEmpty then (stInvalid, 0, bad.foldl (fun d l => d.wr (LNK_STATE_TOPO_MISMATCH l) 1) d)
  else
    let d := ls.foldl (fun d l => d.admitLink l) d
    let d := ((d.bayMask (admBit b) b true).bayMask (discBit b) b false)
    (stSuccess, ls.length, { d with lnk := { d.lnk with barred := setDel b d.lnk.barred } })

/-- Blocks sent to a bay that still lack an acknowledgement (R292). -/
def Dev.bayOwes (d : Dev) (b : Nat) : Bool :=
  (bayLanes b).any (fun l => (d.link l).streams.any (fun x => x.kind == 0 && !x.timedOut))

/-- RETIRE_BAY takes effect (R292). -/
def Dev.retire (d : Dev) (b : Nat) : Dev :=
  let d := d.lanesOff (bayLanes b)
  let d := (bayLanes b).foldl (fun d l =>
    let k := d.link l
    (d.setLink l { k with admitted := none, former := k.admitted.or k.former, left := none, expired := false, owed := [] }).wr (LNK_STATE_ADMITTED l) 0) d
  let d := d.bayMask (admBit b) b false
  { d with lnk := { d.lnk with retired := setAdd b d.lnk.retired, released := d.lnk.released.filter (fun l => l / 8 != b),
                               retiring := d.lnk.retiring.drop b } }

/-! ## Register writes (R281, R553) -/

/-- A lane is in the trained group of its link, which is in SYNC or a later state (R553): the group that runs or is chosen, and before the
choice every lane in training that is not FAULTY (R283). -/
def Dev.inGroup (d : Dev) (l : Nat) : Bool :=
  match d.linkOf l with
  | some f =>
    if d.flitting f then (d.groupLanes f).contains l
    else if d.laneState l = lsNegotiate then (d.chosenLanes f).contains l
    else (d.laneState l == lsSync || d.laneState l == lsEqualize) && !d.flag (LNK_LANE_FAULTY l)
  | none => false

/-- ENABLE of a lane is written 0 (R553): the lane is DISABLED, and a test on it ends; a link that trains or runs with it in its group
retrains without it. Leaving HALTED clears ATTEMPTS (R285). The first lane's register goes on holding the state of a link that runs on other
lanes, and shows DISABLED. -/
def Dev.laneDisable (d : Dev) (l : Nat) : Dev :=
  let k := d.linkOf l
  let inGroup := d.inGroup l
  let d := ((d.wr (LNK_CTRL_ENABLE l) 0).wr (LNK_LANE_IN_LINK l) 0).laneTestEnd l 3
  let d := if d.laneState l = lsHalted then d.wr (LNK_TRAIN_ATTEMPTS l) 0 else d
  match k with
  | some f => if inGroup then d.toSync f else if d.laneState l = lsDisabled ∨ (f = l ∧ d.flitting f) then d else d.laneEnter l lsDisabled
  | none => d.laneEnter l lsDisabled

/-- ENABLE of a lane is written 1 after 0 (R292, R553). -/
def Dev.laneEnable (d : Dev) (l : Nat) : Dev :=
  let d := d.wr (LNK_CTRL_ENABLE l) 1
  let d := if d.lnk.retired.contains (l / 8) then { d with lnk := { d.lnk with released := setAdd l d.lnk.released } } else d
  d.lanesOn [l]

/-- The halted lanes that RETRAIN in the unit of lane `l` brings back: those of the link it last proposed as first lane, or itself. -/
def Dev.haltedWith (d : Dev) (l : Nat) : List Nat :=
  let k := (d.lane l).link % 32
  (bayLanes (l / 8)).filter (fun i => d.laneState i == lsHalted
    && (i == l || (k % 8 == l % 8 && (proposed (l / 8) k).contains i && (d.lane i).link % 32 == k)))

/-- RETRAIN (R281, R285, R295): a link to SYNC, or lanes out of HALTED; a test on a lane of the link ends ABORTED. -/
def Dev.retrainLink (d : Dev) (l : Nat) : Dev :=
  let d := d.abortTests (l :: (if d.isLink l then d.geomLanes l else []))
  if d.isLink l && (d.geomLanes l).any d.laneTrains then
    -- its HALTED lanes leave with it (R281, R285)
    let d := ((d.geomLanes l).filter (fun i => d.laneState i == lsHalted)).foldl (fun d i => (d.wr (LNK_TRAIN_ATTEMPTS i) 0).laneEnter i lsSync) d
    d.toSync l
  else if d.laneState l = lsHalted then
    (d.haltedWith l).foldl (fun d i =>
      let d := d.wr (LNK_TRAIN_ATTEMPTS i) 0
      d.laneEnter i (if d.laneMay i then lsSync else lsDisabled)) d
  else d

/-- A write of LNK_CTRL (R281, R553). -/
def Dev.lnkCtrl (d : Dev) (l v : Nat) : Dev :=
  let was := d.flag (LNK_CTRL_ENABLE l)
  let d := if bits v 2 2 = 3 then d else d.wr (LNK_CTRL_MAX_RATE l) (bits v 2 2)
  let d := if was && !bit v 0 then d.laneDisable l else if !was && bit v 0 then d.laneEnable l else d
  if bit v 1 then d.retrainLink l else d

/-- LNK_CTRL written with ENABLE (R553). -/
def laneEnableWrite (l v : Nat) (d : Dev) : Dev := d.setup (LNK_CTRL l) v (fun d => d.lnkCtrl l v)

/-- LNK_CTRL written with RETRAIN (R281). -/
def retrain (l v : Nat) (d : Dev) : Dev := d.setup (LNK_CTRL l) v (fun d => d.lnkCtrl l v)

/-! ## Lane tests (R294, R328) -/

/-- May a lane be tested: a powered bay, ENABLE 1, outside every trained group of the bay, no test on it (R294, R553)? -/
def Dev.laneTestable (d : Dev) (l : Nat) : Bool :=
  d.flag (BAY_STATUS_PG (l / 8)) && d.flag (LNK_CTRL_ENABLE l) && !d.flag (LNK_LANE_IN_LINK l) && !d.flag (LNK_LANE_TESTING l)

/-- A flitting link of a lane's bay that carries the request: the one whose geometry holds the lane, else the first. -/
def Dev.testLink (d : Dev) (l : Nat) : Option Nat :=
  match d.linkOf l with
  | some k => if d.flitting k then some k else (bayLanes (l / 8)).find? d.flitting
  | none => (bayLanes (l / 8)).find? d.flitting

/-- A lane test starts with LANE_TEST to the partner, or ends ABORTED: no link carries it, or the partner lacks CAPS.PRBS (R294, R328). -/
def Dev.laneTest (d : Dev) (l n : Nat) : Dev :=
  match d.testLink l with
  | some k =>
    if bit (d.identCaps k) 2 then
      let t := { d.lane l with test := some ⟨n, k, d.rd LNK_PRBS_CFG_DURATION_MS, d.rd (LNK_STATE_TR_RATE k)⟩ }
      let d := (d.setLane l t).wr (LNK_LANE_TESTING l) 1
      d.txMsg k 2 (message 0x32 (leBytes 1 (l % 8) ++ leBytes 1 0 ++ leBytes 2 (d.rd LNK_PRBS_CFG_DURATION_MS) ++ leBytes 8 0))
    else
      { (d.wr (LNK_PRBS_STATUS_RESULT l) 3) with lnk := { d.lnk with ended := d.lnk.ended ++ [(n, l, 3)] } }
  | none => { (d.wr (LNK_PRBS_STATUS_RESULT l) 3) with lnk := { d.lnk with ended := d.lnk.ended ++ [(n, l, 3)] } }

end Sys2Proof.Machine
end

