-- ==== Sys2Proof/Machine/Bay.lean ====
section
/-! DEFINITION. Bay power (R365–R386) and the energy ledger (R387–R394). -/
namespace Sys2Proof.Machine

def Dev.bayT (d : Dev) (b : Nat) : BayT := d.bay.bays.get b {}
def Dev.setBay (d : Dev) (b : Nat) (t : BayT) : Dev := { d with bay := { d.bay with bays := d.bay.bays.set b t {} } }
def Dev.bayState (d : Dev) (b : Nat) : Nat := d.rd (BAY_STATUS_STATE b)

/-- The states of R366. -/
def bsOff : Nat := 0
def bsWait : Nat := 1
def bsRamp : Nat := 2
def bsPgWait : Nat := 3
def bsOn : Nat := 4
def bsCooling : Nat := 5
def bsLocked : Nat := 6
def bsShorted : Nat := 7

/-- Bay `b`'s bit of a register pair. -/
def Dev.bayBit (d : Dev) (lo hi : Fld) (b v : Nat) : Dev :=
  let f := if b < 32 then lo else hi
  let x := d.rd f
  d.wr f (if v = 1 then Nat.lor x (2 ^ (b % 32)) else x - x / 2 ^ (b % 32) % 2 * 2 ^ (b % 32))

/-- Bays in RAMP or PG_WAIT (R369). -/
def Dev.starting (d : Dev) : Nat := ((List.range 64).filter (fun b => d.bayState b == bsRamp || d.bayState b == bsPgWait)).length

/-- The bay enters a state; BAY_GROUP.STARTING follows (R366, R393). -/
def Dev.bayEnter (d : Dev) (b s : Nat) : Dev :=
  let d := d.wr (BAY_STATUS_STATE b) s
  d.wr BAY_GROUP_STARTING d.starting

/-- Power-good deasserts; the bay's links lose their permission (R281, R371). -/
def Dev.pgOff (d : Dev) (b : Nat) : Dev :=
  if d.flag (BAY_STATUS_PG b) then
    let d := (d.wr (BAY_STATUS_PG b) 0).bayBit BAY_PG_LO_BAY BAY_PG_HI_BAY b 0
    d.bayLinksDown b
  else d

/-- Both gates are commanded off (R371, R381). -/
def Dev.gatesOff (d : Dev) (b : Nat) : Dev :=
  let on := d.flag (BAY_STATUS_GATE_A_ON b) || d.flag (BAY_STATUS_GATE_B_ON b)
  let d := d.wrs [(BAY_STATUS_GATE_A_ON b, 0), (BAY_STATUS_GATE_B_ON b, 0)]
  let t := d.bayT b
  let t := { t with timer := 0, pgRun := 0, low := 0, trim := 0, driveA := .off, driveB := .off }
  let d := if on then (d.wr (BAY_STATUS_DISCHARGING b) 1).setBay b { t with offAt := some d.now, cycled := true } else d.setBay b t
  d.pgOff b

/-- Are bay starts allowed (R20, R368, R466)? -/
def Dev.startsOk (d : Dev) : Bool :=
  !d.hubOff && !d.pwr.startsBarred && !d.flag AON_STATE_INCOMPLETE && !d.flt.grave

/-- An OFF bay that is armed and present enters WAIT_GROUP while starts are allowed (R366, R368). -/
def Dev.bayTry (d : Dev) (b : Nat) : Dev :=
  if d.bayState b = bsOff ∧ d.flag (BAY_CTRL_ARM b) ∧ d.flag (BAY_STATUS_PRESENT b) ∧ d.startsOk ∧ (d.bayT b).cycle = [] then
    (d.setBay b { d.bayT b with waitSince := d.now }).bayEnter b bsWait
  else d

/-- Starts become allowed: every armed and present bay enters WAIT_GROUP (R368, R369). -/
def Dev.bayTryAll (d : Dev) : Dev := (List.range 64).foldl (fun d b => d.bayTry b) d

/-- A bay in WAIT_GROUP that one usable feed could start. -/
def Dev.canStart (d : Dev) (b : Nat) : Bool :=
  d.bayState b == bsWait && (d.flag (BAY_STATUS_FEED_A_OK b) || d.flag (BAY_STATUS_FEED_B_OK b))

/-- VOUT one sample of 0.1 ms on, at DVDT (R371, R376). -/
def Dev.rampTo (d : Dev) (b vout : Nat) : Drive := .ramp (vout + 10 * d.rd (BAY_RAMP_DVDT b))

/-- The bay that a free start slot goes to: the earliest waiting, ties toward the lower number (R369). -/
def Dev.nextBay (d : Dev) : Option Nat :=
  ((List.range 64).filter d.canStart).foldl (fun a b => match a with
    | none => some b
    | some c => if (d.bayT b).waitSince < (d.bayT c).waitSince then some b else a) none

/-- A start slot frees while starts are allowed: the earliest waiting bay enters RAMP with its usable feeds (R368, R369). -/
def bayStartSlot (d : Dev) : Dev :=
  match d.nextBay with
  | none => d
  | some b =>
    if !d.startsOk || decide (d.rd BAY_GROUP_SIZE ≤ d.starting) then d
    else
      let d := d.wrs [(BAY_STATUS_GATE_A_ON b, d.rd (BAY_STATUS_FEED_A_OK b)), (BAY_STATUS_GATE_B_ON b, d.rd (BAY_STATUS_FEED_B_OK b)),
        (BAY_STATUS_DISCHARGING b, 0)]
      let t := d.bayT b
      let up := fun f => if d.flag f then d.rampTo b (d.rd (BAY_VOUT_VALUE b)) else .off
      let y := { t with offAt := none, timer := 0, pgRun := 0, sinceRamp := 0, low := 0 }
      let d := d.setBay b { y with driveA := up (BAY_STATUS_GATE_A_ON b), driveB := up (BAY_STATUS_GATE_B_ON b) }
      d.bayEnter b bsRamp

/-- The feed a bay's fault is about, of those it names; free where they are both or neither (R448; log entry 15). -/
def Dev.feedOf (d : Dev) (onA onB : Bool) : Nat × Dev :=
  if onA == onB then (d.free.1 % 2, d.free.2) else (b2n onB, d)

/-- A driven feed stands at its current limit (R373). -/
def Dev.inLimit (d : Dev) (b : Nat) (i : Nat) (g : Fld) : Bool :=
  d.flag g && decide (125 * (d.rd (BAY_LIMIT_ILIM b) : Int) ≤ (BitVec.ofNat 16 i).toInt)

/-- A bay trips (R377): causes recorded, gates off, counted, COOLING. `onA`, `onB`: the feeds it is about. -/
def Dev.bayTrip (d : Dev) (b : Nat) (ilim thermal onA onB : Bool) : Dev :=
  let d := d.gatesOff b
  let d := d.wrs [(BAY_STATUS_TRIP_ILIM b, b2n ilim), (BAY_STATUS_TRIP_THERMAL b, b2n thermal), (BAY_STATUS_NEW_CARRIER b, 0)]
  let d := (d.inc (BAY_TRIPS_COUNT b)).bayEnter b bsCooling
  let (f, d) := d.feedOf onA onB
  d.fault { unit := .bay (Fin.ofNat 64 b), src := 2, detail := f }

/-- A bay that draws power. -/
def Dev.powered (d : Dev) (b : Nat) : Bool := d.bayState b == bsRamp || d.bayState b == bsPgWait || d.bayState b == bsOn

/-- The fault timer has reached FAULT_TIME (R373). -/
def Dev.timerDone (d : Dev) (b : Nat) : Bool := decide (5 * d.rd (BAY_LIMIT_FAULT_TIME b) ≤ 2 * (d.bayT b).timer)

/-- The fault timer reaches FAULT_TIME (R373, R377). -/
def faultTimerExpire (b : Nat) (d : Dev) : Dev :=
  if d.powered b && decide (0 < (d.bayT b).timer) && d.timerDone b then
    d.bayTrip b true false (d.inLimit b (d.rd (BAY_I_A_VALUE b)) (BAY_STATUS_GATE_A_ON b)) (d.inLimit b (d.rd (BAY_I_B_VALUE b)) (BAY_STATUS_GATE_B_ON b))
  else d

/-- Power-good conditions have held for PG_DELAY (R366, R371, R372). -/
def powerGood (b : Nat) (d : Dev) : Dev :=
  let t := d.bayT b
  if d.bayState b = bsPgWait ∧ t.timer = 0 ∧ d.rd (BAY_RAMP_PG_DELAY b) ≤ t.pgRun then
    let d := (d.wr (BAY_STATUS_PG b) 1).bayBit BAY_PG_LO_BAY BAY_PG_HI_BAY b 1
    let d := (d.setBay b { t with pgSince := d.now, low := 0, cycled := false }).bayEnter b bsOn
    d.bayLinksUp b t.cycled
  else d

/-- Power-good has held for 1 s (R378). -/
def retryClear (b : Nat) (d : Dev) : Dev :=
  if d.flag (BAY_STATUS_PG b) then (d.advance ((d.bayT b).pgSince + 1000000000)).wr (BAY_STATUS_RETRIES b) 0 else d

/-- PRSNT_N has read low for DEBOUNCE (R367, R368); in DIAPAUSE only with the presence scan armed (R407). -/
def presenceInsert (b : Nat) (d : Dev) : Dev :=
  if d.pwr.mode = 5 ∨ (d.pwr.mode = 2 ∧ ¬d.flag AON_WAKE_ARM_PRESENCE) ∨ d.flag (BAY_STATUS_PRESENT b) then d
  else
    let d := (d.wr (BAY_STATUS_PRESENT b) 1).bayBit BAY_PRESENT_LO_BAY BAY_PRESENT_HI_BAY b 1
    let d := (d.inc (BAY_TRIPS_INSERTIONS b)).raise (448 + b)
    d.bayTry b

/-- PRSNT_N has read high for DEBOUNCE (R366, R367, R378, R379). -/
def presenceRemove (b : Nat) (d : Dev) : Dev :=
  if d.pwr.mode = 5 ∨ (d.pwr.mode = 2 ∧ ¬d.flag AON_WAKE_ARM_PRESENCE) ∨ ¬d.flag (BAY_STATUS_PRESENT b) then d
  else
    -- R379: a trip due by now comes first
    let d := faultTimerExpire b d
    let d := (d.wr (BAY_STATUS_PRESENT b) 0).bayBit BAY_PRESENT_LO_BAY BAY_PRESENT_HI_BAY b 0
    let d := (d.gatesOff b).wrs [(BAY_STATUS_RETRIES b, 0), (BAY_STATUS_NEW_CARRIER b, 1)]
    let s := d.bayState b
    let d := if s = bsCooling ∨ s = bsShorted then d else d.bayEnter b bsOff
    d.raise (448 + b)

/-- The gate and the usable bit of a feed. -/
def gateFld (b : Nat) (feedB : Bool) : Fld := if feedB then BAY_STATUS_GATE_B_ON b else BAY_STATUS_GATE_A_ON b
def feedOk (b : Nat) (feedB : Bool) : Fld := if feedB then BAY_STATUS_FEED_B_OK b else BAY_STATUS_FEED_A_OK b

/-- The gate of a feed is driven in a given way. -/
def Dev.setDrive (d : Dev) (b : Nat) (feedB : Bool) (x : Drive) : Dev :=
  d.setBay b (if feedB then { d.bayT b with driveB := x } else { d.bayT b with driveA := x })

/-- A feed falls below 10.2 V or carries reverse current (R376). In GRAVE a bay that has lost both feeds does not go to
WAIT_GROUP (R466; log entry 119). -/
def feedLoss (b : Nat) (feedB : Bool) (d : Dev) : Dev :=
  if d.hubOff then d
  else
    let was := d.flag (gateFld b feedB)
    let d := Dev.setDrive ((d.wrs [(gateFld b feedB, 0), (feedOk b feedB, 0)]).setBay b { d.bayT b with trim := 0 }) b feedB .off
    let d := if was then d.fault { unit := .bay (Fin.ofNat 64 b), src := 3, detail := b2n feedB } else d
    if d.powered b && !d.flag (BAY_STATUS_GATE_A_ON b) && !d.flag (BAY_STATUS_GATE_B_ON b) then
      let t := d.bayT b
      let d := (d.setBay b { t with waitSince := d.now, timer := 0, pgRun := 0, offAt := some d.now, cycled := true }).pgOff b
      (d.wr (BAY_STATUS_DISCHARGING b) 1).bayEnter b (if d.flt.grave then bsPgWait else bsWait)
    else d

/-- A feed has stood in range for 10 ms (R376): usable, and its FET turns back on at DVDT from the present VOUT while the bay runs. -/
def feedUsable (b : Nat) (feedB : Bool) (d : Dev) : Dev :=
  if d.hubOff then d
  else
    let d := d.wr (feedOk b feedB) 1
    if d.powered b && !d.flag (gateFld b feedB) then
      (((d.wr (gateFld b feedB) 1).wr (BAY_STATUS_DISCHARGING b) 0).setBay b { d.bayT b with offAt := none }).setDrive b feedB
        (d.rampTo b (d.rd (BAY_VOUT_VALUE b)))
    else d

/-- FET_SHORT (R381, R382): with the gates off and the check begun, VOUT has stayed up; grave at bay scope. -/
def fetShort (b : Nat) (overA overB : Bool) (d : Dev) : Dev :=
  let off := !d.flag (BAY_STATUS_GATE_A_ON b) && !d.flag (BAY_STATUS_GATE_B_ON b)
  if d.hubOff || !off || d.flag (BAY_STATUS_DISCHARGING b) || d.bayState b == bsShorted then d
  else
    let d := d.wr (BAY_STATUS_SHORT_FEED b) (if overA == overB then 3 else if overA then 1 else 2)
    let d := (d.gatesOff b).bayEnter b bsShorted
    let (f, d) := d.feedOf overA overB
    (d.fault { unit := .bay (Fin.ofNat 64 b), src := 5, detail := f }).raise (64 + b)

/-! ## Arming -/

/-- BAY_POWER off (R384). -/
def Dev.bayOff (d : Dev) (b : Nat) : Dev :=
  let d := (d.wr (BAY_CTRL_ARM b) 0).gatesOff b
  let s := d.bayState b
  if s = bsCooling ∨ s = bsLocked ∨ s = bsShorted then d else d.bayEnter b bsOff

/-- BAY_POWER on (R384): with `unlock`, a LOCKED bay enters OFF with RETRIES 0. -/
def Dev.bayOn (d : Dev) (b : Nat) (unlock : Bool) : Dev :=
  let d := d.wr (BAY_CTRL_ARM b) 1
  let d := if unlock && d.bayState b == bsLocked then (d.wr (BAY_STATUS_RETRIES b) 0).bayEnter b bsOff else d
  d.bayTry b

/-- Has a bay's output discharged, or its allowance passed (R381, R384)? -/
def Dev.discharged (d : Dev) (b vout : Nat) : Bool :=
  match (d.bayT b).offAt with
  | none => true
  | some t => decide (vout < 1000) || decide (t + d.rd BAY_TIMING_DISCHARGE * 1000000 ≤ d.now)

/-- A BAY_POWER cycle goes on once the output has discharged (R384). -/
def Dev.cycleOn (d : Dev) (b vout : Nat) : Dev :=
  match (d.bayT b).cycle with
  | [] => d
  | l =>
    if d.discharged b vout then
      l.foldl (fun d n => d.finish n stSuccess) ((d.setBay b { d.bayT b with cycle := [] }).bayOn b true)
    else d

/-- BAY_POWER (R384). -/
def bayPower (n : Nat) (d : Dev) : Dev :=
  d.admin n 0xA2 (fun x d =>
    let b := darg x 4 1
    let a := darg x 5 1
    if 63 < b ∨ 2 < a then d.finish n stInvalid
    else if d.bayState b = bsShorted then d.finish n stInternal
    else if a = 0 then (d.bayOff b).finish n stSuccess
    else if a = 1 then (d.bayOn b true).finish n stSuccess
    else
      let d := d.bayOff b
      (d.setBay b { d.bayT b with cycle := (d.bayT b).cycle ++ [n] }).cycleOn b (d.rd (BAY_VOUT_VALUE b)))

/-- BAY_CTRL.ARM (R384). -/
def bayArmWrite (b v : Nat) (d : Dev) : Dev :=
  d.setup (BAY_CTRL b) v (fun d =>
    if bit v 0 then d.bayOn b false else d.bayOff b)

/-- Every bay gate is turned off (R413, R496, R549): a bay that is not SHORTED or COOLING is OFF (R385). -/
def Dev.allGatesOff (d : Dev) : Dev :=
  (List.range 64).foldl (fun d b =>
    let s := d.bayState b
    let d := d.gatesOff b
    if s = bsCooling ∨ s = bsShorted ∨ s = bsOff then d else d.bayEnter b bsOff) d

/-! ## The sample of 0.1 ms (R371–R380, R386) -/

/-- exp(−dt ÷ tau) in units of 2^−64 (R380, R383): the series of exp(−x ÷ 64) at 2^−96, squared six times; nothing of 64 time constants
or more is left (log entry 14). -/
def expNeg (tau dt : Nat) : Nat :=
  if 64 * tau ≤ dt then 0
  else
    let one := 2 ^ 96
    let y := dt * one / (64 * tau)
    let e := (List.range 32).foldl (fun t k => one - y * t / ((32 - k) * one)) one
    (List.range 6).foldl (fun t _ => t * t / one) e / 2 ^ 32

/-- One pole of the thermal model moved on (R380), in nK; `p` in µW, RES in 0.001 K/W. -/
def poleStep (p res tau rise : Nat) : Nat :=
  let e := expNeg tau 10
  (rise * e + p * res * (2 ^ 64 - e)) / 2 ^ 64

/-- One FET after a sample of power `p` µW (R380). -/
def Dev.fetStep (d : Dev) (f : Fet) (p : Nat) : Fet :=
  let s := fun n r => poleStep p (d.rd (BAY_MODEL_RES_RES n)) (d.rd (BAY_MODEL_TAU_TAU n)) r
  ⟨s 0 f.p0, s 1 f.p1, s 2 f.p2⟩

/-- A FET's poles after `ns` nanoseconds without power (R383). -/
def Dev.fetDecay (d : Dev) (f : Fet) (ns : Nat) : Fet :=
  let s := fun n r => r * expNeg (10000 * d.rd (BAY_MODEL_TAU_TAU n)) ns / 2 ^ 64
  ⟨s 0 f.p0, s 1 f.p1, s 2 f.p2⟩

/-- RISE of a FET, in nK. -/
def Fet.rise (f : Fet) : Nat := f.p0 + f.p1 + f.p2

/-- BAY_TJ of one feed (R392): rise and junction estimate. -/
def Dev.showTj (d : Dev) (rise temp : Fld) (f : Fet) (sensor : Nat) : Dev :=
  d.wrs [(rise, Nat.min 4095 (f.rise / 62500000)), (temp, Nat.min 4095 (sensor + f.rise / 125000000))]

/-- A 48-bit energy counter moved on by `mj` (R386). -/
def Dev.addEnergy (d : Dev) (lo hi : Fld) (mj : Nat) : Dev := d.wr64 lo hi ((d.rd64 lo hi + mj) % 2 ^ 48)

/-- The lower of the feeds whose FETs are on, in mV (R371). -/
def Dev.lowerFeed (d : Dev) (b va vb : Nat) : Nat :=
  match d.flag (BAY_STATUS_GATE_A_ON b), d.flag (BAY_STATUS_GATE_B_ON b) with
  | true, true => Nat.min va vb
  | true, false => va
  | false, true => vb
  | false, false => 0

/-- The die temperature register takes a reading (R550). -/
def Dev.dieTemp (d : Dev) (die t : Nat) : Dev :=
  d.wrs [(GLB_TEMP_TEMP die, t), (GLB_TEMP_VALID die, 1), (GLB_TEMP_PEAK die, Nat.max t (d.rd (GLB_TEMP_PEAK die)))]

/-- After step 3 of a diapause entry energy is not metered, until an unwind (R410, R411). -/
def Dev.unmetered (d : Dev) : Bool :=
  match d.pwr.req with
  | some q => q.target == 2 && decide (4 ≤ q.step)
  | none => false

/-- Measurement of a bay (R386): currents, voltages, power and energy; powers in µW. A power toward the feeds counts as 0
(log entry 16). -/
def Dev.bayMeasure (d : Dev) (b : Nat) (ia ib : BitVec 16) (va vb vout : Nat) : Dev :=
  let pa := (ia.toInt * va).toNat
  let pb := (ib.toInt * vb).toNat
  let pt := (ia.toInt * va + ib.toInt * vb).toNat
  let d := d.wrs [(BAY_I_A_VALUE b, ia.toNat), (BAY_I_B_VALUE b, ib.toNat), (BAY_V_A_VALUE b, va), (BAY_V_B_VALUE b, vb),
    (BAY_VOUT_VALUE b, vout), (BAY_P_MW b, Nat.min (2 ^ 20 - 1) (pt / 1000))]
  if d.unmetered then d else
  let t := d.bayT b
  let a := t.remA + pa
  let c := t.remB + pb
  let s := t.remT + pt
  let d := d.addEnergy (BAY_E_A_LO_MJ b) (BAY_E_A_HI_MJ b) (a / 10000000)
  let d := d.addEnergy (BAY_E_B_LO_MJ b) (BAY_E_B_HI_MJ b) (c / 10000000)
  let d := d.addEnergy (BAY_E_LO_MJ b) (BAY_E_HI_MJ b) (s / 10000000)
  d.setBay b { t with remA := a % 10000000, remB := c % 10000000, remT := s % 10000000, ledger := t.ledger + pt }

/-- The FET models of a bay (R380): no power while current flows toward the feed. -/
def Dev.bayModels (d : Dev) (b : Nat) (ia ib : BitVec 16) (va vb vout sensor : Nat) : Dev :=
  let p := fun (i : BitVec 16) (v : Nat) => (i.toInt.toNat) * (v - vout)
  let t := d.bayT b
  let fa := d.fetStep t.fetA (p ia va)
  let fb := d.fetStep t.fetB (p ib vb)
  let d := d.setBay b { t with fetA := fa, fetB := fb }
  (d.showTj (BAY_TJ_A_RISE b) (BAY_TJ_A_TEMP b) fa sensor).showTj (BAY_TJ_B_RISE b) (BAY_TJ_B_TEMP b) fb sensor

/-- The fault timer after a sample (R373): it runs while a driven feed is in current limit. -/
def Dev.bayTimer (d : Dev) (b : Nat) (ia ib : BitVec 16) : Dev :=
  let t := d.bayT b
  let on := d.powered b && (d.inLimit b ia.toNat (BAY_STATUS_GATE_A_ON b) || d.inLimit b ib.toNat (BAY_STATUS_GATE_B_ON b))
  d.setBay b { t with timer := if on then t.timer + 1 else 0 }

/-- Current sharing after a sample (R375): with both FETs on and more than 2 A in all, the gate of the feed that carries more is trimmed
(log entry 98). -/
def Dev.bayShare (d : Dev) (b : Nat) (ia ib : BitVec 16) : Dev :=
  let both := d.flag (BAY_STATUS_GATE_A_ON b) && d.flag (BAY_STATUS_GATE_B_ON b) && decide (2000 < ia.toInt + ib.toInt)
  let feed := if !both then 0 else if ib.toInt < ia.toInt then 1 else if ia.toInt < ib.toInt then 2 else 0
  d.setBay b { d.bayT b with trim := feed }

/-- How a feed's gate is driven until the next sample: regulated at ILIM while the feed is in limit (R373); raised at DVDT from the present
VOUT in RAMP, and of a feed that returns until VOUT has come up to it (R371, R376); trimmed to a share of the total (R375); else
fully on. -/
def Dev.driveOf (d : Dev) (b : Nat) (gate : Fld) (i v vout : Nat) (was : Drive) (share : Option Nat) : Drive :=
  let rising := d.bayState b == bsRamp || (match was with | .ramp mv => decide (mv < v) | _ => false)
  if !d.flag gate then .off
  else if d.inLimit b i gate then .hold (125 * d.rd (BAY_LIMIT_ILIM b))
  else if rising then d.rampTo b vout
  else
    match share with
    | some ma => .hold ma
    | none => .full

/-- The gates' drives after a sample (R371, R373, R375, R376): the trimmed feed carries a share from 40 % to 60 %, which one is free
(log entry 98). -/
def Dev.bayDrives (d : Dev) (b : Nat) (ia ib : BitVec 16) (va vb vout : Nat) : Dev :=
  let t := d.bayT b
  let f := if t.trim = 0 then (0, d) else d.free
  let ma := (ia.toInt + ib.toInt).toNat * (40 + f.1 % 21) / 100
  let a := d.driveOf b (BAY_STATUS_GATE_A_ON b) ia.toNat va vout t.driveA (if t.trim = 1 then some ma else none)
  let c := d.driveOf b (BAY_STATUS_GATE_B_ON b) ib.toNat vb vout t.driveB (if t.trim = 2 then some ma else none)
  f.2.setBay b { t with driveA := a, driveB := c }

/-- Ramp and power-good of a bay after a sample (R366, R371, R372, R373). -/
def Dev.bayRun (d : Dev) (b va vb vout : Nat) : Dev :=
  let t := d.bayT b
  let low := d.lowerFeed b va vb
  if d.bayState b = bsRamp then
    if 0 < low ∧ 99 * low ≤ 100 * vout then (d.setBay b { t with sinceRamp := 0, pgRun := 0 }).bayEnter b bsPgWait else d
  else if d.bayState b = bsPgWait then
    let ok := decide (93 * low ≤ 100 * vout) && decide (0 < low) && decide (5 ≤ t.sinceRamp) && t.timer == 0
    d.setBay b { t with sinceRamp := t.sinceRamp + 1, pgRun := if ok then t.pgRun + 1 else 0 }
  else if d.bayState b = bsOn then
    let n := if 100 * vout < 90 * low then t.low + 1 else 0
    let d := d.setBay b { t with low := n }
    if 0 < t.timer ∨ 2 ≤ n then
      ((d.setBay b { d.bayT b with pgRun := 0, low := 0 }).pgOff b).bayEnter b bsPgWait
    else d
  else d

/-- Both rises of a bay are at or below a limit, in nK. -/
def Dev.coolTo (d : Dev) (b lim : Nat) : Bool := decide ((d.bayT b).fetA.rise ≤ lim) && decide ((d.bayT b).fetB.rise ≤ lim)

/-- The end of a cool-down (R377). -/
def Dev.coolEnd (d : Dev) (b : Nat) : Dev :=
  if d.bayState b ≠ bsCooling ∨ ¬d.coolTo b (d.rd BAY_MODEL_LIM_RESTART_RISE * 62500000) then d
  else
    let can := d.flag (BAY_CTRL_ARM b) && d.flag (BAY_STATUS_PRESENT b)
    let new := d.flag (BAY_STATUS_NEW_CARRIER b)
    let wait := fun d : Dev => ((d.wr (BAY_STATUS_NEW_CARRIER b) 0).setBay b { d.bayT b with waitSince := d.now }).bayEnter b bsWait
    if !can then (d.wr (BAY_STATUS_NEW_CARRIER b) 0).bayEnter b bsOff
    else if !d.startsOk then d
    else if new then wait d
    else if d.rd (BAY_STATUS_RETRIES b) < d.rd (BAY_RAMP_RETRY_MAX b) then wait (d.inc (BAY_STATUS_RETRIES b))
    else ((d.wr (BAY_STATUS_NEW_CARRIER b) 0).bayEnter b bsLocked).raise (64 + b)

/-- The thermal trip of a sample (R373): the ILIM cause is recorded too when the timer is done in the same sample. -/
def Dev.thermalTrip (d : Dev) (b : Nat) : Dev :=
  if d.powered b && !d.coolTo b (d.rd BAY_MODEL_LIM_TRIP_RISE * 250000000) then
    let hot := fun f : Fet => decide (d.rd BAY_MODEL_LIM_TRIP_RISE * 250000000 < f.rise)
    d.bayTrip b (decide (0 < (d.bayT b).timer) && d.timerDone b) true (hot (d.bayT b).fetA) (hot (d.bayT b).fetB)
  else d

/-- The discharge check of a bay whose gates are off (R381, R384). -/
def Dev.bayDischarge (d : Dev) (b vout : Nat) : Dev :=
  let d := if d.flag (BAY_STATUS_DISCHARGING b) && d.discharged b vout then d.wr (BAY_STATUS_DISCHARGING b) 0 else d
  d.cycleOn b vout

/-- The 10 kHz sample of one bay (R371–R386): what the die measured, and its own temperature. -/
def baySampleTick (b : Nat) (ia ib : BitVec 16) (va vb vout sensor : Nat) (d : Dev) : Dev :=
  if d.hubOff then d
  else
    let d := (d.dieTemp (9 + b / 32) sensor).bayMeasure b ia ib va vb vout
    let d := (d.bayModels b ia ib va vb vout sensor).bayTimer b ia ib
    let d := ((d.thermalTrip b).bayRun b va vb vout).bayShare b ia ib
    ((d.bayDrives b ia ib va vb vout).bayDischarge b vout).coolEnd b

/-! ## The energy ledger (R387–R391) -/

/-- Cells of unit `u` in the interval: of one slice, and of all. -/
def Dev.ledgerCells (d : Dev) (u s : Nat) : Nat := d.bay.cells.get (u * 1024 + s) 0
def Dev.unitCells (d : Dev) (u : Nat) : Nat := (d.bay.cells.filter (fun e => e.1 / 1024 == u)).foldl (fun a e => a + e.2) 0

/-- Cells moved in a unit for a slice (R178, R387). -/
def Dev.chargeCells (d : Dev) (u s n : Nat) : Dev :=
  { d with bay := { d.bay with cells := d.bay.cells.set (u * 1024 + s) (d.ledgerCells u s + n) 0 } }

/-- `nj` nanojoules charged to a slice; its remainder below 1 mJ is carried (R388). -/
def Dev.charge (d : Dev) (s nj : Nat) : Dev :=
  let r := d.bay.remainder.get s 0 + nj
  let d := { d with bay := { d.bay with remainder := d.bay.remainder.set s (r % 1000000) 0 } }
  d.addEnergy (SLC_ENERGY_LO_MJ s) (SLC_ENERGY_HI_MJ s) (r / 1000000)

/-- The energy of unit `u` charged by cells; what rounding leaves goes to slice 0 (R388). -/
def Dev.chargeUnit (d : Dev) (u pot : Nat) : Dev :=
  let c := d.unitCells u
  if c = 0 then d.charge 0 pot
  else
    let l := (d.bay.cells.filter (fun e => e.1 / 1024 == u)).map (fun e => (e.1 % 1024, pot * e.2 / c))
    let used := l.foldl (fun a e => a + e.2) 0
    (l.foldl (fun d e => d.charge e.1 e.2) d).charge 0 (pot - used)

/-- The cells of the interval added to the slices' SLC_CELLS (R101, R388). -/
def Dev.addCells (d : Dev) : Dev :=
  d.bay.cells.foldl (fun d e =>
    let s := e.1 % 1024
    d.wr64 (SLC_CELLS_LO_CELLS s) (SLC_CELLS_HI_CELLS s) ((d.rd64 (SLC_CELLS_LO_CELLS s) (SLC_CELLS_HI_CELLS s) + e.2) % 2 ^ 64)) d

/-- The rails in use (R504, R505). -/
def Dev.rails (d : Dev) : List Nat := (List.range 16).filter (fun n => d.flag (GLB_RAIL_VALID n))

/-- One rail's energy in µJ; a failed read keeps the previous reading and marks the ledger (R390). -/
def Dev.railRead (d : Dev) (n : Nat) (x : Option (BitVec 32)) : Nat × Dev :=
  match x with
  | some v =>
    let e := v.toNat
    (e, { d with bay := { d.bay with rails := d.bay.rails.set n e 0, railTotals := d.bay.railTotals.set n (d.bay.railTotals.get n 0 + e) 0 } })
  | none =>
    let e := d.bay.rails.get n 0
    let d := d.wrs [(GLB_LEDGER_STATUS_RAIL_MISSING, 1), (GLB_LEDGER_STATUS_DISCONTINUOUS, 1)]
    (e, { d with bay := { d.bay with railTotals := d.bay.railTotals.set n (d.bay.railTotals.get n 0 + e) 0 } })

/-- Energy of an octant's bays in the interval, in nJ. -/
def Dev.octBayEnergy (d : Dev) (o : Nat) : Nat := (List.range 8).foldl (fun a i => a + (d.bayT (8 * o + i)).ledger / 10) 0

/-- The attribution of R388, for rail energy `rail` in nJ. -/
def Dev.attribute (d : Dev) (rail : Nat) : Dev :=
  let c := (List.range 9).foldl (fun a u => a + d.unitCells u) 0
  let bays := (List.range 8).foldl (fun a o => a + d.octBayEnergy o) 0
  if c = 0 then d.charge 0 (rail + bays)
  else
    let share := fun u => rail * d.unitCells u / c
    let used := (List.range 9).foldl (fun a u => a + share u) 0
    let e := (List.range 8).foldl (fun e o => Dev.chargeUnit e o (d.octBayEnergy o + share o)) d
    (e.chargeUnit 8 (share 8)).charge 0 (rail - used)

/-- The interval's inputs are used up: remainders of a bay's energy below 1 nJ go on. -/
def Dev.ledgerReset (d : Dev) : Dev :=
  let d := d.bay.bays.keys.foldl (fun d b => d.setBay b { d.bayT b with ledger := (d.bayT b).ledger % 10 }) d
  { d with bay := { d.bay with closedAt := d.now, cells := [] } }

/-- The ledger closes an interval at the present time (R387, R388, R390), with each configured rail's reading in µJ. -/
def Dev.ledgerClose (d : Dev) (readings : List (Option (BitVec 32))) : Dev :=
  let r := d.rails.foldl (fun (a : Nat × Dev) n =>
    let x := a.2.railRead n (readings.getD n none)
    (a.1 + x.1, x.2)) (0, d)
  let rail := 1000 * r.1
  let d := r.2
  let bays := (List.range 8).foldl (fun a o => a + d.octBayEnergy o) 0
  let d := (d.attribute rail).addCells
  let rt := d.bay.railRem + rail
  let bt := d.bay.bayRem + bays
  let d := d.addEnergy GLB_LEDGER_RAIL_LO_MJ GLB_LEDGER_RAIL_HI_MJ (rt / 1000000)
  let d := d.addEnergy GLB_LEDGER_BAY_LO_MJ GLB_LEDGER_BAY_HI_MJ (bt / 1000000)
  (Dev.ledgerReset { d with bay := { d.bay with railRem := rt % 1000000, bayRem := bt % 1000000 } }).sample 3

/-- The ledger closes its last interval in step 3 of a diapause entry (R410): what the rails' telemetry reads then is free (log
entry 118). -/
def Dev.ledgerLast (d : Dev) : Dev :=
  Dev.ledgerClose { d with fresh := d.fresh + 16 } ((List.range 16).map (fun n => some (Config.freeValue (d.fresh + n))))

/-- LEDGER_INTERVAL: 1 ms after the last one (R387, R388, R390), with each configured rail's reading in µJ; none is a failed
read. -/
def ledgerInterval (readings : List (Option (BitVec 32))) (d : Dev) : Dev :=
  if d.hubOff then d
  else
    let d := d.advance (d.bay.closedAt + 1000000)
    if d.unmetered then d.ledgerReset else d.ledgerClose readings

/-- The records of READ_LEDGER for a scope (R391). -/
def Dev.ledgerRecords (d : Dev) (scope : Nat) : List (List Byte) :=
  let e := fun s => d.rd64 (SLC_ENERGY_LO_MJ s) (SLC_ENERGY_HI_MJ s)
  if scope = 0 then
    [leBytes 8 (d.rd64 GLB_LEDGER_RAIL_LO_MJ GLB_LEDGER_RAIL_HI_MJ) ++ leBytes 8 (d.rd64 GLB_LEDGER_BAY_LO_MJ GLB_LEDGER_BAY_HI_MJ)
      ++ leBytes 8 (d.liveSlices.foldl (fun a s => a + e s) 0) ++ leBytes 8 0]
  else if scope = 1 then
    (List.range 64).map (fun b => leBytes 8 b ++ leBytes 8 (d.rd64 (BAY_E_A_LO_MJ b) (BAY_E_A_HI_MJ b))
      ++ leBytes 8 (d.rd64 (BAY_E_B_LO_MJ b) (BAY_E_B_HI_MJ b)) ++ leBytes 8 (d.rd64 (BAY_E_LO_MJ b) (BAY_E_HI_MJ b)))
  else if scope = 2 then
    d.liveSlices.map (fun s => leBytes 8 s ++ leBytes 8 (e s) ++ leBytes 8 (d.rd64 (SLC_CELLS_LO_CELLS s) (SLC_CELLS_HI_CELLS s)) ++ leBytes 8 0)
  else d.rails.map (fun n => leBytes 8 (d.rd (GLB_RAIL_ADDR n)) ++ leBytes 8 (d.bay.railTotals.get n 0 / 1000) ++ leBytes 16 0)

/-- READ_LEDGER (R391). -/
def readLedger (n : Nat) (d : Dev) : Dev :=
  d.admin n 0xD0 (fun x d =>
    let scope := darg x 4 1
    let len := darg x 0x10 4
    let l := d.ledgerRecords scope
    let k := Nat.min l.length ((len - 32) / 32)
    let head := leBytes 8 d.bay.closedAt ++ leBytes 1 scope ++ leBytes 1 (d.rd GLB_LEDGER_STATUS_DISCONTINUOUS) ++ leBytes 2 0
      ++ leBytes 4 l.length ++ leBytes 16 0
    if 3 < scope then d.finish n stInvalid
    else
      let body := (head ++ (l.take k).flatten).take len
      match d.hostWrite 0 (d.entry n).instar true false (darg x 8 8) body with
      | (true, d) => d.finish n stSuccess body.length
      | (false, d) => d.finish n stHostDma)

end Sys2Proof.Machine
end

