-- ==== Sys2Proof/Machine/Rings.lean ====
section
/-! DEFINITION. Rings, doorbell pages, record fetch, acceptance and interrupts (R102–R134). -/
namespace Sys2Proof.Machine

/-! ## The doorbell page (R106–R110) -/

/-- A host access at host address `a`, where it has one, answered as an Unsupported Request (R66, R67). -/
def Dev.unsupportedReq (d : Dev) (n : Nat) (read : Bool) (a : Option Nat) : Dev :=
  let d := d.aerReq n .unsupportedRequest (if a.isSome then some (if read then 1 else 2) else none) a none
  if read then d.emit (.unsupported n) else d

/-- A write at offset `o` of the doorbell page of slice `s` on port `n` (R48, R466). -/
def Dev.doorbell (d : Dev) (n s o : Nat) (f : Dev → Dev) : Dev :=
  if d.hubOff || d.flt.grave then d
  else if d.sliceState s = 0 ∨ d.slicePort s ≠ n then d.unsupportedReq n false (some ((d.port n).ext.bar2 + 0x1000 * s + o))
  else f d

/-- Does a slice's page respond (R48)? Writes reach nothing in GRAVE (R466). -/
def Dev.dbOpen (d : Dev) (s : Nat) : Bool := d.sliceState s != 0 && !d.flt.grave

/-- The queue a slice's DB_QSEL shows. -/
def Dev.selected (d : Dev) (s : Nat) : Nat := d.rd (SLC_QUEUES_BASE s) + (d.slice s).qsel

/-- The selected queue's ERR is set. -/
def Dev.dbErr (d : Dev) (s err : Nat) : Dev :=
  let q := d.selected s
  d.setQueue q { d.queue q with err := err }

/-- DB_QSEL (R107). -/
def dbQsel (s v : Nat) (d : Dev) : Dev :=
  let q := v % 65536
  if !d.dbOpen s then d
  else if d.rd (SLC_QUEUES_LAST s) - d.rd (SLC_QUEUES_BASE s) < q then d.dbErr s 6
  else d.setSlice s { d.slice s with qsel := q }

/-- The low or the high half of an address replaced. -/
def setHalf (a : Nat) (hi : Bool) (v : Nat) : Nat := if hi then a % 2 ^ 32 + v * 2 ^ 32 else a / 2 ^ 32 * 2 ^ 32 + v

/-- A configuration register, + 0x108 + 4 × `r`, of the selected queue (R106, R107). -/
def dbConfig (s r v : Nat) (d : Dev) : Dev :=
  let q := d.selected s
  let c := d.queue q
  if !d.dbOpen s then d
  else if c.state ≠ 0 then d.dbErr s 5
  else if r = 0 ∨ r = 1 then d.setQueue q { c with sqBase := setHalf c.sqBase (r == 1) v }
  else if r = 2 ∨ r = 3 then d.setQueue q { c with cqBase := setHalf c.cqBase (r == 3) v }
  else if r = 4 ∨ r = 5 then d.setQueue q { c with recAddr := setHalf c.recAddr (r == 5) v }
  else if r = 6 then d.setQueue q { c with sqLog2 := bits v 0 5, cqLog2 := bits v 8 5 }
  else if r = 7 then d.setQueue q { c with irqCount := bits v 0 8, irqTime := bits v 8 16 }
  else d.setQueue q { c with vecOff := bits v 0 11, noSnoop := bit v 16 }

/-- The first failing check of ENABLE, as an ERR code (R108). -/
def Dev.enableErr (d : Dev) (s : Nat) (c : QCtx) : Nat :=
  if d.sliceState s ≠ 1 then 7
  else if c.sqLog2 = 0 ∨ 16 < c.sqLog2 ∨ c.cqLog2 = 0 ∨ 16 < c.cqLog2 then 1
  else if c.sqBase % 4096 ≠ 0 ∨ c.cqBase % 4096 ≠ 0 ∨ c.recAddr % 8 ≠ 0 then 2
  else if d.rd (SLC_VECTORS_LAST s) < d.rd (SLC_VECTORS_BASE s) + c.vecOff then 3
  else if 16000 < c.irqTime then 4
  else 0

/-- DB_QCMD ENABLE (R108). A queue that a pending shrink removes serves no descriptor of its new ring (R93). The coalescing counter
and timer stay (log entry 85). Its event-index entry starts with NUDGE_AT 0 and ARMED 0, nothing is written and nothing fetched
(log entry 127). -/
def queueEnable (s : Nat) (d : Dev) : Dev :=
  let q := d.selected s
  let c := d.queue q
  if !d.dbOpen s ∨ c.state = 3 then d
  else if c.state ≠ 0 then d.dbErr s 5
  else
    let e := d.enableErr s c
    if e ≠ 0 then d.dbErr s e
    else
      let c' := { c with sqHead := 0, cqTail := 0, phase := true, state := 1, err := 0, sqPi := 0, cqHead := 0, hold := false }
      let gone := d.flag (SLC_STATE_SHRINK_PENDING s) && decide (d.rd (SLC_QUEUES_NEXT_LAST s) < q)
      d.setQueue q { c' with enabledRec := some c.recAddr, fetched := [], armed := false, nudgeAt := 0, rechecked := false,
                             limit := if gone then some 0 else none, cqDead := false }

/-- DB_QCMD DISABLE (R110): what the queue's ring and list reads bring is no longer looked at. -/
def queueDisable (s : Nat) (d : Dev) : Dev :=
  let q := d.selected s
  let c := d.queue q
  if d.dbOpen s ∧ (c.state = 1 ∨ c.state = 3) then
    (d.dropReads (fun r => r.ofQueue q)).setQueue q
      { c with state := 2, fetched := [], reading := false, sgl := none, sglFail := false, sglBusy := false }
  else d

/-- The last accepted work of a DISABLING queue has completed (R110). -/
def queueDisabled (q : Nat) (d : Dev) : Dev :=
  let c := d.queue q
  if c.state = 2 ∧ d.owed q = 0 then d.setQueue q { c with state := 0 } else d

/-- A nudge fetches a page unless a fetch of it is outstanding, into which it is merged (R113). -/
def Dev.nudgePage (d : Dev) (s page : Nat) : Dev := if d.fetching s page then d else d.fetchPage s page false

/-- A nudge in a state that serves it fetches the page of queue QREL, if it holds a record of an enabled queue, or every page (R113); outside ACTIVE it is held (R79);
without PASID Enable a slice of a non-zero PASID is not served (R39). -/
def Dev.nudge (d : Dev) (s v : Nat) : Dev :=
  if !d.dbOpen s then d
  else if d.sliceState s ≠ 1 then d.wr (SLC_STATE_NUDGE_HELD s) 1
  else if (!(d.port (d.slicePort s)).pasidEn && d.rd (SLC_PASID_PASID s) != 0) || d.flag (SLC_STATE_ID_MISMATCH s) then d
  else if v = 0xFFFFFFFF then d.fetchAll s (fun p d => d.nudgePage s p)
  else if d.rd (SLC_QUEUES_LAST s) - d.rd (SLC_QUEUES_BASE s) < v then d
  else
    let page := (d.queue (d.rd (SLC_QUEUES_BASE s) + v)).recAddr / 4096
    if (d.recordPages s).contains page then d.nudgePage s page else d

/-! ## Record fetch (R112–R118) -/

/-- The event-index entry of a queue is written (R112, R116). -/
def Dev.writeEvent (d : Dev) (q at_ : Nat) (armed : Bool) : Dev :=
  let c := d.queue q
  let s := d.queueSlice q
  let d := d.setQueue q { c with nudgeAt := at_, armed := armed }
  (d.hostWrite s (d.sliceInstar s) false false (c.recAddr + 4096)
    (leBytes 4 at_ ++ leBytes 1 (b2n armed) ++ leBytes 1 (d.sliceInstar s) ++ leBytes 2 0)).2

/-- The queue is consumed up to the SQ_PI last read (R116). With RPOLL not 0 the entry is written with ARMED 0 and the old
NUDGE_AT, at every such poll (log entry 129). -/
def Dev.consumed (d : Dev) (q : Nat) : Dev :=
  let c := d.queue q
  let s := d.queueSlice q
  if c.state ≠ 1 ∨ ¬c.fetched.isEmpty ∨ c.reading ∨ c.sqPi ≠ c.sqHead then d
  else if d.rd (SLC_SHARE_RPOLL s) ≠ 0 then d.writeEvent q c.nudgeAt false
  else if c.rechecked then d
  else
    let d := d.writeEvent q c.sqHead true
    let d := d.setQueue q { d.queue q with rechecked := true }
    d.fetchPage s (c.recAddr / 4096) true

/-- What one doorbell record says about its queue (R112, R115, R116, R126). -/
def Dev.takeRecord (d : Dev) (q : Nat) (w : BitVec 64) (recheck : Bool) : Dev :=
  let c := d.queue q
  let pi := bits w.toNat 0 32
  let d := d.setQueue q { c with sqPi := pi, cqHead := bits w.toNat 32 16, hold := bit w.toNat 48 }
  let d := if bit w.toNat 49 && c.coalCount != 0 && c.irqCount != 0 then d.fireIrq q else d
  let ahead := (pi + 2 ^ 32 - c.sqHead) % 2 ^ 32
  if 2 ^ c.sqLog2 < ahead then d.haltQueue q 8 5 c.recAddr stInvalid pi
  else if ahead ≠ 0 then
    let d := if recheck && c.armed then d.writeEvent q c.nudgeAt false else d
    d.readMore q
  else if recheck then d else d.consumed q

/-- The place among the outstanding reads of the first whose reason `p` accepts. -/
def Dev.findRead (d : Dev) (p : HRead → Bool) : Option Nat :=
  let i := d.reads.findIdx (fun r => r.issued && p r)
  if i < d.reads.length then some i else none

/-- A record-page read at place `i` ends with the page's 512 words, or fails (R114, R115, R118). -/
def Dev.recordEnds (d : Dev) (i : Nat) (r : HRead) (s page : Nat) (recheck : Bool) (data : Option (List (BitVec 64))) : Dev :=
  let d := d.endRead i
  let qs := (d.sliceQueues s).filter (fun q => (d.queue q).state == 1 && (d.queue q).recAddr / 4096 == page)
  match data with
  | none => (d.readFail r).recordFault r.port s page
  | some l =>
    if r.instar ≠ d.sliceInstar s then d
    else qs.foldl (fun d q => d.takeRecord q (l.getD ((d.queue q).recAddr % 4096 / 8) 0) recheck) d

/-- RECORD_FETCH_DONE: the first read of that page that has been issued ends. -/
def recordFetchDone (s page : Nat) (data : Option (List (BitVec 64))) (d : Dev) : Dev :=
  let isIt := fun b (r : HRead) => r.why == .record s page b
  match d.findRead (fun r => isIt true r || isIt false r) with
  | none => d
  | some i =>
    match d.reads[i]? with
    | none => d
    | some r => d.recordEnds i r s page (isIt true r) data

/-- A descriptor read at place `i` of queue `q` ends with its descriptors, or fails (R114, R118). What the read of an earlier
instar or of an earlier owner of the queue brings is dropped. -/
def Dev.descEnds (d : Dev) (i : Nat) (r : HRead) (q k : Nat) (data : Option (List (BitVec 512))) : Dev :=
  let d := (d.endRead i).failedRead r data.isNone
  if r.instar ≠ d.sliceInstar r.slice ∨ d.queueSlice q ≠ r.slice then d
  else
    let c := d.queue q
    let d := d.setQueue q { c with reading := false }
    if c.state ≠ 1 then d
    else
      match data with
      | none => d.haltQueue q 9 3 r.addr stHostDma 0
      | some l => d.setQueue q { d.queue q with fetched := l.take k }

/-- DESCRIPTOR_READ_DONE: the ring read of queue `q` that has been issued ends. -/
def descriptorReadDone (q : Nat) (data : Option (List (BitVec 512))) (d : Dev) : Dev :=
  match d.findRead (fun r => match r.why with | .desc x _ => x == q | _ => false) with
  | none => d
  | some i =>
    match d.reads[i]? with
    | none => d
    | some r => d.descEnds i r q (match r.why with | .desc _ k => k | _ => 0) data

/-! ## Acceptance (R121, R122, R130, R163, R237, R240, R244) -/

/-- Every bit of the descriptor outside the fields of `l` (bit offset, width) is 0. -/
def onlyFields (x : BitVec 512) (l : List (Nat × Nat)) : Bool :=
  l.foldl (fun v f => v - bits v f.1 f.2 * 2 ^ f.1) x.toNat == 0

/-- The fields a data opcode uses (R119, R120), as bit offsets and widths. -/
def dataFields (o : Nat) : List (Nat × Nat) :=
  let head := [(0, 8), (8, 3), (16, 16)]
  let place := [(32, 12), (64, 40), (128, 32), (160, 32)]
  if o = 1 ∨ o = 2 then head ++ place ++ [(48, 2), (192, 64), (256, 16), (320, 64)]
  else if o = 3 then head ++ place
  else if o = 4 then head ++ place ++ [(288, 5), (384, 10)]
  else if o = 5 then head ++ place ++ [(288, 12), (384, 40)]
  else if o = 6 then head
  else head ++ [(288, 32)]

/-- The argument fields of an admin opcode (R130, R131). -/
def adminFields (o : Nat) : List (Nat × Nat) :=
  let head := [(0, 8), (8, 1), (16, 16)]
  let buf := [(64, 64), (128, 32)]
  head ++
    (if o = 0x80 then [(32, 16), (48, 3), (64, 16), (80, 1), (96, 20), (128, 128)]
    else if o = 0x81 ∨ o = 0x82 then [(32, 16)]
    else if o = 0x83 ∨ o = 0x84 then [(32, 16), (48, 1)]
    else if o = 0x85 ∨ o = 0x86 then (32, 16) :: buf
    else if o = 0x87 then [(32, 16), (48, 4), (64, 16), (96, 16), (112, 16), (128, 16)]
    else if o = 0x90 then (32, 8) :: buf
    else if o = 0x91 then [(32, 8), (64, 64)]
    else if o = 0x92 then [(32, 2), (36, 1), (40, 1), (48, 1)]
    else if o = 0xA0 ∨ o = 0xA1 then [(32, 8)]
    else if o = 0xA2 then [(32, 8), (40, 8)]
    else if o = 0xB0 then [(32, 8)]
    else if o = 0xB1 then buf
    else if o = 0xC0 then [(32, 8), (48, 16)]
    else if o = 0xC1 then [(32, 8), (48, 16), (64, 32)]
    else if o = 0xD0 ∨ o = 0xD1 then (32, 8) :: buf
    else (32, 8) :: (192, 64) :: buf)

/-- An enumerated admin argument holds a code R131 marks RSVD. -/
def adminCodeBad (x : BitVec 512) : Bool :=
  let o := dOpcode x
  (o == 0xA2 && decide (2 < darg x 5 1)) || (o == 0xB0 && decide (2 < darg x 4 1)) || (o == 0xD1 && decide (1 < darg x 4 1))
    || (o == 0xD2 && (darg x 4 1 == 0 || decide (6 < darg x 4 1))) || (o == 0x92 && darg x 4 1 % 4 == 3)

/-- The second row of R121: reserved and unused fields 0, DIGEST.MODE valid, the ranges of R120 (R119, R120, R130). The alignment
of DIGEST_ADDR is checked in every MODE (log entry 128). -/
def fieldsBad (x : BitVec 512) : Bool :=
  let o := dOpcode x
  if o < 0x80 then
    !onlyFields x (dataFields o) || (isShardOp o && dLength x == 0) || (3 ≤ o && o ≤ 5 && dOffset x != 0)
      || ((o == 1 || o == 2) && (dDigest x == 3 || (dDigest x == 1 && decide (4096 < dLength x)) || dDigestAddr x % 4 != 0))
  else !onlyFields x (adminFields o) || adminCodeBad x

/-- A WRITE_STRIPE that takes the staged path (R163). -/
def stagedWrite (p : Plan) (x : BitVec 512) : Bool := dOpcode x == 1 && !(dOffset x == 0 && dLength x == p.dataLen)

/-- The staged-path need of a descriptor (R164). -/
def stageNeed (p : Plan) (x : BitVec 512) : Nat := if stagedWrite p x then p.dataLen else 0

/-- The ALT conditions of REBUILD_SHARD (R237). -/
def Dev.altBad (d : Dev) (g : Image) (p : Plan) (x : BitVec 512) : Bool :=
  let l := dArg1 x % 512
  let i := dArg0 x % 32
  let carries := g.octs.any (fun o => o.base.any (fun w =>
    runKind w == 3 && runClass w == p.pclass && runDst w == l && isEngEp (runSrc w) && decide (p.f ≤ runSrc w - 0x200)
      && decide (runSrc w - 0x200 < p.f + 2 ^ p.log2g)))
  bit (dArg1 x) 9 && (!(d.link l).admitted.isSome || (List.range p.width).any (fun j => j != i && p.link j == l) || !carries)

/-- The range check of R121 (R120, R163, R237, R240, R244). -/
def Dev.rangeBad (d : Dev) (s : Nat) (x : BitVec 512) : Bool :=
  let o := dOpcode x
  if o = 7 then decide (d.rd (SLC_QUEUES_LAST s) - d.rd (SLC_QUEUES_BASE s) < dArg0 x / 65536)
  else if isShardOp o then
    match d.inForce, d.plan (dPlan x) with
    | some g, some p =>
      if o = 1 ∨ o = 2 then
        decide (p.stripes ≤ dStripe x) || decide (p.dataLen < dOffset x + dLength x) || (stagedWrite p x && !p.stagedAllowed)
      else
        decide (p.stripes < dStripe x + dLength x)
          || (o == 4 && (decide (p.width ≤ dArg0 x % 32) || d.altBad g p x))
          || (o == 5 && (match g.plan (dArg0 x % 4096) with
            | none => true
            | some t => decide (t.stripes < dArg1 x % 2 ^ 40 + dLength x) || p.dataLen != t.dataLen
              || (dPlan x == dArg0 x % 4096 && overlap (dStripe x) (dStripe x + dLength x - 1) (dArg1 x % 2 ^ 40)
                  (dArg1 x % 2 ^ 40 + dLength x - 1))))
    | _, _ => true
  else false

/-- The staged-path need exceeds the slice's whole staging quota (R74, R164). -/
def Dev.stageOver (d : Dev) (s : Nat) (x : BitVec 512) : Bool :=
  match d.plan (dPlan x) with
  | some p => decide (d.rd (SLC_QUOTA_STAGE_MIB s) * 2 ^ 20 < stageNeed p x)
  | none => false

/-- The plans of a descriptor are in the image in force (R121). -/
def Dev.plansHeld (d : Dev) (x : BitVec 512) : Bool :=
  let o := dOpcode x
  !isShardOp o || ((d.plan (dPlan x)).isSome && (o != 5 || (d.plan (dArg0 x % 4096)).isSome))

/-- The checks of R121 before the scatter list, in order; none when all pass. -/
def Dev.acceptCheck (d : Dev) (q : Nat) (x : BitVec 512) : Option Nat :=
  let s := d.queueSlice q
  let o := dOpcode x
  if !((1 ≤ o && o ≤ 7) || (q == 0 && isAdminOp o)) then some stInvalid
  else if fieldsBad x then some stInvalid
  else if !d.plansHeld x then some stNotLoaded
  else if !d.permitted s x then some stNotPermitted
  else if d.rangeBad s x then some stInvalid
  else if isShardOp o && d.stageOver s x then some stQuota
  else none

/-- The room of R122: the completion ring, the journal quota, and staging for a staged write. -/
def Dev.acceptRoom (d : Dev) (q : Nat) (x : BitVec 512) : Bool :=
  let c := d.queue q
  let s := d.queueSlice q
  let need := if isShardOp (dOpcode x) then ((d.plan (dPlan x)).map (stageNeed · x)).getD 0 else 0
  let quota := d.rd (SLC_QUOTA_STAGE_MIB s) * 2 ^ 20
  decide (d.owed q + (c.cqTail + 65536 - c.cqHead) % 65536 < 2 ^ c.cqLog2 - 1)
    && decide (d.jnlUse s < d.rd (SLC_QUOTA_JNL_UNITS s) * 16)
    && (need == 0 || decide (quota < need) || decide ((d.slice s).stageUse + need ≤ quota))

/-- A descriptor naming a plan that a pending switch changes stays in its ring (R204). -/
def Dev.switchHolds (d : Dev) (x : BitVec 512) : Bool :=
  match d.nextImage, d.inForce with
  | some t, some g =>
    match d.image t with
    | some h => isShardOp (dOpcode x) && ((g.sigs.getD (dPlan x) 0 != h.sigs.getD (dPlan x) 0)
        || (dOpcode x == 5 && g.sigs.getD (dArg0 x % 4096) 0 != h.sigs.getD (dArg0 x % 4096) 0))
    | none => false
  | _, _ => false

/-- The number after a GEN, skipping 0 (R146). -/
def genNext (g : Nat) : Nat := if (g + 1) % 2 ^ 32 = 0 then 1 else (g + 1) % 2 ^ 32

/-- A plan's GEN for a write, and its counter moved on (R146, R147): a counter not yet drawn is seeded first. -/
def Dev.takeGen (d : Dev) (p : Nat) : Nat × Dev :=
  let g := d.sch.gens.get p 0
  let r := (Config.random d.fresh).toNat
  let seed := if r = 0 then 1 else r
  let v := if g = 0 then seed else g
  (v, { d with sch := { d.sch with gens := d.sch.gens.set p (genNext v) 0 }, fresh := d.fresh + 1 })

/-- SQ_HEAD moves past the head descriptor (R122). -/
def Dev.popHead (d : Dev) (q : Nat) : Dev :=
  let c := d.queue q
  d.setQueue q { c with sqHead := (c.sqHead + 1) % 2 ^ 32, fetched := c.fetched.drop 1, sgl := none, sglFail := false, sglBusy := false,
                        rechecked := false }

/-- After a descriptor: more are read, or the queue is consumed (R114, R116). -/
def Dev.afterHead (d : Dev) (q : Nat) : Dev := (d.readMore q).consumed q

/-- A descriptor is rejected with a status, without entering the journal (R121). -/
def Dev.reject (d : Dev) (q : Nat) (x : BitVec 512) (status : Nat) : Dev :=
  let d := d.popHead q
  let s := d.queueSlice q
  Dev.afterHead { d with seqQ := d.seqQ ++ [.queueReport q s (d.sliceInstar s) (dCid x) status 0 (!dNoIrq x)] } q

/-- A descriptor is copied into the journal (R121, R146, R252, R254, R256). -/
def Dev.accept (d : Dev) (q : Nat) (x : BitVec 512) (sgl : List (Nat × Nat)) : Dev :=
  let s := d.queueSlice q
  let n := d.freeSlot
  let (g, d) := if dOpcode x = 1 then d.takeGen (dPlan x) else (0, d)
  let need := if isShardOp (dOpcode x) then ((d.plan (dPlan x)).map (stageNeed · x)).getD 0 else 0
  let e : JEntry := { desc := x, acceptTime := d.now, gen := g, slice := s, instar := d.sliceInstar s, state := 1, queue := q }
  let c := d.slice s
  let d := d.setSlice s { c with accepted := c.accepted + 1, stageUse := c.stageUse + need }
  let d := { (d.openEntry n { e with sgl := sgl.take 56, staged := need != 0, stage := need, serial := d.serial + 1 }) with serial := d.serial + 1 }
  (d.popHead q).afterHead q

/-- The scatter list a descriptor gives, once known: the single buffer, or the list read (R120). -/
def sglOf (x : BitVec 512) (c : QCtx) : Option (List (Nat × Nat)) :=
  if dSglCount x % 65536 = 0 then some [(dSglAddr x, dLength x)] else c.sgl

/-- The last check of R121 and the acceptance. -/
def Dev.acceptSgl (d : Dev) (q : Nat) (x : BitVec 512) (l : List (Nat × Nat)) : Dev :=
  if (l.map (·.2)).sum ≠ dLength x ∨ l.any (fun e => e.2 == 0) then d.reject q x stInvalid else d.accept q x l

/-- The head descriptor of a queue is accepted, rejected, or left in its ring (R121, R122, R204). -/
def descriptorAccept (q : Nat) (d : Dev) : Dev :=
  let c := d.queue q
  match c.fetched with
  | [] => d
  | x :: _ =>
    if c.state ≠ 1 ∨ c.sglBusy ∨ ¬d.canFetch (d.queueSlice q) ∨ ¬d.acceptRoom q x ∨ d.switchHolds x then d
    else
      match d.acceptCheck q x with
      | some st => d.reject q x st
      | none =>
        if dOpcode x ≠ 1 ∧ dOpcode x ≠ 2 then d.accept q x []
        else if c.sglFail then d.reject q x stHostDma
        else
          match sglOf x c with
          | some l => d.acceptSgl q x l
          | none =>
            match d.hostRead (d.queueSlice q) (dSglAddr x) (16 * (dSglCount x % 65536)) false (.sgl q) with
            | (true, d) => d.setQueue q { d.queue q with sglBusy := true }
            | (false, d) => d.reject q x stHostDma


/-- The scatter-list read at place `i` ends or fails; acceptance of the queue's head descriptor goes on (R120, R121). -/
def Dev.sglEnds (d : Dev) (i : Nat) (r : HRead) (q : Nat) (data : Option (List Byte)) : Dev :=
  let d := (d.endRead i).failedRead r data.isNone
  let c := d.queue q
  if r.instar ≠ d.sliceInstar r.slice ∨ d.queueSlice q ≠ r.slice ∨ ¬c.sglBusy then d
  else
    match data with
    | none => descriptorAccept q (d.setQueue q { c with sglBusy := false, sglFail := true })
    | some l =>
      let n := match c.fetched with | x :: _ => dSglCount x % 65536 | [] => 0
      descriptorAccept q (d.setQueue q { c with sglBusy := false, sgl := some (sglEntries n l) })

/-- SGL_READ_DONE: the scatter-list read of a queue that has been issued ends. -/
def sglReadDone (q : Nat) (data : Option (List Byte)) (d : Dev) : Dev :=
  match d.findRead (fun r => r.why == .sgl q) with
  | none => d
  | some i =>
    match d.reads[i]? with
    | none => d
    | some r => d.readBrings i data (fun d l => d.sglEnds i r q l)

/-! ## The completion sequencer and coalescing -/

/-- The oldest request passes the completion sequencer (R215). In GRAVE nothing is completed (R466). -/
def completionSequence (d : Dev) : Dev :=
  match d.seqQ with
  | [] => d
  | r :: l => if d.flt.grave then d else Dev.sequence { d with seqQ := l } r

/-- A ring's coalescing timer reaches TIME_US (R126). -/
def coalesceTimer (q : Nat) (d : Dev) : Dev :=
  let c := d.queue q
  if c.coalCount = 0 ∨ c.irqTime = 0 ∨ c.irqCount = 0 then d
  else (d.advance (c.coalStart + 1000 * c.irqTime)).fireIrq q

/-- FENCE: it completes once every earlier descriptor of its queue has (R127, R243). -/
def fence (n : Nat) (d : Dev) : Dev :=
  let e := d.entry n
  if dOpcode e.desc = 6 ∧ (e.state = 1 ∨ e.state = 2) ∧ d.mayStart n then d.complete n stSuccess 0 0 else d

/-- The target of an ABORT: the oldest uncompleted data descriptor with the CID in the target queue, ABORTs passed over
(R127, R244), of the ABORT's own instar. -/
def Dev.abortTarget (d : Dev) (n : Nat) : Option Nat :=
  let e := d.entry n
  let q := d.rd (SLC_QUEUES_BASE e.slice) + dArg0 e.desc / 65536
  ((d.queueSlots q).filter (fun x => dCid (d.entry x).desc == dArg0 e.desc % 65536 && decide (dOpcode (d.entry x).desc < 7)
    && (d.entry x).instar == e.instar)).head?

/-- ABORT finds its target and asks the completion sequencer, or completes ALREADY_COMPLETE (R127, R244, R245). -/
def abort (n : Nat) (d : Dev) : Dev :=
  let e := d.entry n
  if dOpcode e.desc = 7 ∧ e.state = 1 ∧ d.mayStart n then
    match d.abortTarget n with
    | none => d.complete n stAlreadyComplete 0 0
    | some t => { (d.setEntry n { e with state := 2 }) with seqQ := d.seqQ ++ [.abort n t (d.entry t).serial] }
  else d

end Sys2Proof.Machine
end

