-- ==== Sys2Proof/Machine/Image.lean ====
section
/-! DEFINITION. The schedule image: its binary layout, the checks of LOAD_IMAGE, and the enrolled key (R135–R137,
R157, R169–R202). -/
namespace Sys2Proof.Machine

/-! ## Sections (R182, R183) -/

/-- Directory entry of section `t`: offset, length, CRC. -/
def secOff (l : List Byte) (t : Nat) : Nat := leAt l (0x40 + 16 * (t - 1)) 4
def secLen (l : List Byte) (t : Nat) : Nat := leAt l (0x44 + 16 * (t - 1)) 4
def secCrc (l : List Byte) (t : Nat) : Nat := leAt l (0x48 + 16 * (t - 1)) 4
/-- The bytes of section `t`. -/
def sec (l : List Byte) (t : Nat) : List Byte := (l.drop (secOff l t)).take (secLen l t)

/-- All bytes from `o`, `n` of them, are 0. -/
def zeros (l : List Byte) (o n : Nat) : Bool := ((l.drop o).take n).all (· == 0#8)

/-- Step 3 of R201: the header and the directory (R182). Reserved header bytes, FLAGS[15:1] and reserved directory bytes that are
not 0 fail here too (log entry 131). -/
def headerBad (l : List Byte) (length : Nat) : Bool :=
  let n := leAt l 8 4
  let last := if bit (leAt l 6 2) 0 then n - 0x80 else n
  leAt l 0 4 != 0x47534C42 || leAt l 4 2 != 2 || decide (1 < leAt l 6 2) || leAt l 0xFC 4 != (crc32c (l.take 0xFC)).toNat
    || n != length || decide (0x2000000 < n) || !zeros l 0x0C 4 || !zeros l 0x20 32 || !zeros l 0xE0 28
    || (List.range 10).any (fun i =>
        secOff l (i + 1) % 64 != 0 || decide (secOff l (i + 1) < 0x100) || !zeros l (0x4C + 16 * i) 4
          || decide ((if i < 9 then secOff l (i + 2) else last) < secOff l (i + 1) + secLen l (i + 1)))

/-- Step 4 of R201: the signature and its enforcement (R199, R200). -/
def signatureBad (l : List Byte) (key : List Byte) (present enforce : Bool) : Bool :=
  let n := leAt l 8 4
  let signed := bit (leAt l 6 2) 0
  let t := l.drop (n - 0x80)
  (signed && !(leAt t 0 4 == 0x4E474953 && present
      && ecdsaVerify key (sha384 (l.take (n - 0x80))) ((t.drop 0x10).take 48) ((t.drop 0x40).take 48)))
    || (enforce && !(signed && present))

/-! ## The sections' contents -/

/-- A plan record (R185); none when VALID is clear. -/
def planOf (r : List Byte) : Option Plan :=
  let f := leAt r 0 1
  if !bit f 0 then none
  else
    let k := leAt r 1 1
    let m := leAt r 2 1
    let targets := (List.range (k + m)).map (fun i =>
      let t := leAt r (0x20 + 8 * i) 8
      (bits t 0 9, bits t 12 40 * 4096))
    some ⟨bit f 1, bit f 2, bit f 3, k, m, leAt r 3 1, leAt r 4 2 % 4096, leAt r 6 2 % 4096, leAt r 8 1 % 64, leAt r 9 1,
      leAt r 0xA 1 % 64, leAt r 0x10 8, targets⟩

/-- Rows of `k` bytes. -/
def rowsOfBytes (k : Nat) : Nat → List Byte → List (List Byte)
  | 0, _ => []
  | n + 1, l => l.take k :: rowsOfBytes k n (l.drop k)

/-- A matrix of the matrices section (R186). -/
def matrixOf (s : List Byte) (i : Nat) : Option Matrix :=
  let w := leAt s (8 * i) 8
  let o := bits w 0 32
  let k := bits w 32 8
  let m := bits w 40 8
  if o = 0 then none
  else some ⟨k, m, rowsOfBytes k m (s.drop o), if m = 0 then [] else rowsOfBytes k (k + m) (s.drop (o + m * k))⟩

/-- Words of 64 bits. -/
def words64 : Nat → List Byte → List (BitVec 64)
  | 0, _ => []
  | n + 1, l => BitVec.ofNat 64 (leAt l 0 8) :: words64 n (l.drop 8)

/-- A program of the engine-programs section (R187). -/
def programOf (s : List Byte) (i : Nat) : List (BitVec 64) :=
  let w := leAt s (8 * i) 8
  if bits w 0 32 = 0 then [] else words64 (bits w 32 16) (s.drop (bits w 0 32))

/-- A patch of an octant block (R189). -/
def patchOf (b : List Byte) (v : Nat) : Patch :=
  let p := b.drop (0x2040 + 0x810 * v)
  (List.range (leAt p 0 2)).map (fun i => (leAt p (0x10 + 16 * i) 2, BitVec.ofNat 64 (leAt p (0x18 + 16 * i) 8)))

/-- An octant's calendar (R189). -/
def octOf (s : List Byte) (o : Nat) : OctCal :=
  let b := (s.drop (0x10000 * o)).take 0x10000
  ⟨words64 (leAt b 0 4) (b.drop 0x40), (List.range 16).map (patchOf b)⟩

/-- A pool or MGR list of the service-classes section (R191). -/
def listOf (s : List Byte) (n o : Nat) : List Nat :=
  let p := 0x100 + 8 * n + o
  (List.range (leAt s (p + 2) 2)).map (fun i => leAt s (0x140 + 2 * (leAt s p 2 + i)) 2)

/-- The image a file describes (R182–R195). -/
def imageOf (l : List Byte) : Image :=
  let t := sec l 1
  let ps := sec l 2
  let ms := sec l 3
  let gs := sec l 4
  let s := sec l 7
  let b := sec l 8
  let sg := sec l 10
  { lanes := (List.range 512).map (fun i => leAt t i 1)
    ports := (List.range 8).map (fun n => let o := 0x200 + 8 * n; (leAt t o 1, leAt t (o + 1) 1, leAt t (o + 2) 2, leAt t (o + 4) 2))
    engines := leAt t 0x240 8
    stageCells := leAt t 0x248 2
    plans := (rowsOfBytes 0x120 4096 ps).zipIdx.filterMap (fun x => (planOf x.1).map (fun q => (x.2, some q)))
    matrices := (List.range 4096).filterMap (fun i => (matrixOf ms i).map (fun x => (i, some x)))
    programs := (List.range 4096).filterMap (fun i => if (programOf gs i).isEmpty then none else some (i, programOf gs i))
    hub := words64 (leAt (sec l 5) 0 4) ((sec l 5).drop 0x10)
    octs := (List.range 8).map (octOf (sec l 6))
    order := (List.range 64).map (fun c => bit (leAt s (4 * c) 4) 0)
    pools := (List.range 8).map (fun n => listOf s n 0)
    mgr := (List.range 8).map (fun n => listOf s n 4)
    backfill := (List.range (leAt b 0 4)).map (fun i =>
      let o := 0x10 + 0x20 * i; ⟨leAt b o 1, leAt b (o + 2) 2, leAt b (o + 8) 8, leAt b (o + 16) 8⟩)
    rate := leAt (sec l 9) 0 1
    check := leAt (sec l 9) 1 1
    engineCells := leAt (sec l 9) 2 2
    sigs := (rowsOfBytes 8 4096 sg).map (fun r => leAt r 0 8)
    sig := leAt sg 0x8000 8
    len := leAt l 8 4
    signed := bit (leAt l 6 2) 0 }

/-! ## Section rules (step 6 of R201) -/

/-- The link of the topology that holds a lane. -/
def Image.linkOf (g : Image) (l : Nat) : Option Nat :=
  ((List.range 8).map (fun j => l / 8 * 8 + j)).find? (fun f => match g.first f with
    | some w => decide (f ≤ l) && decide (l < f + lanesOf w)
    | none => false)

/-- Numerator of HOST_CELLS' bound: PCIe rates in units of 0.5 GT/s by code (R52, R184). -/
def speedHalf (c : Nat) : Nat :=
  if c = 1 then 5 else if c = 2 then 10 else if c = 3 then 16 else if c = 4 then 32 else if c = 5 then 64 else if c = 6 then 128
  else if c = 7 then 256 else 0

/-- Engines named of octant `o`. -/
def octEngines (e o : Nat) : Nat := ((List.range 8).filter (fun i => bit e (8 * o + i))).length

/-- The topology section (R14, R176, R184). -/
def topologyBad (l : List Byte) (g : Image) : Bool :=
  let t := sec l 1
  secLen l 1 != 0x250 || !zeros t 0x24A 6 || decide (1280 < g.stageCells)
    || (List.range 512).any (fun i =>
        let b := g.lanes.getD i 0
        decide (63 < b) || b / 16 % 4 == 3 || (bit b 2 && !linkAligned i (b % 4)) || (bit b 3 && (g.linkOf i).isNone)
          || (bit b 2 && (linkLanes i (b % 4)).any (fun j => j != i && bit (g.lanes.getD j 0) 2)))
    || (List.range 8).any (fun n =>
        let (w, sp, host, ctrl) := g.ports.getD n (0, 0, 0, 0)
        w == 0 || decide (16 < w) || sp == 0 || decide (7 < sp) || decide (ctrl < 16) || !zeros t (0x206 + 8 * n) 2
          || decide (1152 * w * speedHalf sp / (16 * 256) < host))
    || (if g.rate = 2 then (List.range 8).any (fun o => octEngines g.engines o != 2) else g.engines != 2 ^ 64 - 1)

/-- No element twice. -/
def distinct : List Nat → Bool
  | [] => true
  | x :: l => !l.contains x && distinct l

/-- A plan that breaks R136 or R185. -/
def planBad (g : Image) (r : List Byte) (p : Plan) : Bool :=
  let G := 2 ^ p.log2g
  decide (15 < leAt r 0 1) || p.k == 0 || decide (24 < p.k) || decide (8 < p.m) || decide (32 < p.width)
    || decide (p.log2s < 12) || decide (20 < p.log2s) || decide (3 < p.log2g) || p.stripes == 0 || decide (2 ^ 40 < p.stripes)
    || decide (4095 < leAt r 4 2) || decide (4095 < leAt r 6 2) || decide (63 < leAt r 8 1) || decide (63 < leAt r 0xA 1)
    || !zeros r 0xB 5 || !zeros r 0x18 8 || !zeros r (0x20 + 8 * p.width) (8 * (32 - p.width))
    || (List.range p.width).any (fun i => bits (leAt r (0x20 + 8 * i) 8) 9 3 != 0 || bits (leAt r (0x20 + 8 * i) 8) 52 12 != 0)
    || !distinct (p.targets.map (·.1)) || p.targets.any (fun t => (g.first t.1).isNone)
    || p.targets.any (fun t => decide (2 ^ 52 < t.2 + p.stripes * p.shard))
    || p.f % G != 0 || p.f / 8 != (p.f + G - 1) / 8
    || (match g.matrices.get p.matrix none with | some x => x.k != p.k || x.m != p.m | none => true)
    || (g.programs.get p.program []).isEmpty

/-- The plans section (R136, R185). -/
def plansBad (l : List Byte) (g : Image) : Bool :=
  let s := sec l 2
  secLen l 2 != 0x120000 || (rowsOfBytes 0x120 4096 s).zipIdx.any (fun x =>
    match g.plans.get x.2 none with
    | some p => planBad g x.1 p
    | none => !zeros x.1 0 0x120)

/-- The matrices section (R186). The other bits of a directory word with OFFSET 0 are not looked at (log entry 130). -/
def matricesBad (l : List Byte) : Bool :=
  let s := sec l 3
  decide (secLen l 3 < 0x8000) || (List.range 4096).any (fun i =>
    let w := leAt s (8 * i) 8
    let o := bits w 0 32
    let k := bits w 32 8
    let m := bits w 40 8
    o != 0 && (bits w 48 16 != 0 || decide (secLen l 3 ≤ o) || (m != 0 && decide (secLen l 3 < o + m * k + (k + m) * k))))

/-- The operand bits an instruction of the plan sequencer may use, as bit offsets and widths (R196). -/
def programFields (op : Nat) : List (Nat × Nat) :=
  if op = 1 then [(0, 60)] else if op = 2 then [(0, 12)] else if op = 3 then [(0, 34)] else if op = 5 then [(0, 9)]
  else if op = 6 then [(0, 9)] else if op = 8 then [(0, 5), (6, 3)] else if op = 9 then [(0, 4)] else if op = 0xA ∨ op = 0xB then [(0, 12)]
  else if op = 0xD then [(0, 3), (6, 6)] else if op = 0xE then [(0, 12)] else []

/-- An operand code of an instruction is RSVD, or an unlisted bit is set (R196, R197). -/
def wordBad (w : BitVec 64) : Bool :=
  let x := w.toNat
  let op := bits x 60 4
  let rest := (programFields op).foldl (fun v f => v - bits x f.1 f.2 * 2 ^ f.1) (bits x 0 60)
  rest != 0 || (op == 6 && decide (31 < bits x 0 6) && bits x 0 6 != 0x3F) || (op == 9 && (bits x 0 4 == 0 || decide (8 < bits x 0 4)))
    || (op == 0xE && decide (2 < bits x 0 3))

/-- A program that breaks R197. -/
def programBad (p : List (BitVec 64)) : Bool :=
  let op := fun (w : BitVec 64) => bits w.toNat 60 4
  let n := p.length
  let target := fun i t => decide (i < t) && decide (t < n)
  op (p.getD 0 0) != 1 || op (p.getD (n - 1) 0) != 0xF || p.any wordBad
    || (List.range n).any (fun i =>
        let w := p.getD i 0
        let x := w.toNat
        let nx := p.getD (i + 1) 0
        (op w == 2 && !target i (bits x 0 12))
          || (op w == 1 && (List.range 5).any (fun j => !target i (bits x (12 * j) 12)))
          || (op w == 0xC && !((op nx == 0xA || op nx == 0xB) && bit nx.toNat 5)))

/-- The engine-programs section (R187, R197). The other bits of a directory word with OFFSET 0 are not looked at (log entry
130). -/
def programsBad (l : List Byte) (g : Image) : Bool :=
  let s := sec l 4
  decide (secLen l 4 < 0x8000) || (List.range 4096).any (fun i =>
    let w := leAt s (8 * i) 8
    let o := bits w 0 32
    let n := bits w 32 16
    o != 0 && (o % 8 != 0 || bits w 48 16 != 0 || n == 0 || decide (4096 < n) || decide (secLen l 4 < o + 8 * n)
      || programBad (g.programs.get i [])))

/-- What every run entry must keep (R170–R172, R193). -/
def runBad (g : Image) (w : BitVec 64) : Bool :=
  let k := runKind w
  let e := runEngine w
  !runRsvdOk w || decide (4 < k) || (decide (64 ≤ e) && e != 0x7F) || (k != 3 && runClass w != 0) || decide (16 < runCells w)
    || (runCells w == 0 && !(k == 0 && runBackfill w == 0xFFF)) || (runBackfill w != 0xFFF && decide (g.backfill.length ≤ runBackfill w))

/-- The run names a backfill designation held for engine tests (R478). -/
def Image.testsIn (g : Image) (w : BitVec 64) : Bool := (g.backfill[runBackfill w]?).any (·.kind == 2)

/-- The hub calendar (R170, R175, R188); no run of it names a TEST designation (R478). -/
def hubBad (l : List Byte) (g : Image) : Bool :=
  let n := leAt (sec l 5) 0 4
  let ep := fun e => isPortEp e || e == 0x248 || e == 0x249 || e == 0x24A || isHubLinkEp e
  n == 0 || decide (4096 < n) || secLen l 5 != 0x10 + 8 * n || !zeros (sec l 5) 4 12
    || g.hub.any (fun w => runBad g w || g.testsIn w || !ep (runSrc w) || !ep (runDst w) || runSrc w == 0x24A
        || ((runDst w == 0x24A) != (runKind w == 4))
        || (runKind w == 4 && !(isPortEp (runSrc w) && runCells w == 16)))

/-- The endpoint of a run in octant `o`'s calendar (R170). -/
def octEp (g : Image) (o e : Nat) : Bool :=
  (isLinkEp e && e / 64 == o && (g.first e).isSome) || (isEngEp e && (e - 0x200) / 8 == o) || e == 0x250 + o

/-- A run of octant `o` that breaks R170, R175 or R190. -/
def octRunBad (g : Image) (o : Nat) (w : BitVec 64) : Bool :=
  let s := runSrc w
  let t := runDst w
  runBad g w || runKind w == 4 || !octEp g o s || !octEp g o t || (isLinkEp s && !isEngEp t) || (isLinkEp t && !isEngEp s)

/-- The replacement of a patch entry (R190). -/
def patchEntryBad (o bay : Nat) (c : OctCal) (slot : Nat) (r : BitVec 64) : Bool :=
  let b := c.base.getD slot 0
  let idle := runKind r == 0 && runCells r == 0 && runBackfill r == 0xFFF
  let onBay := fun e => isLinkEp e && e / 8 == bay
  decide (c.base.length ≤ slot) || !(onBay (runSrc b) || onBay (runDst b)) || runSrc b == 0x250 + o || runDst b == 0x250 + o
    || !(idle || (runSrc r == runSrc b && runDst r == runDst b && runEngine r == runEngine b && decide (runCells r ≤ runCells b)))

/-- Cells per epoch of a lane by rate code (R169, R274). -/
def laneCells (r : Nat) : Nat := if r = 0 then 64 else if r = 1 then 32 else if r = 2 then 16 else 0

/-- The topology capacity of a link in cells per epoch: the sum over its lanes (R169). -/
def Image.linkCells (g : Image) (l : Nat) : Nat :=
  match g.first l with
  | some w => (linkLanes l w).foldl (fun a j => a + laneCells (g.lanes.getD j 0 / 16 % 4)) 0
  | none => 0

/-- Cells that runs of a calendar move from, or to, an endpoint. -/
def cellsFrom (c : List (BitVec 64)) (p : Nat → Bool) : Nat := (c.filter (fun w => p (runSrc w))).foldl (fun a w => a + runCells w) 0
def cellsTo (c : List (BitVec 64)) (p : Nat → Bool) : Nat := (c.filter (fun w => p (runDst w))).foldl (fun a w => a + runCells w) 0

/-- A calendar with a patch applied (R208). -/
def applyPatch (c : List (BitVec 64)) (p : Patch) : List (BitVec 64) :=
  c.mapIdx (fun i w => match p.find? (fun e => e.1 == i) with | some e => e.2 | none => w)

/-- A HALF patch that does not fit the bay's links at half capacity (R190). -/
def halfBad (g : Image) (bay : Nat) (c : List (BitVec 64)) : Bool :=
  (List.range 8).any (fun j =>
    let l := bay * 8 + j
    (g.first l).isSome && (decide (g.linkCells l < 2 * cellsFrom c (· == l)) || decide (g.linkCells l < 2 * cellsTo c (· == l))))

/-- The octant calendars (R189, R190). -/
def octsBad (l : List Byte) (g : Image) : Bool :=
  secLen l 6 != 0x80000 || (List.range 8).any (fun o =>
    let b := ((sec l 6).drop (0x10000 * o)).take 0x10000
    let c := g.octs.getD o ⟨[], []⟩
    decide (1024 < leAt b 0 4) || !zeros b 4 60 || !zeros b (0x40 + 8 * c.base.length) (8192 - 8 * c.base.length)
      || !zeros b 0xA140 (0x10000 - 0xA140) || c.base.any (octRunBad g o)
      || (List.range 16).any (fun v =>
          let p := c.patches.getD v []
          let bay := 8 * o + v / 2
          decide (128 < p.length) || !zeros b (0x2040 + 0x810 * v + 2) 14 || !distinct (p.map (·.1))
            || (List.range p.length).any (fun i => !zeros b (0x2052 + 0x810 * v + 16 * i) 6)
            || p.any (fun e => octRunBad g o e.2) || p.any (fun e => patchEntryBad o bay c e.1 e.2)
            || (v % 2 == 0 && halfBad g bay (applyPatch c.base p))))

/-- The hub slots of a kind whose host-port endpoint is port `n`. -/
def portRuns (g : Image) (kind n : Nat) : List Nat :=
  (List.range g.hub.length).filter (fun i => let w := g.hub.getD i 0; runKind w == kind && (runSrc w == 0x240 + n || runDst w == 0x240 + n))

/-- The service classes and pools: each list lies in LIST, which holds nothing else, and is a permutation of the port's runs
of its kind (R183, R191, R192). -/
def classesBad (l : List Byte) (g : Image) (mgr : Nat) : Bool :=
  let perm := fun (a b : List Nat) => a.length == b.length && distinct a && a.all b.contains
  let total := (List.range 8).foldl (fun t n => t + (g.pools.getD n []).length + (g.mgr.getD n []).length) 0
  secLen l 7 != 0x140 + 2 * total
    || (List.range 16).any (fun i => decide (total < leAt (sec l 7) (0x100 + 4 * i) 2 + leAt (sec l 7) (0x102 + 4 * i) 2))
    || g.hub.any (fun w => runKind w == 2 && runSrc w != 0x240 + mgr && runDst w != 0x240 + mgr)
    || (List.range 64).any (fun c => decide (1 < leAt (sec l 7) (4 * c) 4))
    || (List.range 8).any (fun n =>
        !perm (g.pools.getD n []) (portRuns g 1 n)
          || (if n = mgr then !perm (g.mgr.getD n []) (portRuns g 2 n) else !(g.mgr.getD n []).isEmpty || !(portRuns g 2 n).isEmpty))

/-- The backfill section (R193); a TEST designation has PLAN, FIRST and COUNT 0 (R478). -/
def backfillBad (l : List Byte) (g : Image) : Bool :=
  let n := leAt (sec l 8) 0 4
  decide (4095 < n) || secLen l 8 != 0x10 + 0x20 * n || !zeros (sec l 8) 4 12
    || (List.range n).any (fun i => !zeros (sec l 8) (0x11 + 0x20 * i) 1 || !zeros (sec l 8) (0x14 + 0x20 * i) 4
        || !zeros (sec l 8) (0x28 + 0x20 * i) 8)
    || g.backfill.any (fun b => decide (2 < b.kind) || decide (2 ^ 40 ≤ b.first) || decide (2 ^ 41 ≤ b.count)
        || (b.kind == 1 && (match g.plan b.plan with
            | none => true
            | some p => decide (p.stripes < b.first + b.count)))
        || (b.kind == 2 && (b.plan != 0 || b.first != 0 || b.count != 0)))

/-- Engine cells per epoch for a rate class (R157). -/
def engineCap (rate check : Nat) : Nat :=
  if rate = 1 then (if check = 1 then 204 else 409) else (if check = 1 then 256 else 512)

/-- The rate-class section (R194). -/
def rateBad (l : List Byte) (g : Image) : Bool :=
  secLen l 9 != 0x10 || decide (2 < g.rate) || decide (1 < g.check) || g.engineCells != engineCap g.rate g.check || !zeros (sec l 9) 4 12

/-- Step 6 of R201: the first section that breaks its rules; 0 when none does. -/
def sectionBad (l : List Byte) (g : Image) (mgr : Nat) : Nat :=
  if topologyBad l g then 1 else if plansBad l g then 2 else if matricesBad l then 3 else if programsBad l g then 4
  else if hubBad l g then 5 else if octsBad l g then 6 else if classesBad l g mgr then 7 else if backfillBad l g then 8
  else if rateBad l g then 9 else if secLen l 10 != 0x8008 then 10 else 0

/-! ## Loads (R157, R169, R202) -/

/-- A run counts twice against its engine (R157). -/
def runDouble (g : Image) (w : BitVec 64) : Bool :=
  g.check == 0 && runKind w == 3 && g.plans.any (fun e => match e.2 with
    | some p => p.verifyAlways && p.pclass == runClass w && decide (p.f ≤ runEngine w) && decide (runEngine w < p.f + 2 ^ p.log2g)
    | none => false)

/-- What a run adds to the load of a logical engine: its cells as the SRC, as the DST, or else as the ENGINE it names (R157,
R478); twice against that ENGINE where R157 says so. -/
def runLoad (g : Image) (w : BitVec 64) (e : Nat) : Nat :=
  let ends := (if runSrc w = 0x200 + e then 1 else 0) + (if runDst w = 0x200 + e then 1 else 0)
  let named := decide (runEngine w = e)
  runCells w * ((if ends = 0 && named then 1 else ends) * (if named && runDouble g w then 2 else 1))

/-- The load of a logical engine under a calendar (R157). -/
def engineLoad (g : Image) (c : List (BitVec 64)) (e : Nat) : Nat := c.foldl (fun a w => a + runLoad g w e) 0

/-- The octant's calendar loads its link to the hub beyond R169. -/
def octHubOver (o : Nat) (c : List (BitVec 64)) : Bool :=
  decide (6144 < cellsFrom c (· == 0x250 + o)) || decide (6144 < cellsTo c (· == 0x250 + o))

/-- An octant calendar beyond the shelf-side limits of R169. -/
def octOver (g : Image) (o : Nat) (c : List (BitVec 64)) : Bool :=
  let past := fun (lim : Nat) (p : Nat → Bool) => decide (lim < cellsFrom c p) || decide (lim < cellsTo c p)
  (List.range 64).any (fun j => past (g.linkCells (64 * o + j)) (· == 64 * o + j) && (g.first (64 * o + j)).isSome)
    || (List.range 8).any (fun b => past 512 (fun e => isLinkEp e && e / 8 == 8 * o + b))
    || (List.range 8).any (fun i =>
        decide ((if bit g.engines (8 * o + i) then engineCap g.rate g.check else 0) < engineLoad g c (8 * o + i)))
    || past 4096 isLinkEp

/-- The hub calendar beyond the limits of R169, or a POOL, MGR or RECORD_POLL run that names a hub link (R202). -/
def hubOver (g : Image) : Bool :=
  let past := fun (lim : Nat) (p : Nat → Bool) => decide (lim < cellsFrom g.hub p) || decide (lim < cellsTo g.hub p)
  (List.range 8).any (fun n => let (_, _, h, c) := g.ports.getD n (0, 0, 0, 0); past (h - c) (· == 0x240 + n))
    || decide (g.stageCells < cellsFrom g.hub (· == 0x248) + cellsTo g.hub (· == 0x248))
    || (List.range 8).any (fun o => past 6144 (· == 0x250 + o))
    || g.hub.any (fun w => (runKind w == 1 || runKind w == 2 || runKind w == 4) && (isHubLinkEp (runSrc w) || isHubLinkEp (runDst w)))

/-- The fields of R202 that must agree between the two sides of a crossing. -/
def crossKey (w : BitVec 64) : Nat × Nat × Nat × Nat := (runKind w, runClass w, runEngine w, runBackfill w)

/-- The crossing balance of an octant in one direction (R202). -/
def crossBad (g : Image) (o : Nat) (toHub : Bool) : Bool :=
  let e := 0x250 + o
  let mine := ((g.octs.getD o ⟨[], []⟩).base).filter (fun w => if toHub then runDst w == e else runSrc w == e)
  let hubs := g.hub.filter (fun w => if toHub then runSrc w == e else runDst w == e)
  let sum := fun (l : List (BitVec 64)) k => (l.filter (fun w => crossKey w == k)).foldl (fun a w => a + runCells w) 0
  (mine ++ hubs).any (fun w => sum mine (crossKey w) != sum hubs (crossKey w))

/-- Step 7 of R201: 5 or 6, or 0 when every load and the crossing balance hold. -/
def loadBad (g : Image) : Nat :=
  if hubOver g || (List.range 8).any (fun o =>
      let c := g.octs.getD o ⟨[], []⟩
      octHubOver o c.base || c.patches.any (fun p => octHubOver o (applyPatch c.base p))) then 5
  else if (List.range 8).any (fun o =>
      let c := g.octs.getD o ⟨[], []⟩
      octOver g o c.base || c.patches.any (fun p => octOver g o (applyPatch c.base p)) || crossBad g o true || crossBad g o false
        || c.base.any (fun w => (runKind w == 1 || runKind w == 2 || runKind w == 4)
            && (runSrc w == 0x250 + o || runDst w == 0x250 + o)))
  then 6 else 0

/-- The signature entry of a plan (R195). -/
def planSig (l : List Byte) (p : Nat) (q : Plan) : Nat :=
  let r := ((sec l 2).drop (0x120 * p)).take 0x120
  let ms := sec l 3
  let gs := sec l 4
  let mw := (ms.drop (8 * q.matrix)).take 8
  let gw := (gs.drop (8 * q.program)).take 8
  let md := if q.m = 0 then [] else (ms.drop (leAt mw 0 4)).take (q.m * q.k + (q.k + q.m) * q.k)
  let gd := (gs.drop (leAt gw 0 4)).take (8 * leAt gw 4 2)
  leAt (sha384 (r.take 0xA ++ [0#8] ++ r.drop 0xB ++ mw ++ md ++ gw ++ gd)) 0 8

/-- Step 8 of R201: the plan signatures (R195). -/
def sigsBad (l : List Byte) (g : Image) : Bool :=
  (List.range 4096).any (fun p => g.sigs.getD p 0 != (match g.plan p with | some q => planSig l p q | none => 0))
    || g.sig != leAt (sha384 ((sec l 10).take 0x8000)) 0 8 || g.sig != leAt l 0x18 8

/-- Steps 3 to 8 of R201: the RESULT of the first failure, or none. -/
def imageCheck (l : List Byte) (length mgr : Nat) (key : List Byte) (present enforce : Bool) : Option Nat :=
  let g := imageOf l
  if headerBad l length then some 0xE
  else if signatureBad l key present enforce then some 0xF
  else
    match (List.range 10).find? (fun i => secCrc l (i + 1) != (crc32c (sec l (i + 1))).toNat) with
    | some i => some (i + 1)
    | none =>
      if sectionBad l g mgr ≠ 0 then some (sectionBad l g mgr)
      else if loadBad g ≠ 0 then some (loadBad g)
      else if sigsBad l g then some 10
      else none

/-! ## LOAD_IMAGE and the key -/

/-- Slot `t` holds no image: state `st`, and nothing of an earlier image shown (R201, R210). -/
def Dev.clearSlot (d : Dev) (t st : Nat) : Dev :=
  let d := d.wrs [(SCH_SLOT_STATUS_STATE t, st), (SCH_SLOT_STATUS_SIGNED t, 0), (SCH_SLOT_STATUS_FAIL_SECTION t, 0),
    (SCH_SLOT_STATUS_RATE t, 0), (SCH_SLOT_STATUS_CHECK t, 0), (SCH_SLOT_SIG_LO_VALUE t, 0), (SCH_SLOT_SIG_HI_VALUE t, 0),
    (SCH_SLOT_LEN_VALUE t, 0)]
  { d with sch := { d.sch with images := d.sch.images.set t none none } }

/-- LOAD_IMAGE begins: step 1 of R201, then the read (R201). -/
def loadImage (n : Nat) (d : Dev) : Dev :=
  d.admin n 0x90 (fun x d =>
    let t := darg x 4 1
    let st := d.rd (SCH_SLOT_STATUS_STATE t)
    if 1 < t ∨ st = 3 ∨ st = 5 ∨ st = 1 then d.finish n stInvalid
    else
      let d := d.clearSlot t 1
      let d := { d with sch := { d.sch with loads := d.sch.loads.set t (n + 1) 0 } }
      match d.hostRead 0 (darg x 8 8) (darg x 0x10 4) false (.image t) with
      | (true, d) => d
      | (false, d) =>
        Dev.finish { (d.wr (SCH_SLOT_STATUS_STATE t) 0) with sch := { d.sch with loads := d.sch.loads.set t 0 0 } } n stHostDma)

/-- A checked image stands in its slot (R210). -/
def Dev.installImage (d : Dev) (t : Nat) (g : Image) : Dev :=
  let d := d.wrs [(SCH_SLOT_STATUS_STATE t, 2), (SCH_SLOT_STATUS_SIGNED t, b2n g.signed), (SCH_SLOT_STATUS_FAIL_SECTION t, 0),
    (SCH_SLOT_STATUS_RATE t, g.rate), (SCH_SLOT_STATUS_CHECK t, g.check), (SCH_SLOT_SIG_LO_VALUE t, g.sig),
    (SCH_SLOT_SIG_HI_VALUE t, g.sig / 2 ^ 32), (SCH_SLOT_LEN_VALUE t, g.len)]
  { d with sch := { d.sch with images := d.sch.images.set t (some g) none } }

/-- The image read of slot `t`, at place `i`, ends; steps 2 to 8 of R201 follow. -/
def Dev.imageEnds (d : Dev) (i t : Nat) (data : Option (List Byte)) : Dev :=
  match d.sch.loads.get t 0 with
  | n + 1 =>
    let r := d.reads[i]?
    let d := { (d.endRead i) with sch := { d.sch with loads := d.sch.loads.set t 0 0 } }
    match data with
    | none => (((r.map d.readFail).getD d).wr (SCH_SLOT_STATUS_STATE t) 0).finish n stHostDma
    | some l =>
      match imageCheck l (darg (d.entry n).desc 0x10 4) d.mgrPort d.sch.key (d.flag SCH_SIGN_KEY_PRESENT) (d.flag SCH_SIGN_ENFORCE) with
      | some r => (d.wrs [(SCH_SLOT_STATUS_STATE t, 4), (SCH_SLOT_STATUS_FAIL_SECTION t, r)]).finish n stInvalid r
      | none => (d.installImage t (imageOf l)).finish n stSuccess
  | 0 => d.endRead i

/-- LOAD_IMAGE_READ_DONE (R201). -/
def loadImageReadDone (t : Nat) (data : Option (List Byte)) (d : Dev) : Dev :=
  match d.findRead (fun r => r.why == .image t) with
  | some i => d.readBrings i data (fun d l => d.imageEnds i t l)
  | none => d

/-- The 96 bytes of SCH_SIGN_KEY as written (R199, R210). -/
def Dev.keyBytes (d : Dev) : List Byte := (List.range 24).flatMap (fun w => leBytes 4 (d.sch.keyBuf.get w 0))

/-- A write of a SCH_SIGN_KEY word; word 23 commits the key (R199). With ENFORCE set and a key present it is dropped.
KEY_REJECTED stays until software clears it (log entry 133). -/
def Dev.signKeyWord (d : Dev) (w v : Nat) : Dev :=
  if d.flag SCH_SIGN_ENFORCE && d.flag SCH_SIGN_KEY_PRESENT then d
  else
    let d := { d with sch := { d.sch with keyBuf := d.sch.keyBuf.set w v 0 } }
    if w ≠ 23 then d
    else if onCurve d.keyBytes then
      Dev.wr { d with sch := { d.sch with key := d.keyBytes } } SCH_SIGN_KEY_PRESENT 1
    else d.wr SCH_SIGN_KEY_REJECTED 1

end Sys2Proof.Machine
end

