-- ==== Sys2Proof/Machine/Power.lean ====
section
/-! DEFINITION. Power states, the chrysalis, the mirror and eclosion (R395–R426), and the cold start (R494–R514). -/
namespace Sys2Proof.Machine

/-! ## Engines on and off (R161) -/

/-- A physical engine loses power: OFF, its state kept. RETIRED and BYPASSED engines stay as they are. -/
def Dev.engPowerOff (d : Dev) (p : Nat) : Dev :=
  let s := d.rd (ENG_STATUS_STATE p)
  if s = 0 ∨ 3 < s then d
  else Dev.wr { d with eng := { d.eng with before := d.eng.before.set p s 0 } } (ENG_STATUS_STATE p) 0

/-- Power returns to a physical engine. -/
def Dev.engPowerOn (d : Dev) (p : Nat) : Dev :=
  let s := d.eng.before.get p 0
  if d.rd (ENG_STATUS_STATE p) ≠ 0 ∨ s = 0 then d
  else Dev.wr { d with eng := { d.eng with before := d.eng.before.set p 0 0 } } (ENG_STATUS_STATE p) s

/-- The physical engine bound to a logical engine. -/
def Dev.physOf (d : Dev) (e : Nat) : Option Nat := if d.flag (ENG_MAP_BOUND e) then some (d.rd (ENG_MAP_PHYS e)) else none

/-- The physical engines whose logical engine is unpowered (QUARTER). -/
def Dev.unpowered (d : Dev) (p : Nat) : Bool :=
  (List.range 64).any (fun e => d.flag (ENG_MAP_BOUND e) && d.rd (ENG_MAP_PHYS e) == p && !d.flag (ENG_MAP_POWERED e))

def Dev.allEnginesOff (d : Dev) : Dev := (List.range 72).foldl (fun d p => d.engPowerOff p) d
def Dev.allEnginesOn (d : Dev) : Dev := (List.range 72).foldl (fun d p => if d.unpowered p then d else d.engPowerOn p) d

/-! ## The core voltage (R29, R495, R504, R505, R533) -/

/-- The rail of a ROLE in the board record, if one is configured (R504). -/
def Dev.railOf (d : Dev) (role : Nat) : Option Nat :=
  (List.range 16).find? (fun n => d.flag (GLB_RAIL_VALID n) && d.rd (GLB_RAIL_ROLE n) == role)

/-- The set point of VDD_CORE at a rate, in µV: the nominal value with the part's offset, within 0.70 V to 0.80 V (R29, R533). -/
def coreVolts (rate : Nat) : Nat :=
  Nat.min 800000 (Nat.max 700000 ((if rate = 1 then 700000 else 780000) + Config.vddOffset.val - 20000))

/-- The set point for a rate is commanded to the rail of ROLE VDD_CORE when it is not yet in force; without such a rail the
regulator keeps its default (R495, R505, R533). -/
def Dev.setVdd (d : Dev) (rate : Nat) : Dev :=
  match d.railOf 1 with
  | none => d
  | some n =>
    if d.pwr.vdd = coreVolts rate then d
    else Dev.emit { d with pwr := { d.pwr with vdd := coreVolts rate } } (.voutCommand (d.rd (GLB_RAIL_ADDR n)) (d.rd (GLB_RAIL_PAGE n)) (coreVolts rate))

/-! ## Requests (R396, R397) -/

/-- A request that must wait, or collide (R397): a state or profile request or an image switch is pending, or FW_UPDATE runs. -/
def Dev.stateBusy (d : Dev) : Bool :=
  d.flag GLB_POWER_STATUS_PENDING || d.flag GLB_PROFILE_STATUS_PENDING || d.sch.switch.isSome || d.mgt.staging.isSome

/-- Required length of the mirror (R417). -/
def Dev.mirrorNeed (d : Dev) : Nat :=
  let img := (d.inForce.map (·.len)).getD 0
  2 ^ 24 + (img + 2 ^ 20 - 1) / 2 ^ 20 * 2 ^ 20 + 128 * d.capacity

/-- The budget sum of the armed set in µA (R404). -/
def Dev.budget (d : Dev) : Nat :=
  let act := d.rd AON_WAKE_ARM_ACT
  let pat := Nat.land (d.rd AON_WAKE_ARM_PAT) act
  5400 + 60 * d.rd AON_WAKE_ARM_FEED + 60 * d.rd AON_WAKE_ARM_AUX + 300 * d.rd AON_WAKE_ARM_PRESENCE
    + 1100 * (maskList act 8).length + 400 * (maskList pat 8).length

/-- A write of AON_WAKE_ARM: AON_BUDGET.SUM follows (R404, R426). -/
def Dev.wakeArmWrite (d : Dev) (v : Nat) : Dev :=
  let d := d.writeWord AON_WAKE_ARM v
  d.wr AON_BUDGET_SUM d.budget

/-- The completion-status of a RESULT code (R396). -/
def resultStatus (r : Nat) : Nat :=
  if r = 1 then stSuccess else if r = 2 then stAbortedByWake else if r = 3 ∨ r = 4 then stAborted
  else if r = 5 then stQuota else if r = 6 then stInvalid else if r = 7 then stBusy else stInternal

/-- A state request ends (R396, R427): RESULT, source 1 and the command's completion. -/
def Dev.endRequest (d : Dev) (cmd : Option Nat) (r : Nat) : Dev :=
  let d := d.wrs [(GLB_POWER_STATUS_RESULT, r), (GLB_POWER_STATUS_PENDING, 0), (GLB_POWER_STATUS_PHASE, 0)]
  let d := Dev.raise { d with pwr := { d.pwr with req := none } } 1
  match cmd with
  | some n => d.finish n (resultStatus r)
  | none => d

/-- An item's completion passes the sequencer at once: it is the last host write of an entry (R400, R410). -/
def Dev.flushSeq (d : Dev) (n : Nat) : Dev :=
  if d.seqQ.contains (.done n) then Dev.sequence { d with seqQ := d.seqQ.filter (fun r => r != SeqReq.done n) } (.done n) else d

/-- Descriptor fetch resumes for every slice (R400, R411). -/
def Dev.resumeFetch (d : Dev) : Dev :=
  let d := { d with pwr := { d.pwr with noIntake := false } }
  d.queues.keys.foldl (fun d q => d.readMore q) d

/-- Islands that have had no tokens begin with the next one: the runs of the epochs between were not due (R180; log entry 88). -/
def Dev.islandsIdle (d : Dev) : Dev :=
  { d with sch := { d.sch with epoch := d.epoch, island := (List.range 9).foldl (fun t i => t.set i d.epoch 0) [],
                               next := (List.range 9).foldl (fun t i => t.set i 65536 0) [] } }

/-- Every engine's source is sampled: what counts as off has changed (R468, R469). -/
def Dev.sampleEngines (d : Dev) : Dev := (List.range 72).foldl (fun d p => d.sample (192 + p)) d

/-- The return from DORMANT (R402). -/
def Dev.dormantExit (d : Dev) : Dev :=
  let p := d.pwr
  let y := { p with mode := 0, noIntake := false, awake := [], eclosions := (p.eclosions + 1) % 2 ^ 32 }
  let d := { d with pwr := { y with wasActive := [] } }
  let d := ((d.wr GLB_POWER_STATUS_CUR 0).allEnginesOn).sampleEngines
  let d := p.wasActive.foldl (fun d l => d.setLink l { d.link l with left := some d.now, expired := false }) d
  let d := d.linksOn (List.range 8)
  let d := d.islandsIdle
  -- R482: a GDDR6 channel test ends with ABORTED before the device leaves DORMANT
  let d := if d.flag SPR_MEMTEST_BUSY then
      let d := d.wrs [(SPR_MEMTEST_BUSY, 0), (SPR_MEMTEST_OUTCOME, 3)]
      (d.liveSlices.foldl (fun d s => d.wr (SLC_STATE_TEST_BUSY s) 0) d).raise 51
    else d
  d.queues.keys.foldl (fun d q => d.readMore q) d

/-- A state request is evaluated (R396, R397, R404, R405, R417). -/
def Dev.evalRequest (d : Dev) (target : Nat) (cmd : Option Nat) : Dev :=
  let cur := if d.pwr.mode = 1 then 1 else 0
  if target = cur then d.endRequest cmd 1
  else if target = 2 ∧ 9500 < d.budget then d.endRequest cmd 5
  else if target = 2 ∧ (d.rd AON_MIRROR_LEN_VALUE = 0 ∨ d.rd AON_MIRROR_LEN_VALUE < d.mirrorNeed) then d.endRequest cmd 6
  else if d.flag SLC_GLOBAL_INSTAR_BUSY ∨ 1 < d.pwr.mode then d.endRequest cmd 7
  else if target = 0 then (d.dormantExit).endRequest cmd 1
  else
    let q : PReq := { target, cmd, step := 1, dormant := cur == 1, drainAt := d.now, wake := false, port := false, drain := false,
                      weak := false, reload := false, stepAt := d.now }
    let d := { d with pwr := { d.pwr with noIntake := true, req := some q } }
    let d := d.wrs [(GLB_POWER_STATUS_PENDING, 1), (GLB_POWER_STATUS_PHASE, if target = 2 then 1 else 0)]
    if target = 1 then
      -- step 2 of R400
      d.queues.keys.foldl (fun d q => if (d.queue q).state = 1 then d.writeEvent q (d.queue q).sqHead true else d) d
    else d

/-- GLB_POWER_CMD (R396, R397): STATE ACTIVE, DORMANT or DIAPAUSE. -/
def Dev.powerCmd (d : Dev) (target : Nat) : Dev :=
  d.setup GLB_POWER_CMD target (fun d => if d.stateBusy then d.wr GLB_POWER_STATUS_COLLIDE 1 else d.evalRequest target none)

def powerCmdActive (d : Dev) : Dev := d.powerCmd 0
def powerCmdDormant (d : Dev) : Dev := d.powerCmd 1
def powerCmdDiapause (d : Dev) : Dev := d.powerCmd 2

/-- ENTER_STATE (R396, R397): it waits while a request, a switch or FW_UPDATE is under way. -/
def enterState (n : Nat) (d : Dev) : Dev :=
  if d.stateBusy then d
  else d.admin n 0xB0 (fun x d =>
    let t := darg x 4 1
    if 2 < t then d.finish n stInvalid else d.evalRequest t (some n))

/-- SET_MIRROR (R417). -/
def setMirror (n : Nat) (d : Dev) : Dev :=
  d.admin n 0xB1 (fun x d =>
    let need := d.mirrorNeed
    let len := darg x 0x10 4
    if d.pwr.req.isSome ∨ d.pwr.mode ≠ 0 ∨ len < need then d.finish n stInvalid need
    else (d.wrs [(AON_MIRROR_LO_VALUE, darg x 8 8), (AON_MIRROR_HI_VALUE, darg x 8 8 / 2 ^ 32), (AON_MIRROR_LEN_VALUE, len)]).finish
      n stSuccess need)

/-! ## The chrysalis (R414–R416) -/

/-- The bank that saves the register at BAR0 offset `a`, if one does (R385, R394, R414, R426, R473, R507, R550). With GLB_PROFILE
bank B4 holds all of GLB_PROFILE_STATUS and GLB_PROFILE_EPOCH, the outcome of the last request among them (R22, R32; log entry 89). -/
def bankOf (a : Nat) : Option Nat :=
  let inB := fun lo hi => decide (lo ≤ a) && decide (a < hi)
  if a = GLB_BOOT ∨ a = GLB_STRAP then some 0
  else if (List.range 64).any (fun e => a == ENG_MAP e) ∨ (List.range 72).any (fun p => a == ENG_STATUS p) then some 0
  else if a = SPR_PLANE ∨ (List.range 8).any (fun o => a == SPR_WIRE o) ∨ (List.range 16).any (fun c => a == SPR_ROWS c) ∨ a = SPR_OCTANT then some 0
  else if inB 0x708000 0x708010 ∨ a = MGT_STATUS then some 0
  else if a = SCH_SIGN then some 0
  else if inB 0x100000 0x140000 ∧ a % 0x10000 < 0xF00 then some 1
  else if inB 0x140000 0x180000 ∧ a % 0x10000 < 0xF00 then some 2
  else if a = GLB_SETUP_LOCK then some 9
  else if inB 0x1400000 0x1440000 ∧ (a % 0x1000 = 0 ∨ a % 0x1000 = 8 ∨ a % 0x1000 = 0xC) then some 3
  else if inB 0x1440000 0x1440030 then some 3
  else if inB (GLB_LEDGER_STATUS + 8) (GLB_LEDGER_STATUS + 0x18) ∨ a = GLB_PROFILE ∨ a = GLB_PROFILE_STATUS ∨ a = GLB_PROFILE_EPOCH_LO
      ∨ a = GLB_PROFILE_EPOCH_HI then some 4
  else if a = SCH_SWITCH ∨ a = GLB_THERM_CFG ∨ a = AON_WAKE_ARM ∨ a = AON_WCMP_FEED ∨ a = AON_WCMP_AUX ∨ a = AON_BUDGET then some 4
  else if a = AON_ALARM_LO ∨ a = AON_ALARM_HI ∨ a = AON_ENTRY_CFG ∨ a = AON_ECLOSION_CFG then some 4
  else if a = AON_MIRROR_LO ∨ a = AON_MIRROR_HI ∨ a = AON_MIRROR_LEN then some 4
  else if inB 0x1601000 0x1602000 ∨ (List.range 8).any (fun t => a == EVC_THRESHOLD t) ∨ a = EVC_EYESPOT then some 5
  else if a = GLB_GRAVE_TIME_LO ∨ a = GLB_GRAVE_TIME_HI then some 5
  else none

/-- Does bank `i` save the register at `a`? The set-up lock stands in the bank of the manager port, the active image's length in B4
(R414). -/
def Dev.inBank (d : Dev) (i a : Nat) : Bool :=
  match bankOf a with
  | some 9 => i == (if d.mgrPort < 4 then 1 else 2)
  | some j => i == j
  | none => i == 4 && a == SCH_SLOT_LEN (d.rd SCH_SWITCH_ACTIVE_SLOT)

/-- Fields, by key, that no bank saves though it saves their registers' other fields: records of a refused write (R7, R414). -/
def notSaved (k : Nat) : Bool := k == SCH_SIGN_KEY_REJECTED.key || k == MEM_TRAIN_STAGE_REFUSED.key || k == EVC_EYESPOT_REFUSED.key

/-- The ports whose configuration a bank holds. -/
def bankPorts (i : Nat) : List Nat := if i = 1 then [0, 1, 2, 3] else if i = 2 then [4, 5, 6, 7] else []

/-- What a port's configuration space keeps in its bank; MSI-X tables and PBAs travel in the mirror, and PowerState reads D0 after an
eclosion (R56, R414, R418). -/
def Port.saved (p : Port) : Port :=
  let q : Port := { bme := p.bme, mse := p.mse, pasidEn := p.pasidEn, relaxedEn := p.relaxedEn, noSnoopEn := p.noSnoopEn,
                    idoEn := p.idoEn, tag10 := p.tag10 }
  { q with reqId := p.reqId, msixEn := p.msixEn, fnMask := p.fnMask, bar4 := p.bar4, uieMasked := p.uieMasked, uieFatal := p.uieFatal,
           aerStatus := p.aerStatus, ext := p.ext, hdrLog := p.hdrLog }

/-- Step 5 of R410: the contents of bank `i`; an OFF engine is saved in the state it had. Bay states but COOLING and SHORTED are OFF in DIAPAUSE (R385). -/
def Dev.saveBank (d : Dev) (i : Nat) (weak : Bool) : Bank :=
  let d := if i = 0 then (List.range 72).foldl (fun d p => d.engPowerOn p) d else d
  let b : Bank := { regs := d.regs.filter (fun e => d.inBank i (e.1 / 32) && !notSaved e.1), savedAt := d.now, no := i, weak }
  let b := if i = 4 then { b with railRem := d.bay.railRem, bayRem := d.bay.bayRem } else b
  { b with ports := (bankPorts i).foldl (fun t n => t.set n (d.port n).saved {}) [],
           key := if i = 0 then d.sch.key.map (·.toNat) else [],
           bays := if i = 3 then (List.range 64).foldl (fun t k =>
               let m := d.bayT k
               t.set k { fetA := m.fetA, fetB := m.fetB, timer := if d.bayState k = bsCooling then 1 else 0 } {}) [] else [],
           rec5 := if i = 5 then d.flt.b5 else [] }

/-- Step 5 of R410 for every bank; `weak` names the banks that failed the self-test (R416). -/
def Dev.saveBanks (d : Dev) (weak : Nat) : Dev :=
  { d with pwr := { d.pwr with banks := (List.range 6).foldl (fun t i => t.set i (d.saveBank i (bit weak i)) {}) [] } }

/-- Step 6 of R410: AON_SEAL_COUNT is incremented and sealed (R415). -/
def Dev.sealBanks (d : Dev) : Dev :=
  let d := d.inc AON_SEAL_COUNT_COUNT
  { d with pwr := { d.pwr with banks := (List.range 6).foldl (fun t i => t.set i { t.get i {} with count := d.rd AON_SEAL_COUNT_COUNT } {}) d.pwr.banks } }

/-! ## The mirror (R418) -/

/-- The registers that travel in the mirror (R363, R418): slices and permissions, the bridge's windows, routes and
configuration, LNK, the journal region, energy counters. -/
def mirrored (a : Nat) : Bool :=
  let inB := fun lo hi => decide (lo ≤ a) && decide (a < hi)
  (inB 0x200010 0x400000 && decide (a % 0x1000 < 0xF00 || 0x210000 ≤ a))
    || inB 0x1000000 0x1000018 || inB 0x1000100 0x1000200 || inB 0x1010000 0x1030000
    || (inB 0x800000 0xB00000 && (decide (a % 0x1000 < 0x4) || decide (0xA00000 ≤ a)) && a != LNK_DISCOVERED_LO && a != LNK_DISCOVERED_HI)
    || a == JNL_REGION_LO || a == JNL_REGION_HI || a == JNL_REGION_SIZE || a == JNL_CFG || a == JNL_SCRUB_SEQ
    || (inB 0x1400000 0x1440000 && inB (a - a % 0x1000 + 0x28) (a - a % 0x1000 + 0x40))

/-- The fields that travel in the mirror, by key: of a lane's register only the FAULTY mark does (R293, R414). -/
def mirroredField (k : Nat) : Bool :=
  mirrored (k / 32) || (decide (0x800000 ≤ k / 32) && decide (k / 32 < 0xA00000) && k / 32 % 0x1000 == 0x10 && k % 32 == 0)

/-- The admitted records of all links. -/
def Dev.admits (d : Dev) : Tab (Option Admit) := d.lnk.links.foldl (fun t e => t.set e.1 e.2.admitted none) []

/-- The records that RETIRE_BAY deleted, for the windows that are kept (R338). -/
def Dev.formers (d : Dev) : Tab (Option Admit) := d.lnk.links.foldl (fun t e => t.set e.1 e.2.former none) []

/-- A queue context as the mirror carries it: what was read and not accepted is read again. -/
def QCtx.rested (c : QCtx) : QCtx := { c with fetched := [], reading := false, sgl := none, sglFail := false, sglBusy := false, rechecked := false }

/-- Step 3 of R410: the mirror's contents, with SEQ = AON_SEAL_COUNT + 1. -/
def Dev.mirrorNow (d : Dev) : Mirror :=
  let slot := d.rd SCH_SWITCH_ACTIVE_SLOT
  { seq := (d.rd AON_SEAL_COUNT_COUNT + 1) % 2 ^ 32, len := 0, seed := d.fresh, regs := d.regs.filter (fun e => mirroredField e.1),
    slices := d.slices.map (fun e => (e.1, { e.2 with duePages := [] })),
    queues := d.queues.map (fun e => (e.1, QCtx.rested e.2)), brg := { dlog := d.brg.dlog, wlog := d.brg.wlog, dseq := d.brg.dseq, wlogSeq := d.brg.wlogSeq }, admits := d.admits, formers := d.formers, slot,
    ports := d.ports.map (fun (e : Nat × Port) => (e.1, ({ unmasked := e.2.unmasked, pba := e.2.pba, table := e.2.table } : Port))),
    parked := d.jnl.filter (fun e => e.2.state == 5), gens := d.sch.gens, cursors := d.sch.cursors.map (fun c => ⟨c.designation, c.engine, c.stripe, c.col, 0, 0, 0, [], [], []⟩), scrub := d.scrub, debt := d.debt,
    image := d.inForce, assign := d.sch.assign, remainder := d.bay.remainder,
    bayRems := d.bay.bays.map (fun (e : Nat × BayT) => (e.1, e.2.remA, e.2.remB, e.2.remT)) }

/-- The sections' bytes at one writing: at most 1 MiB each, section 6 at most 128 B for each journal slot, section 10 at most the
image's length, which R417 leaves room for (R418; log entry 116). -/
def Dev.mirrorSections (d : Dev) (seed : Nat) : List (List Byte) :=
  let room := fun i => if i = 6 then 128 * d.capacity else if i = 10 then (d.inForce.map (·.len)).getD 0 else 2 ^ 20
  (List.range 10).map (fun i => (Config.mirrorSection seed (i + 1)).take (room (i + 1)))

/-- A directory entry of each section, the sections following one another from byte `off` (R418; log entry 116). -/
def mirrorDirectory : Nat → List (List Byte) → List Byte
  | _, [] => []
  | off, s :: l => leBytes 4 off ++ leBytes 4 s.length ++ leBytes 4 (crc32c s).toNat ++ leBytes 4 0 ++ mirrorDirectory (off + s.length) l

/-- The mirror's 256-byte header (R418). -/
def mirrorHeader (seq : Nat) (secs : List (List Byte)) : List Byte :=
  let body := secs.flatten
  let h := leBytes 4 0x5252494D ++ leBytes 2 1 ++ leBytes 2 0 ++ leBytes 8 Config.dsn.toNat ++ leBytes 4 seq ++ leBytes 4 (256 + body.length)
    ++ leBytes 4 (crc32c body).toNat ++ leBytes 4 0 ++ mirrorDirectory 256 secs ++ List.replicate 60 0
  h ++ leBytes 4 (crc32c h).toNat

/-- The RESULT of a mirror that has been read (R423): the checks of its words and sections, DSN, then SEQ. `body` and `secs` are
the CRC-32C values of the body and of the ten sections as read. -/
def headerResult (hdr : List Byte) (body : BitVec 32) (secs : List (BitVec 32)) (seq : Nat) : Nat :=
  let good := hdr.length == 256 && leAt hdr 0 4 == 0x5252494D && leAt hdr 4 2 == 1 && leAt hdr 0xFC 4 == (crc32c (hdr.take 0xFC)).toNat
    && leAt hdr 0x18 4 == body.toNat && (List.range 10).all (fun i => leAt hdr (0x28 + 16 * i) 4 == (secs.getD i 0).toNat)
  if !good then 3 else if leAt hdr 8 8 ≠ Config.dsn.toNat then 4 else if leAt hdr 0x10 4 ≠ seq then 5 else 1

/-- The mirror's address in host memory (R417). -/
def Dev.mirrorAddr (d : Dev) : Nat := d.rd AON_MIRROR_LO_VALUE + 2 ^ 32 * d.rd AON_MIRROR_HI_VALUE

/-- The mirror is written to host memory, in requests of the manager port's Max_Payload_Size (R35, R410, R418). In D3hot the port
makes no request, and the entry has the cause PORT (R53, R54). -/
def Dev.writeMirror (d : Dev) : Dev :=
  if d.egressHeld d.mgrPort then
    match d.pwr.req with
    | some q => { d with pwr := { d.pwr with req := some { q with port := true } } }
    | none => d
  else if d.canIssue d.mgrPort then
    let secs := d.mirrorSections d.fresh
    let m := { d.mirrorNow with len := 256 + secs.flatten.length }
    let l := d.writeMsgs 0 false false d.mirrorAddr (mirrorHeader m.seq secs ++ secs.flatten)
    { d with fresh := d.fresh + 1, out := l.reverse ++ d.out, pwr := { d.pwr with mirror := some m } }
  else d.dmaFail d.mgrPort 0 d.mirrorAddr 4

/-- The outcome of a lost B4 for every item the mirror carries (R421, R423). -/
def Dev.loseMirror (d : Dev) : Dev :=
  let d := { d with regs := d.regs.filter (fun e => !mirroredField e.1) }
  let d := ((d.wrs [(GLB_LEDGER_STATUS_DISCONTINUOUS, 1), (JNL_DEBT_LOST, 1)]).clearSlot 0 0).clearSlot 1 0
  let d := { d with queues := [], slices := [], jnl := [], jidx := [], work := [], seqQ := [], aborts := [], reads := [], debt := [], scrub := [], brg := {} }
  let d := { d with sch := { d.sch with images := [], gens := [], cursors := [], assign := [], switch := none, loads := [] } }
  let d := d.lnk.links.keys.foldl (fun d l => d.setLink l { d.link l with admitted := none }) d
  let d := (List.range 8).foldl (fun d n => d.setPort n { d.port n with unmasked := [], pba := [], table := [] }) d
  let d := d.bay.bays.keys.foldl (fun d b => d.setBay b { d.bayT b with remA := 0, remB := 0, remT := 0 }) d
  Dev.sample { d with bay := { d.bay with remainder := [] } } 3

/-- The mirror's contents restored (R96, R424, R259). -/
def Dev.restoreMirror (d : Dev) (m : Mirror) : Dev :=
  let d := m.regs.foldr (fun e d => { d with regs := d.regs.set e.1 e.2 (resetField e.1) }) d
  let d := { d with slices := m.slices, queues := m.queues, jnl := m.parked, jidx := m.parked.map (fun (e : Nat × JEntry) => (e.1, e.2.word)), work := [], debt := m.debt, scrub := m.scrub, brg := m.brg }
  let d := Dev.islandsIdle { d with sch := { d.sch with gens := m.gens, cursors := m.cursors, assign := m.assign } }
  let d := m.admits.foldl (fun d e => (d.setLink e.1 { d.link e.1 with admitted := e.2 }).wr (LNK_STATE_ADMITTED e.1) (b2n e.2.isSome)) d
  let d := m.formers.foldl (fun d e => d.setLink e.1 { d.link e.1 with former := e.2 }) d
  let d := m.ports.foldl (fun d e =>
    let p := d.port e.1
    d.setPort e.1 { p with unmasked := e.2.unmasked, pba := e.2.pba.foldl (fun l v => setAdd v l) p.pba, table := e.2.table }) d
  let d := (List.range 8).foldl (fun d n => d.sendPending n) d
  let d := m.bayRems.foldl (fun d e => d.setBay e.1 { d.bayT e.1 with remA := e.2.1, remB := e.2.2.1, remT := e.2.2.2 }) { d with bay := { d.bay with remainder := m.remainder } }
  match m.image with
  | none => d
  | some g =>
    let d := { d with sch := { d.sch with images := d.sch.images.set m.slot (some g) none } }
    let d := d.wrs [(SCH_SLOT_STATUS_STATE m.slot, 3), (SCH_SWITCH_ACTIVE_SLOT, m.slot), (SCH_SLOT_STATUS_SIGNED m.slot, b2n g.signed),
      (SCH_SLOT_STATUS_RATE m.slot, g.rate), (SCH_SLOT_STATUS_CHECK m.slot, g.check), (SCH_SLOT_LEN_VALUE m.slot, g.len)]
    let d := d.wr64 (SCH_SLOT_SIG_LO_VALUE m.slot) (SCH_SLOT_SIG_HI_VALUE m.slot) g.sig
    { d with sch := { d.sch with running := true, trim := some d.epoch } }

/-! ## Losing power -/

/-- The AON block, whose island stays powered (R395, R454). -/
def aonBlock (a : Nat) : Bool := decide (0x1500000 ≤ a) && decide (a < 0x1600000)

/-- Registers held while VSTBY stays (R34, R381, R403, R464, R470, R496, R549), but for the single fields that `powerLoss` carries
over. The straps stand as sampled, and factory test mode as it is, until POR_N asserts again. -/
def vstbyHeld (a : Nat) : Bool :=
  a == GLB_GRAVE || a == BAY_SHORTED_LO || a == BAY_SHORTED_HI || a == AON_SEAL_COUNT || a == GLB_STRAP || a == GLB_TEST

/-- GLB_TEMP.PEAK of an octant die, by key: it is kept while the die is off in DIAPAUSE (R550). -/
def octPeak (k : Nat) : Bool := (List.range 8).any (fun o => (GLB_TEMP_PEAK (o + 1)).key == k)

/-- The hub and the octants lose power: what VSTBY, the always-on island (`aon`, with bank B0's unit health and firmware
digest, R414) and the flash hold is kept (R9, R403, R454, R464, R496, R502). -/
def Dev.powerLoss (d : Dev) (aon : Bool) : Dev :=
  let held := [(SCH_SIGN_ENFORCE, d.rd SCH_SIGN_ENFORCE), (GLB_THERM_STATUS_TRIP, d.rd GLB_THERM_STATUS_TRIP),
    (GLB_THERM_STATUS_TRIP_DIE, d.rd GLB_THERM_STATUS_TRIP_DIE), (AON_CHRYSALIS_STATUS_B0_RUN, d.rd AON_CHRYSALIS_STATUS_B0_RUN),
    (AON_REG_BROWNOUT_SEEN, d.rd AON_REG_BROWNOUT_SEEN), (AON_REG_TIME_SUSPECT, d.rd AON_REG_TIME_SUSPECT), (HP_STATUS_MGR d.mgrPort, d.rd (HP_STATUS_MGR d.mgrPort))]
  let m := d.mgt
  let e : Dev := { now := d.now, fresh := d.fresh, out := d.out, serial := d.serial, readSeq := d.readSeq, pwr := { d.pwr with vdd := 780000 },
                   ports := d.ports.filterMap (fun e => if e.2.perst then none else some (e.1, { perst := false })),
                   regs := d.regs.filter (fun e => vstbyHeld (e.1 / 32) || (aon && (aonBlock (e.1 / 32) || octPeak e.1))) }
  let flash : Mgmt := { flashActive := m.flashActive, versions := m.versions }
  let e := { e with mgt := if aon then { flash with bound := m.bound, wires := m.wires, coreSlot := m.coreSlot, coreVersion := m.coreVersion, staged := m.staged } else flash }
  let e := { e with bay := { closedAt := d.now }, flt := { wins := if aon then d.flt.wins.filter (fun w => w.unit == unitBase .aon) else [] } }
  let e := e.wrs held
  let shorted := fun b => bit (e.rd BAY_SHORTED_LO_BAY + 2 ^ 32 * e.rd BAY_SHORTED_HI_BAY) b
  (List.range 64).foldl (fun e b => if shorted b then e.wr (BAY_STATUS_STATE b) bsShorted else e) e

/-- PWR_EN deasserts (R500, R549) and every bay gate goes off. -/
def Dev.rackOff (d : Dev) (aon : Bool) : Dev := Dev.emit (d.allGatesOff.powerLoss aon) (.pwrEn false)

/-! ## Diapause entry (R410–R413) -/

/-- The journal holds only what the drain leaves out (R259): parked entries, the request's own command, and admin
commands that wait for it. -/
def Dev.drained (d : Dev) (q : PReq) : Bool :=
  d.liveSlots.all (fun n =>
    let e := d.entry n
    let o := dOpcode e.desc
    e.state == 5 || q.cmd == some n || (e.state == 1 && (o == 0x91 || o == 0x92 || o == 0xB0 || o == 0xD1)))

/-- The admin commands that wait for the request complete with ABORTED before step 3 (R259). -/
def Dev.abortWaiting (d : Dev) (q : PReq) : Dev :=
  d.liveSlots.foldl (fun d n => if (d.entry n).state ≠ 5 ∧ q.cmd ≠ some n then (d.finish n stAborted).flushSeq n else d) d

/-- An entry begins its next step. -/
def Dev.entryStep (d : Dev) (q : PReq) (k : Nat) : Dev :=
  Dev.wr { d with pwr := { d.pwr with req := some { q with step := k, stepAt := d.now } } } GLB_POWER_STATUS_PHASE k

/-- The RESULT of an unwind: WAKE, PORT, DRAIN_TIMEOUT in that order (R411), then SELFTEST (R416). The abort point fixes it. -/
def PReq.cause (q : PReq) : Nat := q.result.getD (if q.wake then 2 else if q.port then 3 else if q.drain then 4 else 8)

/-- The device is ACTIVE again after an unwind (R411). -/
def Dev.unwindEnd (d : Dev) (q : PReq) : Dev :=
  let d := if q.dormant then d.dormantExit else d
  (d.endRequest q.cmd q.cause).resumeFetch

/-- The GDDR6 reload of an unwind ends with a RESULT of R423 (R411): on failure GDDR6's items are lost and ECLOSION_INCOMPLETE is
held before fetch resumes. -/
def Dev.reloadEnd (d : Dev) (r : Nat) : Dev :=
  match d.pwr.req with
  | some q =>
    if !q.reload then d
    else
      let d := d.wrs [(AON_MIRROR_STATUS_PHASE, 0), (AON_MIRROR_STATUS_RESULT, r)]
      let d := if q.step = 6 then d.inc AON_SEAL_COUNT_COUNT else d
      let d := { d with pwr := { d.pwr with banks := [] } }
      if r = 1 then d.unwindEnd q else ((d.loseMirror).wr AON_STATE_INCOMPLETE 1).unwindEnd q
  | none => d

/-- The read of the mirror is made for slice 0, and answers whether it has not failed (R35, R37, R53, R411, R423). -/
def Dev.pullRead (d : Dev) : Bool × Dev := d.hostRead 0 d.mirrorAddr (d.rd AON_MIRROR_LEN_VALUE) false .mirror

/-- An unwind at the abort point after step `q.step` (R411): after steps 4 to 6 GDDR6 is reloaded first. -/
def Dev.unwind (d : Dev) (q : PReq) : Dev :=
  let q := { q with result := some q.cause }
  let d := d.wr GLB_POWER_STATUS_ABORT_STEP q.step
  if q.step < 4 then d.unwindEnd q
  else
    let r := (Dev.wr { d with pwr := { d.pwr with req := some { q with reload := true } } } AON_MIRROR_STATUS_PHASE 2).pullRead
    if r.1 then r.2 else r.2.reloadEnd 2

/-- Does a trained port stand outside L2/L3 Ready (R410)? -/
def Dev.portsAwait (d : Dev) : Bool := (List.range 8).any (fun n => (d.port n).linkUp && !(d.port n).l23)

/-- The commit (R410, R412, R413): ports not ready drop their links, gates off, PWR_EN off, low-power mode; a wake held
during the commit then starts the eclosion. -/
def Dev.commit (d : Dev) : Dev :=
  let d := d.rackOff true
  let p := d.pwr
  let y := { p with mode := 2, req := none, noIntake := false, awake := [], stalls := [] }
  let d := Dev.wr { d with pwr := { y with wasActive := [], gddr := false, fw := false } } AON_REG_LOW_POWER 1
  let d := d.wr AON_STATE_PHASE 0
  if p.wakeHeld then d.eclosionBegin else d

/-- Step 7 begins: the ENTER_STATE completion is written; with no trained port the commit follows at once (R410). -/
def Dev.commitBegin (d : Dev) (q : PReq) : Dev :=
  let d := d.entryStep q 7
  let d := (d.wr GLB_POWER_STATUS_RESULT 1).raise 1
  let d := match q.cmd with
    | some n => (d.finish n stSuccess).flushSeq n
    | none => d
  if d.portsAwait then d else d.commit

/-- A step ends and its abort point follows (R410, R411, R416): at the end of step 3 the ledger's last interval is closed and the
mirror has been written; `weak` names banks that failed step 5's self-test. -/
def Dev.abortPoint (d : Dev) (q : PReq) (weak : Nat) : Dev :=
  let bad := q.step == 5 && weak != 0
  let d := if bad then
      (d.wr AON_CHRYSALIS_STATUS_SELFTEST_FAIL (Nat.lor (d.rd AON_CHRYSALIS_STATUS_SELFTEST_FAIL) weak)).fault
        { unit := .aon, src := 2, detail := weak }
    else d
  let stop := bad && !d.flag AON_ENTRY_CFG_ALLOW_WEAK_BANK
  let d := if q.step = 3 then ((d.ledgerLast).writeMirror).wr AON_MIRROR_STATUS_PHASE 0
    else if q.step = 5 then d.saveBanks weak else if q.step = 6 then d.sealBanks else d
  let q := if q.step = 3 then d.pwr.req.getD q else q
  if q.wake || q.port || q.drain || stop then d.unwind q
  else if q.step = 2 then ((d.abortWaiting q).entryStep q 3).wr AON_MIRROR_STATUS_PHASE 1
  else if q.step = 6 then d.commitBegin q
  else d.entryStep q (q.step + 1)

/-- An entry step ends (R410, R411). The drain, step 2, ends under DRAIN_COMPLETE and DRAIN_TIMEOUT. -/
def diapauseAbortPoint (weak : Nat) (d : Dev) : Dev :=
  match d.pwr.req with
  | some q =>
    if q.target ≠ 2 ∨ q.reload ∨ q.step = 2 ∨ 6 < q.step then d
    else if q.step = 1 then
      let q' := { q with drainAt := d.now }
      Dev.abortPoint { d with pwr := { d.pwr with req := some q' } } q' 0
    else d.abortPoint q weak
  | none => d

/-- Steps 4 to 6 of R400: links DISABLED, octants, engines and GDDR6 down, the completion written. -/
def Dev.dormantEnter (d : Dev) (q : PReq) : Dev :=
  let d := { d with pwr := { d.pwr with wasActive := d.activeLinks } }
  let d := (d.linksOff (List.range 8)).allEnginesOff
  let d := d.endRequest q.cmd 1
  let d := match q.cmd with
    | some n => d.flushSeq n
    | none => d
  Dev.sampleEngines (Dev.wr { d with pwr := { d.pwr with mode := 1, noIntake := true } } GLB_POWER_STATUS_CUR 1)

/-- The journal is drained: a DORMANT or diapause entry proceeds (R259, R400, R410). -/
def drainComplete (d : Dev) : Dev :=
  match d.pwr.req with
  | some q =>
    if !d.drained q ∨ q.reload then d
    else if q.target = 1 then d.dormantEnter q
    else if q.step = 2 then d.abortPoint q 0
    else d
  | none => d

/-- DRAIN_MS expires during the drain (R400, R410, R411). -/
def drainTimeout (d : Dev) : Dev :=
  match d.pwr.req with
  | some q =>
    if q.target = 1 then
      ((d.advance (q.drainAt + 1000000 * d.rd AON_ENTRY_CFG_DRAIN_MS)).endRequest q.cmd 4).resumeFetch
    else if q.step = 2 then
      (d.advance (q.drainAt + 1000000 * d.rd AON_ENTRY_CFG_DRAIN_MS)).abortPoint { q with drain := true } 0
    else d
  | none => d

/-- COMMIT_WAIT ends: ports not ready see link down and the commit completes (R410, R412). -/
def commitWaitExpire (d : Dev) : Dev :=
  match d.pwr.req with
  | some q => if q.step = 7 then (d.advance (q.stepAt + 1000000 * d.rd AON_ENTRY_CFG_COMMIT_WAIT)).commit else d
  | none => d

def wakeFeed (d : Dev) : Dev := if d.flag AON_WAKE_ARM_FEED then d.wake 1 0 else d
def wakeAux (d : Dev) : Dev := if d.flag AON_WAKE_ARM_AUX then d.wake 2 0 else d

/-- An armed activity detector without a pattern detector (R408). -/
def wakeHostActivity (n : Nat) (d : Dev) : Dev :=
  if bit (d.rd AON_WAKE_ARM_ACT) n && !bit (d.rd AON_WAKE_ARM_PAT) n then d.wake 4 n else d

/-- The 16th burst of the wake pattern on a port whose pattern detector is armed (R408). -/
def wakeHostPattern (n : Nat) (d : Dev) : Dev :=
  if bit (d.rd AON_WAKE_ARM_ACT) n && bit (d.rd AON_WAKE_ARM_PAT) n then d.wake 5 n else d

/-- A marked source becomes pending in DIAPAUSE or during an entry (R407, R444). -/
def wakeEyespot (s : Nat) (d : Dev) : Dev :=
  if d.hubOff then d.spotWake s
  else if d.watched s && (d.pwr.req.map (·.target)) == some 2 && !d.evc.pend.contains s then d.becomesPending s
  else d

/-- DEVICE_TIME reaches AON_ALARM (R407). -/
def aonAlarm (d : Dev) : Dev := (d.advance (d.rd64 AON_ALARM_LO_NS AON_ALARM_HI_NS)).raise 47

/-- The always-on island browns out in low-power mode (R403). -/
def brownout (d : Dev) : Dev :=
  if d.pwr.mode = 2 ∧ d.flag AON_REG_LOW_POWER then
    let run := d.rd AON_CHRYSALIS_STATUS_B0_RUN
    let d := d.resetExcept (fun a => !aonBlock a || a == AON_SEAL_COUNT || a == AON_REG)
    let d := { d with pwr := { d.pwr with banks := [], spot := none } }
    let d := d.wrs [(AON_CHRYSALIS_STATUS_B0_RUN, run), (AON_REG_BROWNOUT_SEEN, 1), (AON_REG_TIME_SUSPECT, 1)]
    d.fault { unit := .aon, src := 5 }
  else d

/-! ## Cold start (R494–R505) -/

/-- The record of R504 is used, or BOARD_BAD is set and no rail is (R505). -/
def Dev.boardRecord (d : Dev) (r : Option (List Rail)) : Dev :=
  let bad := match r with
    | none => true
    | some l => l.any (fun x => x.role.toNat == 0 || decide (7 < x.role.toNat)) || decide (16 < l.length)
  let d := d.wr GLB_BOOT_BOARD_BAD (b2n bad)
  let l := if bad then [] else r.getD []
  (List.range 16).foldl (fun d n =>
    match l[n]? with
    | some x => d.wrs [(GLB_RAIL_ADDR n, x.addr.toNat), (GLB_RAIL_PAGE n, x.page.toNat), (GLB_RAIL_ROLE n, x.role.toNat),
        (GLB_RAIL_EOUT n, b2n x.eout), (GLB_RAIL_VALID n, 1)]
    | none => d.wr (GLB_RAIL_VALID n) 0) d

/-- Replay-buffer column repair (R473): four spares per octant; the fuses' failing columns. -/
def Dev.repairColumns (d : Dev) : Dev :=
  (List.range 8).foldl (fun d o =>
    let n := Config.fuseColumns o
    d.wrs [(SPR_RBFIX_COLUMNS o, Nat.min 4 n), (SPR_RBFIX_UNREPAIRED o, b2n (decide (4 < n)))]) d

/-- At the assertion of POR_N only a scar bit goes on driving FAULT_N (R464, R500, R519). -/
def Dev.releaseFaultN (d : Dev) : Dev :=
  if d.flag GLB_GRAVE_DEVICE || d.flag GLB_GRAVE_BAY then d else d.emit (.faultN false)

/-- POR_N asserts (R496, R531). -/
def porAssert (d : Dev) : Dev :=
  let d := (d.rackOff false).releaseFaultN
  let y := { d.pwr with mode := 5, por := true, req := none, noIntake := false, banks := [], mirror := none }
  Dev.wrs { d with pwr := { y with awake := [], stalls := [], wasActive := [], trained := false, spot := none, unlocked := false } }
    [(GLB_TEST_FACTORY, 0), (GLB_TEST_UNLOCKED, 0)]

/-- POR_N releases (R34, R470, R496, R497, R499): straps sampled, C1. -/
def porRelease (mgr refclk test flash : Nat) (d : Dev) : Dev :=
  if !d.pwr.por then d
  else
    let d := (d.wr (HP_STATUS_MGR d.mgrPort) 0).wrs [(GLB_STRAP_MGR_PORT, mgr), (GLB_STRAP_REFCLK_MODE, refclk), (GLB_STRAP_TEST_MODE, test), (GLB_STRAP_FLASH_MODE, flash),
      (GLB_TEST_FACTORY, b2n (test == 2)), (GLB_BOOT_STAGE, 2), (GLB_BOOT_COLD_CAUSE, 0), (AON_REG_LOW_POWER, 0), (HP_STATUS_MGR mgr, 1)]
    let d := d.inc AON_SEAL_COUNT_COUNT
    let y := { d.pwr with por := false, blocked := false, startsBarred := false, pulling := false, gddr := false, fw := false }
    Dev.emit { d with pwr := { y with e5Since := none, wakeHeld := false } } (.pwrEn true)

/-- GLB_TIME starts from the timer (R425). -/
def Dev.timeLatch (d : Dev) : Dev := d.wrs [(GLB_TIME_LO_NS, d.now), (GLB_TIME_HI_NS, d.now / 2 ^ 32)]

/-- C3 (R473, R497–R499, R504): reset releases, fuses load, columns are repaired, the board record is read. -/
def Dev.coldC3 (d : Dev) (r : Option (List Rail)) : Dev :=
  let d := { d with pwr := { d.pwr with mode := 4 } }
  let d := (((d.wr GLB_BOOT_STAGE 3).repairColumns).boardRecord r).setVdd 0
  let d := if d.rd GLB_STRAP_TEST_MODE = 1 then (d.wr GLB_BOOT_STRAP_BAD 1).assertFaultN else d
  (d.evcRestart none).timeLatch

/-- The rails of a cold start are good (R499). -/
def coldRailsGood (r : Option (List Rail)) (d : Dev) : Dev :=
  if d.pwr.mode = 5 ∧ ¬d.pwr.por ∧ ¬d.pwr.blocked then d.coldC3 r else d

/-- The rails are not good 10 ms after PWR_EN (R500). -/
def coldRailTimeout (d : Dev) : Dev :=
  if d.pwr.mode = 5 ∧ ¬d.pwr.por ∧ ¬d.pwr.blocked then
    Dev.assertFaultN (Dev.emit { d with pwr := { d.pwr with blocked := true } } (.pwrEn false))
  else d

/-- The slot a core runs: the one ACTIVE names, else the other (R502). -/
def coreSlot (active : Nat) (ok0 ok1 : Bool) : Option Nat :=
  let ok := fun s => if s = 0 then ok0 else ok1
  if ok active then some active else if ok (1 - active) then some (1 - active) else none

/-- A core's slot as a number: 0 none, else the slot + 1. -/
def slotNo (o : Option Nat) : Nat := match o with | some s => s + 1 | none => 0

/-- With the device scar set, the device enters GRAVE once its firmware is authenticated and a port can be enumerated (R467). -/
def Dev.scarGrave (d : Dev) : Dev :=
  if d.flag GLB_GRAVE_DEVICE && !d.flt.grave && d.pwr.mode == 0 && (List.range 8).any (fun n => (d.port n).linkUp) then d.enterGrave else d

/-- C4 ends (R465, R467, R487, R502, R503): `active` is the directory's ACTIVE, 0 when its CRC fails; then whether each
slot passes its check on MCA and on MCB, and the slots' versions. -/
def firmwareAuthDone (active : Nat) (a0 a1 b0 b1 : Bool) (v0 v1 : Nat) (d : Dev) : Dev :=
  let test := d.rd GLB_STRAP_TEST_MODE
  if d.pwr.mode ≠ 4 ∨ d.flag GLB_BOOT_FW_FAIL ∨ test = 1 ∨ test = 3 then d
  else
    -- a core lost before stays lost (R465)
    let ca := if d.flag MGT_STATUS_MCA_LOST then none else coreSlot active a0 a1
    let cb := if d.flag MGT_STATUS_MCB_LOST then none else coreSlot active b0 b1
    let runs := fun (c : Option Nat) => match c with | some s => if s = 0 then v0 else v1 | none => 0
    let m := { d.mgt with flashActive := active, versions := ((d.mgt.versions.set 0 v0 0).set 1 v1 0) }
    let d := { d with mgt := { m with coreSlot := Tab.set (Tab.set [] 0 (slotNo ca) 0) 1 (slotNo cb) 0,
                                      coreVersion := Tab.set (Tab.set [] 0 (runs ca) 0) 1 (runs cb) 0 } }
    let newly := (ca.isNone && !d.flag MGT_STATUS_MCA_LOST) || (cb.isNone && !d.flag MGT_STATUS_MCB_LOST)
    let d := d.wrs [(GLB_BOOT_STAGE, 4), (GLB_FW_UPDATE_NEXT_SLOT, active), (MGT_STATUS_MCA_LOST, b2n ca.isNone),
      (MGT_STATUS_MCB_LOST, b2n cb.isNone), (MGT_STATUS_ACTIVE_CORE, b2n ca.isNone), (MGT_STATUS_STANDBY_READY, b2n (ca.isSome && cb.isSome))]
    match (match ca with | some s => some s | none => cb) with
    | none => (d.wr GLB_BOOT_FW_FAIL 1).assertFaultN
    | some s =>
      let fb := (match ca with | some x => x != active | none => false) || (match cb with | some x => x != active | none => false)
      let d := d.wrs [(GLB_BOOT_FW_SLOT, s), (GLB_BOOT_FW_FALLBACK, b2n fb), (GLB_POWER_STATUS_CUR, 0)]
      let d := if newly then d.fault { unit := .mgt, src := 3, detail := if ca.isNone then 0 else 1 } else d
      let up := (List.range 8).any (fun n => (d.port n).linkUp)
      let d := { (d.wr GLB_BOOT_STAGE (if up then 6 else 4)) with pwr := { d.pwr with mode := 0 } }
      d.scarGrave

/-! ## Eclosion (R419–R424) -/

/-- The restored items of a bank (R383, R385, R414). -/
def Dev.restoreBank (d : Dev) (i : Nat) : Dev :=
  let b := d.pwr.banks.get i {}
  let d := b.regs.foldr (fun e d => { d with regs := d.regs.set e.1 e.2 (resetField e.1) }) d
  -- the link's state is the link's, and PowerState reads D0 (R52, R56)
  let d := (bankPorts i).foldl (fun d n =>
    let p := d.port n
    let d := d.setPort n { b.ports.get n {} with perst := p.perst, linkUp := p.linkUp, l23 := p.l23 }
    d.wrs [(HP_STATUS_SPEED n, 0), (HP_STATUS_WIDTH n, 0), (HP_STATUS_FLIT n, 0), (HP_STATUS_DSTATE n, 0), (HP_STATUS_EGRESS_HOLD n, 0)]) d
  let d := if i = 0 then Dev.allEnginesOff { d with sch := { d.sch with key := b.key.map (BitVec.ofNat 8) } } else d
  let d := if i = 4 then { d with bay := { d.bay with railRem := b.railRem, bayRem := b.bayRem } } else d
  let d := if i = 5 then { d with flt := { d.flt with b5 := b.rec5 } } else d
  if i ≠ 3 then d
  else
    let dt := d.now - b.savedAt
    let d := d.wr BAY_GROUP_STARTING d.starting
    b.bays.foldl (fun (d : Dev) (e : Nat × BayT) =>
      let d := d.setBay e.1 { fetA := d.fetDecay e.2.fetA dt, fetB := d.fetDecay e.2.fetB dt }
      if e.2.timer = 1 ∧ d.bayState e.1 ≠ bsShorted then d.wr (BAY_STATUS_STATE e.1) bsCooling else d) d

/-- Does bank `i` pass its seal check (R415)? `bad` names banks with an uncorrectable word or a wrong CRC. -/
def Dev.bankPasses (d : Dev) (bad i : Nat) : Bool :=
  let b := d.pwr.banks.get i {}
  !bit bad i && !b.weak && d.pwr.banks.keys.contains i && b.no == i && b.count == d.rd AON_SEAL_COUNT_COUNT

/-- E3: the seal checks (R415): banks that pass are restored, unless B0 is lost and a cold start follows (R421). -/
def Dev.restoreBanks (d : Dev) (lost : Nat) : Dev :=
  let enforce := d.rd SCH_SIGN_ENFORCE
  let d := if bit lost 0 then d else (List.range 6).foldl (fun d i => if bit lost i then d else d.restoreBank i) d
  let d := d.inc AON_SEAL_COUNT_COUNT
  let d := d.wrs [(AON_CHRYSALIS_STATUS_BANK_LOST, lost), (SCH_SIGN_ENFORCE, enforce)]
  if bit lost 4 then
    (d.resetExcept (fun a => !(aonBlock a && bankOf a == some 4))).wr GLB_LEDGER_STATUS_DISCONTINUOUS 1
  else d

/-- E3 with B0 lost: a full cold start from C3 on, for the cause given, grave when B0_RUN reaches 2 (R421, R463). -/
def Dev.b0Lost (d : Dev) (cause lost corrected : Nat) (r : Option (List Rail)) : Dev :=
  let d := (d.powerLoss false).wrs [(AON_CHRYSALIS_STATUS_BANK_LOST, lost), (AON_CHRYSALIS_STATUS_CORRECTED, Nat.min 255 corrected)]
  let d := d.wrs [(AON_CHRYSALIS_STATUS_B0_RUN, Nat.min 3 (d.rd AON_CHRYSALIS_STATUS_B0_RUN + 1)), (GLB_BOOT_COLD_CAUSE, cause), (AON_STATE_PHASE, 0)]
  let y := { d.pwr with trained := false, startsBarred := false, unlocked := false }
  let d := Dev.coldC3 { d with pwr := { y with spot := none } } r
  if 2 ≤ d.rd AON_CHRYSALIS_STATUS_B0_RUN then d.fault { unit := .aon, src := 4, detail := 1 } else d

/-- E3 with B0 restored (R90, R419, R445, R473, R504, R505). -/
def Dev.b0Good (d : Dev) (r : Option (List Rail)) : Dev :=
  let spot := d.pwr.spot
  let d := { d with pwr := { d.pwr with mode := 3, spot := none } }
  let d := ((d.repairColumns).boardRecord r).setVdd (d.rd GLB_PROFILE_STATUS_CUR_RATE)
  let d := d.wr GLB_FW_UPDATE_NEXT_SLOT d.mgt.flashActive
  let d := if d.flag GLB_BOOT_BOARD_BAD then d.wr GLB_LEDGER_STATUS_DISCONTINUOUS 1 else d
  let d := ((d.evcRestart spot).timeLatch).wr AON_STATE_PHASE 4
  d.wrs [(AON_CHRYSALIS_STATUS_B0_RUN, 0), (SLC_GLOBAL_INSTAR_BUSY, 1), (SLC_GLOBAL_REASON, 1)]

/-- E3 (R383, R415, R420, R421). -/
def Dev.eclosionE3 (d : Dev) (bad corrected : Nat) (r : Option (List Rail)) : Dev :=
  let lost := listMask ((List.range 6).filter (fun i => !d.bankPasses bad i))
  let d := (d.restoreBanks lost).wr AON_CHRYSALIS_STATUS_CORRECTED (Nat.min 255 corrected)
  let y := { d.pwr with gddr := false, fw := false, pulling := false, e5Since := none }
  let d := { d with pwr := { y with banks := [] } }
  let d := if bit lost 0 then d.b0Lost 1 lost corrected r else d.b0Good r
  if lost ≠ 0 then d.fault { unit := .aon, src := 3, detail := lost } else d

/-- The rails are good after a wake (R403, R419): the seal checks' outcome, the words corrected and the board record. After
a brown-out every bank is lost, B0 with them, and a cold start follows (R421). -/
def eclosionRailsGood (bad corrected : Nat) (r : Option (List Rail)) (d : Dev) : Dev :=
  if d.pwr.mode ≠ 2 ∨ d.rd AON_STATE_PHASE ≠ 2 then d
  else if d.flag AON_REG_BROWNOUT_SEEN then
    let d := d.inc AON_SEAL_COUNT_COUNT
    (Dev.b0Lost { d with pwr := { d.pwr with banks := [], mirror := none } } 2 63 0 r).fault { unit := .aon, src := 3, detail := 63 }
  else d.eclosionE3 bad corrected r

/-- The rails are not good within RAIL_TO (R419). -/
def eclosionRailTimeout (d : Dev) : Dev :=
  if d.pwr.mode = 2 ∧ d.rd AON_STATE_PHASE = 2 then
    let d := d.advance (d.pwr.railAt + 1000000 * d.rd AON_ECLOSION_CFG_RAIL_TO)
    let d := d.wrs [(AON_STATE_PHASE, 0), (AON_STATE_REASON, 1), (AON_REG_LOW_POWER, 1)]
    Dev.emit { d with pwr := { d.pwr with spot := none } } (.pwrEn false)
  else d

/-- E5's wait for Bus Master Enable begins once GDDR6 and firmware are ready (R419, R423). -/
def Dev.e5Ready (d : Dev) : Dev :=
  if d.pwr.gddr && d.pwr.fw && d.pwr.e5Since.isNone then { d with pwr := { d.pwr with e5Since := some d.now } } else d

/-- GDDR6 has trained from its trims (R419). -/
def gddr6Retrained (d : Dev) : Dev :=
  if d.pwr.mode = 3 ∧ ¬d.flt.grave then Dev.e5Ready { d with pwr := { d.pwr with gddr := true, trained := true } } else d

/-- The management firmware runs again, checked against the B0 digest (R419, R511); with the device scar set, the device
then enters GRAVE (R467). -/
def firmwareReloaded (d : Dev) : Dev :=
  if d.pwr.mode ≠ 3 then d
  else if d.flag GLB_GRAVE_DEVICE then Dev.scarGrave { d with pwr := { d.pwr with mode := 0 } }
  else Dev.e5Ready { d with pwr := { d.pwr with fw := true } }

/-- E6 begins: bays may start, links train and descriptors are fetched (R20, R419, R422). -/
def Dev.e6 (d : Dev) : Dev :=
  let d := { d with pwr := { d.pwr with startsBarred := false } }
  let d := ((d.wr AON_STATE_PHASE 6).bayTryAll).linksOn (List.range 8)
  d.queues.keys.foldl (fun d q => d.readMore q) d

/-- E5 ends (R420, R422–R424): the device is ACTIVE, or holds ECLOSION_INCOMPLETE. -/
def Dev.e5End (d : Dev) (result : Nat) : Dev :=
  let busy := d.mgt.recovering.isSome
  let d := d.wrs [(AON_MIRROR_STATUS_PHASE, 0), (AON_MIRROR_STATUS_RESULT, result), (SLC_GLOBAL_INSTAR_BUSY, b2n busy),
    (SLC_GLOBAL_REASON, 2 * b2n busy), (GLB_POWER_STATUS_CUR, 0)]
  let d := if result = 1 then d else d.loseMirror
  -- R461: the fault history is not in the mirror
  let d := { d with flt := { d.flt with hist := [], histSeq := 0 } }
  let p := d.pwr
  let y := { p with mode := 0, pulling := false, e5Since := none, eclosions := (p.eclosions + 1) % 2 ^ 32 }
  let d := Dev.allEnginesOn { d with pwr := y }
  if result ≠ 1 ∨ d.rd AON_CHRYSALIS_STATUS_BANK_LOST ≠ 0 then (d.wr AON_STATE_INCOMPLETE 1).wr AON_STATE_PHASE 0
  else d.e6

/-- The mirror pull starts (R419); after a lost B4 there is none (R421). -/
def mirrorPullStart (d : Dev) : Dev :=
  if d.pwr.mode ≠ 3 ∨ ¬d.pwr.gddr ∨ ¬d.pwr.fw ∨ d.pwr.pulling ∨ d.flt.grave then d
  else if bit (d.rd AON_CHRYSALIS_STATUS_BANK_LOST) 4 then d.e5End 7
  else if d.canIssue d.mgrPort && !d.egressHeld d.mgrPort then
    let d := d.wrs [(AON_MIRROR_STATUS_PHASE, 2), (AON_STATE_PHASE, 5)]
    let r := Dev.pullRead { d with pwr := { d.pwr with pulling := true } }
    if r.1 then r.2 else r.2.e5End 2
  else d

/-- The SEQ a pulled mirror must have: in an eclosion the banks' COUNT, which is AON_SEAL_COUNT − 1 by then (R415), in an unwind
the value that step 3 wrote (R411, R423). -/
def Dev.pullSeq (d : Dev) : Nat :=
  if d.pwr.mode = 3 then (d.rd AON_SEAL_COUNT_COUNT + 2 ^ 32 - 1) % 2 ^ 32 else (d.pwr.mirror.map (·.seq)).getD (2 ^ 32)

/-- The pull of the mirror ends with a RESULT of R423, in an eclosion or in an unwind (R411, R423, R424). -/
def Dev.pullEnds (d : Dev) (r : Nat) : Dev :=
  if d.pwr.mode ≠ 3 then d.reloadEnd r
  else if !d.pwr.pulling then d
  else if r ≠ 1 then d.e5End r
  else
    match d.pwr.mirror with
    | some m => if m.seq = d.pullSeq then (d.restoreMirror m).e5End 1 else d.e5End 3
    | none => d.e5End 3

/-- Bus Master Enable was not set within MIRROR_WAIT (R423). -/
def mirrorWaitExpire (d : Dev) : Dev :=
  match d.pwr.e5Since with
  | some t =>
    if d.pwr.mode ≠ 3 ∨ d.pwr.pulling ∨ (d.port d.mgrPort).bme then d
    else (d.advance (t + 1000000 * d.rd AON_ECLOSION_CFG_MIRROR_WAIT)).e5End 6
  | none => d

/-- AON_ECLOSION_ACK (R422): BANK_LOST and ECLOSION_INCOMPLETE clear, and E6 begins. -/
def eclosionAck (v : Nat) (d : Dev) : Dev :=
  d.setup AON_ECLOSION_ACK v (fun d =>
    if bit v 0 && d.flag AON_STATE_INCOMPLETE then (d.wrs [(AON_STATE_INCOMPLETE, 0), (AON_CHRYSALIS_STATUS_BANK_LOST, 0)]).e6 else d)

/-! ## Temperature and VSTBY (R9, R549, R550) -/

/-- A die sensor stands at or above its trip level (R549). In DIAPAUSE only BPA's sensor is powered. -/
def thermalTrip (die temp : Nat) (d : Dev) : Dev :=
  if d.pwr.por ∨ 10 < die ∨ (d.hubOff ∧ die ≠ 9) then d
  else
    let d := if d.hubOff then d else d.dieTemp die temp
    let d := d.wrs [(GLB_THERM_STATUS_TRIP, 1), (GLB_THERM_STATUS_TRIP_DIE, die)]
    let stage := d.rd GLB_BOOT_STAGE
    let d := (d.rackOff true).assertFaultN
    let y := { d.pwr with mode := if d.pwr.mode = 2 then 2 else 5, blocked := true, req := none, noIntake := false, awake := [] }
    let d := { d with pwr := { y with stalls := [], wasActive := [], wakeHeld := false, pulling := false, e5Since := none } }
    d.wrs [(GLB_BOOT_STAGE, stage), (AON_STATE_PHASE, 0)]

/-- A die sensor reads at or above its warning threshold (R550). -/
def thermalWarning (die temp : Nat) (d : Dev) : Dev :=
  let lim := 8 * (if die < 9 then d.rd GLB_THERM_CFG_WARN_C else d.rd GLB_THERM_CFG_WARN_BP_C)
  if d.hubOff ∨ 10 < die then d
  else
    let d := d.dieTemp die temp
    if lim ≤ temp then d.wr GLB_THERM_STATUS_WARN (Nat.lor (d.rd GLB_THERM_STATUS_WARN) (2 ^ die)) else d

/-- GLB_TEMP.PEAK_CLR (R550). -/
def peakClr (die v : Nat) (d : Dev) : Dev :=
  d.setup (GLB_TEMP die) v (fun d => if bit v 28 then d.wr (GLB_TEMP_PEAK die) 0 else d)

/-- VSTBY is removed and applied again (R9, R464, R549): the flash alone keeps its contents. -/
def vstbyPowerCycle (d : Dev) : Dev :=
  Dev.releaseFaultN { fresh := d.fresh, out := d.out, serial := d.serial, mgt := { flashActive := d.mgt.flashActive, versions := d.mgt.versions } }

end Sys2Proof.Machine
end

