-- ==== Sys2Proof/Machine/Spares.lean ====
section
/-! DEFINITION. Spares, online test and the management pair (R473–R493), GDDR6 (R506–R510) and FW_UPDATE (R511). -/
namespace Sys2Proof.Machine

/-! ## Logs, tests, and who uses a unit -/

/-- An entry of the management log (R491). -/
def Dev.mlog (d : Dev) (code unit d0 d1 d2 : Nat) : Dev :=
  let q := if d.mgt.logSeq = 0xFFFFFFFF then 1 else d.mgt.logSeq + 1
  let l := d.mgt.log ++ [⟨d.now, q, code, d.rd MGT_STATUS_ACTIVE_CORE, unit, d0, d1, d2⟩]
  { d with mgt := { d.mgt with log := if 4096 < l.length then l.drop 1 else l, logSeq := q } }

/-- Plans of the image in force that slice `s` may use. -/
def Dev.permPlans (d : Dev) (s : Nat) : List Plan :=
  match d.inForce with
  | none => []
  | some g => g.plans.filterMap (fun e => if d.flag (SLC_PERM_READ s e.1) || d.flag (SLC_PERM_WRITE s e.1) then e.2 else none)

/-- The hub calendar slots of slice `s`: those assigned to it, or the MGR runs of slice 0 (R70, R72). -/
def Dev.sliceRuns (d : Dev) (s : Nat) : List Nat :=
  if s = 0 then (d.inForce.map (fun g => g.mgr.getD d.mgrPort [])).getD [] else (d.sch.assign.filter (fun a => a.2 == s + 1)).map (·.1)

/-- Does slice `s` use logical engine `e` (R90, R480)? -/
def Dev.usesEngine (d : Dev) (s e : Nat) : Bool :=
  (d.permPlans s).any (fun p => decide (p.f ≤ e) && decide (e < p.f + 2 ^ p.log2g))
    || (d.sliceRuns s).any (fun h => d.inForce.any (fun g => runEngine (g.hub.getD h 0) == e))

/-- Does slice `s` use octant `o` (R90, R480)? -/
def Dev.usesOctant (d : Dev) (s o : Nat) : Bool :=
  (List.range 8).any (fun i => d.usesEngine s (8 * o + i)) || (d.permPlans s).any (fun p => p.targets.any (fun t => t.1 / 64 == o))

/-- Is a test under way, from its acceptance on, that concerns slice `s`: of an engine it uses, of an octant it uses, or of a GDDR6
channel (R90, R480)? -/
def Dev.inTest (d : Dev) (s : Nat) : Bool :=
  d.flag SPR_MEMTEST_BUSY || d.mgt.octs.any (fun a => a.cmd.isSome && d.usesOctant s a.oct)
    || d.mgt.swaps.any (fun w => w.kind == 1 && w.test.isSome && d.usesEngine s w.unit)
    || d.eng.tests.keys.any (fun p => match d.eng.tested.get p 0 with
      | 0 => false
      | e + 1 => d.usesEngine s e)

/-- TEST_BUSY of every slice follows the tests under way (R90, R480). -/
def Dev.testRest (d : Dev) : Dev :=
  d.liveSlices.foldl (fun d s => if d.flag (SLC_STATE_TEST_BUSY s) = d.inTest s then d else d.wr (SLC_STATE_TEST_BUSY s) (b2n (d.inTest s))) d

/-- The test of an engine is over. -/
def Dev.dropTest (d : Dev) (p : Nat) : Dev :=
  { d with eng := { d.eng with tests := d.eng.tests.set p 0 0, tested := d.eng.tested.set p 0 0, testCells := d.eng.testCells.set p 0 0 } }

/-- The test of a physical engine that served logical engine `l` − 1, or none, begins (R479). -/
def Dev.beginTest (d : Dev) (p n l : Nat) : Dev :=
  Dev.wr { d with eng := { d.eng with tests := d.eng.tests.set p (n + 1) 0, tested := d.eng.tested.set p l 0, testCells := d.eng.testCells.set p 0 0 } }
    SPR_TEST_CELLS_CELLS 0

/-- A TEST_UNIT ends: outcome, log, source 51 and the command's completion (R427, R486, R491). -/
def Dev.endTest (d : Dev) (n kind code unit outcome : Nat) : Dev :=
  let d := d.wrs [(SPR_TEST_BUSY, 0), (SPR_TEST_OUTCOME, outcome)]
  let d := ((d.mlog 9 kind code unit outcome).testRest).raise 51
  d.finish n (if outcome = 3 then stAborted else stSuccess) outcome

/-- SPR_TEST shows the test just started (R492). -/
def Dev.showTest (d : Dev) (kind code unit : Nat) : Dev :=
  d.wrs [(SPR_TEST_KIND, kind), (SPR_TEST_TEST, code), (SPR_TEST_UNIT, unit), (SPR_TEST_BUSY, 1), (SPR_TEST_OUTCOME, 0)]

/-! ## Swaps (R473–R477, R485) -/

/-- No unit brought in: the logical engine is left unbound (R162). -/
def noUnit : Nat := 255

/-- The engines of an octant in a state. -/
def Dev.octEng (d : Dev) (o st : Nat) : Option Nat :=
  ((List.range 9).map (9 * o + ·)).find? (fun p => d.rd (ENG_STATUS_STATE p) == st && !d.mgt.swaps.any (fun w => w.kind == 1 && w.new == p))

/-- A swap is requested; ENG_MAP shows a pending one (R162, R476). -/
def Dev.addSwap (d : Dev) (w : Swap) : Dev :=
  let d := { d with mgt := { d.mgt with swaps := d.mgt.swaps ++ [w] } }
  if w.kind = 1 ∧ w.unit < 64 then
    d.wrs [(ENG_MAP_SWAP_PENDING w.unit, 1), (ENG_MAP_NEXT_PHYS w.unit, if w.new = noUnit then d.rd (ENG_MAP_PHYS w.unit) else w.new)]
  else d

/-- The pending swap of a unit of a kind, if any. -/
def Dev.swapOf (d : Dev) (k u : Nat) : Option Swap := d.mgt.swaps.find? (fun w => w.kind == k && w.unit == u)

/-- The pending swap of a logical engine, if any. -/
def Dev.pendingSwap (d : Dev) (e : Nat) : Option Swap := d.swapOf 1 e

/-- A pending swap of a unit takes on another asker. -/
def Dev.joinKind (d : Dev) (k u : Nat) (f : Swap → Swap) : Dev :=
  { d with mgt := { d.mgt with swaps := d.mgt.swaps.map (fun w => if w.kind = k ∧ w.unit = u then f w else w) } }

/-- A pending engine swap takes on another asker (R459, R476). -/
def Dev.joinSwap (d : Dev) (e : Nat) (f : Swap → Swap) : Dev := d.joinKind 1 e f

/-- An engine test ends without a verdict (R477): the engine is SPARE again. -/
def Dev.abortEngTest (d : Dev) (p : Nat) : Dev :=
  match d.eng.tests.get p 0 with
  | 0 => d
  | n + 1 =>
    let d := (d.dropTest p).wr (ENG_STATUS_STATE p) 2
    d.endTest n 1 1 p 3

/-- The automatic action of an engine (R457, R476, R477): a swap of its logical engine at the next boundary. One that serves none is
RETIRED at once, and a test of it fails (R479). -/
def Dev.engAction (d : Dev) (a : FAct) (p : Nat) : Dev :=
  match (List.range 64).find? (fun e => d.flag (ENG_MAP_BOUND e) && d.rd (ENG_MAP_PHYS e) == p) with
  | none =>
    let d := (d.wr (ENG_STATUS_STATE p) 4).actionDone a
    match d.eng.tests.get p 0 with
    | 0 => d
    | n + 1 => (d.dropTest p).endTest n 1 1 p 2
  | some e =>
    if (d.pendingSwap e).isSome then d.joinSwap e (fun w => { w with act := some a })
    else
      let o := p / 9
      match d.octEng o 2 with
      | some q => d.addSwap ⟨1, e, p, q, [], none, some a⟩
      | none =>
        match d.octEng o 3 with
        | some q => (d.abortEngTest q).addSwap ⟨1, e, p, q, [], none, some a⟩
        | none => (d.actionBare a).addSwap ⟨1, e, p, noUnit, [], none, some a⟩

/-- The plane that carries no traffic, is not retired and that no pending swap brings in. -/
def Dev.sparePlane (d : Dev) : Option Nat :=
  (List.range 9).find? (fun i => !bit (d.rd SPR_PLANE_IN_USE) i && d.rd SPR_PLANE_RETIRED != i
    && !d.mgt.swaps.any (fun w => w.kind == 4 && w.new == i))

/-- Spare wires used in a wire's group. -/
def wireUsed (o w : Nat) : Fld := if w < 64 then SPR_WIRE_USED_G0 o else SPR_WIRE_USED_G1 o

/-- Has the group of wire `u` (octant × 128 + wire) a spare wire that neither is used nor is about to be (R473)? -/
def Dev.wireSpare (d : Dev) (u : Nat) : Bool :=
  decide (d.rd (wireUsed (u / 128) (u % 128)) + (d.mgt.swaps.filter (fun w => w.kind == 5 && w.unit / 64 == u / 64)).length < 2)

/-- The actions of escalations are carried out, or become swaps for the next boundary (R457). -/
def Dev.settleAct (d : Dev) (a : FAct) : Dev :=
  match a.unit with
  | .eng p => d.engAction a p.val
  | .lane l => (d.laneFault l.val).actionDone a
  | .bay b => (d.bayOff b.val).actionDone a
  | .xbar =>
    if (d.swapOf 4 a.inst).isSome then d.joinKind 4 a.inst (fun w => { w with act := some a })
    else
      match d.sparePlane with
      | some q => d.addSwap ⟨4, a.inst, a.inst, q, [], none, some a⟩
      | none => d.actionBare a
  | .oct o =>
    let u := o.val * 128 + a.inst
    if (d.swapOf 5 u).isSome then d.joinKind 5 u (fun w => { w with act := some a })
    else if d.wireSpare u then d.addSwap ⟨5, u, u, u, [], none, some a⟩
    else d.actionBare a
  | _ => d

/-- Every action asked for since the last settling (R457). -/
def Dev.settle (d : Dev) : Dev :=
  d.flt.acts.foldl (fun d a => d.settleAct a) { d with flt := { d.flt with acts := [] } }

/-- Data of an item stands in its engine's column buffer: blocks or parts of blocks read, data gathered toward the encoder (R158). -/
def Dev.buffered (d : Dev) (n : Nat) : Bool :=
  let w := d.wk n
  let e := d.entry n
  w.blocks.any (fun b => decide (b.pos < 32)) || w.part.any (fun x => decide (x.1 < 32)) || !w.enc.isEmpty
    || (writesShards (dOpcode e.desc) && !e.staged && !w.have_.isEmpty)

/-- Entries with cells in the physical engine of logical engine `e` (R162, R260). -/
def Dev.onEngine (d : Dev) (e n : Nat) : Bool :=
  let x := (d.entry n).desc
  isShardOp (dOpcode x) && ((d.wk n).cells.any (fun c => c.island != 8 && c.ep == 0x200 + e)
    || (d.buffered n && ((d.plan (dPlan x)).any (fun p => p.engine (d.itemStripe n) == e)
      || (d.plan (d.writePlanNo n)).any (fun p => p.engine (d.itemTarget n) == e))))

/-- Does an octant's image hold TEST runs (R478, R479)? -/
def Dev.testRuns (d : Dev) (o : Nat) : Bool :=
  match d.inForce with
  | none => false
  | some g =>
    match g.octs[o]? with
    | none => false
    | some c => c.base.any (fun w => match g.backfill[runBackfill w]? with
      | some b => b.kind == 2
      | none => false)

/-- An engine swap takes effect at a boundary (R161, R162, R260, R485). -/
def Dev.swapEngine (d : Dev) (w : Swap) : Dev :=
  let e := w.unit
  let live := d.rd (ENG_STATUS_STATE w.old)
  let old := if w.test.isSome ∧ w.act.isNone ∧ w.cmds.isEmpty then 3 else 4
  let d := if w.old = noUnit ∨ live = 4 ∨ live = 5 then d
    else Dev.wr { d with eng := { d.eng with before := d.eng.before.set w.old 0 0 } } (ENG_STATUS_STATE w.old) old
  let d := d.wrs [(ENG_MAP_SWAP_PENDING e, 0), (ENG_MAP_NEXT_PHYS e, if w.new = noUnit then d.rd (ENG_MAP_PHYS e) else w.new)]
  let d := if w.new = noUnit then d.wr (ENG_MAP_BOUND e) 0
    else
      let d := d.wrs [(ENG_MAP_PHYS e, w.new), (ENG_MAP_BOUND e, 1), (ENG_STATUS_STATE w.new, 1), (ENG_STATUS_LOGICAL w.new, e),
        (ENG_CHECK_MISMATCH w.new, 0)]
      if d.flag (ENG_MAP_POWERED e) then d else d.engPowerOff w.new
  let d := d.askReplayAll 2 (d.onEngine e)
  -- the new engine's column buffer is empty
  let d := { d with sch := { d.sch with cursors := d.sch.cursors.map (fun (c : Cursor) => if c.engine = e then c.at_ c.col else c) } }
  let d := ((if w.old = noUnit then [] else [w.old]) ++ (if w.new = noUnit then [] else [w.new])).foldl (fun d p => d.sample (192 + p)) d
  let d := d.mlog 4 1 w.old w.new d.epoch
  match w.test with
  | none => d
  | some n =>
    if old = 3 then
      if d.testRuns (w.old / 9) then d.beginTest w.old n (e + 1)
      else (d.wr (ENG_STATUS_STATE w.old) 2).endTest n 1 1 w.old 5
    else d.endTest n 1 1 w.old 3

/-- A plane or wire swap takes effect at a boundary (R473, R485). -/
def Dev.swapOther (d : Dev) (w : Swap) : Dev :=
  if w.kind = 4 then
    let use := d.rd SPR_PLANE_IN_USE
    let use := if bit use w.old then use - 2 ^ w.old else use
    (d.wrs [(SPR_PLANE_IN_USE, Nat.lor use (2 ^ w.new)), (SPR_PLANE_RETIRED, w.old)]).mlog 4 4 w.old w.new d.epoch
  else
    let d := d.inc (wireUsed (w.unit / 128) (w.unit % 128))
    Dev.mlog { d with mgt := { d.mgt with wires := setAdd w.unit d.mgt.wires } } 4 5 w.old w.new d.epoch

/-- A pending swap takes effect: its action is done and its commands complete (R457, R475, R485). -/
def Dev.applySwap (d : Dev) (w : Swap) : Dev :=
  let d := if w.kind = 1 then d.swapEngine w else d.swapOther w
  let d := match w.act with
    | some a => if w.new = noUnit then d else d.actionDone a
    | none => d
  w.cmds.foldl (fun d n => d.finish n stSuccess w.new) d

/-- The pending swaps at a boundary; during recovery they wait (R475). -/
def Dev.applySwaps (d : Dev) : Dev :=
  if d.flag MGT_STATUS_RECOVERING then d
  else d.mgt.swaps.foldl (fun d w => d.applySwap w) { d with mgt := { d.mgt with swaps := [] } }

/-- BRING_IN_SPARE of a logical engine (R476, R485). -/
def Dev.bringEngine (d : Dev) (n e : Nat) : Dev :=
  if (d.pendingSwap e).isSome then d.joinSwap e (fun w => { w with cmds := w.cmds ++ [n] })
  else
    match d.octEng (e / 8) 2 with
    | none => d.finish n stQuota
    | some q => d.addSwap ⟨1, e, (d.physOf e).getD noUnit, q, [n], none, none⟩

/-- BRING_IN_SPARE (R484, R485). -/
def bringInSpare (n : Nat) (d : Dev) : Dev :=
  d.admin n 0xC0 (fun x d =>
    let k := darg x 4 1
    let u := darg x 6 2
    if d.flag SLC_GLOBAL_INSTAR_BUSY then d.finish n stBusy
    else if k = 1 ∧ u < 64 then d.bringEngine n u
    else if k = 4 ∧ u < 9 then
      if d.rd SPR_PLANE_RETIRED = u ∨ ¬bit (d.rd SPR_PLANE_IN_USE) u then d.finish n stInvalid
      else if (d.swapOf 4 u).isSome then d.joinKind 4 u (fun w => { w with cmds := w.cmds ++ [n] })
      else
        match d.sparePlane with
        | some q => d.addSwap ⟨4, u, u, q, [n], none, none⟩
        | none => d.finish n stQuota
    else if k = 5 ∧ u < 1024 then
      if d.mgt.wires.contains u then d.finish n stInvalid
      else if (d.swapOf 5 u).isSome then d.joinKind 5 u (fun w => { w with cmds := w.cmds ++ [n] })
      else if d.wireSpare u then d.addSwap ⟨5, u, u, u, [n], none, none⟩
      else d.finish n stQuota
    else d.finish n stInvalid)

/-! ## Tests (R478–R486) -/

/-- TEST_UNIT of an engine (R476, R479). -/
def Dev.testEngine (d : Dev) (n p : Nat) : Dev :=
  let s := d.rd (ENG_STATUS_STATE p)
  let o := p / 9
  if d.eng.tests.get p 0 ≠ 0 ∨ (s ≠ 1 ∧ s ≠ 2) then d.finish n stInvalid
  else if s = 2 then
    let d := (d.showTest 1 1 p).wr SPR_TEST_CELLS_CELLS 0
    if d.testRuns o then (d.beginTest p n 0).wr (ENG_STATUS_STATE p) 3
    else d.endTest n 1 1 p 5
  else
    match (List.range 64).find? (fun e => d.flag (ENG_MAP_BOUND e) && d.rd (ENG_MAP_PHYS e) == p) with
    | none => d.finish n stInvalid
    | some e =>
      match d.pendingSwap e with
      | some w => if w.test.isSome then d.finish n stInvalid
        else ((d.showTest 1 1 p).joinSwap e (fun w => { w with test := some n })).testRest
      | none =>
        match d.octEng o 2 with
        | none => d.finish n stQuota
        | some q => ((d.showTest 1 1 p).addSwap ⟨1, e, p, q, [], some n, none⟩).testRest

/-- TEST_UNIT of an octant (R483). -/
def Dev.testOctant (d : Dev) (n o code : Nat) : Dev :=
  let off := d.octOff o
  if d.mgt.octs.any (fun a => a.oct == o) ∨ d.pwr.mode ≠ 0 ∨ d.pwr.req.isSome ∨ (code = 4 ∧ ¬off) ∨ (code ≠ 4 ∧ off) then d.finish n stInvalid
  else
    let d := d.showTest 3 code o
    Dev.testRest { d with mgt := { d.mgt with octs := d.mgt.octs ++ [{ oct := o, code := code, cmd := some n, act := none, begun := false }] } }

/-- TEST_UNIT (R478–R486). -/
def testUnit (n : Nat) (d : Dev) : Dev :=
  d.admin n 0xC1 (fun x d =>
    let k := darg x 4 1
    let u := darg x 6 2
    let t := darg x 8 4
    if d.flag SLC_GLOBAL_INSTAR_BUSY then d.finish n stBusy
    else if k = 1 ∧ u < 72 ∧ t = 1 then d.testEngine n u
    else if k = 2 ∧ u < 512 ∧ t = 2 then
      if d.laneTestable u then (d.showTest 2 2 u).laneTest u n else d.finish n stInvalid
    else if k = 3 ∧ u < 8 ∧ 3 ≤ t ∧ t ≤ 5 then d.testOctant n u t
    else if k = 4 ∧ u < 9 ∧ t = 6 then
      if d.sparePlane = some u ∧ d.mgt.planeTest.isNone then
        Dev.showTest { d with mgt := { d.mgt with planeTest := some n } } 4 6 u
      else d.finish n stInvalid
    else if k = 7 ∧ u < 2 ∧ t = 7 then
      if u ≠ d.rd MGT_STATUS_ACTIVE_CORE ∧ d.flag MGT_STATUS_STANDBY_READY ∧ d.mgt.selfTest.isNone then
        Dev.wr (Dev.showTest { d with mgt := { d.mgt with selfTest := some n } } 7 7 u) MGT_STATUS_STANDBY_TESTING 1
      else d.finish n stInvalid
    else d.finish n stInvalid)

/-- An engine under test has passed 65,536 cells, or mismatched (R479, R486). -/
def engineTestDone (p : Nat) (pass : Bool) (d : Dev) : Dev :=
  match d.eng.tests.get p 0 with
  | 0 => d
  | n + 1 =>
    if d.rd (ENG_STATUS_STATE p) ≠ 3 ∨ (pass ∧ d.testRuns (p / 9) ∧ d.eng.testCells.get p 0 < 65536) then d
    else
      let d := d.dropTest p
      if !d.testRuns (p / 9) then (d.wr (ENG_STATUS_STATE p) 2).endTest n 1 1 p 5
      else if pass then (d.wr (ENG_STATUS_STATE p) 2).endTest n 1 1 p 1
      else
        let d := d.wr (ENG_STATUS_STATE p) 4
        (d.faultFree { unit := .eng (Fin.ofNat 72 p), src := 6 } true (2 ^ 20)).endTest n 1 1 p 2

/-- The spare plane's test reaches its verdict (R486). -/
def planeTestDone (pass : Bool) (d : Dev) : Dev :=
  match d.mgt.planeTest with
  | none => d
  | some n => Dev.endTest { d with mgt := { d.mgt with planeTest := none } } n 4 6 (d.rd SPR_TEST_UNIT) (if pass then 1 else 2)

/-- The standby's self-test ends with an outcome of R486. -/
def Dev.endSelfTest (d : Dev) (outcome : Nat) : Dev :=
  match d.mgt.selfTest with
  | none => d
  | some n =>
    let d := Dev.wr { d with mgt := { d.mgt with selfTest := none } } MGT_STATUS_STANDBY_TESTING 0
    d.endTest n 7 7 (1 - d.rd MGT_STATUS_ACTIVE_CORE) outcome

/-- A SELFTEST of the standby core ends (R486). -/
def standbySelftestDone (pass : Bool) (d : Dev) : Dev := d.endSelfTest (if pass then 1 else 2)

/-! ## Octants (R483) -/

/-- Entries with work in an octant: its engines, or positions on its links (R260). -/
def Dev.inOctant (d : Dev) (o n : Nat) : Bool :=
  let x := (d.entry n).desc
  isShardOp (dOpcode x) && (d.wk n).fired && ((match d.plan (dPlan x) with
    | some p => p.engine (d.itemStripe n) / 8 == o || p.targets.any (fun t => t.1 / 64 == o)
    | none => false) || (match d.plan (d.writePlanNo n) with
    | some p => p.engine (d.itemTarget n) / 8 == o || p.targets.any (fun t => t.1 / 64 == o)
    | none => false))

/-- One bit of a mask field set or cleared. -/
def Dev.maskBit (d : Dev) (f : Fld) (i : Nat) (v : Bool) : Dev :=
  let x := d.rd f
  d.wr f (if v then Nat.lor x (2 ^ i) else x - x / 2 ^ i % 2 * 2 ^ i)

/-- BYPASS takes effect at a boundary (R161, R483). -/
def Dev.bypass (d : Dev) (o : Nat) : Dev :=
  let d := d.linksOff [o]
  let d := ((List.range 8).map (8 * o + ·)).foldl (fun d e =>
    if d.flag (ENG_MAP_BOUND e) then
      Dev.wr { d with mgt := { d.mgt with bound := d.mgt.bound.set e (d.rd (ENG_MAP_PHYS e) + 1) 0 } } (ENG_MAP_BOUND e) 0
    else d) d
  let d := ((List.range 9).map (9 * o + ·)).foldl (fun d p =>
    let s := d.rd (ENG_STATUS_STATE p)
    if s = 4 then d
    else
      let d := d.abortEngTest p
      Dev.wr { d with eng := { d.eng with before := d.eng.before.set p 0 0 } } (ENG_STATUS_STATE p) 5) d
  let d := d.maskBit SPR_OCTANT_BYPASSED o true
  let d := ((List.range 9).foldl (fun d i => d.sample (192 + 9 * o + i)) d).sample (264 + o)
  d.sample (272 + o)

/-- RESTORE or RESET begins (R260, R483): the die is in reset, its links held from now on. -/
def Dev.octReset (d : Dev) (o : Nat) : Dev := (d.linksOff [o]).maskBit SPR_OCTANT_RESETTING o true

/-- The octant actions at a boundary (R483): a bypass takes effect, a reset begins. -/
def Dev.applyOct (d : Dev) (a : OctAct) : Dev :=
  if a.begun then { d with mgt := { d.mgt with octs := d.mgt.octs ++ [a] } }
  else if a.code = 3 then
    let d := d.bypass a.oct
    match a.cmd with
    | some n => d.endTest n 3 3 a.oct 4
    | none => d
  else
    let b := { a with begun := true }
    Dev.octReset { d with mgt := { d.mgt with octs := d.mgt.octs ++ [b] } } a.oct

def Dev.applyOcts (d : Dev) : Dev := d.mgt.octs.foldl (fun d a => d.applyOct a) { d with mgt := { d.mgt with octs := [] } }

/-- The die of an octant is out of reset or restored: it rejoins the pacer at the next epoch boundary (R483). -/
def octantRejoin (o : Nat) (d : Dev) : Dev :=
  { d with mgt := { d.mgt with octs := d.mgt.octs.map (fun a => if a.oct = o ∧ a.begun then { a with ready := true } else a) } }

/-- The engines of a restored octant that are not RETIRED return to the states and the bindings they had at the bypass: bound and
IN_SERVICE, or SPARE; one whose logical engine is unpowered is OFF (R18, R161, R483). -/
def Dev.unbypass (d : Dev) (o : Nat) : Dev :=
  let d := ((List.range 9).map (9 * o + ·)).foldl (fun d p => if d.rd (ENG_STATUS_STATE p) = 5 then d.wr (ENG_STATUS_STATE p) 2 else d) d
  let d := ((List.range 8).map (8 * o + ·)).foldl (fun d e =>
    match d.mgt.bound.get e 0 with
    | 0 => d
    | p + 1 =>
      let d := { d with mgt := { d.mgt with bound := d.mgt.bound.set e 0 0 } }
      if d.rd (ENG_STATUS_STATE p) = 4 then d
      else d.wrs [(ENG_MAP_PHYS e, p), (ENG_MAP_NEXT_PHYS e, p), (ENG_MAP_BOUND e, 1), (ENG_STATUS_STATE p, 1)]) d
  ((List.range 9).map (9 * o + ·)).foldl (fun d p => if d.unpowered p then d.engPowerOff p else d) d

/-- A restored or reset octant rejoins the pacer at a boundary; its work is replayed from the next one on (R260, R483). -/
def Dev.rejoin (d : Dev) (a : OctAct) : Dev :=
  let o := a.oct
  let d := (d.maskBit SPR_OCTANT_RESETTING o false).maskBit SPR_OCTANT_BYPASSED o false
  let d := if a.code = 4 then d.unbypass o else d
  let d := { d with sch := { d.sch with island := d.sch.island.set o d.sch.epoch 0, next := d.sch.next.set o 65536 0 } }
  let d := (d.linksOn [o]).askReplayAll 3 (d.inOctant o)
  let d := ((List.range 9).foldl (fun d i => d.sample (192 + 9 * o + i)) d).sample (264 + o)
  let d := d.sample (272 + o)
  match a.cmd with
  | some n => d.endTest n 3 a.code o 4
  | none => d

/-- The octants that are ready rejoin (R483). -/
def Dev.applyRejoins (d : Dev) : Dev :=
  (d.mgt.octs.filter (·.ready)).foldl (fun d a => d.rejoin a) { d with mgt := { d.mgt with octs := d.mgt.octs.filter (fun a => !a.ready) } }

/-! ## The management pair (R465, R487–R490) -/

/-- Admin commands under way: recovery-journal records (R490). -/
def Dev.adminLive (d : Dev) : List Nat := d.liveSlots.filter (fun n => dOpcode (d.entry n).desc ≥ 0x80 && (d.entry n).state == 2)

/-- The standby becomes active and recovery starts (R488). -/
def Dev.failover (d : Dev) (c cause : Nat) : Dev :=
  let o := 1 - c
  let d := (d.endSelfTest 3).endClaims [c]
  let d := d.wrs [(MGT_STATUS_ACTIVE_CORE, o), (MGT_STATUS_STANDBY_READY, 0), (MGT_STATUS_RECOVERING, 1), (SLC_GLOBAL_INSTAR_BUSY, 1),
    (SLC_GLOBAL_REASON, 2), (MGT_RECOVERY_RJ_LIVE, Nat.min 256 d.adminLive.length)]
  let d := d.wr64 MGT_FAILOVER_TIME_LO_NS MGT_FAILOVER_TIME_HI_NS d.now
  let d := match d.mgt.coreSlot.get o 0 with
    | 0 => d
    | s + 1 => d.wr GLB_BOOT_FW_SLOT s
  let d := Dev.raise { d with mgt := { d.mgt with recovering := some d.now, journal := d.adminLive.map (fun n => (n, (d.entry n).serial)) } } 49
  d.mlog 1 c cause d.adminLive.length 0

/-- A core is declared lost (R465, R466, R487–R489): the first loss is a failover, and the second grave. Before C4 ends no core is active
yet, and the one lost is not chosen (R502). -/
def Dev.coreLost (d : Dev) (c cause : Nat) : Dev :=
  let lost := fun k => if k = 0 then MGT_STATUS_MCA_LOST else MGT_STATUS_MCB_LOST
  if d.hubOff || d.flag GLB_BOOT_FW_FAIL || d.flag (lost c) then d
  else
    let d := d.wr (lost c) 1
    if d.flag (lost (1 - c)) then (d.wr MGT_STATUS_STANDBY_READY 0).fault { unit := .mgt, src := 4, detail := c }
    else
      let d := d.fault { unit := .mgt, src := 3, detail := c }
      if d.rd MGT_STATUS_ACTIVE_CORE = c then
        if d.pwr.mode = 4 then d else d.failover c cause
      else ((d.endSelfTest 3).wr MGT_STATUS_STANDBY_READY 0).mlog 3 c cause 0 0

/-- A heartbeat has not advanced for HB_LOSS periods, each of which is recorded (R449, R487); `both` when both cores miss in
the same period. -/
def heartbeatTimeout (c : Nat) (both : Bool) (d : Dev) : Dev :=
  if d.hubOff || d.flag GLB_BOOT_FW_FAIL || d.flag (if c = 0 then MGT_STATUS_MCA_LOST else MGT_STATUS_MCB_LOST) then d
  else
    let k := if both then 1 else d.rd MGT_CFG_HB_LOSS
    let d := (List.range k).foldl (fun d _ => d.fault { unit := .mgt, src := 2, detail := c }) d
    if both then
      let d := d.fault { unit := .mgt, src := 2, detail := 1 - c }
      let d := d.wrs [(MGT_STATUS_MCA_LOST, 1), (MGT_STATUS_MCB_LOST, 1), (MGT_STATUS_STANDBY_READY, 0)]
      d.fault { unit := .mgt, src := 4, detail := c }
    else d.coreLost c 1

/-- A core reports an uncorrectable error in its own state (R465). -/
def coreStateError (c : Nat) (d : Dev) : Dev := d.coreLost c 2

/-- Recovery after a failover ends (R260, R488). -/
def recoveryComplete (d : Dev) : Dev :=
  match d.mgt.recovering with
  | none => d
  | some t =>
    let us := Nat.min (2 ^ 20 - 1) ((d.now - t) / 1000)
    let d := { d with mgt := { d.mgt with recovering := none } }
    -- start-up may still be under way (R90)
    let start := !d.pwr.trained || d.pwr.mode == 3
    let d := d.wrs [(MGT_STATUS_RECOVERING, 0), (SLC_GLOBAL_INSTAR_BUSY, b2n start), (SLC_GLOBAL_REASON, b2n start), (MGT_RECOVERY_US, us),
      (MGT_RECOVERY_RJ_LIVE, 0)]
    let rj := d.mgt.journal
    let d := Dev.askReplayAll { d with mgt := { d.mgt with journal := [] } } 4 (fun n =>
      (d.wk n).matWait || (rj.contains (n, (d.entry n).serial) && (d.entry n).state == 2))
    (d.mlog 2 0 us 0 0).raise 49

/-! ## GDDR6 (R482, R506–R510) -/

/-- MEM_TRAIN (R507). -/
def memTrainStart (v : Nat) (d : Dev) : Dev :=
  d.setup MEM_TRAIN v (fun d =>
    let d := d.writeWord MEM_TRAIN v
    if !bit v 0 || d.flag MEM_TRAIN_BUSY || d.pwr.trained then d
    else d.wrs [(MEM_TRAIN_BUSY, 1), (MEM_TRAIN_RESULT, 0), (MEM_TRAIN_FAILED, 0)])

/-- MEM_GEOMETRY: dropped while training runs and after it has passed (R507). -/
def Dev.geometryWrite (d : Dev) (v : Nat) : Dev :=
  if d.flag MEM_TRAIN_BUSY || d.pwr.trained then d else d.writeWord MEM_GEOMETRY v

/-- The spare rows of a channel are set by training; the manual gives their number only as about 1 % (R473, R492). -/
def Dev.spareRows (d : Dev) : Dev :=
  (List.range 16).foldl (fun (d : Dev) c =>
    let x := d.free
    x.2.wr (SPR_ROWS_SPARE_LEFT c) (x.1 % 65536)) d

/-- VDDQ at 1.25 V supports no rate above 16 Gbit/s: training then fails on every channel (R543). -/
def Dev.memRateBad (d : Dev) : Bool := d.flag MEM_GEOMETRY_VDDQ && decide (16 < d.rd MEM_GEOMETRY_RATE_GBPS)

/-- GDDR6 training ends; `failed` names the channels that failed (R507, R508, R543). -/
def memTrainDone (failed : Nat) (d : Dev) : Dev :=
  if d.hubOff || !d.flag MEM_TRAIN_BUSY then d
  else
    let failed := if d.memRateBad then 0xFFFF else failed
    let d := d.wrs [(MEM_TRAIN_BUSY, 0), (MEM_TRAIN_FAILED, failed)]
    if failed ≠ 0 then d.wr MEM_TRAIN_RESULT 2
    else
      let u := if d.flag MEM_GEOMETRY_DENSITY then 14336 else 7168
      let d := d.wrs [(MEM_TRAIN_RESULT, 1), (MEM_LAYOUT_USABLE_MIB, u), (MEM_LAYOUT_SYS_BASE_MIB, u - 128), (MEM_STAGE_BASE_MIB, 256),
        (MEM_STAGE_SIZE_MIB, u - 128 - 256), (SLC_GLOBAL_INSTAR_BUSY, b2n d.mgt.recovering.isSome),
        (SLC_GLOBAL_REASON, 2 * b2n d.mgt.recovering.isSome)]
      let d := Dev.spareRows { d with pwr := { d.pwr with trained := true } }
      (d.recordPages 0).foldl (fun d p => d.fetchPage 0 p false) d

/-- End of the journal region in bytes (R249). -/
def Dev.jnlEnd (d : Dev) : Nat := d.jnlBase + d.rd JNL_REGION_SIZE_SIZE * 2 ^ 25

/-- MEM_STAGE (R509). -/
def memStageWrite (v : Nat) (d : Dev) : Dev :=
  d.setup MEM_STAGE v (fun d =>
    let b := bits v 0 16
    let n := bits v 16 16
    let lo := b * 2 ^ 20
    let hi := (b + n) * 2 ^ 20
    if d.pwr.trained && d.liveSlices == [0] && decide (256 ≤ n) && decide (b + n ≤ d.rd MEM_LAYOUT_SYS_BASE_MIB)
        && (decide (hi ≤ d.jnlBase) || decide (d.jnlEnd ≤ lo)) then
      d.wrs [(MEM_STAGE_BASE_MIB, b), (MEM_STAGE_SIZE_MIB, n)]
    else d.wr MEM_TRAIN_STAGE_REFUSED 1)

/-- SPR_MEMTEST (R480, R482). -/
def memtestStart (v : Nat) (d : Dev) : Dev :=
  d.setup SPR_MEMTEST v (fun d =>
    let busy := d.flag SPR_MEMTEST_BUSY
    let d := d.writeWord SPR_MEMTEST v
    if !bit v 4 || busy || d.pwr.mode != 1 then d
    else
      let d := { d with mgt := { d.mgt with memCh := d.rd SPR_MEMTEST_CHANNEL } }
      (d.wrs [(SPR_MEMTEST_BUSY, 1), (SPR_MEMTEST_OUTCOME, 0)]).testRest)

/-- A GDDR6 channel test ends, having found `rows` failing rows (R473, R482). -/
def memtestDone (rows : Nat) (d : Dev) : Dev :=
  if d.flag SPR_MEMTEST_BUSY then
    let c := d.mgt.memCh
    let left := d.rd (SPR_ROWS_SPARE_LEFT c)
    let k := Nat.min rows left
    let d := d.wrs [(SPR_MEMTEST_BUSY, 0), (SPR_MEMTEST_OUTCOME, if rows ≤ left then 1 else 2), (SPR_ROWS_SPARE_LEFT c, left - k),
      (SPR_ROWS_REMAPPED c, d.rd (SPR_ROWS_REMAPPED c) + k)]
    d.testRest.raise 51
  else d

/-! ## FW_UPDATE (R503, R511) -/

/-- The checks of R503 on a staged image of `len` bytes. -/
def fwGood (l : List Byte) (len : Nat) : Bool :=
  let key := (l.drop 0x10).take 96
  let sig := l.drop (len - 0x60)
  l.length == len && decide (0x160 ≤ len) && leAt l 0 4 == 0x574D4642 && leAt l 8 4 == len && sha384 key == Config.fwKeyHash
    && decide (Config.fwMinSvn ≤ leAt l 0xC 2) && ecdsaVerify key (sha384 (l.take (len - 0x60))) (sig.take 48) ((sig.drop 48).take 48)

/-- GLB_FW_UPDATE.STATE when no staging runs and none has just been committed: 2 while a staged image waits, else 0 (R511). -/
def Dev.stageIdle (d : Dev) : Dev := Dev.wr { d with mgt := { d.mgt with staging := none, fwReading := false } } GLB_FW_UPDATE_STATE (if d.mgt.staged.isSome then 2 else 0)

/-- FW_UPDATE (R511): a staging reads the image from slice 0's host memory. -/
def fwUpdate (n : Nat) (d : Dev) : Dev :=
  if d.flag GLB_POWER_STATUS_PENDING || d.flag GLB_PROFILE_STATUS_PENDING || d.mgt.staging.isSome || d.pwr.mode != 0 then d
  else d.admin n 0xD1 (fun x d =>
    let len := darg x 0x10 4
    if darg x 4 1 = 1 then
      match d.mgt.staged with
      | none => d.finish n stInvalid
      | some s =>
        let d := { d with mgt := { d.mgt with staged := none, flashActive := s } }
        let d := d.wrs [(GLB_FW_UPDATE_STATE, 3), (GLB_FW_UPDATE_NEXT_SLOT, s)]
        (d.mlog 8 1 0 0 s).finish n stSuccess
    else if 1 < darg x 4 1 ∨ 2 ^ 20 < len then d.finish n stInvalid
    else
      match d.hostRead 0 (darg x 8 8) len false (.firmware n (d.entry n).serial) with
      | (true, d) => Dev.wr { d with mgt := { d.mgt with staging := some n, fwReading := true } } GLB_FW_UPDATE_STATE 1
      | (false, d) => d.finish n stHostDma)

/-- The host read of a firmware image has ended (R503, R511): a good image is written to the slot that ACTIVE does not name. -/
def Dev.firmwareRead (d : Dev) (n serial : Nat) (data : Option (List Byte)) : Dev :=
  let e := d.entry n
  if ¬d.mgt.fwReading ∨ d.mgt.staging ≠ some n ∨ e.serial ≠ serial then d
  else
    match data with
    | none => d.stageIdle.finish n stHostDma
    | some l =>
      if !fwGood l (darg e.desc 0x10 4) then d.stageIdle.finish n stInvalid
      else
        let v := d.mgt.versions.set (1 - d.mgt.flashActive) (leAt l 4 4) 0
        { d with mgt := { d.mgt with fwReading := false, versions := v } }

/-- The flash write and read-back of a staged image end (R511). -/
def fwStagingDone (ok : Bool) (d : Dev) : Dev :=
  match d.mgt.staging with
  | none => d
  | some n =>
    let s := 1 - d.mgt.flashActive
    if d.mgt.fwReading then d
    else if ok then
      let d := Dev.wr { d with mgt := { d.mgt with staging := none, staged := some s } } GLB_FW_UPDATE_STATE 2
      (d.mlog 8 0 (darg (d.entry n).desc 0x10 4) 0 s).finish n stSuccess
    else (Dev.wr { d with mgt := { d.mgt with staging := none, staged := none } } GLB_FW_UPDATE_STATE 0).finish n stInternal

end Sys2Proof.Machine
end

