-- ==== Sys2Proof/Machine/FaultRows.lean ====
section
/-! DEFINITION. The fault block's commands (R450–R472). -/
namespace Sys2Proof.Machine

/-- A write of FAULT_STATUS: VALID ends the capture, SEVERE_SEEN clears by its own bit (R453, R460). -/
def faultClear (u : FUnit) (v : Nat) (d : Dev) : Dev :=
  d.setup (FAULT_STATUS u) v (fun d =>
    let d := if bit v 7 then d.wr (FAULT_STATUS_SEVERE_SEEN u) 0 else d
    if bit v 0 then d.faultClear u else d)

/-- FAULT_INJECT is live (R470). -/
def Dev.injectLive (d : Dev) : Bool := d.flag GLB_TEST_FACTORY && d.flag GLB_TEST_UNLOCKED

/-- A write of FAULT_INJECT: SOURCE and NO_ESCALATE are stored and FIRE injects one event of SOURCE, of a source that is
neither RSVD nor GRAVE; outside factory test mode it is dropped (R470–R472). -/
def faultInject (u : FUnit) (v : Nat) (d : Dev) : Dev :=
  d.setup (FAULT_INJECT u) v (fun d =>
    if !d.injectLive then d
    else
      let d := d.writeWord (FAULT_INJECT u) v
      let s := v % 16
      match faultSrc u s with
      | none => d
      | some x =>
        if bit v 4 && x.cls != 3 then d.fault { unit := u, src := s, inj := true, noCount := bit v 5 } else d)

/-- FLT_UNLOCK shifted with a 32-bit value (R470): the value 0x5120_0F17 and then its complement unlock injection in
factory test mode. -/
def fltUnlock (v : Nat) (d : Dev) : Dev :=
  if d.pwr.por || !d.flag GLB_TEST_FACTORY then d
  else if d.flt.unlockHalf && v == 0xAEDFF0E8 then
    Dev.wr { d with flt := { d.flt with unlockHalf := false } } GLB_TEST_UNLOCKED 1
  else { d with flt := { d.flt with unlockHalf := v == 0x51200F17 } }

/-- A write of FAULT_CLASS_CFG: W_UNIT of s with W above 3,600 leaves W and W_UNIT and stores N and AUTO (R460). -/
def Dev.classCfgWrite (d : Dev) (u : FUnit) (i v : Nat) : Dev :=
  let e := d.writeWord (FAULT_CLASS_CFG u i) v
  if bits v 22 2 = 1 ∧ 3600 < bits v 8 14 then
    (e.wr (FAULT_CLASS_CFG_W u i) (d.rd (FAULT_CLASS_CFG_W u i))).wr (FAULT_CLASS_CFG_W_UNIT u i)
      (d.rd (FAULT_CLASS_CFG_W_UNIT u i))
  else e

/-- The unit's own logic has no power: the hub is off and the unit is not the always-on island. -/
def Dev.unpoweredUnit (d : Dev) (u : FUnit) : Bool := d.hubOff && u != .aon

/-- The window of instance `inst` of a source reaches its length (R455, R456). -/
def faultWindowExpire (u : FUnit) (src inst : Nat) (d : Dev) : Dev :=
  match d.flt.wins.find? (fun w => w.unit == unitBase u && w.src == src && w.inst == inst) with
  | none => d
  | some w => (d.advance (w.start + d.winLen w.unit w.src)).closeWindows

end Sys2Proof.Machine
end

