-- ==== Sys2Proof/Machine/Links.lean ====
section
/-! DEFINITION. The commands of admission, lane tests and control messages (R291–R294, R327, R328), and what follows every
command: actions, lane tests, retirements and windows settle. -/
namespace Sys2Proof.Machine

/-- ADMIT_BAY (R291). -/
def admitBay (n : Nat) (d : Dev) : Dev :=
  d.admin n 0xA0 (fun x d =>
    let r := d.admitBay (darg x 4 1)
    r.2.2.finish n r.1 r.2.1)

/-- A retirement takes effect once nothing sent to the bay is owed (R292). -/
def Dev.retireTry (d : Dev) (b : Nat) : Dev :=
  match d.lnk.retiring.get b 0 with
  | 0 => d
  | n + 1 => if d.bayOwes b then d else (d.retire b).finish n stSuccess

/-- RETIRE_BAY (R292); one that finds another of the same bay under way waits for it. -/
def retireBay (n : Nat) (d : Dev) : Dev :=
  if d.lnk.retiring.get (darg (d.entry n).desc 4 1) 0 ≠ 0 then d
  else
  d.admin n 0xA1 (fun x d =>
    let b := darg x 4 1
    if 63 < b then d.finish n stInvalid
    else Dev.retireTry { d with lnk := { d.lnk with retiring := d.lnk.retiring.set b (n + 1) 0 } } b)

/-- The first message received on a link, when it has type `t`; it leaves the inbox (R305). -/
def Dev.takeMsg (d : Dev) (l t : Nat) : Option (List Byte × Dev) :=
  let k := d.link l
  match k.inbox with
  | [] => none
  | m :: r => if leAt m 0 1 = t then some (m, d.setLink l { k with inbox := r }) else none

/-- A message of type `t` at the front of a link's inbox has the effect `f`; nothing happens while there is none. -/
def Dev.onMsg (d : Dev) (l t : Nat) (f : List Byte → Dev → Dev) : Dev :=
  match d.takeMsg l t with
  | some (m, d) => f m d
  | none => d

/-- IDENT (R327): with both parts the record is judged. -/
def ident (l : Nat) (d : Dev) : Dev :=
  d.onMsg l 0x31 (fun m d =>
    if d.laneState l ≠ lsIdentify ∨ d.flag (LNK_STATE_AWAIT_ADMIT l) then d
    else
      let k := d.link l
      let part := (m.drop 8).take 128
      if leAt m 4 1 = 0 then d.setLink l { k with ident := part }
      else if leAt m 4 1 = 1 ∧ k.ident.length = 128 then
        (d.setLink l { k with ident := [] }).identified l (k.ident ++ part)
      else d)

/-- Bit errors a lane test allows: 10^-5 of the bits sent at a rate in a number of milliseconds (R294). -/
def errorsAllowed (rate ms : Nat) : Nat := lineRate rate * 10 * ms

/-- LANE_TEST_RESULT, with the bit errors the device counted (R294, R328): both counts are recorded whatever the RESULT, and judged by the
duration and the rate the test was started with. -/
def laneTestResult (l near : Nat) (d : Dev) : Dev :=
  d.onMsg l 0x33 (fun m d =>
    let lane := l / 8 * 8 + leAt m 4 1 % 8
    match (d.lane lane).test with
    | none => d
    | some t =>
      if t.carrier ≠ l then d
      else
        let far := leAt m 8 4
        let d := d.wrs [(LNK_PRBS_NEAR_ERRORS lane, Nat.min near 0xFFFFFFFF), (LNK_PRBS_FAR_ERRORS lane, far)]
        let lim := errorsAllowed t.rate t.ms
        if leAt m 5 1 ≠ 0 then d.laneTestEnd lane 3
        else if near ≤ lim ∧ far ≤ lim then (d.wr (LNK_LANE_FAULTY lane) 0).laneTestEnd lane 1
        else (d.faultFree { unit := .lane (Fin.ofNat 512 lane), src := 6, access := 7 } false 16).laneTestEnd lane 2)

/-- Lane tests that have ended complete their TEST_UNIT (R486). -/
def Dev.settleTests (d : Dev) : Dev :=
  d.lnk.ended.foldl (fun d t => d.endTest t.1 2 2 t.2.1 t.2.2) { d with lnk := { d.lnk with ended := [] } }

/-- Retirements that waited take effect (R292). -/
def Dev.settleRetire (d : Dev) : Dev := d.lnk.retiring.keys.foldl (fun d b => d.retireTry b) d

/-- Windows whose slice has become FREE are disabled (R338). -/
def Dev.settleWindows (d : Dev) : Dev :=
  (d.regs.filterMap (fun e =>
    let a := e.1 / 32
    let o := a - 0x1010000
    if 0x1010000 ≤ a ∧ a < 0x1020000 ∧ o % 0x20 = 0 ∧ e.1 % 32 = 0 ∧ e.2 = 1 then some (o / 0x2000, o % 0x2000 / 0x20) else none)).foldl
    (fun d w => if d.sliceState (d.winSlice w.1 w.2) = 0 then d.winGone w.1 w.2 5 else d) d

/-- READ streams whose blocks are no longer needed are cancelled (R324). Those of a backfill scrub have slots from 2^20 on. -/
def Dev.settleStreams (d : Dev) : Dev :=
  d.activeLinks.foldl (fun d l =>
    ((d.link l).streams.filter (fun x => x.kind == 1 && !x.cancelled && !x.timedOut && decide (x.slot < 2 ^ 20) && !d.streamCurrent x)).foldl
      (fun d x => (d.txMsg l 1 (streamCancel x.id)).setStream l { x with cancelled := true }) d) d

/-- A link with a framing error goes down once the messages delivered before it are taken (R305, R315). -/
def Dev.settleFraming (d : Dev) : Dev :=
  (d.lnk.links.keys.filter (fun l => (d.link l).sess.dead && (d.link l).inbox.isEmpty)).foldl (fun d l => d.linkDown l 5) d

/-- Escalations act, tests end, retirements, windows, streams and TEST_BUSY settle. -/
def Dev.settleUnits (d : Dev) : Dev := d.settle.settleFraming.settleTests.settleRetire.settleWindows.settleStreams.testRest

end Sys2Proof.Machine
end

