-- ==== Sys2Proof/Machine/Flits.lean ====
section
/-! DEFINITION. The flit layer: sequence numbers, credits, selective retransmission and message framing (R298–R315). -/
namespace Sys2Proof.Machine

/-! ## Fields of a flit (R299, R300) -/

def flitKind (f : List Byte) : Nat := leAt f 0 6 % 4
def flitVc (f : List Byte) : Nat := leAt f 0 6 / 4 % 4
def flitSeq (f : List Byte) : Nat := leAt f 0 6 / 2 ^ 4 % 4096
def flitFill (f : List Byte) : Nat := leAt f 0 6 / 2 ^ 16 % 256
def flitAckNext (f : List Byte) : Nat := leAt f 0 6 / 2 ^ 24 % 4096
def flitAckValid (f : List Byte) : Bool := bit (leAt f 0 6) 36
def flitCvc (f : List Byte) : Nat := leAt f 0 6 / 2 ^ 37 % 4
def flitClimit (f : List Byte) : Nat := leAt f 0 6 / 2 ^ 39 % 256

/-- The header as a number (R300). -/
def flitHeader (kind vc seq fill ack : Nat) (valid : Bool) (cvc climit : Nat) : Nat :=
  kind + 4 * vc + 2 ^ 4 * seq + 2 ^ 16 * fill + 2 ^ 24 * ack + 2 ^ 36 * b2n valid + 2 ^ 37 * cvc + 2 ^ 39 * climit

/-- A flit: header, payload padded with zeros, CRC-32C (R299). -/
def flitOf (header : Nat) (payload : List Byte) : List Byte :=
  let b := leBytes 6 header ++ payload ++ List.replicate (246 - payload.length) 0#8
  b ++ leBytes 4 (crc32c b).toNat

/-- The flit's CRC holds (R299, R301). -/
def flitGood (f : List Byte) : Bool := f.length == 256 && leAt f 252 4 == (crc32c (f.take 252)).toNat

/-! ## Sequence numbers (R303–R306) -/

/-- Distance from `b` forward to `a`, modulo 4,096 (R304). -/
def seqDist (a b : Nat) : Nat := (a + 4096 - b % 4096) % 4096

/-- The window W (R303). -/
def Session.window (s : Session) : Nat := 128 * s.width

/-- The registers of R332 that show the session. -/
def Dev.showSess (d : Dev) (l : Nat) : Dev :=
  let s := (d.link l).sess
  let cr := fun vc m => Nat.min (s.credit vc) m
  d.wrs [(LNK_FLIT_STATUS_TX_UNACKED l, s.replay.length), (LNK_FLIT_STATUS_RX_HELD l, s.reorder.length),
    (LNK_CREDIT_VC0 l, cr 0 0x7FF), (LNK_CREDIT_VC1 l, cr 1 0xFF), (LNK_CREDIT_VC2 l, cr 2 0xFF)]

/-- A cumulative acknowledgement: every flit below it is freed; one outside UNA to SND is ignored (R306). -/
def Session.ack (s : Session) (a : Nat) : Session :=
  let k := seqDist a s.una
  if k ≤ seqDist s.snd s.una then
    { s with una := a, replay := s.replay.filter (fun f => decide (k ≤ seqDist f.seq s.una)) }
  else s

/-- A limit is applied when it is later than the one held (R312). -/
def Session.grant (s : Session) (vc limit : Nat) : Session :=
  let k := (limit + 65536 - s.limit.get vc 0) % 65536
  if 0 < k ∧ k ≤ 0x7FFF then { s with limit := s.limit.set vc limit 0 } else s

/-- The limit a header carries: bits [11:4] equal CLIMIT, bits [3:0] 0, within 2,048 of SENT (R312). -/
def headerLimit (sent climit : Nat) : Nat :=
  let base := sent / 4096 * 4096 + climit * 16
  let x := if base + 2048 < sent then base + 4096 else if sent + 2048 < base then base + 65536 - 4096 else base
  x % 65536

/-- What the header of a good flit tells the sender side (R306, R312). -/
def Session.header (s : Session) (f : List Byte) : Session :=
  let s := if flitAckValid f then s.ack (flitAckNext f) else s
  let v := flitCvc f
  if v < 3 then s.grant v (headerLimit (s.sent.get v 0) (flitClimit f)) else s

/-! ## Messages (R305, R315, R316) -/

/-- Is a message from the partner of this type and length allowed on this channel (R315, R316)? -/
def msgOk (vc t len : Nat) : Bool :=
  if t = 0x01 then vc == 0 && len == 4112
  else if t = 0x20 ∨ t = 0x22 ∨ t = 0x33 then vc == 2 && len == 16
  else if t = 0x31 then vc == 2 && len == 136
  else if t = 0x41 then vc == 2 && len == 12
  else if t = 0x43 then vc == 2 && decide (8 ≤ len) && decide (len ≤ 264) && len % 4 == 0
  else if t = 0x49 then vc == 2 && decide (8 ≤ len) && decide (len ≤ 4104) && len % 4 == 0
  else if t = 0x4B then vc == 2 && len == 8
  else false

/-- Is a message's length the one its own fields give: COUNT of EVENT_LIST (R356), STATUS and DWORDS of CTRL_READ_DATA (R339)? -/
def lenOk (b : List Byte) : Bool :=
  let len := leAt b 2 2
  if leAt b 0 1 = 0x43 then len == 8 + (leAt b 4 2 + 3) / 4 * 4
  else if leAt b 0 1 = 0x49 then len == (if leAt b 5 1 = 0 then 8 + 4 * leAt b 6 2 else 8)
  else true

/-- Whole messages cut from the front of a channel's byte stream, what is left of it, and whether no framing error stands there. At most
`n` are cut. -/
def cutMsgs : Nat → Nat → List Byte → List (List Byte) × List Byte × Bool
  | 0, _, b => ([], b, true)
  | n + 1, vc, b =>
    if b.length < 4 then ([], b, true)
    else
      let len := leAt b 2 2
      if !msgOk vc (leAt b 0 1) len || (8 ≤ b.length && !lenOk b) then ([], b, false)
      else if b.length < len then ([], b, true)
      else
        let r := cutMsgs n vc (b.drop len)
        (b.take len :: r.1, r.2)

/-- The flit numbered NEXT leaves the reorder buffer for its channel (R305): the messages it completes, and whether no framing error stands
behind them; none when there is no such flit. -/
def Session.deliver1 (s : Session) : Option (List (List Byte) × Session × Bool) :=
  (s.reorder.find? (fun r => r.1 == s.next)).map (fun x =>
    let r := cutMsgs 62 x.2.1 (s.rx.get x.2.1 [] ++ x.2.2)
    let g := (s.granted.get x.2.1 0 + 1) % 65536
    let t := { s with reorder := s.reorder.filter (fun y => y.1 != s.next), next := (s.next + 1) % 4096 }
    (r.1, { t with rx := s.rx.set x.2.1 r.2.1 [], granted := s.granted.set x.2.1 g 0 }, r.2.2))

/-- Every flit that follows NEXT without a gap is delivered, up to a framing error: the messages in their order (R305). -/
def Session.deliver : Nat → Session → List (List Byte) → List (List Byte) × Session × Bool
  | 0, s, l => (l, s, true)
  | n + 1, s, l =>
    match s.deliver1 with
    | none => (l, s, true)
    | some (m, s, false) => (l ++ m, s, false)
    | some (m, s, true) => Session.deliver n s (l ++ m)

/-! ## Receiving (R301, R304, R307, R313, R329) -/

/-- A flit slot of the partner has been received. -/
def Dev.rxSlot (d : Dev) (l : Nat) : Dev :=
  let s := (d.link l).sess
  let old := fun c => decide (s.slots + 1 < c + 2 ^ 20)
  let f := s.crcFails.filter old
  let t := { s with slots := s.slots + 1, crcFails := f, rxLane := (s.rxLane + 1) % s.width }
  (d.setSess l t).wr (LNK_WINDOW_CRC_IN_WINDOW l) (Nat.min 0xFFF f.length)

/-- The lane of a link's trained group at a place in it: flits go over the lanes in ascending order, one whole flit per lane (R275). -/
def Dev.flitLane (d : Dev) (l i : Nat) : Nat := (d.groupLanes l).getD i l

/-- What the FEC of the lane that carried the next flit found in its codewords is counted there (R275). -/
def Dev.countFec (d : Dev) (l : Nat) (x : RxFlit) : Dev :=
  let i := d.flitLane l (d.link l).sess.rxLane
  d.wrs [(LNK_FEC_CORR_COUNT i, d.rd (LNK_FEC_CORR_COUNT i) + x.corrected), (LNK_FEC_UNCORR_COUNT i, d.rd (LNK_FEC_UNCORR_COUNT i) + x.uncorrected)]

/-- A flit fails its CRC: it is discarded, counted, reported, and takes the link down beyond CRC_THRESH (R301, R308, R329). -/
def Dev.rxBad (d : Dev) (l : Nat) : Dev :=
  let s := (d.link l).sess
  let f := s.crcFails ++ [s.slots]
  let d := (d.setSess l { s with crcFails := f, ctrlDue := true }).inc (LNK_CRC_ERR_COUNT l)
  let d := d.wr (LNK_WINDOW_CRC_IN_WINDOW l) (Nat.min 0xFFF f.length)
  if d.rd LNK_FLIT_CFG_CRC_THRESH < f.length then d.linkDown l 1 else d

/-- A framing error (R315): messages delivered before it are taken first (R305; log entry 122). -/
def Dev.framing (d : Dev) (l : Nat) : Dev :=
  if (d.link l).inbox.isEmpty then d.linkDown l 5 else d.setSess l { (d.link l).sess with dead := true }

/-- A DATA flit with a good CRC (R304, R305, R308, R313, R315). -/
def Dev.rxData (d : Dev) (l : Nat) (f : List Byte) : Dev :=
  let s := (d.link l).sess
  let vc := flitVc f
  let q := flitSeq f
  let k := seqDist q s.next
  if 2 < vc ∨ flitFill f = 0 ∨ 246 < flitFill f then d.linkDown l 5
  else if 4096 - s.window ≤ k then d
  else if s.window ≤ k then d.linkDown l 3
  else if s.reorder.any (fun r => r.1 == q) then d
  else if (s.granted.get vc 0 + 65536 - s.got.get vc 0) % 65536 = 0 then d.linkDown l 4
  else
    let front := if seqDist s.front s.next ≤ k then (q + 1) % 4096 else s.front
    let s' := { s with reorder := s.reorder ++ [(q, vc, (f.drop 6).take (flitFill f))], front, got := s.got.set vc ((s.got.get vc 0 + 1) % 65536) 0 }
    if k = 0 then
      let r := Session.deliver 1025 s' []
      let k := d.link l
      let d := d.setLink l { k with sess := r.2.1, inbox := k.inbox ++ r.1 }
      if r.2.2 then d else d.framing l
    else d.setSess l { s' with ctrlDue := true, gapAt := if s.front = s.next then d.now else s.gapAt }

/-- Flit NEXT or one below FRONT that the report does not show stored is missing (R307). -/
def ctrlMissing (next front bitmap q : Nat) : Bool :=
  let k := seqDist q next
  if front = next then false
  else if k = 0 then true
  else decide (k ≤ 64) && decide (k < seqDist front next) && !bit bitmap (k - 1)

/-- Flit reported stored (R307, R309). -/
def ctrlStored (next front bitmap q : Nat) : Bool :=
  let k := seqDist q next
  decide (0 < k) && decide (k ≤ 64) && decide (k < seqDist front next) && bit bitmap (k - 1)

/-- What a LINK_CTRL tells the sender side (R307, R309, R311): stored flits are not sent again, missing ones are due unless
sent less than REXMIT_HOLD before. -/
def Dev.rxCtrl (d : Dev) (l : Nat) (f : List Byte) : Dev :=
  let p := f.drop 6
  let next := leAt p 0 2 % 4096
  let front := leAt p 2 2 % 4096
  let map := leAt p 8 8
  let s := (d.link l).sess
  let s := ((s.grant 0 (leAt p 0x10 2)).grant 1 (leAt p 0x12 2)).grant 2 (leAt p 0x14 2)
  let hold := 250 * d.rd LNK_FLIT_CFG_REXMIT_HOLD
  let mark := fun t : TxFlit =>
    if ctrlStored next front map t.seq then { t with stored := true, due := false }
    else if ctrlMissing next front map t.seq && !t.stored && decide (t.sentAt + hold ≤ d.now) then { t with due := true }
    else t
  d.setSess l { s with replay := s.replay.map mark }

/-- A flit arrives on a link on which flits run; elsewhere, and behind a framing error, it is not looked at. One that a codeword beyond
correction carried fails its CRC (R275, R301). -/
def Dev.rxFlit (d : Dev) (l : Nat) (x : RxFlit) : Dev :=
  if !d.flitting l || (d.link l).sess.dead then d
  else
    let f := x.bytes
    let d := (d.countFec l x).rxSlot l
    if !flitGood f || 0 < x.uncorrected then d.rxBad l
    else
      let s := (d.link l).sess
      let d := d.setSess l { (s.header f) with lastGood := d.now }
      let d := if flitKind f = 0 then d.rxData l f
        else if flitKind f = 1 then d.rxCtrl l f
        else if flitKind f = 3 then d.linkDown l 5
        else d
      if d.flitting l then d.showSess l else d

/-- A flit arrives (R301, R304). -/
def flitReceive (l : Nat) (f : RxFlit) (d : Dev) : Dev := d.rxFlit l f

/-- A LINK_CTRL flit arrives (R307). -/
def linkCtrl (l : Nat) (f : RxFlit) (d : Dev) : Dev := if flitKind f.bytes = 1 then d.rxFlit l f else d

/-! ## Sending (R300–R314) -/

/-- The header fields every sent flit refreshes, and the session after it (R302, R312). -/
def Session.sendHeader (s : Session) (kind vc seq fill : Nat) : Nat × Session :=
  (flitHeader kind vc seq fill s.next s.initSent s.cvc (s.granted.get s.cvc 0 / 16 % 256), { s with cvc := (s.cvc + 1) % 3 })

/-- The payload of a LINK_CTRL (R307). -/
def Session.ctrlPayload (s : Session) : List Byte :=
  let gap := s.front != s.next && !s.reorder.isEmpty
  let map := (List.range 64).foldl (fun m j => if s.reorder.any (fun r => r.1 == (s.next + 1 + j) % 4096) then m + 2 ^ j else m) 0
  leBytes 2 s.next ++ leBytes 2 (if gap then s.front else s.next) ++ leBytes 2 (b2n (!s.initSent)) ++ leBytes 2 0 ++ leBytes 8 map
    ++ leBytes 2 (s.granted.get 0 0) ++ leBytes 2 (s.granted.get 1 0) ++ leBytes 2 (s.granted.get 2 0) ++ List.replicate 224 0#8

/-- A message may begin on a channel: a BLOCK only once the STREAM_OPEN of its stream has been sent in full (R318). -/
def Session.opened (s : Session) (vc : Nat) (m : List Byte) : Bool :=
  vc != 0 || !(s.tx.get 1 []).any (fun o => leAt o 0 1 == 0x10 && msgId o == msgId m)

/-- The messages of a channel that a new flit may take bytes from, in order (R314, R318). -/
def Session.sendable (s : Session) (vc : Nat) : List (List Byte) := (s.tx.get vc []).takeWhile (s.opened vc)

/-- A channel has a new flit to send, with credit, within the window (R303, R311). -/
def Session.ready (s : Session) (vc : Nat) : Bool :=
  !(s.sendable vc).isEmpty && decide (1 ≤ s.credit vc) && decide (seqDist s.snd s.una < s.window)

/-- The messages of a channel after `n` bytes of its stream have left: those completed, those that remain, and how much of
the first of these has left. -/
def dropBytes : Nat → List (List Byte) → List (List Byte) × List (List Byte) × Nat
  | _, [] => ([], [], 0)
  | n, m :: r => if m.length ≤ n then let x := dropBytes (n - m.length) r; (m :: x.1, x.2) else ([], m :: r, n)

/-- A block or stream request whose last byte has been sent starts its stream's timer (R326). -/
def Dev.msgSent (d : Dev) (l : Nat) (tail : List Byte) : Dev :=
  let k := d.link l
  match k.streams.find? (fun x => x.id == leAt tail 0 2) with
  | some x => d.setStream l { x with lastAt := d.now }
  | none => d

/-- A flit leaves on the next lane of the trained group (R275). -/
def Dev.emitFlit (d : Dev) (l : Nat) (f : List Byte) : Dev :=
  let s := (d.link l).sess
  (d.setSess l { s with txLane := (s.txLane + 1) % s.width }).emit (.flit l (d.flitLane l s.txLane) f)

/-- A retransmission that is due (R309, R310, R314). -/
def Dev.sendAgain (d : Dev) (l : Nat) (t : TxFlit) : Dev :=
  let s := (d.link l).sess
  if 8 ≤ t.rexmits then d.linkDown l 2
  else
    let h := s.sendHeader 0 t.vc t.seq t.payload.length
    let up := fun x : TxFlit => if x.seq = t.seq then { x with rexmits := x.rexmits + 1, sentAt := d.now, due := false } else x
    let d := d.setSess l { h.2 with replay := s.replay.map up }
    let d := (d.inc (LNK_REXMIT_COUNT l)).wr (LNK_WINDOW_MAX_REXMIT l) (Nat.max (t.rexmits + 1) (d.rd (LNK_WINDOW_MAX_REXMIT l)))
    d.emitFlit l (flitOf h.1 t.payload)

/-- A LINK_CTRL that is due (R308); ACK_TIME runs anew from it. -/
def Dev.sendCtrl (d : Dev) (l : Nat) : Dev :=
  let s := (d.link l).sess
  let h := s.sendHeader 1 0 0 0
  let d := d.setSess l { h.2 with ctrlDue := false, initSent := true, gapAt := d.now }
  d.emitFlit l (flitOf h.1 s.ctrlPayload)

/-- The part of a message in flight that names its stream: bytes 4 to 7. -/
def msgTail (m : List Byte) : List Byte := (m.drop 4).take 4

/-- A new DATA flit of a channel (R303, R305, R311). -/
def Dev.sendData (d : Dev) (l vc : Nat) : Dev :=
  let s := (d.link l).sess
  let q := s.tx.get vc []
  let o := s.txOff.get vc 0
  let p := ((s.sendable vc).flatten.drop o).take 246
  let rest := dropBytes (o + p.length) q
  let h := s.sendHeader 0 vc s.snd p.length
  let t : TxFlit := ⟨s.snd, vc, p, 0, d.now, false, false⟩
  let s' := { h.2 with snd := (s.snd + 1) % 4096, replay := s.replay ++ [t], sent := s.sent.set vc ((s.sent.get vc 0 + 1) % 65536) 0 }
  let d := d.setSess l { s' with tx := s.tx.set vc rest.2.1 [], txOff := s.txOff.set vc rest.2.2 0 }
  let d := d.emitFlit l (flitOf h.1 p)
  rest.1.foldl (fun d m => if leAt m 0 1 < 0x20 then d.msgSent l (msgTail m) else d) d

/-- IDLE (R301). -/
def Dev.sendIdle (d : Dev) (l : Nat) : Dev :=
  let s := (d.link l).sess
  let h := s.sendHeader 2 0 0 0
  (d.setSess l h.2).emitFlit l (flitOf h.1 [])

/-- The channel that VC1 and VC2 give the slot: VC2 first, and while VC0 is ready at most one slot of 128 (R314). -/
def Session.control (s : Session) (active : Bool) : Option Nat :=
  let vc0 := active && s.ready 0
  if vc0 && decide (s.since12 < 128) then none
  else if s.ready 2 then some 2
  else if active && s.ready 1 then some 1
  else none

/-- A flit slot comes up (R314). -/
def txSlot (l : Nat) (d : Dev) : Dev :=
  if !d.flitting l || (d.link l).sess.dead then d
  else
    let s := (d.link l).sess
    let active := d.linkActive l
    let d := match s.replay.find? (fun t => t.due) with
      | some t => d.sendAgain l t
      | none =>
        if s.ctrlDue then d.sendCtrl l
        else
          match s.control active with
          | some vc => d.sendData l vc
          | none => if active && s.ready 0 then d.sendData l 0 else d.sendIdle l
    if !d.flitting l then d
    else
      let t := (d.link l).sess
      let took := s.replay.all (fun t => !t.due) && !s.ctrlDue && (s.control active).isSome
      (d.setSess l { t with since12 := if took then 1 else Nat.min 128 (s.since12 + 1) }).showSess l

/-! ## Timers (R308, R309, R329) -/

/-- ACK_TIME elapses with a gap open (R308). -/
def ackTimeExpire (l : Nat) (d : Dev) : Dev :=
  let s := (d.link l).sess
  if d.flitting l && s.front != s.next && !s.reorder.isEmpty then
    let d := d.advance (s.gapAt + 125 * d.rd LNK_FLIT_CFG_ACK_TIME)
    d.setSess l { s with ctrlDue := true, gapAt := d.now }
  else d

/-- A flit has been neither acknowledged nor reported stored for REPLAY_TO (R309, R310). -/
def replayToExpire (l q : Nat) (d : Dev) : Dev :=
  let s := (d.link l).sess
  match s.replay.find? (fun t => t.seq == q && !t.stored && !t.due) with
  | none => d
  | some t =>
    if !d.flitting l then d
    else
      let d := d.advance (t.sentAt + 1000 * d.rd LNK_FLIT_CFG2_REPLAY_TO)
      if 8 ≤ t.rexmits then d.linkDown l 2
      else d.setSess l { s with replay := s.replay.map (fun x => if x.seq = q then { x with due := true } else x) }

/-- No flit with a good CRC for DEAD_TIME (R329). -/
def deadTimeExpire (l : Nat) (d : Dev) : Dev :=
  if d.flitting l then
    (d.advance ((d.link l).sess.lastGood + 1000 * d.rd LNK_FLIT_CFG2_DEAD_TIME)).linkDown l 6
  else d

end Sys2Proof.Machine
end

