-- ==== Sys2Proof/Machine/Bridge.lean ====
section
/-! DEFINITION. The bridge's commands: windows, host accesses, control messages, polling, routing and the sideband chain
(R335–R364). -/
namespace Sys2Proof.Machine

/-! ## Windows (R336, R337) -/

/-- A write of BRG_WIN_CTRL (R336, R337): while ENABLE is 1, only one that merely clears ENABLE counts; otherwise the fields
are stored and, with ENABLE 1, the window is checked. -/
def Dev.winCtrl (d : Dev) (n w v : Nat) : Dev :=
  let a := BRG_WIN_CTRL n w
  if d.winOn n w then
    if d.word a = Nat.lor v 1 ∧ ¬bit v 0 then
      d.wrs [(BRG_WIN_CTRL_ENABLE n w, 0), (BRG_WIN_STATE_STATE n w, 0), (BRG_WIN_STATE_REASON n w, 0)]
    else d
  else
    let d := (d.writeWord a v).wr (BRG_WIN_CTRL_ENABLE n w) 0
    if bit v 0 then
      let r := d.winCheck n w
      if r = 0 then
        let d := { d with brg := { d.brg with gone := setDel (n * 256 + w) d.brg.gone } }
        d.wrs [(BRG_WIN_CTRL_ENABLE n w, 1), (BRG_WIN_STATE_STATE n w, 1), (BRG_WIN_STATE_REASON n w, 0)]
      else d.wrs [(BRG_WIN_STATE_STATE n w, 2), (BRG_WIN_STATE_REASON n w, r)]
    else d

/-- BRG_WIN_CTRL written with ENABLE 1 (R336). -/
def windowEnable (n w v : Nat) (d : Dev) : Dev := d.setup (BRG_WIN_CTRL n w) v (fun d => d.winCtrl n w v)

/-- BRG_WIN_CTRL written with ENABLE 0 (R337). -/
def windowDisable (n w v : Nat) (d : Dev) : Dev := d.setup (BRG_WIN_CTRL n w) v (fun d => d.winCtrl n w v)

/-- A write of a window's base, target or slice is dropped while the window is enabled (R337). -/
def Dev.winWrite (d : Dev) (n w a v : Nat) : Dev := if d.winOn n w then d else d.writeWord a v

/-! ## Host accesses (R335, R342–R352) -/

/-- The octant domain a window needs sleeps in DORMANT (R401). -/
def Dev.octAsleep (d : Dev) (o : Nat) : Bool := d.pwr.mode == 1 && d.pwr.awake.get (200 + o) 0 == 0

/-- A bridge access to a woken octant restarts its idle time (R401). -/
def Dev.touchOct (d : Dev) (o : Nat) : Dev :=
  if d.pwr.mode = 1 then { d with pwr := { d.pwr with awake := d.pwr.awake.set (200 + o) (d.now + 1) 0 } } else d

/-- A host read through a window, `since` its arrival (R335, R345, R347, R352, R401, R466). -/
def Dev.hostBridgeRead (d : Dev) (n off dwords be since : Nat) : Dev :=
  let len := 4 * dwords
  if d.hubOff then d
  else if d.flt.grave then (d.emit (.completerAbort n)).aerReq n .completerAbort (some 1) (some ((d.port n).ext.bar4 + off)) (some len)
  else
    match d.winAt n off len with
    | none => d.unsupportedReq n true (some ((d.port n).ext.bar4 + off))
    | some w =>
      let l := d.winLink n w
      let q := d.brg.seq
      let r : BRead := ⟨n, w, l, d.winTarget n w + (off - d.winBase n w), len, be, since, q, none, d.flag (BRG_WIN_CTRL_PREFETCHABLE n w), false⟩
      if d.octAsleep (l / 64) then
        { d with pwr := { d.pwr with stalls := d.pwr.stalls ++ [.bridgeRead (200 + l / 64) n off dwords be since] } }
      else
      let d := d.touchOct (l / 64)
      if !d.linkActive l then d.readAborts r 7
      else
        let d := { d with brg := { d.brg with seq := q + 1, reads := d.brg.reads ++ [r] } }
        (if r.paged && (d.missing r).isEmpty then d.readAhead r else d.forward l).servePages

/-- BRIDGE_HOST_READ (R345). -/
def bridgeHostRead (n off dwords be : Nat) (d : Dev) : Dev := d.hostBridgeRead n off dwords be d.now

/-- A host write through a window (R335, R343, R348, R350, R352, R401, R466). -/
def Dev.hostBridgeWrite (d : Dev) (n off be : Nat) (data : List Byte) (reqId : Nat) (pasid : Option Nat) : Dev :=
  let len := data.length
  let h : TlpHdr := ⟨2, (d.port n).ext.bar4 + off, len, reqId, pasid⟩
  if d.hubOff || d.flt.grave || len == 0 then d
  else
    match d.winAt n off len with
    | none => d.aerHdr n .unsupportedRequest (some h)
    | some w =>
      let l := d.winLink n w
      let a := d.winTarget n w + (off - d.winBase n w)
      if !d.flag (BRG_WIN_CTRL_POSTED_OK n w) then (d.aerHdr n .unsupportedRequest (some h)).logWrite n w l a len reqId pasid 7
      else if d.octAsleep (l / 64) then
        { d with pwr := { d.pwr with stalls := d.pwr.stalls ++ [.bridgeWrite (200 + l / 64) n off be data reqId pasid] } }
      else
      let d := d.touchOct (l / 64)
      if !d.linkActive l then d.writeFails n w l a len reqId pasid 6
      else
        let q := d.brg.seq
        let x : BWrite := ⟨n, w, l, a, be, data, reqId, pasid, q, 0, none, false⟩
        let d := d.invalidate l a len
        Dev.forward { d with brg := { d.brg with seq := q + 1, writes := d.brg.writes ++ [x] } } l

/-- BRIDGE_HOST_WRITE (R350). -/
def bridgeHostWrite (n off be : Nat) (data : List Byte) (reqId : Nat) (pasid : Option Nat) (d : Dev) : Dev :=
  d.hostBridgeWrite n off be data reqId pasid

/-- A tag is free again, and requests that waited go on (R344). -/
def Dev.tagFree (d : Dev) (l t : Nat) : Dev := ((d.setTag l t none).countTags l).forward l

/-- The host read of a tag. -/
def Dev.tagRead (d : Dev) (l t : Nat) : Option BRead := d.brg.reads.find? (fun r => r.link == l && r.tag == some t)

/-- A host read has its outcome. -/
def Dev.dropRead (d : Dev) (r : BRead) : Dev := { d with brg := { d.brg with reads := d.brg.reads.filter (fun x => x.seq != r.seq) } }

/-- The captured fault of a partner's error (R345, R449). -/
def Dev.partnerError (d : Dev) (r : BRead) : Dev :=
  d.fault { unit := .brg, src := 2, access := 1, addr := r.addr, port := some r.port, slice := some (d.winSlice r.port r.win), detail := r.tag.getD 0 }

/-- Data for a page (R346–R348): it fills the page; one invalidated in flight is discarded; a failure ends the reads that
wait for it. -/
def Dev.pageData (d : Dev) (l t status : Nat) (data : List Byte) : Dev :=
  match d.brg.pages.find? (fun p => p.link == l && p.tag == some t && p.data.isEmpty) with
  | none => d
  | some p =>
    if p.stale then d.pageOut p 4
    else if status = 0 ∧ data.length = 4096 then
      { d with brg := { d.brg with pages := d.brg.pages.map (fun q => if q = p then { p with data } else q) } }
    else
      let hit := d.brg.reads.filter (fun r => r.paged && r.port == p.port && r.link == l && r.pages.contains p.addr)
      let d := { d with brg := { d.brg with pages := d.brg.pages.filter (fun q => q != p) } }
      hit.foldl (fun d r => let r := { r with tag := some t }
        ((d.dropRead r).partnerError r).readAborts r 0xA) d

/-- CTRL_READ_DATA (R345, R346). -/
def ctrlReadData (l : Nat) (d : Dev) : Dev :=
  d.onMsg l 0x49 (fun m d =>
    let t := leAt m 4 1
    let status := leAt m 5 1
    let data := m.drop 8
    match d.btag l t with
    | none => d
    | some g =>
      let d := if g.state = 1 then
          match d.tagRead l t with
          | some r =>
            if status = 0 ∧ data.length = r.len then (d.dropRead r).emit (.readData r.port data)
            else ((d.dropRead r).partnerError r).readAborts r 0xA
          | none => d
        else if g.state = 2 then d.pageData l t status data
        else if g.state = 3 then d.logRead g.port g.win l g.addr g.len t 2
        else d
      (d.tagFree l t).servePages)

/-- CTRL_WRITE_STATUS (R351). -/
def ctrlWriteStatus (l : Nat) (d : Dev) : Dev :=
  d.onMsg l 0x4B (fun m d =>
    match d.brg.writes.find? (fun x => x.link == l && x.sent.isSome && x.wseq == leAt m 4 2) with
    | none => d
    | some x =>
      let d := { d with brg := { d.brg with writes := d.brg.writes.filter (fun y => y.seq != x.seq) } }
      let status := leAt m 6 1
      let d := if x.dead || status == 0 then d else d.bwriteFails x (if 1 ≤ status ∧ status ≤ 3 then status else 3)
      d.forward l)

/-- The oldest host read of a port that stalls for a sleeping octant. -/
def Dev.stalledRead (d : Dev) (n : Nat) : Option (Nat × Nat × Nat × Nat) :=
  d.pwr.stalls.findSome? (fun x => match x with
    | .bridgeRead _ p off dwords be t => if p = n then some (off, dwords, be, t) else none
    | _ => none)

/-- A stalled host read that BRG_READ_LIMIT ends leaves the stalled accesses. -/
def Dev.dropStall (d : Dev) (n : Nat) : Dev :=
  let mine := fun x : Stall => match x with
    | .bridgeRead _ p _ _ _ _ => p == n
    | _ => false
  { d with pwr := { d.pwr with stalls := d.pwr.stalls.eraseP mine } }

/-- A stalled host read ends by BRG_READ_LIMIT (R345). -/
def Dev.stallExpires (d : Dev) (n off dwords be since : Nat) : Dev :=
  let d := Dev.advance (d.dropStall n) (since + 100000 * d.rd BRG_READ_LIMIT_LIMIT)
  match d.winAt n off (4 * dwords) with
  | none => d.unsupportedReq n true (some ((d.port n).ext.bar4 + off))
  | some w =>
    d.readAborts ⟨n, w, d.winLink n w, d.winTarget n w + (off - d.winBase n w), 4 * dwords, be, since, 0, none, false, false⟩ 1

/-- The earliest host read of a port that has been forwarded or waits in a queue. -/
def Dev.oldestRead (d : Dev) (n : Nat) : Option BRead :=
  (d.brg.reads.filter (fun r => r.port == n)).foldl (fun a r => match a with
    | none => some r
    | some x => if r.since < x.since then some r else a) none

/-- BRG_READ_LIMIT expires for the oldest host read of a port, be it one that stalls (R345, R346). -/
def readLimitExpire (n : Nat) (d : Dev) : Dev :=
  match d.stalledRead n, d.oldestRead n with
  | some (off, dwords, be, t), none => d.stallExpires n off dwords be t
  | none, none => d
  | s, some r =>
    match s.filter (fun x => decide (x.2.2.2 < r.since)) with
    | some (off, dwords, be, t) => d.stallExpires n off dwords be t
    | none =>
    let d := d.advance (r.since + 100000 * d.rd BRG_READ_LIMIT_LIMIT)
    let d := (d.readAborts r 1).dropRead r
    let d := match r.tag with
      | some t => d.setTag r.link t (some ⟨3, r.port, r.win, r.addr, r.len, d.now⟩)
      | none => d
    d.forward r.link

/-- The discard timer of a tag expires with no data (R346): logged and quarantined; the page it reads is given up. -/
def Dev.tagExpires (d : Dev) (l t : Nat) : Dev :=
  match d.btag l t with
  | none => d
  | some g =>
    if g.state = 2 ∨ g.state = 3 then
      let d := d.advance (g.since + 16000 * d.rd BRG_TIMERS_DISCARD)
      let d := d.logRead g.port g.win l g.addr g.len t 8
      let d := { d with brg := { d.brg with pages := d.brg.pages.filter (fun p => !(p.link == l && p.tag == some t && p.data.isEmpty)) } }
      ((d.setTag l t (some { g with state := 4 })).countTags l).forward l
    else d

/-- The discard timer of a buffered page expires (R348). -/
def Dev.pageExpires (d : Dev) (n l addr : Nat) : Dev :=
  match d.page n l addr with
  | none => d
  | some p => if p.data.isEmpty then d else (d.advance (p.since + 16000 * d.rd BRG_TIMERS_DISCARD)).pageOut p 3

/-- DISCARD_TIMER_EXPIRE of a tag of a link, or of a page of a port's buffer (R346, R348). -/
def discardTimerExpire (page : Bool) (port link : Nat) (tag addr : Nat) (d : Dev) : Dev :=
  if page then d.pageExpires port link addr else d.tagExpires link tag

/-- No write status arrives within WSTATUS_TO (R351). -/
def wstatusTimeout (l : Nat) (d : Dev) : Dev :=
  match d.brg.writes.find? (fun x => x.link == l && x.sent.isSome && !x.dead) with
  | none => d
  | some x =>
    let d := d.advance (x.sent.getD 0 + 1000000 * d.rd BRG_WSTATUS_WSTATUS_TO)
    let l' := d.brg.writes.map (fun y => if y.seq = x.seq then { y with dead := true } else y)
    (Dev.bwriteFails { d with brg := { d.brg with writes := l' } } x 4).forward l

/-! ## Polling and routing (R356–R362) -/

/-- The partner declares POLL: in its record, or before that in its training blocks (R356). -/
def Dev.polls (d : Dev) (l : Nat) : Bool :=
  if d.linkActive l || d.flag (LNK_STATE_AWAIT_ADMIT l) then bit (d.identCaps l) 1
  else bit (d.lane (l / 8 * 8 + d.rd (LNK_STATE_TR_FIRST l))).caps 1

/-- A link's poll slot comes up (R356, R359). -/
def pollTick (l : Nat) (d : Dev) : Dev :=
  if !d.flitting l || !d.polls l then d
  else
    let d := if d.brg.polled.get l 0 = 1 then
        let d := d.incSat (BRG_LINK_POLL_MISSED l)
        if d.rd (BRG_LINK_POLL_MISSED l) = 8 then d.faultFree { unit := .brg, src := 3, access := 7 } true 8192 else d
      else d
    let q := d.brg.pseq.get l 0
    let b := { d.brg with polled := d.brg.polled.set l 1 0, pseq := d.brg.pseq.set l ((q + 1) % 2 ^ 16) 0 }
    Dev.txMsg { d with brg := b } l 2 (message 0x40 (leBytes 2 q ++ leBytes 2 0))

/-- POLL_STATUS (R358, R359). -/
def pollStatus (l : Nat) (d : Dev) : Dev :=
  d.onMsg l 0x41 (fun m d =>
    let w := leAt m 8 4
    let old := d.rd (BRG_POLL_WORD_WORD l)
    let d := { (d.wrs [(BRG_POLL_WORD_WORD l, w), (BRG_LINK_POLL_MISSED l, 0)]) with brg := { d.brg with polled := d.brg.polled.set l 0 0 } }
    let d := if bit w 8 && !bit old 8 then d.raise 43 else d
    let d := if bits w 11 2 = bits old 11 2 then d else d.raise 44
    if w % 256 = 0 then d else d.txMsg l 2 (message 0x42 (leBytes 4 (w % 256))))

/-- The routing entry that takes an event: its index, or none for the default (R361). A link counts as admitted once its partner has
been matched with the admitted record, that is in ACTIVE (log entry 100). -/
def Dev.routeOf (d : Dev) (l e : Nat) : Option Nat :=
  if (d.link l).admitted.isNone ∨ ¬d.linkActive l then none
  else (List.range 8192).find? (fun i => d.rd (BRG_ROUTE_LO_ACTION i) != 0 && d.rd (BRG_ROUTE_LO_LINK i) == l
    && (d.rd (BRG_ROUTE_LO_EVENT i) == e || d.flag (BRG_ROUTE_LO_ALL_EVENTS i)))

/-- An event goes to a vector its slice owns, or is dropped and counted (R362). -/
def Dev.routeMsix (d : Dev) (n v s : Nat) (index : Option Nat) : Dev :=
  if d.sliceState s ≠ 0 ∧ d.slicePort s = n ∧ d.rd (SLC_VECTORS_BASE s) ≤ v ∧ v ≤ d.rd (SLC_VECTORS_LAST s) then d.msix n v
  else
    let f := d.free
    let d := if index.isSome then d else f.2
    (d.inc BRG_ROUTE_MISDIRECT_COUNT).faultFree { unit := .brg, src := 4, access := 7, detail := index.getD (f.1 % 8192) } true 1

/-- An event enters BRG_EVQ, which holds 256 records (R362). -/
def Dev.pushEvq (d : Dev) (l e : Nat) : Dev :=
  if 256 ≤ d.brg.evq.length then { d with brg := { d.brg with evqOver := true } }
  else Dev.sample { d with brg := { d.brg with evq := d.brg.evq ++ [(l, e)] } } 45

/-- One partner event is routed (R361, R362). -/
def Dev.routeEvent (d : Dev) (l e : Nat) : Dev :=
  let act := fun (a n v s : Nat) (i : Option Nat) =>
    if a = 1 then d.routeMsix n v s i else if a = 2 then d.pushEvq l e else if a = 3 then d.inc BRG_ROUTE_DROPPED_COUNT else d
  match d.routeOf l e with
  | some i => act (d.rd (BRG_ROUTE_LO_ACTION i)) (d.rd (BRG_ROUTE_LO_PORT i))
      (d.rd ⟨BRG_ROUTE_LO i, 28, 4⟩ + 16 * d.rd (BRG_ROUTE_HI_VECTOR i)) (d.rd (BRG_ROUTE_HI_SLICE i)) (some i)
  | none => act (d.rd BRG_ROUTE_DEFAULT_LO_ACTION) (d.rd BRG_ROUTE_DEFAULT_LO_PORT)
      (d.rd BRG_ROUTE_DEFAULT_LO_VECTOR + 16 * d.rd BRG_ROUTE_DEFAULT_HI_VECTOR) (d.rd BRG_ROUTE_DEFAULT_HI_SLICE) none

/-- EVENT_LIST (R358). -/
def eventList (l : Nat) (d : Dev) : Dev :=
  d.onMsg l 0x43 (fun m d => ((m.drop 8).take (leAt m 4 2)).foldl (fun d e => d.routeEvent l e.toNat) d)

/-- A read of BRG_EVQ takes the oldest record of the partner event queue (R362). -/
def Dev.evqPop (d : Dev) : Nat × Dev :=
  match d.brg.evq with
  | [] => (0, d)
  | (l, e) :: r =>
    let v := l + 2 ^ 16 * e + 2 ^ 30 * b2n d.brg.evqOver + 2 ^ 31
    (v, Dev.sample { d with brg := { d.brg with evq := r, evqOver := false } } 45)

/-! ## The sideband chain (R360) -/

/-- The FAULT LED request of a bay's links: 0 off, 1 on, 2 blink (R357, R360). -/
def Dev.bayLedRequest (d : Dev) (b : Nat) : Nat :=
  let r := ((bayLanes b).filter d.flitting).map (fun l => bits (d.rd (BRG_POLL_WORD_WORD l)) 9 2)
  if r.contains 1 then 1 else if r.contains 2 then 2 else 0

/-- A LED in a mode: 0 off, 1 on, 2 blinking at 1 Hz; how much of a period it is on, and when a period begins, is free (log entry 125). -/
def ledBit (now mode : Nat) : Nat := if mode = 2 then b2n (Config.blink (now % 10 ^ 9)) else b2n (mode == 1)

/-- The 128 LED bits as they are shifted out, bit 127 first: bit 2b for the FAULT LED of bay b and bit 2b + 1 for its POWER LED. -/
def Dev.leds (d : Dev) : List Nat :=
  ((List.range 64).flatMap (fun b =>
    let f := d.rd (BRG_BAY_LED_FAULT b)
    let p := d.rd (BRG_BAY_LED_POWER b)
    [ledBit d.now (if f = 3 then d.bayLedRequest b else f), ledBit d.now (if p = 3 then d.rd (BAY_STATUS_PG b) else p)])).reverse

/-- One scan of the chain (R360): LEDs out, buttons in, a press after three consecutive scans. -/
def sidebandScan (buttons : BitVec 64) (d : Dev) : Dev :=
  if d.hubOff then d
  else
    (List.range 64).foldl (fun d b =>
      let n := if buttons.getLsbD b then Nat.min 3 (d.brg.btn.get b 0 + 1) else 0
      let d := { d with brg := { d.brg with btn := d.brg.btn.set b n 0 } }
      let was := d.flag (BRG_BAY_LED_BTN b)
      let d := d.wr (BRG_BAY_LED_BTN b) (b2n (n == 3))
      if n = 3 ∧ ¬was then (d.wr (BRG_BAY_LED_BTN_PRESS b) 1).raise 43 else d) (d.emit (.sideband d.leds))

end Sys2Proof.Machine
end

