-- ==== Sys2Proof/Machine/Host.lean ====
section
/-! DEFINITION. The host ports: their links, configuration writes, resets and the accesses they answer (R33–R69, R552). -/
namespace Sys2Proof.Machine

/-- A host may write the configuration space of a port: its link is up and the hub is powered (R501, R502). -/
def Dev.cfgOpen (d : Dev) (n : Nat) : Bool := !d.hubOff && (d.port n).linkUp && (d.pwr.mode != 4 || d.flag GLB_BOOT_FW_FAIL)

/-! ## MSI-X (R49, R552) -/

/-- The host sets MSI-X Enable and Function Mask, and the mask bit of a vector (R49). -/
def msixUnmask (n : Nat) (en fnMask : Bool) (v : Nat) (masked : Bool) (d : Dev) : Dev :=
  if !d.cfgOpen n then d
  else
    let p := d.port n
    let u := if masked then setDel v p.unmasked else setAdd v p.unmasked
    (d.setPort n { p with msixEn := en, fnMask := fnMask, unmasked := u }).sendPending n

/-! ## Link and configuration (R39, R53–R58, R69, R499, R552) -/

/-- A port that can issue requests again sends what it holds (R49, R53, R552). -/
def Dev.portOpens (d : Dev) (n : Nat) : Dev := (d.flushHeld n).sendPending n

/-- The commit's wait for the hosts may be over (R410). -/
def Dev.commitTry (d : Dev) : Dev :=
  match d.pwr.req with
  | some q => if q.step = 7 ∧ ¬d.portsAwait then d.commit else d
  | none => d

/-- GLB_BOOT.STAGE when a port's link has trained: C5, or C6 once the firmware runs (R499, R502). -/
def Dev.bootStage (d : Dev) : Dev :=
  if d.flag GLB_BOOT_FW_FAIL then d
  else if d.pwr.mode = 4 then d.wr GLB_BOOT_STAGE 5
  else if d.rd GLB_BOOT_STAGE < 6 ∧ 2 < d.rd GLB_BOOT_STAGE then d.wr GLB_BOOT_STAGE 6
  else d

/-- A host link reaches L0 with a rate, a width and flit mode (R52, R499). -/
def hostLinkUp (n speed width : Nat) (d : Dev) : Dev :=
  let p := d.port n
  if d.hubOff || p.perst || p.linkUp then d
  else
    let d := d.setPort n { p with linkUp := true, l23 := false, ltrSent := none }
    let d := d.wrs [(HP_STATUS_SPEED n, speed), (HP_STATUS_WIDTH n, width), (HP_STATUS_FLIT n, b2n (decide (6 ≤ speed)))]
    let d := d.bootStage.portOpens n
    -- R466, R467: a port that trains in GRAVE is told at once
    if d.flt.grave then d.aer n (.uncorrectableInternal true) else d.scarGrave

/-- The Data Link Layer of a port goes down (R52, R552). -/
def Dev.linkLost (d : Dev) (n : Nat) : Dev :=
  let p := d.port n
  let d := d.setPort n { p with linkUp := false, l23 := false }
  d.wrs [(HP_STATUS_SPEED n, 0), (HP_STATUS_WIDTH n, 0), (HP_STATUS_FLIT n, 0)]

/-- A host link goes down (R552). -/
def hostLinkDown (n : Nat) (d : Dev) : Dev := if d.hubOff || !(d.port n).linkUp then d else (d.linkLost n).commitTry

/-- A port's configuration after a host's write of `c` (R37, R38, R43, R58, R66, R67, R552). -/
def Port.configure (p : Port) (c : PortCtl) : Port :=
  let q := { p with bme := c.bme, mse := c.mse, relaxedEn := c.relaxed, noSnoopEn := c.noSnoop, idoEn := c.ido, tag10 := c.tag10,
                    uieMasked := c.uieMask, uieFatal := c.uieFatal, ext := c.ext }
  if c.aerClear then { q with aerStatus := [], hdrLog := none } else q

/-- The host writes the configuration registers of a port that this manual names (R37, R38, R43, R58, R66, R67, R552). -/
def busMasterEnable (n : Nat) (c : PortCtl) (d : Dev) : Dev :=
  if !d.cfgOpen n then d else (d.setPort n ((d.port n).configure c)).portOpens n

/-- PASID Enable of a port (R39): set, the requests of the slices that waited are made and their fetch resumes. -/
def pasidEnable (n : Nat) (on : Bool) (d : Dev) : Dev :=
  if !d.cfgOpen n then d
  else
    let d := (d.setPort n { d.port n with pasidEn := on }).wr (HP_STATUS_PASID_EN n) (b2n on)
    if on then (d.flushHeld n).fetchPort n else d

/-- The port captures a new requester ID (R69). Slice 0 keeps the port's own. -/
def reqIdChange (n id : Nat) (d : Dev) : Dev :=
  if !d.cfgOpen n then d
  else
    let d := d.setPort n { d.port n with reqId := id }
    let d := if n = d.mgrPort then d.wr (SLC_BIND_REQ_ID 0) id else d
    (d.portSlices n).foldl (fun d s => if s ≠ 0 ∧ d.rd (SLC_BIND_REQ_ID s) ≠ id then d.wr (SLC_STATE_ID_MISMATCH s) 1 else d) d

/-- A diapause entry that has not reached its commit gains the cause PORT (R54, R65, R411). -/
def Dev.portCause (d : Dev) : Dev :=
  match d.pwr.req with
  | some q => if q.target = 2 ∧ q.step < 7 then { d with pwr := { d.pwr with req := some { q with port := true } } } else d
  | none => d

/-- A port's function enters D3hot (R53, R54). -/
def d3hotEntry (n : Nat) (d : Dev) : Dev :=
  if !d.cfgOpen n then d
  else
    let d := (d.setPort n { d.port n with d3 := true }).wrs [(HP_STATUS_DSTATE n, 3), (HP_STATUS_EGRESS_HOLD n, 1)]
    if n = d.mgrPort then d.portCause else d

/-- A port's function returns to D0 (R53, R63). -/
def d0Return (n : Nat) (d : Dev) : Dev :=
  if !d.cfgOpen n || !(d.port n).d3 then d
  else
    let d := (d.setPort n { d.port n with d3 := false }).wr (HP_STATUS_DSTATE n) 0
    if d.flag (HP_FLR_MOULT_DEFERRED n) then d else ((d.resumeEgress n).sendPending n).fetchPort n

/-- PME_Turn_Off is answered and the link enters L2/L3 Ready (R55, R410). -/
def pmeTurnOff (n : Nat) (d : Dev) : Dev :=
  let p := d.port n
  if d.hubOff || !p.linkUp || p.l23 then d
  else ((d.setPort n { p with l23 := true }).emit (.pmeToAck n)).commitTry

/-- The BAR4 size field (R43, R50): accepted only while Memory Space Enable is 0, and of the sizes 1 GiB to 1 TiB. -/
def bar4Resize (n log2 : Nat) (d : Dev) : Dev :=
  let p := d.port n
  if !d.cfgOpen n || p.mse || decide (log2 < 30) || decide (40 < log2) then d
  else (d.setPort n { p with bar4 := log2 }).winGoneAll (fun m w => m == n && decide (2 ^ log2 < d.winBase n w + d.winSize n w)) 3

/-! ## Resets (R56, R57, R62–R65) -/

/-- The configuration state a Function Level Reset leaves: the AER status, masks, severities and Header Log, which are sticky,
and the captured IDs (R62; log entry 79). -/
def Port.flr (p : Port) : Port :=
  let q : Port := { linkUp := p.linkUp, perst := p.perst, l23 := p.l23, reqId := p.reqId, hdrLog := p.hdrLog }
  { q with uieMasked := p.uieMasked, uieFatal := p.uieFatal, aerStatus := p.aerStatus,
           ext := { uncMask := p.ext.uncMask, uncSev := p.ext.uncSev, corMask := p.ext.corMask },
           held := p.held.filter (fun h => match h.msg with | .msix _ _ => false | _ => true) }

/-- What a reset of the manager port does beside (R47, R65, R441): a pull of the mirror under way fails (log entry 117). -/
def Dev.managerReset (d : Dev) : Dev :=
  let d := Dev.wr { d with keyHalf := false } GLB_SETUP_LOCK_LOCKED 1
  let d := { d with reads := d.reads.map (fun (r : HRead) => if r.why == ReadFor.mirror then { r with dead := true, ecc := true } else r) }
  (d.endClaims [2, 3, 4, 5, 6, 7]).portCause

/-- Egress held, windows disabled, slices moulted or their moults deferred, egress released once none is deferred (R62–R65). -/
def Dev.portReset (d : Dev) (n : Nat) (p : Port) : Dev :=
  let late := d.flag SLC_GLOBAL_INSTAR_BUSY || (d.portSlices n).any d.period
  let d := (d.inc (HP_FLR_COUNT n)).wrs [(HP_STATUS_EGRESS_HOLD n, 1), (HP_STATUS_DSTATE n, 0), (HP_STATUS_PASID_EN n, 0)]
  let d := (d.bridgeReset n).setPort n p
  let d := if n = d.mgrPort then d.managerReset else d
  let d := (d.portSlices n).foldl (fun d s => d.askMoult s none true none) d
  if late ∨ d.flag (HP_FLR_MOULT_DEFERRED n) then (d.wr (HP_FLR_MOULT_DEFERRED n) 1).deferEnd n else d.resumeEgress n

/-- A Function Level Reset (R62–R65). -/
def flr (n : Nat) (d : Dev) : Dev := if d.cfgOpen n then d.portReset n (d.port n).flr else d

/-- PERST_N asserts (R56, R57, R501): in DIAPAUSE nothing is reset; in a cold start the port returns to Detect. -/
def perstAssert (n : Nat) (d : Dev) : Dev :=
  let d := d.setPort n { d.port n with perst := true }
  if d.hubOff then d
  else
    let d := d.linkLost n
    if d.pwr.mode = 4 then d else (d.portReset n { held := (d.port n).flr.held }).commitTry

/-- PERST_N releases: the port may train (R501). -/
def perstRelease (n : Nat) (d : Dev) : Dev := d.setPort n { d.port n with perst := false }

/-! ## What a port receives (R48, R66) -/

/-- A TLP the port rejects, or an error it corrects by replay (R66, R449), by the codes of `TlpError`. -/
def hostTlpError (n kind : Nat) (d : Dev) : Dev :=
  let u := FUnit.hp (Fin.ofNat 8 n)
  let bad := fun e : Aer => (d.aerReq n e none none none).faultFree { unit := u, src := 3, port := some n } true 65536
  let corrected := fun e : Aer => (d.aer n e).faultFree { unit := u, src := 4, port := some n } true 65536
  if d.hubOff || !(d.port n).linkUp then d
  else
    match kind with
    | 0 => bad .malformed
    | 1 => bad .flowControl
    | 2 => d.aerReq n .unexpectedCompletion none none none
    | 3 => corrected .receiverError
    | 4 => corrected .badTlp
    | 5 => corrected .badDllp
    | 6 => corrected .replayTimer
    | _ => corrected .replayRollover

/-- An access of a host that is an Unsupported Request (R36, R48, R335, R466): kind 0 a doorbell page at BAR2 offset `a`,
1 BAR4 at offset `a`, otherwise an AtomicOp. -/
def hostUnsupportedRequest (n kind a : Nat) (read : Bool) (d : Dev) : Dev :=
  let s := a / 4096
  let p := d.port n
  if d.hubOff || !p.linkUp then d
  else if kind = 0 then
    if 1023 < s then d
    else if d.flt.grave then (if read then d.unsupportedReq n true (some (p.ext.bar2 + a)) else d)
    else if d.sliceState s = 0 ∨ d.slicePort s ≠ n then d.unsupportedReq n read (some (p.ext.bar2 + a))
    else d
  else if kind = 1 then (if d.flt.grave ∨ (d.winAt n a 1).isSome then d else d.unsupportedReq n read (some (p.ext.bar4 + a)))
  else d.unsupportedReq n true none

end Sys2Proof.Machine
end

