-- ==== Sys2Proof/Machine/Cells.lean ====
section
/-! DEFINITION. Cells of an operation on their way between host ports, the hub buffer, the staging space, engines and links
(R141, R163–R165, R170–R174, R218), and the blocks they carry. -/
namespace Sys2Proof.Machine

/-! ## Places (R170) -/

/-- The island an endpoint belongs to: octants 0–7, 8 the hub. -/
def epIsland (e : Nat) : Nat := if isLinkEp e then e / 64 else if isEngEp e then (e - 0x200) / 8 else 8

/-- May a cell go from where it stands to `dst` on its way to its destination (R170, R190)? A shard block meets an engine
of its link's octant between the link and the hub link. -/
def Cell.hop (c : Cell) (dst : Nat) : Bool :=
  let t := epIsland c.dest
  if c.island = 8 then dst == (if t = 8 then c.dest else 0x250 + t)
  else if t = c.island then (if isLinkEp c.dest && !isEngEp c.ep then isEngEp dst else dst == c.dest)
  else if isLinkEp c.ep then isEngEp dst
  else dst == 0x250 + c.island

/-- The cell after a move to `dst`; a hub link is a crossing to the other island. -/
def Cell.go (c : Cell) (dst : Nat) : Cell :=
  if isHubLinkEp dst then { c with ep := dst, island := if c.island = 8 then dst - 0x250 else 8 } else { c with ep := dst }

/-- A cell has come to its destination. -/
def Cell.home (c : Cell) : Bool := c.ep == c.dest && c.island == epIsland c.dest

/-- Bytes cut into cells of up to 512 B from offset `o`. -/
def cutCells : Nat → Nat → List Byte → List (Nat × List Byte)
  | 0, _, _ => []
  | n + 1, o, l => if l.isEmpty then [] else (o, l.take 512) :: cutCells n (o + 512) (l.drop 512)

/-! ## Host data (R120, R141) -/

/-- A piece of the data range as host segments: offset from the range's start, length, host address, none crossing a
scatter entry or 512 bytes. -/
def sglCut : Nat → List (Nat × Nat) → Nat → Nat → Nat → List (Nat × Nat × Nat)
  | 0, _, _, _, _ => []
  | _ + 1, [], _, _, _ => []
  | n + 1, e :: r, skip, o, len =>
    if len = 0 then []
    else if e.2 ≤ skip then sglCut n r (skip - e.2) o len
    else
      let k := Nat.min (Nat.min len (e.2 - skip)) (512 - o % 512)
      (o, k, e.1 + skip) :: sglCut n (e :: r) (skip + k) (o + k) (len - k)

/-- The segments of a piece of the stripe's data, by stripe offset. -/
def JEntry.segments (e : JEntry) (o len : Nat) : List (Nat × Nat × Nat) :=
  sglCut (e.sgl.length + len + 1) e.sgl (o - dOffset e.desc) o len

/-- All the host segments of an operation in the order of R141. -/
def JEntry.allSegments (e : JEntry) (p : Plan) : List (Nat × Nat × Nat) :=
  (p.pieces (dOffset e.desc) (dLength e.desc)).flatMap (fun x => e.segments x.1 x.2)

/-- What is left of a list of segments after `n` bytes. -/
def afterBytes : Nat → List (Nat × Nat × Nat) → List (Nat × Nat × Nat)
  | _, [] => []
  | n, s :: r => if n = 0 then s :: r else if s.2.1 ≤ n then afterBytes (n - s.2.1) r else (s.1 + n, s.2.1 - n, s.2.2 + n) :: r

/-- `b` laid over `old` at offset `o`, in a 4 KiB block. -/
def putBytes (old : List Byte) (o : Nat) (b : List Byte) : List Byte :=
  let l := old ++ List.replicate (4096 - old.length) 0#8
  l.take o ++ b ++ l.drop (o + b.length)

/-- A data block of the stripe an item holds. -/
def Work.dataBlk (w : Work) (i : Nat) : List Byte :=
  let l := w.data.get i []
  if l.length = 4096 then l else l ++ List.replicate (4096 - l.length) 0#8

/-- The stripe's data with `b` at stripe offset `o`. -/
def Work.putData (w : Work) (o : Nat) (b : List Byte) : Work :=
  { w with data := w.data.set (o / 4096) (putBytes (w.data.get (o / 4096) []) (o % 4096) b) [] }

/-- `n` bytes more counted in a table. -/
def bump (t : Tab Nat) (k n : Nat) : Tab Nat := t.set k (t.get k 0 + n) 0

/-! ## Items -/

/-- An item runs: its start check has passed, its instar is current, and its status is not decided. -/
def Dev.runs (d : Dev) (n : Nat) : Bool :=
  let e := d.entry n
  (e.state == 2 || e.state == 3) && isShardOp (dOpcode e.desc) && (d.wk n).started && e.instar == d.sliceInstar e.slice && !e.abortReq

/-- The plan whose shards an item reads, and the plan whose shards it writes. -/
def Dev.readPlan (d : Dev) (n : Nat) : Option Plan := d.plan (dPlan (d.entry n).desc)
def Dev.writePlan (d : Dev) (n : Nat) : Option Plan := d.plan (d.writePlanNo n)

/-- The link a position of an item's write goes to: REBUILD_SHARD may name another (R238). -/
def Dev.writeLink (d : Dev) (n : Nat) (p : Plan) (pos : Nat) : Nat :=
  let x := (d.entry n).desc
  if dOpcode x = 4 ∧ bit (dArg1 x) 9 then dArg1 x % 512 else p.link pos

/-- The engine that codes an item's present stripe, reading and writing. -/
def Dev.readEng (d : Dev) (n : Nat) : Nat := ((d.readPlan n).map (fun p => p.engine (d.itemStripe n))).getD 0
def Dev.writeEng (d : Dev) (n : Nat) : Nat := ((d.writePlan n).map (fun p => p.engine (d.itemTarget n))).getD 0

/-- Is an operation reading whole stripes, whatever OFFSET and LENGTH say? -/
def wholeRead (op : Nat) : Bool := op != 2

/-- The data range an item reads of its stripe. -/
def JEntry.readOff (e : JEntry) : Nat := if wholeRead (dOpcode e.desc) then 0 else dOffset e.desc
def JEntry.readLen (e : JEntry) (p : Plan) : Nat := if wholeRead (dOpcode e.desc) then p.dataLen else dLength e.desc

/-- A staged write is still reading its stripe or waiting to (R221). -/
def Work.reading (w : Work) (e : JEntry) (p : Plan) : Bool :=
  (dOpcode e.desc != 1 || e.staged) && decide (w.rcol < p.columns)

/-! ## Blocks to links (R218, R317) -/

/-- A whole shard block stands at its link: it is sent in a write stream of its own. -/
def Dev.sendBlock (d : Dev) (n : Nat) (c : Cell) (data : List Byte) : Dev :=
  let e := d.entry n
  let w := d.wk n
  match d.writePlan n with
  | none => d
  | some p =>
    let l := c.dest
    let s := d.itemTarget n
    match d.openStream l (fun i => ⟨i, 0, n, e.serial, e.instar, c.pos, w.stripe, c.col, d.now, false, false⟩) with
    | none => d
    | some (i, d) =>
      let d := d.txMsg l 1 (streamOpen i 0 1 (p.addr c.pos s c.col) s (d.writePlanNo n) c.pos c.gen)
      let d := d.txMsg l 0 (blockMsg i 0 data c.gen)
      let w := d.wk n
      d.setWk n { w with opens := w.opens + 1, sent := true, linkOut := w.linkOut.set c.pos [] [] }

/-- A cell has come to its destination (R163, R221, R241). -/
def Dev.arrive (d : Dev) (n : Nat) (c : Cell) : Dev :=
  let w := d.wk n
  let e := d.entry n
  if c.kind = 1 then
    let l := w.linkOut.get c.pos [] ++ c.data
    let d := d.setWk n { w with linkOut := w.linkOut.set c.pos l [] }
    if l.length = 4096 then d.sendBlock n c l else d
  else if c.kind = 2 then
    let k := if c.dest = 0x248 then c.pos + 32 else c.pos
    let l := w.part.get k [] ++ c.data
    if l.length = 4096 then d.setWk n { w with part := w.part.set k [] [], blocks := w.blocks ++ [⟨k, l, c.gen, c.ok⟩] }
    else d.setWk n { w with part := w.part.set k l [] }
  else if c.kind = 3 then d.setWk n { w with cells := w.cells ++ [{ c with dest := 0x240 + d.slicePort e.slice }] }
  else if isEngEp c.dest ∧ dOpcode e.desc = 1 ∧ e.staged then d.setWk n { w with enc := bump w.enc (c.off / 4096) c.data.length }
  else if c.dest = 0x248 ∧ c.kind = 0 then
    let w := w.putData c.off c.data
    d.setWk n { w with given := w.given + c.data.length }
  else
    let w := w.putData c.off c.data
    d.setWk n { w with have_ := bump w.have_ (c.off / 4096) c.data.length }

/-- Up to `k` of an item's cells that `p` holds of go to `dst`: the cells then, and those that have come home. -/
def moveSome (p : Cell → Bool) (dst : Nat) : Nat → List Cell → List Cell × List Cell
  | _, [] => ([], [])
  | 0, l => (l, [])
  | k + 1, c :: l =>
    if p c then
      let r := moveSome p dst k l
      if (c.go dst).home then (r.1, c.go dst :: r.2) else (c.go dst :: r.1, r.2)
    else
      let r := moveSome p dst (k + 1) l
      (c :: r.1, r.2)

/-- Up to `k` cells of an item move to `dst`. -/
def Dev.moveCells (d : Dev) (n : Nat) (p : Cell → Bool) (dst k : Nat) : Dev :=
  let w := d.wk n
  let r := moveSome p dst k w.cells
  r.2.foldl (fun d c => d.arrive n c) (d.setWk n { w with cells := r.1, fired := true })

/-! ## What is ready (R172, R174, R213) -/

/-- Does a PLAN_CLASS run carry cells with this class and engine (R172)? A MIGRATE's transfer answers to either of its two
plans. -/
def Dev.tagOk (d : Dev) (n : Nat) (r : BitVec 64) (c : Cell) : Bool :=
  (c.pclass == runClass r && c.eng == runEngine r)
    || (c.kind == 4 && dOpcode (d.entry n).desc == 5 && d.writeEng n == runEngine r
      && (match d.writePlan n with | some p => p.pclass == runClass r | none => false))

/-- The physical engine of a logical engine works: bound, powered and IN_SERVICE, in a die that runs (R15, R161, R162). -/
def Dev.engUp (d : Dev) (e : Nat) : Bool :=
  d.flag (ENG_MAP_BOUND e) && d.rd (ENG_STATUS_STATE (d.rd (ENG_MAP_PHYS e))) == 1 && !d.octDown (e / 8)

/-- An endpoint a run names can take part: its engine works, its link is ACTIVE and its bay is not being retired, its octant's die
runs (R15, R213, R292). -/
def Dev.epUp (d : Dev) (e : Nat) : Bool :=
  if isLinkEp e then d.linkActive e && d.lnk.retiring.get (e / 8) 0 == 0
  else if isEngEp e then d.engUp (e - 0x200)
  else if isHubLinkEp e then !d.octDown (e - 0x250)
  else true

/-- A cell is ready for a run of an island (R172); between a host port and the hub buffer POOL and MGR runs move it, PLAN_CLASS runs do
not (R171). -/
def Dev.cellReady (d : Dev) (n island : Nat) (r : BitVec 64) (c : Cell) : Bool :=
  !isPortEp (runSrc r) && !isPortEp (runDst r) && c.island == island && c.ep == runSrc r && c.hop (runDst r) && d.tagOk n r c && (c.kind != 1 || !isLinkEp (runDst r) || (d.freeId (runDst r)).isSome)

/-- A slice's share of hub runs: slice 0 has the image's MGR runs (R70). -/
def Dev.shareRuns (d : Dev) (s : Nat) : Nat :=
  if s = 0 then ((d.inForce.map (fun g => (g.mgr.getD d.mgrPort []).length))).getD 0 else d.rd (SLC_SHARE_RUNS s)

/-- The cells a slice has in the hub buffer in one direction: kind 0 in, with host reads outstanding; 3 out, with those in a crossing
toward the hub, whose place is taken (R174; log entry 113). -/
def Dev.bufferUse (d : Dev) (s kind : Nat) : Nat :=
  let here := (d.sliceSlots s).foldl (fun a n => a + ((d.wk n).cells.filter (fun c =>
    c.kind == kind && c.island == 8 && (c.ep == 0x249 || (kind == 3 && isHubLinkEp c.ep)))).length) 0
  if kind = 0 then here + (d.reads.filter (fun r => r.slice == s && (match r.why with | .payload _ _ _ _ _ => true | _ => false))).length
  else here

/-- The room a slice has in the hub buffer (R174). -/
def Dev.bufferRoom (d : Dev) (s kind : Nat) : Nat := 32 * d.shareRuns s - d.bufferUse s kind

end Sys2Proof.Machine
end

