-- ==== Sys2Proof/Machine/Program.lean ====
section
/-! DEFINITION. The engine program: what the plan sequencer does with one block column (R151, R153, R160, R196, R198). -/
namespace Sys2Proof.Machine

/-- What a block column gives the plan sequencer (R196): the plan and its matrix, the program, the path (0 encode, 1 normal
read, 2 single-loss, 3 multi-loss, 4 scrub), the lost positions and the data positions in range in ascending order, the
survivors, the rows of the cached matrix, and the blocks in the column buffer by position. -/
structure ColCtx where
  plan : Plan
  mat : Matrix
  words : List (BitVec 64)
  path : Nat
  lost : List Nat
  inr : List Nat
  surv : List Nat
  ml : Option (List (List Byte))
  blocks : Tab (List Byte)

/-- The sequencer's state in a column: selected inputs, array rows, outputs, and what it has sent. `through`: a block was
sent unchanged (R270); `coded`: the array ran (R159). -/
structure ColOut where
  sel : List Nat := []
  rows : Tab (List Byte) := []
  outs : List (List Byte) := []
  cells : List (Nat × List Byte) := []
  shards : List (Nat × List Byte) := []
  through : Bool := false
  coded : Bool := false
  incons : Bool := false
  bad : Bool := false

/-- A list padded with zeros to a block. -/
def padBlk (l : List Byte) : List Byte := l ++ List.replicate (4096 - l.length) 0#8

/-- The block of a position in the column buffer. -/
def ColCtx.blk (c : ColCtx) (i : Nat) : Option (List Byte) :=
  let l := c.blocks.get i []
  if l.isEmpty then none else some l

/-- A POS operand: a position of the plan, or lost j as 0x20 + j (R196). -/
def ColCtx.pos (c : ColCtx) (x : Nat) : Option Nat :=
  if x < 32 then (if x < c.plan.width then some x else none) else c.lost[x - 32]?

/-- The instruction cannot apply to the column (R198). -/
def ColOut.abandon (o : ColOut) : ColOut := { o with bad := true }

/-- EMIT_SHARD or EMIT_CELL of a source to a position (R196). -/
def ColCtx.emit (c : ColCtx) (shard input : Bool) (src pos : Nat) (o : ColOut) : ColOut :=
  match (if input then c.blk src else o.outs[src]?), c.pos pos with
  | some b, some p =>
    let o := { o with through := o.through || input }
    if shard then { o with shards := o.shards ++ [(p, b)] }
    else if p < c.plan.k then { o with cells := o.cells ++ [(p, b)] }
    else o.abandon
  | _, _ => o.abandon

/-- Rows of a matrix put into array rows from `a`; one that does not exist abandons the column. -/
def ColOut.loadRows (o : ColOut) (a : Nat) (l : List (List Byte)) : ColOut :=
  if l.any (·.isEmpty) || decide (8 < a + l.length) || l.isEmpty then o.abandon
  else { o with rows := (List.range l.length).foldl (fun r j => Tab.set r (a + j) (l.getD j []) []) o.rows }

/-- The condition of SKIP_IF (R196). -/
def ColCtx.skips (c : ColCtx) (cond pos n : Nat) : Bool :=
  let p := if pos < 32 then some pos else c.lost[pos - 32]?
  if cond = 0 then !(p.any c.lost.contains) else if cond = 1 then !(p.any c.inr.contains) else decide (c.lost.length < n)

/-- The first lost data position of the column (LOAD_SL 0x3F). -/
def ColCtx.lostData (c : ColCtx) : Option Nat := c.lost.find? (fun i => decide (i < c.plan.k))

/-- An instruction that goes on to the next word (R196). -/
def ColCtx.word (c : ColCtx) (x : Nat) (o : ColOut) : ColOut :=
  let op := bits x 60 4
  if op = 3 then
    let mode := bits x 0 2
    let l := if mode = 0 then maskList (bits x 2 32) 32 else if mode = 1 then List.range c.plan.k
      else if mode = 2 then c.surv else List.range c.plan.width
    { o with sel := l }
  else if op = 5 then
    o.loadRows (bits x 6 3) ((List.range (bits x 3 3 + 1)).map (fun j => c.mat.enc.getD (bits x 0 3 + j) []))
  else if op = 6 then
    match (if bits x 0 6 = 0x3F then c.lostData else some (bits x 0 6)) with
    | some i => o.loadRows (bits x 6 3) [c.mat.single.getD i []]
    | none => o.abandon
  else if op = 7 then
    match c.ml with
    | some l => o.loadRows 0 l
    | none => o.abandon
  else if op = 8 then o.loadRows (bits x 6 3) [unitRow 32 (bits x 0 5)]
  else if op = 9 then
    let rows := (List.range (bits x 0 4)).map (fun j => o.rows.get j [])
    let ins := o.sel.map c.blk
    if rows.any (·.isEmpty) || ins.any (·.isNone) then o.abandon
    else { o with outs := rows.map (fun r => padBlk (dotBlk r (ins.filterMap id))), coded := true }
  else if op = 0xA ∨ op = 0xB then c.emit (op == 0xA) (bit x 5) (bits x 0 5) (bits x 6 6) o
  else if op = 0xD then
    match o.outs[bits x 0 3]?, (c.pos (bits x 6 6)).bind c.blk with
    | some a, some b => { o with incons := o.incons || a != b }
    | _, _ => o.abandon
  else o

/-- The program from word `pc` on, at most `n` instructions (R196, R197). -/
def ColCtx.run : Nat → ColCtx → Nat → ColOut → ColOut
  | 0, _, _, o => o
  | n + 1, c, pc, o =>
    if o.bad then o
    else
      match c.words[pc]? with
      | none => o.abandon
      | some w =>
        let x := w.toNat
        let op := bits x 60 4
        if op = 0xF then o
        else if op = 1 then ColCtx.run n c (bits x (12 * c.path) 12) o
        else if op = 2 then ColCtx.run n c (bits x 0 12) o
        else if op = 0xC then
          let y := (c.words.getD (pc + 1) 0).toNat
          ColCtx.run n c (pc + 2) (c.inr.foldl (fun o i => c.emit (bits y 60 4 == 0xA) true i i o) o)
        else if op = 0xE then ColCtx.run n c (if c.skips (bits x 0 3) (bits x 3 6) (bits x 9 3) then pc + 2 else pc + 1) o
        else ColCtx.run n c (pc + 1) (c.word x o)

/-- The column through its program from the first word (R160). -/
def ColCtx.go (c : ColCtx) : ColOut := ColCtx.run (c.words.length + 1) c 0 {}

/-! ## Multi-loss matrices (R153, R156) -/

/-- Row `i` of the generator matrix (R143). -/
def Matrix.gen (m : Matrix) (i : Nat) : List Byte := if i < m.k then unitRow m.k i else m.enc.getD (i - m.k) []

/-- A row times a matrix. -/
def rowTimes (r : List Byte) (m : List (List Byte)) : List Byte :=
  (List.range ((m.headD []).length)).map (fun j => dotRow r (m.map (fun l => l.getD j 0#8)))

/-- The rows that recover the lost positions from survivors, if their rows invert (R153). -/
def Matrix.recover (m : Matrix) (surv lost : List Nat) : Option (List (List Byte)) :=
  (gfInverse m.k (surv.map m.gen)).map (fun g => lost.map (fun i => if i < m.k then g.getD i [] else rowTimes (m.gen i) g))

/-- Subsets of `k` elements in lexicographic order, at most `lim` of them. -/
def combosUpTo : Nat → Nat → List Nat → List (List Nat)
  | _, 0, _ => [[]]
  | _, _ + 1, [] => []
  | lim, k + 1, x :: l =>
    let a := (combosUpTo lim k l).map (x :: ·)
    if lim ≤ a.length then a.take lim else a ++ combosUpTo (lim - a.length) (k + 1) l

/-- The matrix of a pattern: the first of up to 64 survivor sets that inverts (R153, R156). -/
def Matrix.multi (m : Matrix) (lost : List Nat) : Option (List Nat × List (List Byte)) :=
  let good := (List.range (m.k + m.m)).filter (fun i => !lost.contains i)
  ((combosUpTo 64 m.k good).filterMap (fun s => (m.recover s lost).map (fun r => (s, r)))).head?

end Sys2Proof.Machine
end

