-- ==== Sys2Proof/Machine/Items.lean ====
section
/-! DEFINITION. Data items between acceptance and the completion sequencer: start checks, what a column reads, stripes and
how they end (R152–R156, R164, R211–R221, R228–R242). -/
namespace Sys2Proof.Machine

/-! ## Classification (R211, R268) -/

/-- LINK_HOLD has passed for a link that left ACTIVE (R268, R273). -/
def Dev.holdOver (d : Dev) (l : Nat) : Bool :=
  match (d.link l).left with
  | some t => (d.link l).expired || decide (t + d.rd JNL_CFG_LINK_HOLD_MS * 1000000 < d.now)
  | none => false

/-- A target link: 0 available, 1 held, 2 absent (R211). -/
def Dev.linkClass (d : Dev) (l : Nat) : Nat :=
  let c := d.lnk.cond.get (l / 8) 2
  if c < 2 && d.linkActive l then 0 else if c < 2 && (d.link l).left.isSome && !d.holdOver l then 1 else 2

/-- The positions of a plan whose link has a class, as a mask. -/
def Dev.classMask (d : Dev) (p : Plan) (c : Nat) : Nat := listMask ((List.range p.width).filter (fun i => d.linkClass (p.link i) == c))

/-- A link's positions are absent because its hold has expired, or because another partner ended it (R268, R290). -/
def Dev.holdExpired (d : Dev) (l : Nat) : Bool := ((d.link l).left.isSome && (d.link l).expired) || (d.link l).other

/-- The status of a position that is absent (R217, R268). -/
def Dev.absentStatus (d : Dev) (l : Nat) : Nat := if d.holdExpired l then stBayUnreachable else stBayAbsent

/-- The positions an operation writes of a stripe. -/
def Dev.dests (d : Dev) (n : Nat) (q : Plan) : List Nat :=
  let op := dOpcode (d.entry n).desc
  if op = 4 then [dArg0 (d.entry n).desc % 32] else if op = 1 ∨ op = 5 then List.range q.width else []

/-- Those of them whose links have a class, as a mask (R211). -/
def Dev.destMask (d : Dev) (n : Nat) (q : Plan) (c : Nat) : Nat := listMask ((d.dests n q).filter (fun i => d.linkClass (d.writeLink n q i) == c))

/-! ## What a column reads (R141, R149, R152, R228, R232, R238) -/

/-- The path of a column: 1 normal, 2 single-loss, 3 multi-loss, 4 scrub, 5 none (R152, R163). -/
def colPath (p : Plan) (op i lost : Nat) (inr : List Nat) : Nat :=
  let l := maskList lost p.width
  let data := l.filter (fun j => decide (j < p.k))
  let single := data.length == 1 && decide (0 < p.m) && !bit lost p.k
  if op = 3 then (if l.isEmpty then 4 else 5)
  else if op = 4 then
    if p.m < l.length then 5 else if (if i < p.k then single && data == [i] else l == [i]) then 2 else 3
  else if (inr.filter (bit lost)).isEmpty then 1
  else if single then 2
  else if l.length ≤ p.m then 3
  else 5

/-- The survivors of a path in ascending order (R151, R153). -/
def colSurv (p : Plan) (path lost : Nat) : List Nat :=
  let good := (List.range p.width).filter (fun j => !bit lost j)
  let data := good.filter (fun j => decide (j < p.k))
  if path = 2 then (if data.length < p.k then data ++ [p.k] else data) else good.take p.k

/-- The positions a column needs. -/
def colNeed (p : Plan) (op i lost : Nat) (full : Bool) (inr : List Nat) : List Nat :=
  let path := colPath p op i lost inr
  if op = 3 ∨ full then (List.range p.width).filter (fun j => !bit lost j)
  else if path = 1 then inr
  else if path = 2 ∨ path = 3 then colSurv p path lost
  else []

/-- The lost positions an item's column counts: a scrub counts held ones (R232). -/
def Dev.colLost (d : Dev) (n : Nat) : Nat :=
  let e := d.entry n
  if dOpcode e.desc = 3 then Nat.lor e.lost (d.wk n).held else e.lost

/-- The position REBUILD_SHARD recomputes. -/
def JEntry.target (e : JEntry) : Nat := dArg0 e.desc % 32

/-- The data positions in range of the column being read. -/
def Dev.colRange (d : Dev) (n : Nat) (p : Plan) : List Nat :=
  let e := d.entry n
  p.inRange e.readOff (e.readLen p) (d.wk n).rcol

/-- The path of the column being read. -/
def Dev.pathOf (d : Dev) (n : Nat) (p : Plan) : Nat := colPath p (dOpcode (d.entry n).desc) (d.entry n).target (d.colLost n) (d.colRange n p)

/-! ## The recovery reserve and the matrix cache (R153–R155, R164) -/

/-- Free recovery reserve in bytes. -/
def Dev.reserveFree (d : Dev) : Nat := 2 ^ 28 - d.work.foldl (fun a e => a + e.2.reserve) 0

/-- An item takes its reserve, k × 4 KiB for every column in range, unless it holds it, in order of acceptance: a staged write
has its own staging space. -/
def Dev.takeReserve (d : Dev) (n : Nat) (p : Plan) : Dev :=
  let e := d.entry n
  let w := d.wk n
  let cols := ((List.range p.columns).filter (fun b => !(p.inRange e.readOff (e.readLen p) b).isEmpty)).length
  let need := p.k * 4096 * cols
  let before := d.liveSlots.any (fun x => (d.wk x).ml && (d.wk x).reserve == 0 && dOpcode (d.entry x).desc != 1
    && decide ((d.entry x).serial < e.serial))
  if dOpcode e.desc = 1 ∨ w.reserve ≠ 0 ∨ before ∨ d.reserveFree < need then d else d.setWk n { w with reserve := need }

/-- Has an item the staged space its multi-loss columns need? -/
def Dev.reserved (d : Dev) (n : Nat) : Bool := dOpcode (d.entry n).desc == 1 || (d.wk n).reserve != 0

/-- The place in the cache of a pattern of the image in force. -/
def Dev.matFind (d : Dev) (matrix lost : Nat) : Option Nat :=
  let sig := (d.inForce.map (·.sig)).getD 0
  d.eng.cache.findIdx? (fun m => m.sig == sig && m.matrix == matrix && m.lost == lost)

/-- The valid cache entry of a pattern. -/
def Dev.matrixOf (d : Dev) (matrix lost : Nat) : Option MatEntry :=
  match d.matFind matrix lost with
  | some i => (d.eng.cache[i]?).filter (·.valid)
  | none => none

/-- The positions the column being read needs: on the multi-loss path the survivors the cached matrix names, once it is valid
(R153, R156). -/
def Dev.needOf (d : Dev) (n : Nat) (p : Plan) : List Nat :=
  let op := dOpcode (d.entry n).desc
  match d.matrixOf p.matrix (d.colLost n) with
  | some m => if d.pathOf n p = 3 ∧ ¬(d.wk n).full then m.survivors
    else colNeed p op (d.entry n).target (d.colLost n) (d.wk n).full (d.colRange n p)
  | none => colNeed p op (d.entry n).target (d.colLost n) (d.wk n).full (d.colRange n p)

/-- A pattern is looked up: found, or its computation is awaited, or asked for (R154, R155). -/
def Dev.matAsk (d : Dev) (n matrix lost : Nat) : Dev :=
  let c := d.eng.clock + 1
  match d.matFind matrix lost with
  | some i =>
    let ok := ((d.eng.cache[i]?).map (·.valid)).getD false
    let cache := d.eng.cache.mapIdx (fun j m => if j = i then { m with used := c } else m)
    let d := { d with eng := { d.eng with cache := cache, clock := c } }
    let d := d.setWk n { d.wk n with matWait := !ok }
    if ok then d.inc ENG_DCACHE_HITS_COUNT else d.inc ENG_DCACHE_MISSES_COUNT
  | none =>
    let m : MatEntry := ⟨(d.inForce.map (·.sig)).getD 0, matrix, lost, false, [], [], c, d.now, dPlan (d.entry n).desc⟩
    let d := { d with eng := { d.eng with cache := d.eng.cache ++ [m], clock := c } }
    (d.setWk n { d.wk n with matWait := true }).inc ENG_DCACHE_MISSES_COUNT

/-! ## Asking for blocks (R228, R317, R325) -/

/-- One block is asked for, in a stream of its own, while its link is up and an identifier is free. -/
def Dev.askPos (d : Dev) (n : Nat) (p : Plan) (pos : Nat) : Dev :=
  let e := d.entry n
  let w := d.wk n
  let l := p.link pos
  if bit w.asks pos || bit w.held pos || !d.linkActive l then d
  else
    match d.openStream l (fun i => ⟨i, 1, n, e.serial, e.instar, pos, w.stripe, w.rcol, d.now, false, false⟩) with
    | none => d
    | some (i, d) =>
      let s := d.itemStripe n
      let d := d.txMsg l 1 (streamOpen i 1 1 (p.addr pos s w.rcol) s (dPlan e.desc) pos 0)
      d.setWk n { d.wk n with asks := Nat.lor w.asks (2 ^ pos) }

/-- The witness a column still wants: the lowest check position available and not otherwise read (R228). -/
def Dev.witnessPos (d : Dev) (n : Nat) (p : Plan) (need : List Nat) : Option Nat :=
  let e := d.entry n
  let w := d.wk n
  let op := dOpcode e.desc
  let ok := fun i => !bit e.lost i && !bit w.held i && !need.contains i && !bit w.asks i && d.linkActive (p.link i)
  if (op ≠ 2 ∧ op ≠ 5) ∨ w.full ∨ w.wit.isSome ∨ w.witness.isSome then none else ((List.range p.m).map (p.k + ·)).find? ok

/-- The witness's trailer is asked for while an identifier is free (R228, R318). -/
def Dev.askWitness (d : Dev) (n : Nat) (p : Plan) (need : List Nat) : Dev :=
  let e := d.entry n
  let w := d.wk n
  match d.witnessPos n p need with
  | none => d
  | some i =>
    let l := p.link i
    match d.openStream l (fun j => ⟨j, 2, n, e.serial, e.instar, i, w.stripe, w.rcol, d.now, false, false⟩) with
    | none => d
    | some (j, d) =>
      let d := d.txMsg l 1 (trailerRead j (p.addr i (d.itemStripe n) w.rcol))
      d.setWk n { d.wk n with wit := some i }

/-- The column being read is of a new path: a multi-loss column takes its reserve and looks its matrix up, again when the
cache no longer holds it. -/
def Dev.enterPath (d : Dev) (n : Nat) (p : Plan) : Dev :=
  let w := d.wk n
  if d.pathOf n p ≠ 3 then d
  else
    let known := w.ml && (w.matWait || (d.matrixOf p.matrix (d.colLost n)).isSome)
    let d := if known then d else (d.setWk n { w with ml := true }).matAsk n p.matrix (d.colLost n)
    d.takeReserve n p

/-- What the column being read still needs is asked for. -/
def Dev.askColumn (d : Dev) (n : Nat) : Dev :=
  match d.readPlan n with
  | none => d
  | some p =>
    let w := d.wk n
    if !d.runs n || !w.reading (d.entry n) p || w.stop.isSome || w.replay.isSome then d
    else
      let d := d.enterPath n p
      if d.pathOf n p = 3 && !d.reserved n then d
      else
        let need := d.needOf n p
        (need.foldl (fun d i => d.askPos n p i) d).askWitness n p need

/-- Every block the column needs stands at the engine, its witness has been read or is not to be had, and its matrix is valid. -/
def Dev.columnReady (d : Dev) (n : Nat) (p : Plan) : Bool :=
  let w := d.wk n
  (d.needOf n p).all (fun i => w.blocks.any (fun b => b.pos == i)) && w.wit.isNone && (d.witnessPos n p (d.needOf n p)).isNone
    && (d.pathOf n p != 3 || (d.matrixOf p.matrix (d.colLost n)).isSome)

/-- The cells of up to 4 KiB that begin at a byte offset (R171). -/
def blkCells (island ep dest cls eng kind pos col off : Nat) (data : List Byte) (gen : Nat) (ok : Bool) : List Cell :=
  (cutCells 9 off data).map (fun x => ⟨island, ep, dest, cls, eng, kind, pos, col, x.1, x.2, gen, ok⟩)

/-- Cells of an item come into being; one that stands at its destination has arrived. -/
def Dev.putCells (d : Dev) (n : Nat) (l : List Cell) : Dev :=
  l.foldl (fun d c =>
    if c.home then d.arrive n c
    else
      let w := d.wk n
      d.setWk n { w with cells := w.cells ++ [c] }) d

/-- The staged survivors of a multi-loss column go back to the engine once all of them are staged and the matrix is valid
(R155, R163). -/
def Dev.stageReturn (d : Dev) (n : Nat) : Dev :=
  match d.readPlan n with
  | none => d
  | some p =>
    let w := d.wk n
    let back := w.blocks.filter (fun b => decide (32 ≤ b.pos))
    let here := (d.needOf n p).all (fun i => w.blocks.any (fun b => b.pos % 32 == i))
    if !w.ml || back.isEmpty || !here || (d.matrixOf p.matrix (d.colLost n)).isNone then d
    else
      let g := d.readEng n
      let d := d.setWk n { w with blocks := w.blocks.filter (fun b => decide (b.pos < 32)), matWait := false }
      d.putCells n (back.flatMap (fun b => blkCells 8 0x248 (0x200 + g) p.pclass g 2 (b.pos - 32) w.rcol 0 b.data b.gen b.crcOk))

/-! ## Findings and ends -/

/-- A finding the present stripe makes once (R230, R235). -/
def Dev.findOnce (d : Dev) (n reason pos : Nat) : Dev :=
  let w := d.wk n
  if w.found.contains (reason, pos) then d
  else (d.setWk n { w with found := w.found ++ [(reason, pos)] }).itemFinding n reason pos (d.itemStripe n)

/-- Everything an item has in transit inside the device is dropped. -/
def Dev.dropCells (d : Dev) (n : Nat) : Dev := d.setWk n { d.wk n with cells := [], linkOut := [], part := [] }

/-- A failure ends the whole operation once the blocks sent are settled (R198, R219, R220, R267); `k` says when its stripe is a
partial write. An operation that is ENDING already takes the outcome that ranks first (R216). -/
def Dev.failItem (d : Dev) (n status : Nat) (k : Nat := 1) : Dev :=
  let e := d.entry n
  if e.state = 6 ∧ ¬e.abortReq then d.meet n status
  else if e.state = 0 ∨ 5 ≤ e.state then d
  else ((d.dropCells n).markPartial n k).conclude n status

/-- Stripes of an operation. -/
def JEntry.stripes (e : JEntry) : Nat := if dOpcode e.desc ≤ 2 then 1 else dLength e.desc

/-- The passing state of a stripe is over. -/
def Work.cleared (w : Work) : Work :=
  { fired := w.fired, nextStripe := w.nextStripe, skipped := w.skipped, reserve := w.reserve, replay := w.replay, att := w.att + 1 }

/-- The present stripe is finished; the operation ends with its last one (R233, R239, R242, R254). -/
def Dev.endStripe (d : Dev) (n : Nat) (counted : Bool) : Dev :=
  let e := d.entry n
  let e := { e with stripeDone := e.stripeDone + 1, done := 0, col := 0, lost := 0, decoded := false, staged := false, held := false }
  let e := { e with result := e.result + b2n counted, state := if e.state = 3 then 2 else e.state }
  let d := (d.setEntry n e).setWk n (d.wk n).cleared
  if e.stripes ≤ e.stripeDone then d.complete n e.status e.result e.resultHi else d

/-- Can a write go on without position `i` (R217, R224)? -/
def Dev.degradable (d : Dev) (n : Nat) (p : Plan) (i : Nat) : Bool × Dev :=
  if p.degradeOk && decide (1 ≤ p.m) && !dNoDegrade (d.entry n).desc then
    if d.debtRoom (d.writePlanNo n) i (d.itemTarget n) then (true, d) else (false, d.debtRefuse)
  else (false, d)

/-- A stripe of a write ends without all its blocks (R219, R239, R242). -/
def Dev.stopWrite (d : Dev) (n status : Nat) : Dev :=
  let op := dOpcode (d.entry n).desc
  if op = 1 then d.failItem n status 2
  else
    let d := if op = 5 then d.markPartial n 2 else d
    let d := (d.meet n status).dropCells n
    d.setWk n { d.wk n with stop := some status }

/-- Positions an item writes have become absent, or a shard write has failed (R219, R268): of several at once the outcome that ranks first
stands (R216), also after others. -/
def Dev.posAbsent (d : Dev) (n : Nat) (l : List Nat) : Dev :=
  let e := d.entry n
  let w := d.wk n
  match d.writePlan n with
  | none => d
  | some p =>
    let l := l.filter (fun i => e.dropped != some i)
    let st := l.foldl (fun a i => firstStatus a (d.absentStatus (d.writeLink n p i))) stSuccess
    if l.isEmpty ∨ e.state = 0 ∨ e.abortReq then d
    else if w.stop.isSome ∨ 5 ≤ e.state then (if e.state = 5 ∨ e.state = 7 then d else d.meet n st)
    else
      match (if dOpcode e.desc = 4 ∨ e.dropped.isSome then none else if l.length = 1 then l.head? else none) with
      | none => d.stopWrite n st
      | some pos =>
        match d.degradable n p pos with
        | (true, d) =>
          let w := { w with cells := w.cells.filter (fun c => c.kind != 1 || c.pos != pos), linkOut := w.linkOut.set pos [] [] }
          (d.setEntry n { e with dropped := some pos }).setWk n w
        | (false, d) => d.stopWrite n st

/-! ## The start check (R212, R214, R217, R239) -/

/-- Does an entry write stripe `s` of plan `p`? -/
def Dev.coversWrite (d : Dev) (x p s : Nat) : Bool :=
  let e := d.entry x
  let op := dOpcode e.desc
  let a := if op = 5 then dArg1 e.desc % 2 ^ 40 else dStripe e.desc
  writesShards op && d.writePlanNo x == p && decide (a ≤ s) && decide (s < a + e.stripes)

/-- No operation accepted earlier that writes the same stripe is uncompleted (R214). -/
def Dev.stripeFree (d : Dev) (n s : Nat) : Bool :=
  let e := d.entry n
  let a := if dOpcode e.desc = 5 then dArg1 e.desc % 2 ^ 40 else dStripe e.desc
  !writesShards (dOpcode e.desc)
    || !d.liveSlots.any (fun x => x != n && decide ((d.entry x).serial < e.serial) && d.coversWrite x (d.writePlanNo n) (a + s))

/-- The first free stripe from `s` on, with those held back before it (R214). -/
def scanStripe (free : Nat → Bool) : Nat → Nat → List Nat → Option Nat × Nat × List Nat
  | 0, s, l => (none, s, l)
  | n + 1, s, l => if free s then (some s, s + 1, l) else scanStripe free n (s + 1) (l ++ [s])

/-- The stripe an operation takes next, if one is free, with those held back before it noted (R214). -/
def Dev.pickStripe (d : Dev) (n : Nat) : Option Nat × Work :=
  let w := d.wk n
  match w.skipped.find? (d.stripeFree n) with
  | some s => (some s, w)
  | none =>
    let r := scanStripe (d.stripeFree n) ((d.entry n).stripes - w.nextStripe) w.nextStripe w.skipped
    (r.1, { w with nextStripe := r.1.getD r.2.1, skipped := r.2.2 })

/-- The stripe picked is begun. -/
def Work.take (w : Work) (s : Nat) : Work :=
  if w.skipped.contains s then { w with stripe := s, skipped := setDel s w.skipped } else { w with stripe := s, nextStripe := s + 1 }

/-- Stripes of an operation that wait for one accepted earlier (R214, R248). -/
def Dev.stripesWaiting (d : Dev) (n : Nat) : Nat :=
  let e := d.entry n
  if e.state = 0 ∨ 5 ≤ e.state ∨ e.abortReq then 0 else ((d.wk n).skipped.filter (fun s => !d.stripeFree n s)).length

/-- The start check of a write's targets: it goes on whole, or without one position, or ends (R217). -/
def Dev.checkTargets (d : Dev) (n : Nat) (p : Plan) : Dev :=
  let e := d.entry n
  let gone := (List.range p.width).filter (fun i => d.linkClass (p.link i) == 2)
  let st := if gone.any (fun i => d.holdExpired (p.link i)) then stBayUnreachable else stBayAbsent
  let fail := fun (d : Dev) => if dOpcode e.desc = 1 then d.complete n st 0 0 else (d.meet n st).endStripe n false
  match gone with
  | [] => d.setEntry n { e with dropped := none }
  | [i] =>
    match d.degradable n p i with
    | (true, d) => d.setEntry n { e with dropped := some i }
    | (false, d) => fail d
  | _ => fail d

/-- A stripe begins: its start check, then what it reads is asked for (R212, R217, R229, R238, R241). -/
def Dev.startStripe (d : Dev) (n : Nat) (p q : Plan) : Dev :=
  let e := d.entry n
  let op := dOpcode e.desc
  let gone := d.classMask p 2
  let lost := if op = 1 ∧ ¬e.staged then 0 else if op = 4 then Nat.lor gone (2 ^ e.target) else gone
  let w := d.wk n
  let held := d.classMask p 1
  let heldW := d.destMask n q 1
  let wait := held != 0 || heldW != 0
  let d := d.setEntry n { e with state := if wait then 3 else 2, held := wait, lost := lost }
  let d := d.setWk n { w with started := true, held := held, heldW := heldW, gone := gone, rcol := nextCol p e.readOff (e.readLen p) 0 }
  if op = 4 ∧ d.linkClass (d.writeLink n p e.target) = 2 then
    (d.meet n (d.absentStatus (d.writeLink n p e.target))).endStripe n false
  else
    let d := if op = 5 then
        let (g, d) := d.takeGen (d.writePlanNo n)
        d.setEntry n { d.entry n with gen := g }
      else d
    let d := if op = 1 ∨ op = 5 then d.checkTargets n q else d
    d.askColumn n

/-- Is a stripe of an item waiting for its start check (R212)? -/
def Dev.startable (d : Dev) (n : Nat) : Bool :=
  let e := d.entry n
  isShardOp (dOpcode e.desc) && (e.state == 1 || e.state == 2 || e.state == 3) && !(d.wk n).started && !e.abortReq && d.mayStart n
    && e.instar == d.sliceInstar e.slice && !d.flt.grave && (d.wk n).replay.isNone
    && !((dOpcode e.desc == 1 || dOpcode e.desc == 2) && e.sgl.isEmpty)

/-! ## Digests (R120, R231) -/

/-- Bytes of the stripe's data an item holds. -/
def Work.bytes (w : Work) (off len : Nat) : List Byte :=
  (((List.range ((off + len + 4095) / 4096 - off / 4096)).flatMap (fun i => w.dataBlk (off / 4096 + i))).drop (off % 4096)).take len

/-- The digests of the data range, one for each 4 KiB counted from OFFSET. -/
def Work.digests (w : Work) (off len : Nat) : List Nat :=
  (List.range ((len + 4095) / 4096)).map (fun i => (crc32c (w.bytes (off + 4096 * i) (Nat.min 4096 (len - 4096 * i)))).toNat)

/-- A stripe read or write completes with a status, the RESULT it would have without a digest, and its digests. -/
def Dev.finishData (d : Dev) (n status result : Nat) : Dev :=
  let e := d.entry n
  let w := d.wk n
  let st := firstStatus e.status status
  let mode := dDigest e.desc % 4
  if st ≠ stSuccess ∧ st ≠ stRecovered ∧ st ≠ stDegradedWrite then d.complete n st result 0
  else if mode = 1 then d.complete n st ((w.digests (dOffset e.desc) (dLength e.desc)).headD 0) result
  else if mode = 2 then
    match d.hostWrite e.slice e.instar true false (dDigestAddr e.desc) ((w.digests (dOffset e.desc) (dLength e.desc)).flatMap (leBytes 4)) with
    | (true, d) => d.complete n st result 0
    | (false, d) => d.complete n stHostDma 0 0
  else d.complete n st result 0

/-! ## How a stripe ends -/

/-- Nothing an item writes is on its way to a link or unacknowledged. -/
def Work.quiet (w : Work) : Bool := !w.cells.any (fun c => c.kind == 1) && w.linkOut.isEmpty && w.opens == 0

/-- Leading columns that are complete at every position in use, up to `m` (R254). -/
def Work.cursor (w : Work) (dropped : Option Nat) : Nat → Nat → Nat
  | 0, c => c
  | m + 1, c => if w.durable dropped c then Work.cursor w dropped m (c + 1) else c

/-- The columns of a read whose bytes have all gone to the host, of the first `top` (R254). -/
def Plan.colsGiven (p : Plan) (off len given : Nat) : Nat → Nat
  | 0 => 0
  | b + 1 => if p.bytesTo off len (b + 1) ≤ given then b + 1 else p.colsGiven off len given b

/-- COL_CURSOR of write-type work follows its acknowledgements, that of a read what the host has been given (R254). -/
def Dev.progress (d : Dev) (n : Nat) : Dev :=
  let e := d.entry n
  let w := d.wk n
  let top := if dOpcode e.desc = 4 then w.rcol else w.wcol
  if writesShards (dOpcode e.desc) then d.setEntry n { e with col := w.cursor e.dropped (top - e.col) e.col }
  else if dOpcode e.desc = 2 then
    match d.readPlan n with
    | some p => d.setEntry n { e with col := Nat.max e.col (p.colsGiven (dOffset e.desc) (dLength e.desc) w.given w.rcol) }
    | none => d
  else d

/-- A degraded write whose position the debt log can no longer record takes the BAY_ABSENT outcome (R219, R224). -/
def Dev.debtLost (d : Dev) (n status : Nat) : Dev :=
  let d := d.debtRefuse
  if dOpcode (d.entry n).desc = 1 then d.failItem n status 2
  else (((d.markPartial n 2).logPartial n).meet n status).endStripe n false

/-- The whole stripe is written: debts are paid or recorded, and the stripe or the operation ends (R218, R223, R225, R238,
R239, R242). -/
def Dev.stripeWritten (d : Dev) (n : Nat) (p : Plan) : Dev :=
  let e := d.entry n
  let w := d.wk n
  let op := dOpcode e.desc
  let plan := d.writePlanNo n
  let s := d.itemTarget n
  if op = 4 then
    let d := d.debtPay plan e.target s
    let d := if w.chk = 0 then d else d.meet n stRecovered
    d.endStripe n true
  else
    let d := (List.range p.width).foldl (fun d i => if e.dropped = some i then d else d.debtPay plan i s) d
    let room := match e.dropped with
      | some i => d.debtRoom plan i s
      | none => true
    let d' := d
    let d := match e.dropped with
      | some i => (d.debtRecord plan i s (p.bay i)).meet n stDegradedWrite
      | none => d
    if !room then d'.debtLost n (d'.absentStatus (p.link (e.dropped.getD 0)))
    else if op = 1 then d.finishData n stSuccess (e.dropped.getD 0)
    else
      let d := if e.decoded then d.meet n stRecovered else d
      d.endStripe n true

/-- The staged stripe is whole and the host bytes are merged: it goes to the engine (R221). -/
def Dev.mergeStage (d : Dev) (n : Nat) (p : Plan) : Dev :=
  let w := d.wk n
  let g := d.writeEng n
  let cells := ((List.range p.columns).filter (fun b => decide (w.wcol ≤ b))).flatMap (fun b => (List.range p.k).flatMap (fun c =>
    let i := c * p.columns + b
    blkCells 8 0x248 (0x200 + g) p.pclass g 0 c b (4096 * i) (w.dataBlk i) 0 true))
  (d.setWk n { w with merged := true, enc := [] }).putCells n cells

/-- The whole stripe has been read into the staging space (R221). -/
def Work.staged (w : Work) (p : Plan) : Bool := (List.range (p.k * p.columns)).all (fun i => w.have_.get i 0 == 4096)

/-- A running item goes on to what follows when its present stripe has come to an end. -/
def Dev.stripeTry (d : Dev) (n : Nat) : Dev :=
  match d.readPlan n, d.writePlan n with
  | some p, some q =>
    let d := d.progress n
    let e := d.entry n
    let w := d.wk n
    let op := dOpcode e.desc
    if !d.runs n || w.replay.isSome then d
    else if op = 2 then
      if (w.stop.isSome || decide (p.columns ≤ w.rcol)) && !w.cells.any (fun c => c.kind == 3) then
        d.finishData n (w.stop.getD (if e.decoded then stRecovered else stSuccess)) 0
      else d
    else if op = 3 then (if p.columns ≤ w.rcol then d.endStripe n w.incons else d)
    else if !w.quiet then d
    else if w.stop.isSome then (d.logPartial n).endStripe n false
    else if op = 1 ∧ e.staged ∧ ¬w.merged then
      if w.staged p && w.given == dLength e.desc then d.mergeStage n p else d
    else if (if op = 4 then decide (p.columns ≤ w.rcol) && decide (p.columns ≤ e.col) else decide (q.columns ≤ w.wcol) && decide (q.columns ≤ e.col))
    then d.stripeWritten n q
    else d
  | _, _ => d

/-- A block of an item has been acknowledged as durable (R218, R254). -/
def Dev.acked (d : Dev) (n pos col : Nat) : Dev :=
  let w := d.wk n
  let e := d.entry n
  let acks := w.acks.set col (Nat.lor (w.acks.get col 0) (2 ^ pos)) 0
  let all := match d.writePlan n with
    | some p => (List.range p.columns).all (fun c => bit (acks.get c 0) pos)
    | none => false
  (d.setWk n { w with acks := acks }).setEntry n (if all then { e with done := Nat.lor e.done (2 ^ pos) } else e)

end Sys2Proof.Machine
end

