-- ==== Sys2Proof/Machine/Column.lean ====
section
/-! DEFINITION. BLOCK_COLUMN and MATRIX_COMPUTED: how a block column is judged, decoded, encoded and checked (R149–R156, R159,
R198, R229–R235, R270). -/
namespace Sys2Proof.Machine

/-! ## Judging (R149, R150) -/

/-- The GENs the good blocks of a column carry, the witness's among them while not every position is read. -/
def Dev.colGens (d : Dev) (n : Nat) : List Nat :=
  let w := d.wk n
  let good := (w.blocks.filter (fun b => b.crcOk && decide (b.pos < 32) && !bit (d.colLost n) b.pos)).map (·.gen)
  match w.witness with
  | some (g, false) => if w.full then good else good ++ [g]
  | _ => good

/-- Every block read of the column carries GEN 0 with a good CRC (R150). -/
def Dev.unwritten (d : Dev) (n : Nat) : Bool :=
  let w := d.wk n
  let l := w.blocks.filter (fun b => decide (b.pos < 32))
  !l.isEmpty && l.all (fun b => b.crcOk && b.gen == 0) && (match w.witness with
    | some (g, lost) => lost || w.full || g == 0
    | none => true)

/-- A position of the column fails its check: lost, counted, and logged but for a scrub, which logs by column (R149, R230). -/
def Dev.checkFail (d : Dev) (n pos : Nat) : Dev :=
  let d := d.losePos n pos true
  if dOpcode (d.entry n).desc = 3 then d else d.findOnce n scCheckFail pos

/-- Blocks whose trailer CRC fails are lost (R149). -/
def Dev.judgeCrc (d : Dev) (n : Nat) : Dev :=
  ((d.wk n).blocks.filter (fun b => !b.crcOk && decide (b.pos < 32) && !bit (d.colLost n) b.pos)).foldl (fun d b => d.checkFail n b.pos) d

/-- The GENs carried by at least `k` of a list. -/
def candidates (k : Nat) (l : List Nat) : List Nat :=
  (l.foldl (fun a g => if a.contains g then a else a ++ [g]) []).filter (fun g => decide (k ≤ (l.filter (· == g)).length))

/-- Every position read, the GENs still differ: the GEN of at least k good blocks stands and the others are lost; none when
no GEN has k (R149). Of two such GENs the manual names neither, and a free value picks. -/
def Dev.judgeGen (d : Dev) (n k : Nat) : Option Dev :=
  let c := candidates k (d.colGens n)
  match c with
  | [] => none
  | a :: r =>
    let (x, d) := if r.isEmpty then (0, d) else d.free
    let g := c.getD (x % c.length) a
    some (((d.wk n).blocks.filter (fun b => b.crcOk && decide (b.pos < 32) && b.gen != g && !bit (d.colLost n) b.pos)).foldl
      (fun d b => d.checkFail n b.pos) d)

/-! ## Ends of a column -/

/-- The column cannot be decoded (R221, R229, R239, R242). -/
def Dev.undecodable (d : Dev) (n : Nat) (chk : Bool) : Dev :=
  let e := d.entry n
  let w := d.wk n
  let st := if chk || Nat.land w.chk e.lost != 0 then stCheckFail else stUnrecoverable
  let d := d.findOnce n scUnreadable 0xFF
  if dOpcode e.desc = 1 then d.complete n st 0 0
  else
    let d := d.setWk n { d.wk n with stop := some st }
    let d := if dOpcode e.desc = 2 then d else d.meet n st
    d.stripeTry n

/-- The column has been read: the next one is asked for (R141, R254). -/
def Dev.nextColumn (d : Dev) (n : Nat) (p : Plan) (decoded : Bool) : Dev :=
  let e := d.entry n
  let w := d.wk n
  let c := nextCol p e.readOff (e.readLen p) (w.rcol + 1)
  let d := d.setEntry n { e with decoded := e.decoded || decoded, col := if dOpcode e.desc = 3 then c else e.col }
  -- a scrub reads every position of every column that is not absent (R232)
  let sc := dOpcode e.desc == 3
  let d := if sc then d.setEntry n { d.entry n with lost := w.gone } else d
  let w := { w with chk := if sc then 0 else w.chk }
  let w := { w with rcol := c, blocks := [], part := [], asks := 0, wit := none, witness := none, full := false, ml := false, matWait := false }
  ((d.setWk n w).askColumn n).stripeTry n

/-- The physical engine of a logical one. -/
def Dev.physEng (d : Dev) (e : Nat) : Fin 72 := Fin.ofNat 72 (d.rd (ENG_MAP_PHYS e))

/-- An engine's fault event about a column of a slice's work (R159, R198, R270). -/
def Dev.engFault (d : Dev) (s eng src plan stripe col : Nat) : Dev :=
  d.fault { unit := .eng (d.physEng eng), src := src, access := 6, addr := stripe, port := some (d.slicePort s), slice := some s,
            detail := plan + 4096 * col }

def Dev.engEvent (d : Dev) (n eng src plan stripe col : Nat) : Dev := d.engFault (d.entry n).slice eng src plan stripe col

/-- Is the second pass made by an engine, under the check of the epoch its octant is in (R31, R159)? -/
def Dev.verifies (d : Dev) (eng : Nat) (p : Plan) : Bool := (d.era (eng / 8)).check == 1 || p.verifyAlways

/-- A column checked by a second pass is counted in units of 65,536 (R167). -/
def Dev.countChecked (d : Dev) (eng : Nat) : Dev :=
  let p := (d.physEng eng).val
  let c := d.eng.cols.get p 0 + 1
  let d := { d with eng := { d.eng with cols := d.eng.cols.set p (c % 65536) 0 } }
  if c = 65536 then d.inc (ENG_CHECK_COLUMNS p) else d

/-- A column the array has coded twice is counted, whatever the comparison gives (R159, R167). -/
def Dev.countColumn (d : Dev) (eng : Nat) (p : Plan) (o : ColOut) : Dev := if o.coded && !o.bad && d.verifies eng p then d.countChecked eng else d

/-- The outcome of the engine's own checks: 0 good, 1 the second pass differs, 2 a block passed through differs. -/
def Dev.engineCheck (d : Dev) (n eng : Nat) (p : Plan) (plan stripe col verdict : Nat) (o : ColOut) : Option Dev :=
  if o.bad then some ((d.engEvent n eng 5 plan stripe col).failItem n stInternal)
  else if verdict = 1 ∧ o.coded ∧ d.verifies eng p then
    some (((d.incSat (ENG_CHECK_MISMATCH (d.physEng eng).val)).engEvent n eng 2 plan stripe col).askReplay n 5)
  else if verdict = 2 ∧ o.through then some ((d.engEvent n eng 4 plan stripe col).askReplay n 5)
  else none

/-! ## Scrub (R232–R235) -/

/-- One position of a mask, or 0xFF for several (R235). -/
def onePos (m : Nat) : Nat :=
  match maskList m 32 with
  | [i] => i
  | _ => 0xFF

/-- The class of a scrubbed column: reason (0 none), position and status (R150, R232, R268): consistent when every block read has
GEN 0, whatever is lost. `incons` says whether the comparison
differs; `lost` and `chk` are masks; `expired` says that only expired holds keep it from being checked. -/
def scrubClass (m : Nat) (lost chk : Nat) (unwritten incons expired : Bool) : Nat × Nat × Nat :=
  let l := (maskList lost 32).length
  if unwritten then (0, 0xFF, stSuccess)
  else if l = 0 then (if incons then (scInconsistent, 0xFF, stSuccess) else (0, 0xFF, stSuccess))
  else if m < l then (scUnreadable, 0xFF, if Nat.land chk lost ≠ 0 then stCheckFail else stUnrecoverable)
  else if Nat.land chk lost ≠ 0 then (scCheckFail, onePos (Nat.land chk lost), stRecovered)
  else (scNotChecked, onePos lost, if expired then stBayUnreachable else stBayAbsent)

/-! ## Reading columns -/

/-- The program's view of a column that is read. -/
def Dev.readCtx (d : Dev) (n : Nat) (p : Plan) : ColCtx :=
  let g := d.inForce
  let lost := d.colLost n
  let path := d.pathOf n p
  let m := d.matrixOf p.matrix lost
  let blocks := ((d.wk n).blocks.filter (fun b => decide (b.pos < 32) && !bit lost b.pos)).foldl (fun t b => Tab.set t b.pos b.data []) []
  { plan := p, mat := (g.bind (fun g => g.matrices.get p.matrix none)).getD ⟨p.k, p.m, [], []⟩,
    words := (g.map (fun g => g.programs.get p.program [])).getD [], path := path, lost := maskList lost 32, inr := d.colRange n p,
    surv := if path = 3 then (m.map (·.survivors)).getD [] else colSurv p path lost, ml := m.map (·.rows), blocks := blocks }

/-- What a read column gives: cells toward the host, the staging space or the destination encoder, and the rebuilt block
toward its link (R163, R221, R238, R241). -/
def Dev.deliverColumn (d : Dev) (n : Nat) (p : Plan) (gen : Nat) (o : ColOut) : Dev :=
  let e := d.entry n
  let w := d.wk n
  let op := dOpcode e.desc
  let g := d.readEng n
  let cell := fun dest kind pos off data gen => blkCells (g / 8) (0x200 + g) dest p.pclass g kind pos w.rcol off data gen true
  if op = 4 then
    match o.shards.find? (fun x => x.1 == e.target) with
    | none => d
    | some x =>
      let d := d.setWk n { w with outs := w.outs.set w.rcol (2 ^ e.target) 0 }
      d.putCells n (cell (d.writeLink n p e.target) 1 e.target 0 x.2 gen)
  else
    o.cells.foldl (fun d x =>
      let s := x.1 * p.shard + 4096 * w.rcol
      if op = 2 then
        match p.part (dOffset e.desc) (dLength e.desc) x.1 w.rcol with
        | none => d
        | some (a, len) =>
          let b := (x.2.drop a).take len
          (d.setWk n ((d.wk n).putData (s + a) b)).putCells n (cell 0x249 3 x.1 (s + a) b 0)
      else d.putCells n (cell (if op = 1 then 0x248 else 0x200 + d.writeEng n) 4 x.1 s x.2 0)) d

/-- A column that was never written reads as zeros; REBUILD_SHARD skips it (R150, R221, R238, R241). -/
def zeroOut (op : Nat) (inr : List Nat) : ColOut :=
  if op = 4 then {} else { cells := inr.map (fun i => (i, List.replicate 4096 0#8)) }

/-- A scrubbed column is classed, logged and counted (R232, R233). -/
def Dev.scrubColumn (d : Dev) (n : Nat) (p : Plan) (unwritten incons : Bool) : Dev :=
  let w := d.wk n
  let lost := d.colLost n
  let expired := (maskList lost 32).all (fun i => d.holdExpired (p.link i))
  let c := scrubClass p.m lost w.chk unwritten incons expired
  let d := if c.1 = 0 then d else d.findOnce n c.1 c.2.1
  let d := if c.1 = scInconsistent then d.setWk n { d.wk n with incons := true } else d
  (d.meet n c.2.2).nextColumn n p false

/-- A judged column runs its program and gives what it gives (R150, R152, R160). A rebuilt column of GEN 0 is skipped, for GEN 0
is never written (R150; log entry 87). -/
def Dev.runColumn (d : Dev) (n verdict : Nat) (p : Plan) : Dev :=
  let e := d.entry n
  let w := d.wk n
  let op := dOpcode e.desc
  let path := d.pathOf n p
  let gens := d.colGens n
  let gen := gens.headD 0
  let unwritten := d.unwritten n || (op == 4 && !gens.isEmpty && gen == 0)
  let plan := dPlan e.desc
  let eng := d.readEng n
  if op = 3 then
    if unwritten ∨ path ≠ 4 then d.scrubColumn n p unwritten false
    else
      let o := (d.readCtx n p).go
      let d := d.countColumn eng p o
      match d.engineCheck n eng p plan (d.itemStripe n) w.rcol verdict o with
      | some d => d
      | none => d.scrubColumn n p false o.incons
  else if path = 5 then d.undecodable n false
  else if unwritten then (d.deliverColumn n p 0 (zeroOut op (d.colRange n p))).nextColumn n p false
  else
    let o := (d.readCtx n p).go
    let d := d.countColumn eng p o
    match d.engineCheck n eng p plan (d.itemStripe n) w.rcol verdict o with
    | some d => d
    | none => (d.deliverColumn n p gen o).nextColumn n p (path != 1 && op != 4)

/-- Once the blocks a column selects are present, they are judged; the column is read further, decoded on the path its lost
set requires, or given up (R149, R152, R229). -/
def Dev.readColumn (d : Dev) (n verdict : Nat) (p : Plan) : Dev :=
  if !d.columnReady n p then (if (d.wk n).ml && !(d.wk n).matWait then d.askColumn n else d)
  else
    let lost := d.colLost n
    let d := d.judgeCrc n
    let gens := d.colGens n
    let differ := gens.any (fun g => g != gens.headD 0)
    let w := d.wk n
    if differ && !w.full then (d.setWk n { w with full := true }).askColumn n
    else
      match (if differ then d.judgeGen n p.k else some d) with
      | none => if dOpcode (d.entry n).desc = 3 then
            (((d.findOnce n scUnreadable 0xFF).meet n stCheckFail)).nextColumn n p false
          else d.undecodable n true
      | some d =>
        let d := if d.colLost n = lost then d else (d.setWk n { d.wk n with ml := false, matWait := false }).askColumn n
        if d.columnReady n p then d.runColumn n verdict p else d

/-! ## Encoding columns (R143, R218) -/

/-- The data blocks of the column to encode stand at the engine. -/
def Dev.encodeReady (d : Dev) (n : Nat) (q : Plan) : Bool :=
  let e := d.entry n
  let w := d.wk n
  let t := if dOpcode e.desc = 1 ∧ e.staged then w.enc else w.have_
  decide (w.wcol < q.columns) && (List.range q.k).all (fun c => t.get (c * q.columns + w.wcol) 0 == 4096)

/-- The engine encodes a column and sends its blocks, but for the dropped position and those complete already (R218, R254). -/
def Dev.encodeColumn (d : Dev) (n verdict : Nat) (q : Plan) : Dev :=
  let e := d.entry n
  let w := d.wk n
  let g := d.inForce
  let eng := d.writeEng n
  if !d.encodeReady n q then d
  else
    let c : ColCtx := {
      plan := q, mat := (g.bind (fun g => g.matrices.get q.matrix none)).getD ⟨q.k, q.m, [], []⟩,
      words := (g.map (fun g => g.programs.get q.program [])).getD [], path := 0, lost := [], inr := List.range q.k, surv := [], ml := none,
      blocks := (List.range q.k).foldl (fun t c => Tab.set t c (w.dataBlk (c * q.columns + w.wcol)) []) [] }
    let o := c.go
    let d := d.countColumn eng q o
    match d.engineCheck n eng q (d.writePlanNo n) (d.itemTarget n) w.wcol verdict o with
    | some d => d
    | none =>
      let sent := o.shards.filter (fun x => e.dropped != some x.1 && !bit e.done x.1)
      -- R162: the column's data have left the engine's buffer
      let spent := fun (t : Tab Nat) => (List.range q.k).foldl (fun (t : Tab Nat) c => t.set (c * q.columns + w.wcol) 0 0) t
      let w := if dOpcode e.desc = 1 ∧ e.staged then { w with enc := spent w.enc } else { w with have_ := spent w.have_ }
      let d := d.setWk n { w with wcol := w.wcol + 1, outs := w.outs.set w.wcol (listMask (sent.map (·.1))) 0 }
      (d.putCells n (sent.flatMap (fun x =>
        blkCells (eng / 8) (0x200 + eng) (q.link x.1) q.pclass eng 1 x.1 w.wcol 0 x.2 e.gen true))).stripeTry n

/-- The column an item's engine works on next is judged and run, while the engine works (R15, R149, R152, R159, R162, R270). -/
def Dev.itemColumn (d : Dev) (n verdict : Nat) : Dev :=
  match d.readPlan n, d.writePlan n with
  | some p, some q =>
    let w := d.wk n
    let e := d.entry n
    if !d.runs n || w.stop.isSome || w.replay.isSome || d.flt.grave then d
    else if w.reading e p then (if d.engUp (d.readEng n) then d.readColumn n verdict p else d)
    else if dOpcode e.desc = 1 ∨ dOpcode e.desc = 5 then (if d.engUp (d.writeEng n) then d.encodeColumn n verdict q else d)
    else d
  | _, _ => d

/-! ## MATRIX_COMPUTED (R153–R156) -/

/-- The valid entries that `keep` does not name, oldest use first out, while more than 1,024 are held (R154). -/
def evict (keep : MatEntry → Bool) : Nat → List MatEntry → List MatEntry
  | 0, l => l
  | n + 1, l =>
    if l.length ≤ 1024 then l
    else
      let out := fun (m : MatEntry) => m.valid && !keep m
      let v := l.filter out
      let u := v.foldl (fun a m => Nat.min a m.used) (v.map (·.used) |>.headD 0)
      let i := l.findIdx (fun m => out m && m.used == u)
      evict keep n (dropIdx l i)

/-- Items whose column has a pattern, and those of them that wait for it. -/
def Dev.matUsers (d : Dev) (m : MatEntry) : List Nat :=
  d.byAge.filter (fun n => (d.wk n).ml && d.colLost n == m.lost && (match d.readPlan n with | some p => p.matrix == m.matrix | none => false))
def Dev.matWaiters (d : Dev) (m : MatEntry) : List Nat := (d.matUsers m).filter (fun n => (d.wk n).matWait)

/-- The image whose plan signature a pattern is of: the one in force, or another slot's (R154). -/
def Dev.imageOf (d : Dev) (sig : Nat) : Option Image :=
  ([d.inForce, d.image 0, d.image 1].filterMap id).find? (fun g => g.sig == sig)

/-- An operation that waited for a pattern goes on; one whose image has changed since looks its pattern up again. -/
def Dev.matResume (d : Dev) (n : Nat) : Dev := ((d.setWk n { d.wk n with matWait := false }).askColumn n).stageReturn n

/-- The management pair finishes the computation at place `i` of the cache: the entry is valid and the operations go on, or
the pattern is NON_MDS and they have lost more than m positions (R153, R155, R156). A pattern whose image is gone is dropped. -/
def matrixComputed (i : Nat) (d : Dev) : Dev :=
  match d.eng.cache[i]? with
  | none => d
  | some m =>
    if m.valid || d.flag MGT_STATUS_RECOVERING || d.hubOff then d
    else
      let waits := d.matWaiters m
      let gone : Dev := { d with eng := { d.eng with cache := dropIdx d.eng.cache i } }
      match (d.imageOf m.sig).bind (fun g => g.matrices.get m.matrix none) with
      | none => waits.foldl Dev.matResume gone
      | some x =>
        match x.multi (maskList m.lost 32) with
        | some (s, r) =>
          let cache := d.eng.cache.mapIdx (fun j x => if j = i then { m with valid := true, survivors := s, rows := r } else x)
          let keep := fun x => !(d.matUsers x).isEmpty
          let d := Dev.mlog { d with eng := { d.eng with cache := evict keep 1 cache } } 6 m.plan m.matrix m.lost ((d.now - m.since) / 1000)
          waits.foldl Dev.matResume d
        | none => waits.foldl (fun d n => d.undecodable n false) (gone.mlog 5 m.plan m.matrix m.lost m.sig)

end Sys2Proof.Machine
end

