-- ==== Sys2Proof/Machine/Backfill.lean ====
section
/-! DEFINITION. Backfill scrub: cursors, what they ask for, how a column is compared and logged (R178, R193, R234–R236). -/
namespace Sys2Proof.Machine

/-- The slot number that stands for a cursor in a stream. -/
def cursorSlot (des eng : Nat) : Nat := 2 ^ 20 + des * 64 + eng

/-- The SCRUB designation of a number, with its plan, in the image that the octant of an engine runs (R31). -/
def Dev.scrubOf (d : Dev) (des eng : Nat) : Option (Backfill × Plan) :=
  match (d.era (eng / 8)).image with
  | none => none
  | some g =>
    match g.backfill[des]? with
    | some b => if b.kind = 1 ∧ 0 < b.count then (g.plan b.plan).map (fun p => (b, p)) else none
    | none => none

/-- The first stripe of a designation's range from `s` on that engine `e` codes. -/
def Plan.stripeIn (p : Plan) (b : Backfill) (e s : Nat) : Option Nat :=
  ((List.range (2 ^ p.log2g)).map (s + ·)).find? (fun x => p.engine x == e && decide (x < b.first + b.count))

/-- The cursor of a designation and an engine; one not yet begun stands at the first stripe. -/
def Dev.cursor (d : Dev) (des eng : Nat) : Cursor :=
  match d.sch.cursors.find? (fun c => c.designation == des && c.engine == eng) with
  | some c => c
  | none =>
    let s := match d.scrubOf des eng with
      | some (b, p) => (p.stripeIn b eng b.first).getD b.first
      | none => 0
    { designation := des, engine := eng, stripe := s, col := 0 }

/-- A change of a cursor. -/
def Dev.setCursor (d : Dev) (c : Cursor) : Dev :=
  let rest := d.sch.cursors.filter (fun x => !(x.designation == c.designation && x.engine == c.engine))
  { d with sch := { d.sch with cursors := rest ++ [c] } }

/-- A cursor's column asks for every available position; the others are lost (R149, R178). -/
def Dev.askCursor (d : Dev) (des eng : Nat) (b : Backfill) (p : Plan) : Dev :=
  (List.range p.width).foldl (fun d i =>
    let c := d.cursor des eng
    let l := p.link i
    if bit c.asks i || bit c.lost i then d
    else if d.linkClass l ≠ 0 then d.setCursor { c with lost := Nat.lor c.lost (2 ^ i) }
    else
      match d.openStream l (fun j => ⟨j, 1, cursorSlot des eng, 0, 0, i, c.stripe, c.col, d.now, false, false⟩) with
      | none => d
      | some (j, d) =>
        let d := d.txMsg l 1 (streamOpen j 1 1 (p.addr i c.stripe c.col) c.stripe b.plan i 0)
        d.setCursor { c with asks := Nat.lor c.asks (2 ^ i) }) d

/-- The cursor moves to its next column or stripe, and wraps at the end of the range (R178). -/
def Cursor.next (c : Cursor) (b : Backfill) (p : Plan) : Cursor :=
  if c.col + 1 < p.columns then c.at_ (c.col + 1)
  else
    let s := match p.stripeIn b c.engine (c.stripe + 1) with
      | some s => s
      | none => (p.stripeIn b c.engine b.first).getD c.stripe
    { designation := c.designation, engine := c.engine, stripe := s, col := 0 }

/-- A cursor's column judged: lost positions, check failures, whether it is unwritten (R149, R150, R232). -/
def Dev.judgeCursor (d : Dev) (c : Cursor) (p : Plan) : (Nat × Nat × Bool) × Dev :=
  let bad := listMask ((c.blocks.filter (fun b => !b.crcOk)).map (·.pos))
  let lost := Nat.lor c.lost bad
  let good := c.blocks.filter (fun b => !bit lost b.pos)
  let gens := good.map (·.gen)
  let same := gens.all (fun g => g == gens.headD 0)
  let cand := candidates p.k gens
  let (x, d) := if same || cand.length < 2 then (0, d) else d.free
  let g := if same then gens.headD 0 else cand.getD (x % cand.length) 0
  let other := listMask ((good.filter (fun b => b.gen != g)).map (·.pos))
  let stale := if same then 0 else if cand.isEmpty then listMask (good.map (·.pos)) else other
  let chk := Nat.lor c.chk (Nat.lor bad stale)
  ((Nat.lor lost stale, chk, !c.blocks.isEmpty && c.blocks.all (fun b => b.crcOk && b.gen == 0)), d)

/-- The program's view of a cursor's column: the scrub path (R196, R232). -/
def Dev.cursorCtx (d : Dev) (c : Cursor) (p : Plan) : ColCtx :=
  let im := (d.era (c.engine / 8)).image
  { plan := p, mat := (im.bind (fun g => g.matrices.get p.matrix none)).getD ⟨p.k, p.m, [], []⟩,
    words := (im.map (fun g => g.programs.get p.program [])).getD [], path := 4, lost := [], inr := List.range p.k, surv := [], ml := none,
    blocks := c.blocks.foldl (fun t b => Tab.set t b.pos b.data []) [] }

/-- Every block of a cursor's column has arrived through its runs, or is lost (R178). -/
def Dev.cursorReady (c : Cursor) (p : Plan) : Bool :=
  (List.range p.width).all (fun i => bit c.lost i || (c.blocks.any (fun x => x.pos == i) && decide (8 ≤ c.moved.get i 0)))

/-- A finding of a cursor's column is logged once for its stripe, and the cursor goes on (R234–R236). -/
def Dev.cursorEnd (d : Dev) (c : Cursor) (b : Backfill) (p : Plan) (reason pos : Nat) : Dev :=
  let old := reason = 0 ∨ c.found.contains (reason, pos)
  let d := if old then d else d.finding b.plan 0 reason pos 1 (2 ^ p.log2g) c.stripe
  let c := if old then c else { c with found := c.found ++ [(reason, pos)] }
  (d.setCursor (c.next b p)).askCursor c.designation c.engine b p

/-- A cursor's column is judged, compared and classed by its engine; a failed check of the engine repeats the column, and one that cannot
apply is passed over (R159, R178, R198, R232, R234, R270). -/
def Dev.cursorColumn (d : Dev) (des eng verdict : Nat) : Dev :=
  match d.scrubOf des eng with
  | none => d
  | some (b, p) =>
    let c := d.cursor des eng
    if !Dev.cursorReady c p || !d.engUp eng || d.flt.grave then d
    else
      let ((lost, chk, unwritten), d) := d.judgeCursor c p
      let k := fun incons => scrubClass p.m lost chk unwritten incons ((maskList lost 32).all (fun i => d.holdExpired (p.link i)))
      if unwritten ∨ lost ≠ 0 then d.cursorEnd c b p (k false).1 (k false).2.1
      else
        let o := (d.cursorCtx c p).go
        let d := d.countColumn eng p o
        let again := fun (d : Dev) src => ((d.engFault 0 eng src b.plan c.stripe c.col).setCursor (c.at_ c.col)).askCursor des eng b p
        if o.bad then (d.engFault 0 eng 5 b.plan c.stripe c.col).cursorEnd c b p 0 0xFF
        else if verdict = 1 ∧ o.coded ∧ d.verifies eng p then again (d.incSat (ENG_CHECK_MISMATCH (d.physEng eng).val)) 2
        else if verdict = 2 ∧ o.through then again d 4
        else d.cursorEnd c b p (k o.incons).1 (k o.incons).2.1

/-- BLOCK_COLUMN: the column an item's engine works on next is judged and run, or that of the cursor whose number `cursorSlot` gives; the
verdict is that of the engine's own checks (R149, R152, R159, R178, R270; log entry 97). -/
def blockColumn (n verdict : Nat) (d : Dev) : Dev :=
  if n < 2 ^ 20 then d.itemColumn n verdict else d.cursorColumn ((n - 2 ^ 20) / 64) ((n - 2 ^ 20) % 64) verdict

/-- A run from a link to an engine moves up to `k` cells of a cursor's block (R178): how many, and the state after. -/
def Dev.cursorRun (d : Dev) (des eng src k : Nat) : Nat × Dev :=
  match d.scrubOf des eng with
  | none => (0, d)
  | some (b, p) =>
    if (p.stripeIn b eng b.first).isNone then (0, d)
    else
      let d := d.askCursor des eng b p
      let c := d.cursor des eng
      match c.blocks.find? (fun x => p.link x.pos == src && decide (c.moved.get x.pos 0 < 8)) with
      | none => (0, d)
      | some x =>
        let m := Nat.min k (8 - c.moved.get x.pos 0)
        (m, d.setCursor { c with moved := bump c.moved x.pos m })

end Sys2Proof.Machine
end

