-- ==== Sys2Proof/Machine/Streams.lean ====
section
/-! DEFINITION. The rows of shard streams: blocks, statuses, witness trailers and their timeouts (R317–R326). -/
namespace Sys2Proof.Machine

/-- A position of the column being read gives no block: it is lost (R149, R326). -/
def Dev.loseRead (d : Dev) (x : Stream) : Dev :=
  if 2 ^ 20 ≤ x.slot then
    let i := x.slot - 2 ^ 20
    let c := d.cursor (i / 64) (i % 64)
    if c.stripe = x.stripe ∧ c.col = x.col ∧ bit c.asks x.pos then
      d.setCursor { c with lost := Nat.lor c.lost (2 ^ x.pos) }
    else d
  else if d.streamCurrent x ∧ ¬(d.wk x.slot).blocks.any (fun b => b.pos % 32 == x.pos) then
    let d := d.losePos x.slot x.pos false
    (d.setWk x.slot { d.wk x.slot with ml := false, matWait := false }).askColumn x.slot
  else d

/-- A block of a read stream goes toward its column: to the engine, or for a multi-loss column to the staging space
(R163, R323). -/
def Dev.takeBlock (d : Dev) (l : Nat) (x : Stream) (data : List Byte) (gen : Nat) (ok : Bool) : Dev :=
  if 2 ^ 20 ≤ x.slot then
    let i := x.slot - 2 ^ 20
    let c := d.cursor (i / 64) (i % 64)
    if c.stripe = x.stripe ∧ c.col = x.col ∧ bit c.asks x.pos ∧ ¬c.blocks.any (fun b => b.pos == x.pos) then d.setCursor { c with blocks := c.blocks ++ [⟨x.pos, data, gen, ok⟩] } else d
  else
    match d.readPlan x.slot with
    | none => d
    | some p =>
      let g := d.readEng x.slot
      let dest := if (d.wk x.slot).ml then 0x248 else 0x200 + g
      if d.streamCurrent x then d.putCells x.slot (blkCells (l / 64) l dest p.pclass g 2 x.pos x.col 0 data gen ok) else d

/-- BLOCK (R317, R323): a block of a cancelled stream is discarded (R324). -/
def block (l : Nat) (d : Dev) : Dev :=
  d.onMsg l 0x01 (fun m d =>
    match d.stream l (leAt m 4 2 % 4096) with
    | none => d
    | some x =>
      if x.kind ≠ 1 ∨ x.cancelled ∨ x.timedOut then d
      else
        let data := (m.drop 8).take 4096
        let gen := leAt m 0x100C 4
        let ok := leAt m 0x1008 4 == (crc32c (data ++ leBytes 4 gen)).toNat
        (d.setStream l { x with cancelled := true, lastAt := d.now }).takeBlock l x data gen ok)

/-- A shard write has failed: the position is absent for the rest of the write (R219, R326). -/
def Dev.writeFailed (d : Dev) (l : Nat) (x : Stream) (code : Nat) : Dev :=
  let d := d.streamFault l code
  if d.streamLive x then (((d.posAbsent x.slot [x.pos]).writeSettled x.slot)).stripeTry x.slot else d

/-- A write stream's block is durable (R218, R320). -/
def Dev.writeDurable (d : Dev) (x : Stream) : Dev :=
  if d.streamLive x ∧ x.stripe = (d.wk x.slot).stripe then d.acked x.slot x.pos x.col else d

/-- The status of a write stream (R319, R326). -/
def Dev.writeStatus (d : Dev) (l : Nat) (x : Stream) (st durable : Nat) : Dev :=
  if x.timedOut then d
  else if st = 0 then (if 1 ≤ durable then d.writeDurable x else d)
  else if st = 1 then
    let d := (d.writeDurable x).dropStream l x.id
    if d.streamLive x then (d.writeSettled x.slot).stripeTry x.slot else d
  else if st ≤ 4 then (d.dropStream l x.id).writeFailed l x st
  else d

/-- The status of a read stream (R319, R323, R326). -/
def Dev.readStatus (d : Dev) (l : Nat) (x : Stream) (st : Nat) : Dev :=
  if st = 0 ∨ 5 < st then d
  else if st = 2 then (if x.cancelled then d else (d.setStream l { x with cancelled := true }).loseRead x)
  else
    let d := d.dropStream l x.id
    if st = 5 ∨ x.cancelled then d else d.loseRead x

/-- STREAM_STATUS (R319, R320, R326). -/
def streamStatus (l : Nat) (d : Dev) : Dev :=
  d.onMsg l 0x20 (fun m d =>
    match d.stream l (leAt m 4 2 % 4096) with
    | none => d
    | some x =>
      if x.kind = 0 then d.writeStatus l x (leAt m 6 1) (leAt m 8 2)
      else if x.kind = 1 then d.readStatus l x (leAt m 6 1)
      else d)

/-- The witness's answer is in: its GEN, or the position is lost (R228, R325). -/
def Dev.takeWitness (d : Dev) (x : Stream) (gen : Option Nat) : Dev :=
  let w := d.wk x.slot
  if d.streamLive x && x.stripe == w.stripe && x.col == w.rcol && w.wit == some x.pos then
    match gen with
    | some g => d.setWk x.slot { w with wit := none, witness := some (g, false) }
    | none =>
      let d := (d.setWk x.slot { w with wit := none, witness := some (0, true) }).losePos x.slot x.pos false
      (d.setWk x.slot { d.wk x.slot with ml := false, matWait := false }).askColumn x.slot
  else d

/-- TRAILER_DATA (R325, R326). -/
def trailerData (l : Nat) (d : Dev) : Dev :=
  d.onMsg l 0x22 (fun m d =>
    match d.stream l (leAt m 4 2 % 4096) with
    | none => d
    | some x =>
      if x.kind ≠ 2 then d
      else (d.dropStream l x.id).takeWitness x (if leAt m 6 1 = 0 ∧ ¬x.timedOut then some (leAt m 0xC 4) else none))

/-- No DONE within WRITE_ACK_TO of the last block sent: a failed shard write; the identifier stays in use (R326). -/
def writeAckTimeout (l id : Nat) (d : Dev) : Dev :=
  match d.stream l id with
  | none => d
  | some x =>
    if x.kind ≠ 0 ∨ x.timedOut ∨ d.streamUnsent l id then d
    else
      let d := d.advance (x.lastAt + d.rd LNK_STREAM_CFG_WRITE_ACK_TO * 1000000)
      ((d.incSat (LNK_STREAM_ERR_ACK_TIMEOUTS l)).setStream l { x with timedOut := true }).writeFailed l x 0

/-- No block within READ_DATA_TO: the stream's block is lost and the stream cancelled; a witness trailer is lost (R326). -/
def readDataTimeout (l id : Nat) (d : Dev) : Dev :=
  match d.stream l id with
  | none => d
  | some x =>
    if x.kind = 0 ∨ x.timedOut ∨ x.cancelled ∨ d.streamUnsent l id then d
    else
      let d := d.advance (x.lastAt + d.rd LNK_STREAM_CFG_READ_DATA_TO * 1000000)
      let d := (d.incSat (LNK_STREAM_ERR_READ_TIMEOUTS l)).setStream l { x with timedOut := true, cancelled := true }
      if x.kind = 2 then d.takeWitness x none else (d.txMsg l 1 (streamCancel id)).loseRead x

end Sys2Proof.Machine
end

