-- ==== Sys2Proof/Machine/Logs.lean ====
section
/-! DEFINITION. GET_LOG and the layouts of the six logs (R131, R222, R227, R235, R236, R355, R461, R462, R491). -/
namespace Sys2Proof.Machine

def Debt.bytes (e : Debt) : List Byte :=
  leBytes 8 e.time ++ leBytes 8 e.stripe ++ leBytes 4 e.count ++ leBytes 2 e.plan ++ leBytes 1 e.pos ++ leBytes 1 e.bay ++ leBytes 8 0

def ScrubE.bytes (e : ScrubE) : List Byte :=
  leBytes 8 e.time ++ leBytes 8 e.stripe ++ leBytes 4 e.count ++ leBytes 4 e.seq ++ leBytes 2 e.plan ++ leBytes 2 e.slice
    ++ leBytes 1 e.reason ++ leBytes 1 e.pos ++ leBytes 1 e.source ++ leBytes 1 e.stride

/-- A discarded-read log entry. -/
def BLog.readBytes (e : BLog) : List Byte :=
  leBytes 8 e.time ++ leBytes 4 e.addr ++ leBytes 4 e.seq ++ leBytes 2 e.link ++ leBytes 2 e.size ++ leBytes 1 e.port ++ leBytes 1 e.win
    ++ leBytes 1 e.tag ++ leBytes 1 e.reason ++ leBytes 2 e.slice ++ leBytes 6 0

/-- A posted-write failure log entry. -/
def BLog.writeBytes (e : BLog) : List Byte :=
  leBytes 8 e.time ++ leBytes 4 e.addr ++ leBytes 4 e.seq ++ leBytes 2 e.reqId ++ leBytes 2 e.link
    ++ leBytes 4 (e.pasid.getD 0 + 2 ^ 31 * b2n e.pasid.isSome) ++ leBytes 2 e.slice ++ leBytes 1 e.port ++ leBytes 1 e.win
    ++ leBytes 1 e.reason ++ leBytes 1 0 ++ leBytes 2 (e.size / 4)

def FHist.bytes (e : FHist) : List Byte :=
  leBytes 8 e.time ++ leBytes 4 e.seq ++ leBytes 4 e.unit ++ leBytes 1 e.source ++ leBytes 1 e.what ++ leBytes 1 e.cls ++ leBytes 1 e.flags
    ++ leBytes 4 e.detail ++ leBytes 8 e.addr

def MLog.bytes (e : MLog) : List Byte :=
  leBytes 8 e.time ++ leBytes 4 e.seq ++ leBytes 1 e.code ++ leBytes 1 e.core ++ leBytes 2 e.unit ++ leBytes 4 e.d0 ++ leBytes 4 e.d1
    ++ leBytes 8 e.d2

/-- The entries from the one of a SEQ on, or from the oldest held. -/
def fromSeq {α : Type} (seq : α → Nat) (start : Nat) (l : List α) : List α :=
  let i := l.findIdx (fun e => seq e == start)
  if i < l.length then l.drop i else l

/-- The entries of a log from a START on, as bytes. -/
def Dev.logFrom (d : Dev) (log start : Nat) : List (List Byte) :=
  let q := start % 2 ^ 32
  if log = 1 then (fromSeq (·.seq) q d.scrub).map (·.bytes)
  else if log = 2 then (d.debt.drop (start % 65536)).map (·.bytes)
  else if log = 3 then (fromSeq (·.seq) q d.brg.dlog).map (·.readBytes)
  else if log = 4 then (fromSeq (·.seq) q d.brg.wlog).map (·.writeBytes)
  else if log = 5 then (fromSeq (·.seq) q d.flt.hist).map (·.bytes)
  else (fromSeq (·.seq) q d.mgt.log).map (·.bytes)

/-- GET_LOG: whole entries, as many as the buffer takes; RESULT is the bytes written (R131). -/
def getLog (n : Nat) (d : Dev) : Dev :=
  d.admin n 0xD2 (fun x d =>
    let data := ((d.logFrom (darg x 4 1) (darg x 0x18 8)).take (darg x 0x10 4 / 32)).flatten
    if data.isEmpty then d.finish n stSuccess 0
    else
      match d.hostWrite 0 (d.entry n).instar true false (darg x 8 8) data with
      | (true, d) => d.finish n stSuccess data.length
      | (false, d) => d.finish n stHostDma)

end Sys2Proof.Machine
end

