-- ==== Sys2Proof/Machine/Profile.lean ====
section
/-! DEFINITION. Operating profiles and image switches (R20–R32, R203–R209), with the rows that request them and those that
let them take effect. -/
namespace Sys2Proof.Machine

/-! ## Profile requests (R23–R30) -/

/-- Does the image of a slot serve a rate and a check, with a pool that holds every share, those that accepted SET_SHAREs will raise
among them (R24, R71, R73)? -/
def Dev.fits (d : Dev) (t rate check : Nat) : Bool :=
  let s := d.rd (SCH_SLOT_STATUS_STATE t)
  match d.image t with
  | some g => (s == 2 || s == 3) && g.rate == rate && g.check == check && (List.range 8).all (fun n => decide (d.runsAssigned n + d.runsComing 1024 n ≤ (g.pool n).length))
  | none => false

/-- A link that a change of REACH would disturb (R26). -/
def Dev.reachBusy (d : Dev) : Bool :=
  (List.range 512).any (fun l => let s := d.laneState l; decide (2 ≤ s) && decide (s ≤ 6))

/-- Start-up, the online test of an engine or an octant, from its acceptance on, or a recovery (R27, R480). -/
def Dev.inRecovery (d : Dev) : Bool :=
  !d.pwr.trained || d.pwr.mode == 3 || d.pwr.mode == 4 || !d.eng.tests.isEmpty || d.mgt.swaps.any (·.test.isSome) || !d.mgt.octs.isEmpty
    || d.flag MGT_STATUS_RECOVERING

/-- The outcome of a profile request, as GLB_PROFILE_STATUS.RESULT; none when it is to be carried out (R24–R27, R73). -/
def Dev.profRefuse (d : Dev) (rate check reach slot : Nat) : Option Nat :=
  let change := rate != d.rd GLB_PROFILE_STATUS_CUR_RATE || check != d.rd GLB_PROFILE_STATUS_CUR_CHECK
  if d.pwr.mode = 1 then some 5
  else if d.inRecovery then some 4
  else if change && !d.fits slot rate check then some 2
  else if reach != d.rd GLB_PROFILE_STATUS_CUR_REACH && d.reachBusy then some 3
  else none

/-- The completion status of SET_PROFILE for a RESULT (R131). -/
def profStatus (r : Nat) : Nat := if r = 1 then stSuccess else if r = 2 then stNotLoaded else if r = 4 then stBusy else stInvalid

/-- A profile request ends (R30, R427). -/
def Dev.profEnd (d : Dev) (cmd : Option Nat) (r : Nat) : Dev :=
  let d := (d.wr GLB_PROFILE_STATUS_RESULT r).raise 2
  match cmd with
  | some n => d.finish n (profStatus r) r
  | none => d

/-- The epoch at which the profile in force took effect (R22, R30). -/
def Dev.profEpoch (d : Dev) : Dev := d.wrs [(GLB_PROFILE_EPOCH_LO_EPOCH, d.epoch), (GLB_PROFILE_EPOCH_HI_EPOCH, d.epoch / 2 ^ 32)]

/-- The lanes an image uses (R184). -/
def Image.used (g : Image) (l : Nat) : Bool := bit (g.lanes.getD l 0) 3

/-- Logical engines an image names that are not yet powered are powered on, and settle, and the lanes it uses leave link low-power
state (R29, R206). -/
def Dev.powerNamed (d : Dev) (g : Image) : Dev :=
  let l := (List.range 64).filter (fun e => bit g.engines e && !d.flag (ENG_MAP_POWERED e))
  let d := { d with eng := { d.eng with settling := d.eng.settling ++ l }, lnk := { d.lnk with low := d.lnk.low.filter (fun x => !g.used x) } }
  l.foldl (fun d e =>
    let d := d.wr (ENG_MAP_POWERED e) 1
    match d.physOf e with
    | some p => (d.engPowerOn p).sample (192 + p)
    | none => d) d

/-- Logical engines an image does not name are powered off (R29, R206). -/
def Dev.unpowerOthers (d : Dev) (g : Image) : Dev :=
  ((List.range 64).filter (fun e => !bit g.engines e && d.flag (ENG_MAP_POWERED e))).foldl (fun d e =>
    let d := d.wr (ENG_MAP_POWERED e) 0
    match d.physOf e with
    | some p => (d.engPowerOff p).sample (192 + p)
    | none => d) d

/-- An octant whose die is down has no tokens (R15, R483). -/
def Dev.islandDown (d : Dev) (i : Nat) : Bool := decide (i < 8) && d.octDown i

/-- Once no island runs an epoch of the image before, VDD_CORE goes to the rate in force, the engines that the image in force does
not name are powered off, and under QUARTER the lanes it does not use go to link low-power state (R29, R206). -/
def Dev.trimOld (d : Dev) : Dev :=
  match d.sch.trim, d.inForce with
  | some e, some g =>
    if (List.range 9).any (fun i => decide (d.sch.island.get i 0 < e) && !d.sch.gated.contains i && !d.islandDown i) then d
    else
      let d := d.setVdd (d.rd GLB_PROFILE_STATUS_CUR_RATE)
      -- what a switch already accepted needs stays in service
      let next := d.nextImage.bind d.image
      let kept := fun l => g.used l || next.any (·.used l)
      let low := if d.rd GLB_PROFILE_STATUS_CUR_RATE = 2 then (List.range 512).filter (fun l => !kept l) else []
      Dev.unpowerOthers { d with sch := { d.sch with trim := none }, lnk := { d.lnk with low := low } }
        { g with engines := Nat.lor g.engines ((next.map (·.engines)).getD 0) }
  | _, _ => d

/-- A profile request is evaluated: refused, carried out at once, or begun (R23–R30). -/
def Dev.profRequest (d : Dev) (cmd : Option Nat) : Dev :=
  let rate := d.rd GLB_PROFILE_RATE
  let check := d.rd GLB_PROFILE_CHECK
  let reach := d.rd GLB_PROFILE_REACH
  let slot := d.rd GLB_PROFILE_SLOT
  let cur := d.rd GLB_PROFILE_STATUS_CUR_RATE
  match d.profRefuse rate check reach slot with
  | some r => d.profEnd cmd r
  | none =>
    if rate = cur ∧ check = d.rd GLB_PROFILE_STATUS_CUR_CHECK then
      if reach = d.rd GLB_PROFILE_STATUS_CUR_REACH then d.profEnd cmd 1
      else ((d.wr GLB_PROFILE_STATUS_CUR_REACH reach).profEpoch).profEnd cmd 1
    else
      let late := (cur == 1 && rate != 1) || (cur == 2 && rate != 2)
      let d := if late then d.setVdd rate else d
      let d := Dev.wr { d with sch := { d.sch with prof := some ⟨rate, check, reach, slot, cmd, !late⟩ } } GLB_PROFILE_STATUS_PENDING 1
      match d.image slot with
      | some g => d.powerNamed g
      | none => d

/-- A profile write collides, and a command waits (R28). -/
def Dev.profBusy (d : Dev) : Bool :=
  d.flag GLB_PROFILE_STATUS_PENDING || d.flag GLB_POWER_STATUS_PENDING || d.flag SCH_SWITCH_PENDING

/-- GLB_PROFILE (R23, R28): a write that arrives while FW_UPDATE runs waits for it (R511; log entry 102). -/
def glbProfileWrite (v : Nat) (d : Dev) : Dev :=
  d.setup GLB_PROFILE v (fun d =>
    if d.profBusy then d.wr GLB_PROFILE_STATUS_COLLIDE 1
    else
      let d := d.writeWord GLB_PROFILE v
      if d.mgt.staging.isSome then { d with sch := { d.sch with profWait := true } } else d.profRequest none)

/-- A write to GLB_PROFILE that waited for FW_UPDATE is evaluated (R511). -/
def Dev.profResume (d : Dev) : Dev :=
  if !d.sch.profWait || d.mgt.staging.isSome || d.profBusy then d
  else Dev.profRequest { d with sch := { d.sch with profWait := false } } none

/-- SET_PROFILE (R23, R28, R511). -/
def setProfile (n : Nat) (d : Dev) : Dev :=
  if d.profBusy || d.mgt.staging.isSome then d else d.admin n 0x92 (fun x d => (d.writeWord GLB_PROFILE (darg x 4 4)).profRequest (some n))

/-- Voltage and clocks of a profile change have settled (R29). -/
def profileSettled (d : Dev) : Dev :=
  match d.sch.prof with
  | some r => { d with sch := { d.sch with prof := some { r with settled := true } } }
  | none => d

/-- Engines powered on for a switch or a profile change have settled (R29, R206). -/
def enginesSettled (d : Dev) : Dev := { d with eng := { d.eng with settling := [] } }

/-! ## SWITCH_IMAGE (R203, R206) -/

/-- SWITCH_IMAGE: it waits behind a pending switch and a pending state or profile request (R203). For EPOCH 0 the epoch it shows
is the next one (log entry 132). -/
def switchImage (n : Nat) (d : Dev) : Dev :=
  if d.profBusy then d
  else d.admin n 0x91 (fun x d =>
    let t := darg x 4 1
    let e := darg x 8 8
    match (if t ≤ 1 ∧ d.rd (SCH_SLOT_STATUS_STATE t) = 2 then d.image t else none) with
    | none => d.finish n stNotLoaded
    | some g =>
      if g.rate ≠ d.rd GLB_PROFILE_STATUS_CUR_RATE ∨ g.check ≠ d.rd GLB_PROFILE_STATUS_CUR_CHECK then d.finish n stNotLoaded
      else if (List.range 8).any (fun p => decide ((g.pool p).length < d.runsAssigned p + d.runsComing 1024 p)) then d.finish n stQuota
      else if e ≠ 0 ∧ e ≤ d.epoch + 1 then d.finish n stInvalid
      else
        let e := if e = 0 then d.epoch + 1 else e
        let d := d.wrs [(SCH_SLOT_STATUS_STATE t, 5), (SCH_SWITCH_PENDING, 1), (SCH_SWITCH_PENDING_SLOT, t), (SCH_SWITCH_DRAIN_WAIT, 0),
          (SCH_SWITCH_EPOCH_LO_EPOCH, e), (SCH_SWITCH_EPOCH_HI_EPOCH, e / 2 ^ 32)]
        Dev.powerNamed { d with sch := { d.sch with switch := some ⟨t, e, some n, false⟩ } } g)

/-! ## Taking effect (R147, R204–R206, R226) -/

/-- Do two images differ in a plan number's signature entry? -/
def sigDiffers (old : Option Image) (g : Image) (p : Nat) : Bool :=
  match old with
  | some o => o.sigs.getD p 0 != g.sigs.getD p 0
  | none => g.sigs.getD p 0 != 0

/-- A descriptor names a plan that an image changes, as source or as destination (R204). -/
def Dev.planChanges (d : Dev) (g : Image) (x : BitVec 512) : Bool :=
  isShardOp (dOpcode x) && (sigDiffers d.inForce g (dPlan x) || (dOpcode x == 5 && sigDiffers d.inForce g (dArg0 x % 4096)))

/-- Accepted work of a changed plan is still running; parked entries do not count (R204). -/
def Dev.changedWork (d : Dev) (g : Image) : Bool :=
  d.liveSlots.any (fun n =>
    let e := d.entry n
    e.state != 5 && d.planChanges g e.desc)

/-- The bays whose admitted links do not match a topology (R205). -/
def Dev.mismatched (d : Dev) (g : Image) : List Nat :=
  (List.range 64).filter (fun b => (List.range 8).any (fun j =>
    match (d.link (8 * b + j)).admitted with
    | some a => g.first (8 * b + j) != some a.width
    | none => false))

/-- A cursor's designation is in the new image as it was. -/
def keepsCursor (old : Option Image) (g : Image) (c : Cursor) : Bool :=
  match old.bind (fun o => o.backfill[c.designation]?), g.backfill[c.designation]? with
  | some a, some b => a == b && !sigDiffers old g a.plan
  | _, _ => false

/-- The cursors as a new image comes into force: an octant that lags scrubs on under the image before, and its cursors go with its
epoch (R31). -/
def Dev.keptCursors (d : Dev) (old : Option Image) (g : Image) : List Cursor :=
  d.sch.cursors.filter (fun c => keepsCursor old g c || (d.lags (c.engine / 8) && !d.islandDown (c.engine / 8)))

/-- The image of slot `t` comes into force at a boundary (R204, R205, R209): calendars, plans and pool together; GEN counters
of changed plans are seeded anew (R147), their debts removed (R226), parked entries that name one marked (R204), shares drawn from the
new pools (R73), source 19 raised (R427). An island that lags ends its epoch under the image before (R31). Slices draw in ascending
slice number, which no rule gives (log entry 126). -/
def Dev.imageInForce (d : Dev) (t : Nat) (g : Image) : Dev :=
  let old := d.inForce
  let was := d.rd SCH_SWITCH_ACTIVE_SLOT
  let gone := d.debt.filter (fun e => sigDiffers old g e.plan)
  let d := if old.isSome ∧ was ≠ t then d.wr (SCH_SLOT_STATUS_STATE was) 2 else d
  let d := d.wrs [(SCH_SLOT_STATUS_STATE t, 3), (SCH_SWITCH_ACTIVE_SLOT, t), (SCH_SWITCH_PENDING, 0), (SCH_SWITCH_DRAIN_WAIT, 0),
    (SCH_SWITCH_EPOCH_LO_EPOCH, d.epoch), (SCH_SWITCH_EPOCH_HI_EPOCH, d.epoch / 2 ^ 32),
    (JNL_DEBT_DROPPED_COUNT, d.rd JNL_DEBT_DROPPED_COUNT + gone.length)]
  let barred := (d.mismatched g).foldl (fun l b => setAdd b l) d.lnk.barred
  let gonePlan := fun (e : JEntry) => e.state == 5 && d.planChanges g e.desc
  let d := { d with debt := d.debt.filter (fun e => !sigDiffers old g e.plan), lnk := { d.lnk with barred := barred },
                    jnl := d.jnl.map (fun (e : Nat × JEntry) => (e.1, if gonePlan e.2 then { e.2 with planGone := true } else e.2)) }
  let d := if d.sch.running then d
    else { d with sch := { d.sch with running := true, next := [], island := (List.range 9).foldl (fun a i => Tab.set a i d.epoch 0) [] } }
  let d := { d with sch := { d.sch with gens := d.sch.gens.filter (fun e => !sigDiffers old g e.1),
                                        cursors := d.keptCursors old g, assign := [], trim := some d.epoch } }
  ((d.liveSlices.filter (· ≠ 0)).foldl (fun d s => d.reassign s (d.rd (SLC_SHARE_RUNS s))) d).raise 19

/-- A pending switch takes effect at the boundary, or is deferred (R204, R206). -/
def Dev.switchTry (d : Dev) : Dev :=
  match d.sch.switch with
  | none => d
  | some w =>
    match d.image w.slot with
    | none => d
    | some g =>
      if d.epoch < w.epoch ∨ ¬d.eng.settling.isEmpty then d
      else if d.changedWork g then d.wr SCH_SWITCH_DRAIN_WAIT 1
      else
        let d := Dev.imageInForce { d with sch := { d.sch with switch := none } } w.slot g
        match w.cmd with
        | some n => d.finish n stSuccess d.epoch
        | none => d

/-- A profile change takes effect at the boundary at which its image does (R29, R30). -/
def Dev.profTry (d : Dev) : Dev :=
  match d.sch.prof with
  | none => d
  | some r =>
    match d.image r.slot with
    | none => d
    | some g =>
      if ¬r.settled ∨ ¬d.eng.settling.isEmpty ∨ d.changedWork g then d
      else
        let d := Dev.imageInForce { d with sch := { d.sch with prof := none } } r.slot g
        let d := d.wrs [(GLB_PROFILE_STATUS_CUR_RATE, r.rate), (GLB_PROFILE_STATUS_CUR_CHECK, r.check),
          (GLB_PROFILE_STATUS_CUR_REACH, r.reach), (GLB_PROFILE_STATUS_PENDING, 0)]
        (d.profEpoch).profEnd r.cmd 1

end Sys2Proof.Machine
end

