-- ==== Sys2Proof/Machine/HostReads.lean ====
section
/-! DEFINITION. Completions of the device's own reads of host memory (R66, R84, R114, R118, R220, R267). -/
namespace Sys2Proof.Machine

/-- `n` descriptors of 64 bytes. -/
def descsOf : Nat → List Byte → List (BitVec 512)
  | 0, _ => []
  | n + 1, l => BitVec.ofNat 512 (leAt l 0 64) :: descsOf n (l.drop 64)

/-- Host data of a write arrives in the hub buffer; what a discarded or replayed work asked for is dropped (R85, R261). -/
def Dev.payloadIn (d : Dev) (slot serial att off len : Nat) (data : List Byte) : Dev :=
  let e := d.entry slot
  let w := d.wk slot
  if e.state = 0 ∨ e.serial ≠ serial ∨ w.att ≠ att ∨ ¬d.runs slot then d
  else
    match d.writePlan slot with
    | none => d
    | some p =>
      let g := d.writeEng slot
      let dest := if e.staged then 0x248 else 0x200 + g
      d.putCells slot (blkCells 8 0x249 dest p.pclass g 0 (off / p.shard) (off % p.shard / 4096) off (data.take len) 0 true)

/-- Host data of a write could not be read (R220, R267). -/
def Dev.payloadFail (d : Dev) (slot serial att : Nat) : Dev :=
  let e := d.entry slot
  if e.state = 0 ∨ e.serial ≠ serial ∨ (d.wk slot).att ≠ att then d else d.failItem slot stHostDma

/-- The zero-length read of a moult ends (R84, R87). -/
def Dev.moultRead (d : Dev) (s : Nat) (ok : Bool) : Dev :=
  let c := d.slice s
  match c.moult with
  | some m => if m.step = 6 then d.setSlice s { c with moult := some { m with step := 7, failed := !ok } } else d
  | none => d

/-- The read at place `i` ends with data, or fails: the work it was made for goes on (R66, R118). One that has not been issued
ends only when it is dead (R552). -/
def Dev.readEnds (d : Dev) (i : Nat) (data : Option (List Byte)) : Dev :=
  match d.reads[i]? with
  | none => d
  | some r =>
    if !r.issued && !r.dead then d
    else
    let fails := fun d : Dev => d.failedRead r data.isNone
    match r.why with
    | .record s page again => d.recordEnds i r s page again (data.map (words64 512))
    | .desc q k => d.descEnds i r q k (data.map (descsOf k))
    | .sgl q => d.sglEnds i r q data
    | .image t => d.imageEnds i t data
    | .list n serial =>
      let d := fails (d.endRead i)
      let e := d.entry n
      if e.state = 0 ∨ e.serial ≠ serial then d
      else
        match data with
        | none => d.failItem n stHostDma
        | some l =>
          let k := dSglCount e.desc % 65536 - e.sgl.length
          if l.length = 16 * k then d.setEntry n { e with sgl := e.sgl ++ sglEntries k l } else d
    | .moult s =>
      let d := fails (d.endRead i)
      if r.instar = d.sliceInstar s then d.moultRead s data.isSome else d
    | .payload slot serial att off len =>
      let d := fails (d.endRead i)
      match data with
      | some l => if l.length = len then d.payloadIn slot serial att off len l else d
      | none => d.payloadFail slot serial att
    | .sliceImage n serial => (fails (d.endRead i)).restoreRead n serial data
    | .firmware n serial => (fails (d.endRead i)).firmwareRead n serial data
    | .mirror => if data.isNone then (fails (d.endRead i)).pullEnds 2 else d
    | .dropped => fails (d.endRead i)

/-- The header of the request of a device read that brings the byte `k` bytes after those already there (R67). -/
def Dev.readHdr (d : Dev) (r : HRead) (k : Nat) : TlpHdr :=
  let a := r.addr + r.there + k
  let q := (r.reqs.find? (fun x => decide (x.1 ≤ a ∧ a < x.1 + x.2))).getD (r.reqs.headD (r.addr, r.len))
  ⟨0, q.1, q.2, (d.port r.port).reqId, d.pasidOf r.slice⟩

/-- HOST_READ_COMPLETION: 0 Successful Completion with data, 1 UR, 2 CA, 3 poisoned, after the data given (R66). The mirror's data come
by the commands that end its pull. -/
def hostReadCompletion (i status : Nat) (data : List Byte) (d : Dev) : Dev :=
  match d.reads[i]? with
  | none => d
  | some r =>
    if d.hubOff || !r.issued then d
    else if status = 0 then (if r.why = .mirror then d else d.readBrings i (some data) (fun d l => d.readEnds i l))
    else
      let d := if status = 3 then d.aerHdr r.port .poisoned (some (d.readHdr r data.length)) else d
      d.readEnds i none

/-- The requests of the mirror's read end (R37, R411, R423): as a device read does when they fail; when they succeed with further
requests, or with the check of the mirror's 256-byte header, its body's CRC-32C and those of the ten sections. -/
def Dev.pullBrings (d : Dev) (status : Nat) (hdr : List Byte) (body : BitVec 32) (secs : List (BitVec 32)) : Dev :=
  let i := d.reads.findIdx (fun r => r.why == .mirror)
  match d.reads[i]? with
  | none => d
  | some r =>
    if status ≠ 0 then hostReadCompletion i status [] d
    else if d.hubOff || !r.issued then d
    else if r.last then (d.endRead i).pullEnds (headerResult hdr body secs d.pullSeq)
    else
      let r := { r with skip := r.skip + r.outLen, reqs := [], sent := false, issued := false }
      Dev.nextReads r.port d.reads.length { d with reads := d.reads.set i r }

/-- MIRROR_PULL_DONE: the requests of an eclosion's pull end (R423, R424). -/
def mirrorPullDone (status : Nat) (hdr : List Byte) (body : BitVec 32) (secs : List (BitVec 32)) (d : Dev) : Dev :=
  if d.pwr.mode = 3 then d.pullBrings status hdr body secs else d

/-- UNWIND_RELOAD_DONE: the requests of an unwind's reload end (R411, R423). -/
def unwindReloadDone (status : Nat) (hdr : List Byte) (body : BitVec 32) (secs : List (BitVec 32)) (d : Dev) : Dev :=
  if d.pwr.mode = 3 then d else d.pullBrings status hdr body secs

/-- Is this the read that the admin command `serial` in slot `n` has made of its image (R96, R511)? -/
def HRead.forImage (n serial : Nat) (r : HRead) : Bool := r.why == .sliceImage n serial || r.why == .firmware n serial

/-- The host's answer to the read that the admin command `serial` in slot `n` has made, when it is there before any other
command (log entry 109). -/
def Dev.answered (d : Dev) (n serial : Nat) (answer : Option (List Byte)) : Dev :=
  match answer with
  | none => d
  | some l => hostReadCompletion (d.reads.findIdx (HRead.forImage n serial)) 0 l d

/-- RESTORE_SLICE, with the host's answer when it is there at once (R82, R96). -/
def restoreSliceAnswered (n : Nat) (answer : Option (List Byte)) (d : Dev) : Dev :=
  (restoreSlice n d).answered n (d.entry n).serial answer

/-- FW_UPDATE, with the host's answer when it is there at once (R511). -/
def fwUpdateAnswered (n : Nat) (answer : Option (List Byte)) (d : Dev) : Dev :=
  (fwUpdate n d).answered n (d.entry n).serial answer

/-- HOST_COMPLETION_TIMEOUT (R35, R66): nothing while the host has disabled the timeout. -/
def hostCompletionTimeout (i : Nat) (d : Dev) : Dev :=
  match d.reads[i]? with
  | none => d
  | some r =>
    let x := (d.port r.port).ext
    if d.hubOff || !r.issued || x.ctoOff then d
    else
      let d := d.advance (r.since + (Config.completionTimeout x.cto).toNat)
      (d.aerHdr r.port .completionTimeout (some (d.readHdr r 0))).readEnds i none

/-! ## FAULT_EVENT -/

/-- An uncorrectable error in port `n`'s own buffers hits what it carried (R66): the device read at place `k` (ACCESS 3), a write
for the item in slot `k` (4), or a host's read (1), the one at place `k` of those through windows, if any. -/
def Dev.portLoses (d : Dev) (n access k : Nat) : Dev :=
  if access = 3 then
    match d.reads[k]? with
    | some r => if r.port = n then Dev.readEnds { d with reads := d.reads.set k { r with ecc := true } } k none else d
    | none => d
  else if access = 4 then (if d.slicePort (d.entry k).slice = n then d.failItem k stHostDma else d)
  else if access = 1 then
    match d.brg.reads[k]? with
    | some r =>
      if r.port = n then
        let d := (d.dropRead r).emit (.completerAbort n)
        match r.tag with
        | some t => d.setTag r.link t (some ⟨3, n, r.win, r.addr, r.len, d.now⟩)
        | none => d
      else d
    | none => d.emit (.completerAbort n)
  else d

/-- An error of a fault source (R450–R459). One of a port's own buffers is reported by AER too, and an uncorrectable one ends
the work it hits, which for a port `inst` names (R66). -/
def faultEvent (u : FUnit) (src inst access addr : Nat) (port slice : Option Nat) (detail : Nat) (d : Dev) : Dev :=
  if d.unpoweredUnit u then d
  else
    let e := d.fault { unit := u, src := src, inst := inst, access := access, addr := addr, port := port, slice := slice, detail := detail }
    match u with
    | .hp n =>
      if src = 0 then e.aer n.val .correctedInternal
      else if src = 1 then (e.aer n.val (.uncorrectableInternal false)).portLoses n.val access inst
      else e
    | _ => e

end Sys2Proof.Machine
end

