-- ==== Sys2Proof/Machine/Epoch.lean ====
section
/-! DEFINITION. The calendar at work: a run fires, an epoch begins, and what the boundary does (R11, R168–R181, R203–R213,
R258–R269, R398). -/
namespace Sys2Proof.Machine

/-! ## Calendars (R179, R208) -/

/-- The calendar of an island under an era: 8 is the hub; an octant's base with its bays' patches applied (R208). -/
def Era.calendar (e : Era) (i : Nat) : List (BitVec 64) :=
  match e.image with
  | none => []
  | some g =>
    if i = 8 then g.hub
    else
      let o := g.octs.getD i ⟨[], []⟩
      let v := e.variant.get i 0
      (List.range 8).foldl (fun c j =>
        let k := bits v (2 * j) 2
        if k = 0 then c else applyPatch c (o.patches.getD (2 * j + (k - 1)) [])) o.base

/-- The calendar of an island in the epoch the island is in (R31, R208). -/
def Dev.calendar (d : Dev) (i : Nat) : List (BitVec 64) := (d.era i).calendar i

/-- The pacer issues tokens and the islands run. -/
def Dev.pacing (d : Dev) : Bool := !d.hubOff && !d.flt.grave && d.sch.running && d.pwr.mode == 0 && d.inForce.isSome

/-! ## What a run moves (R172–R178) -/

/-- The room left in the handshake FIFO of the crossing a run enters: two epochs of the image's traffic across it (R179). -/
def Dev.crossRoom (d : Dev) (island : Nat) (r : BitVec 64) : Nat :=
  if !isHubLinkEp (runDst r) then runCells r
  else
    let side := if island = 8 then runDst r - 0x250 else 8
    let cal := (d.era island).image.map (fun g => if island = 8 then g.hub else (g.octs.getD island ⟨[], []⟩).base)
    let stands := d.liveSlots.foldl (fun a n => a + ((d.wk n).cells.filter (fun c => c.island == side && c.ep == runDst r)).length) 0
    2 * cellsTo (cal.getD []) (· == runDst r) - stands

/-- Of a list of cells, all but those toward the host beyond a number of them. -/
def keepRoom : Nat → List Cell → List Cell
  | _, [] => []
  | 0, c :: l => if c.kind == 3 then keepRoom 0 l else c :: keepRoom 0 l
  | k + 1, c :: l => if c.kind == 3 then c :: keepRoom k l else c :: keepRoom (k + 1) l

/-- A run brings read data into the hub buffer: from the staging space, or into the crossing toward the hub, where its place in the
buffer is taken (R174, R179; log entry 113). -/
def entersBuffer (island : Nat) (r : BitVec 64) : Bool := if island = 8 then runSrc r == 0x248 && runDst r == 0x249 else isHubLinkEp (runDst r)

/-- Bytes of shard blocks that stand at a link incomplete, or wait there to be sent on VC0. -/
def Dev.linkWaits (d : Dev) (l : Nat) : Nat :=
  let s := (d.link l).sess
  let part := (d.liveSlots.map (fun n => match d.writePlan n with
    | some q => (((d.wk n).linkOut.filter (fun x => d.writeLink n q x.1 == l)).map (fun x => x.2.length)).sum
    | none => 0)).sum
  part + (((s.tx.get 0 []).map List.length).sum - s.txOff.get 0 0)

/-- The cells that a run may still bring to a link on the credit its partner allows on VC0 (R311, R314); the others wait for a later run. -/
def Dev.linkRoom (d : Dev) (l : Nat) : Nat := (246 * (d.link l).sess.credit 0 - d.linkWaits l + 511) / 512

/-- The cells of an item that are ready for a run: toward the hub buffer, only while its slice has room there, into a crossing, only
while its FIFO has, and to a link, only on its partner's credit (R172, R174, R179, R314). -/
def Dev.readyCells (d : Dev) (n island : Nat) (r : BitVec 64) : List Cell :=
  if d.runs n && (d.wk n).replay.isNone then
    let l := (d.wk n).cells.filter (d.cellReady n island r)
    let l := (if entersBuffer island r then keepRoom (d.bufferRoom (d.entry n).slice 3) l else l).take (d.crossRoom island r)
    if isLinkEp (runDst r) then l.take (d.linkRoom (runDst r)) else l
  else []

/-- A run of the staging port (R165). -/
def isStageRun (r : BitVec 64) : Bool := runSrc r == 0x248 || runDst r == 0x248

/-- The head item of a PLAN_CLASS run: the oldest with cells ready, or by slice in turn (R173). The staging port serves in order of
acceptance (R165). -/
def Dev.headItem (d : Dev) (island : Nat) (r : BitVec 64) : Option Nat :=
  let l := d.byAge.filter (fun n => !(d.readyCells n island r).isEmpty)
  let turn := (((d.era island).image.map (fun g => g.order.getD (runClass r) false))).getD false
  if turn && !isStageRun r then
    let slices := l.foldl (fun a n => setAdd (d.entry n).slice a) []
    let last := d.sch.turn.get (runClass r) 0
    let s := match slices.find? (fun s => decide (last ≤ s)) with
      | some s => some s
      | none => slices.head?
    l.find? (fun n => s == some (d.entry n).slice)
  else l.head?

/-- Cells moved are charged to a slice and counted at the staging port (R165, R178); an island that moves them is not gated (R398). -/
def Dev.countMove (d : Dev) (island s m : Nat) (r : BitVec 64) : Dev :=
  let d := d.chargeCells island s m
  let st := if isStageRun r then m else 0
  { d with sch := { d.sch with stageCells := d.sch.stageCells + st, idle := d.sch.idle.set island 0 0, gated := setDel island d.sch.gated } }

/-- Cells that a run moves into an engine or out of it are counted there, as R157 counts its load; those of a plan with VERIFY_ALWAYS
count twice under STANDARD (R157, R167; log entry 112). -/
def Dev.countEngine (d : Dev) (island m : Nat) (r : BitVec 64) (p : Option Plan) : Dev :=
  ([runSrc r, runDst r].filter isEngEp).foldl (fun (d : Dev) x =>
    let e := (d.physEng (x - 0x200)).val
    d.wr64 (ENG_CELLS_LO_CELLS e) (ENG_CELLS_HI_CELLS e) (d.rd64 (ENG_CELLS_LO_CELLS e) (ENG_CELLS_HI_CELLS e)
      + if p.any (·.verifyAlways) && (d.era island).check == 0 then 2 * m else m)) d

/-- The plan whose shards cells of a kind are, at an engine: recovered data that enters one is about to be written (R163). -/
def Dev.cellPlan (d : Dev) (n kind : Nat) (r : BitVec 64) : Option Plan :=
  if kind = 0 ∨ kind = 1 ∨ (kind = 4 ∧ isEngEp (runDst r)) then d.writePlan n else d.readPlan n

/-- A PLAN_CLASS run moves its head item's ready cells (R172, R174): how many. -/
def Dev.classRun (d : Dev) (island : Nat) (r : BitVec 64) : Nat × Dev :=
  match d.headItem island r with
  | none => (0, d)
  | some n =>
    let s := (d.entry n).slice
    let stage := if isStageRun r then 1280 - d.sch.stageCells else runCells r
    let l := (d.readyCells n island r).take (Nat.min (runCells r) stage)
    let m := l.length
    if m = 0 then (0, d)
    else
      let p := d.cellPlan n ((l.map (·.kind)).headD 0) r
      let d := { d with sch := { d.sch with turn := d.sch.turn.set (runClass r) (s + 1) 0 } }
      let d := ((d.countMove island s m r).countEngine island m r p).moveCells n l.contains (runDst r) m
      (m, (d.stageReturn n).stripeTry n)

/-- Does a hub run move toward the host? -/
def toHost (r : BitVec 64) : Bool := isPortEp (runDst r)

/-- The host port a hub run names. -/
def runPort (r : BitVec 64) : Nat := (if toHost r then runDst r else runSrc r) - 0x240

/-- Cells a port may still move in one direction in the hub's present epoch (R177). -/
def Dev.portLeft (d : Dev) (n : Nat) (out : Bool) : Nat :=
  match (d.era 8).image with
  | none => 0
  | some g =>
    let c := g.ports.getD n (0, 0, 0, 0)
    let cap := 1152 * d.rd (HP_STATUS_WIDTH n) * speedHalf (d.rd (HP_STATUS_SPEED n)) / (16 * 256)
    if c.2.2.1 ≤ cap then 0x10000 else cap - c.2.2.2 - d.sch.portCells.get (2 * n + b2n out) 0

/-- Does an item want host data now (R212, R221, R261)? -/
def Dev.wantsData (d : Dev) (n : Nat) : Bool :=
  let e := d.entry n
  let w := d.wk n
  d.runs n && w.replay.isNone && w.stop.isNone && dOpcode e.desc == 1 && !d.listShort n && decide (w.asked < dLength e.desc)
    && (!e.staged || (match d.readPlan n with | some p => decide (p.columns ≤ w.rcol) && w.staged p | none => false))

/-- One segment of an item's host data is read into the hub buffer (R141, R174, R218). -/
def Dev.askData (d : Dev) (n : Nat) (x : Nat × Nat × Nat) : Dev :=
  let e := d.entry n
  let w := d.wk n
  match d.hostRead e.slice x.2.2 x.2.1 (d.queue e.queue).noSnoop (.payload n e.serial w.att x.1 x.2.1) with
  | (true, d) => d.setWk n { d.wk n with asked := (d.wk n).asked + x.2.1, fired := true }
  | (false, d) => d.failItem n stHostDma

/-- A POOL or MGR run toward the hub buffer (R141, R171, R174). -/
def Dev.poolIn (d : Dev) (s k : Nat) : Nat × Dev :=
  match (d.sliceSlots s).find? d.wantsData with
  | none => (0, d)
  | some n =>
    match d.writePlan n with
    | none => (0, d)
    | some p =>
      let e := d.entry n
      let l := (afterBytes (d.wk n).asked (e.allSegments p)).take (Nat.min k (d.bufferRoom s 0))
      (l.length, l.foldl (fun d x => if d.wantsData n then d.askData n x else d) d)

/-- A cell of host data leaves the hub buffer for host memory (R38, R141). -/
def Dev.giveCell (d : Dev) (n : Nat) (c : Cell) : Dev :=
  let e := d.entry n
  let w := d.wk n
  let d := d.setWk n { w with cells := w.cells.erase c, given := w.given + c.data.length, fired := true }
  (e.segments c.off c.data.length).foldl (fun d x =>
    if (d.entry n).state ≠ 2 ∧ (d.entry n).state ≠ 3 then d
    else
      match d.hostWrite e.slice e.instar true (d.queue e.queue).noSnoop x.2.2 ((c.data.drop (x.1 - c.off)).take x.2.1) with
      | (true, d) => d
      | (false, d) => d.failItem n stHostDma) d

/-- A POOL or MGR run toward the host port. -/
def Dev.poolOut (d : Dev) (s port k : Nat) : Nat × Dev :=
  let mine := fun (c : Cell) => c.kind == 3 && c.island == 8 && c.ep == 0x249 && c.dest == 0x240 + port
  match (d.sliceSlots s).find? (fun n => d.runs n && (d.wk n).replay.isNone && !d.listShort n && (d.wk n).cells.any mine) with
  | none => (0, d)
  | some n =>
    let l := ((d.wk n).cells.filter mine).take k
    (l.length, (l.foldl (fun d c => d.giveCell n c) d).stripeTry n)

/-- Cells moved count toward a port's capacity in their direction (R177). -/
def Dev.countPort (d : Dev) (r : BitVec 64) (m : Nat) : Dev :=
  { d with sch := { d.sch with portCells := bump d.sch.portCells (2 * runPort r + b2n (toHost r)) m } }

/-- A run between a host port and the hub buffer: only there has a POOL or MGR run cells ready (R171, R172). -/
def hostEnds (r : BitVec 64) : Bool := (isPortEp (runSrc r) && runDst r == 0x249) || (isPortEp (runDst r) && runSrc r == 0x249)

/-- A POOL or MGR run serves its slice, unless the slice's PASID is barred (R39, R172, R174, R177). -/
def Dev.hostRun (d : Dev) (s : Nat) (r : BitVec 64) : Nat × Dev :=
  let port := runPort r
  let k := Nat.min (runCells r) (d.portLeft port (toHost r))
  if !hostEnds r ∨ d.slicePort s ≠ port ∨ d.sliceState s = 0 ∨ d.pasidBarred s then (0, d)
  else
    let (m, d) := if toHost r then d.poolOut s port k else d.poolIn s k
    if m = 0 then (0, d) else (m, (d.countMove 8 s m r).countPort r m)

/-! ## Record polls (R113, R175) -/

/-- The epoch at which a slice's RPOLL interval elapses (R113). -/
def Dev.pollDue (d : Dev) (s : Nat) : Nat := (d.slice s).lastPoll + d.rd (SLC_SHARE_RPOLL s)

/-- The due slice of a port that a record-poll run serves: one whose pages are still being fetched, else the one whose
interval elapsed earliest (R175). -/
def Dev.pollSlice (d : Dev) (n : Nat) : Option Nat :=
  let l := ((d.portSlices n).filter d.canFetch).foldl (fun a s => setAdd s a) []
  match l.find? (fun s => !(d.slice s).duePages.isEmpty) with
  | some s => some s
  | none =>
    let due := l.filter (fun s => d.rd (SLC_SHARE_RPOLL s) != 0 && decide (d.pollDue s ≤ d.epoch))
    due.foldl (fun a s => match a with
      | none => some s
      | some b => if d.pollDue s < d.pollDue b then some s else some b) none

/-- A record-poll run fetches up to two pages of the slice it serves, as far as the port's capacity goes (R175, R177): cells counted. -/
def Dev.pollRun (d : Dev) (r : BitVec 64) : Nat × Dev :=
  match d.pollSlice (runSrc r - 0x240) with
  | none => (0, d)
  | some s =>
    let c := d.slice s
    let k := Nat.min 2 (d.portLeft (runPort r) false / 8)
    if k = 0 then (0, d)
    else
      let pages := if c.duePages.isEmpty then d.recordPages s else c.duePages
      let d := d.setSlice s { c with duePages := pages.drop k, lastPoll := if c.duePages.isEmpty then d.epoch else c.lastPoll }
      let d := (pages.take k).foldl (fun d p => d.fetchPage s p false) d
      let m := 8 * (pages.take k).length
      (m, (d.countMove 8 0 m r).countPort r m)

/-! ## RUN_FIRE -/

/-- The backfill designation a run of an island names. -/
def Dev.designation (d : Dev) (island : Nat) (r : BitVec 64) : Option Backfill := (d.era island).image.bind (fun g => g.backfill[runBackfill r]?)

/-- The physical engine of an octant that is under test (R478). -/
def Dev.testedIn (d : Dev) (o : Nat) : Option Nat := d.eng.tests.keys.find? (fun p => p / 9 == o && d.rd (ENG_STATUS_STATE p) == 3)

/-- A run that performs a TEST designation moves pattern cells into the engine of its octant that is under test, whatever endpoints it
names (R478). -/
def Dev.testRun (d : Dev) (island : Nat) (r : BitVec 64) : Dev :=
  match d.testedIn island with
  | none => d
  | some p =>
    if ((d.designation island r).map (·.kind)).getD 0 ≠ 2 ∨ 8 ≤ island ∨ d.octDown island then d
    else
      let k := d.eng.testCells.get p 0 + runCells r
      let d := { d with eng := { d.eng with testCells := d.eng.testCells.set p k 0 } }
      let d := if d.rd SPR_TEST_KIND = 1 ∧ d.rd SPR_TEST_UNIT = p then d.wr SPR_TEST_CELLS_CELLS k else d
      d.countMove island 0 (runCells r) r

/-- A run without work performs its backfill designation (R31, R172, R178, R478). -/
def Dev.backfillRun (d : Dev) (island : Nat) (r : BitVec 64) : Dev :=
  let b := runBackfill r
  if ((d.designation island r).map (·.kind)).getD 0 = 1 ∧ isLinkEp (runSrc r) ∧ isEngEp (runDst r) then
    let p := (d.scrubOf b (runEngine r)).map (·.2)
    let (m, d) := d.cursorRun b (runEngine r) (runSrc r) (runCells r)
    if m = 0 then d else (d.countMove island 0 m r).countEngine island m r p
  else d.testRun island r

/-- A run moves nothing although it has work, for the capacity of its port or of the staging port is used up (R165, R177). -/
def Dev.runStopped (d : Dev) (island : Nat) (r : BitVec 64) : Bool :=
  let k := runKind r
  if k = 1 ∨ k = 2 then island == 8 && hostEnds r && d.portLeft (runPort r) (toHost r) == 0
  else if k = 4 then island == 8 && decide (d.portLeft (runPort r) false < 8)
  else k == 3 && isStageRun r && decide (1280 ≤ d.sch.stageCells) && (d.headItem island r).isSome

/-- What a run does when it fires (R172); POOL, MGR and RECORD_POLL runs serve slices and ports of the hub's calendar. A run that names
an endpoint that cannot take part moves no work (R213). -/
def Dev.fire (d : Dev) (island slot : Nat) (r : BitVec 64) : Dev :=
  let k := runKind r
  if !(d.epUp (runSrc r) && d.epUp (runDst r)) then (if k = 3 ∧ (d.headItem island r).isSome then d else d.testRun island r)
  else if d.runStopped island r then d
  else
    let (m, d) :=
      if k = 3 then d.classRun island r
      else if island ≠ 8 then (0, d)
      else if k = 1 then (match (d.era island).assign.get slot 0 with
        | s + 1 => d.hostRun s r
        | 0 => (0, d))
      else if k = 2 then d.hostRun 0 r
      else if k = 4 then d.pollRun r
      else (0, d)
    if m = 0 then d.backfillRun island r else d

/-- The cursors of an octant that has lagged, as its epoch under the image before ends (R31). -/
def Dev.passCursors (d : Dev) (i : Nat) : Dev :=
  match d.inForce with
  | some g =>
    if d.lags i then
      { d with sch := { d.sch with cursors := d.sch.cursors.filter (fun c => c.engine / 8 != i || keepsCursor d.sch.prev.image g c) } }
    else d
  | none => d

/-- An island begins epoch `x`; the hub's counts of the epoch start anew (R166, R177, R180). -/
def Dev.beginEpoch (d : Dev) (i x : Nat) : Dev :=
  let d := d.passCursors i
  let d := { d with sch := { d.sch with island := d.sch.island.set i x 0, next := d.sch.next.set i 0 0 } }
  if i = 8 then
    let d := d.wr ENG_STAGE_CELLS_LAST d.sch.stageCells
    { d with sch := { d.sch with stageCells := 0, portCells := [] } }
  else d

/-- Every run of the epoch an island is in has fired. -/
def Dev.islandDone (d : Dev) (i : Nat) : Bool := decide ((d.calendar i).length ≤ d.sch.next.get i 0)

/-- RUN_FIRE: the next run of an island's calendar fires, in entry order (R172, R179). An island that has finished an epoch begins the
next one when its token has come. One whose clocks are gated ungates in time for a run that has work (R398). -/
def runFire (i slot : Nat) (d : Dev) : Dev :=
  if !d.pacing || d.islandDown i then d
  else
    let at_ := d.sch.island.get i 0
    let d' := if d.islandDone i && decide (at_ < d.sch.epoch) then d.beginEpoch i (at_ + 1) else d
    match (d'.calendar i)[slot]? with
    | none => d
    | some r =>
      if slot ≠ d'.sch.next.get i 0 then d
      else
        let d' := { d' with sch := { d'.sch with next := d'.sch.next.set i (slot + 1) 0 } }
        (d'.fire i slot r).trimOld

/-! ## Voided runs (R180) -/

/-- The item whose cells a run would carry. -/
def Dev.runItem (d : Dev) (island slot : Nat) (r : BitVec 64) : Option Nat :=
  let k := runKind r
  let host := fun s =>
    if toHost r then (d.sliceSlots s).find? (fun n => d.runs n && (d.wk n).cells.any (fun c => c.kind == 3 && c.island == 8 && c.ep == 0x249))
    else (d.sliceSlots s).find? d.wantsData
  if k = 3 then d.headItem island r
  else if island ≠ 8 ∨ !hostEnds r then none
  else if k = 2 then host 0
  else if k = 1 then (match (d.era island).assign.get slot 0 with
    | s + 1 => host s
    | 0 => none)
  else none

/-- The items that the unfired runs of an island would carry. -/
def Dev.voidItems (d : Dev) (i : Nat) : List Nat :=
  let cal := d.calendar i
  ((List.range cal.length).drop (d.sch.next.get i 0)).foldl (fun a k => match d.runItem i k (cal.getD k 0) with
    | some n => setAdd n a
    | none => a) []

/-- The token of epoch `e` reaches an island: it goes on, or the runs of a missed epoch are voided (R11, R180). `d` stands before the
token: its present epoch is the one before. -/
def Dev.token (d : Dev) (i e : Nat) : Dev :=
  let at_ := d.sch.island.get i 0
  if d.islandDown i then d
  else if d.sch.gated.contains i then d.beginEpoch i e
  else if d.islandDone i then d.beginEpoch i (Nat.max (at_ + 1) (e - 1))
  else if e < at_ + 2 then d
  else
    let l := (d.calendar i).length - d.sch.next.get i 0
    let d := d.wr (SCH_VOID_RUNS i) (d.rd (SCH_VOID_RUNS i) + l)
    let d := (d.voidItems i).foldl (fun d n => d.askReplay n 5) d
    let d := if i = 8 then d.faultFree { unit := .sch, src := 4, detail := 8 * 4096 } false 4096
      else d.faultFree { unit := .oct (Fin.ofNat 8 i), src := 4 } false 128
    d.beginEpoch i (e - 1)

/-! ## Conditions and classification (R208, R211, R268) -/

/-- The hold of a link ends: LINK_HOLD has passed (R268, R273). -/
def Dev.expireHold (d : Dev) (l : Nat) : Dev :=
  let k := d.link l
  if k.left.isSome && !k.expired then
    (d.setLink l { k with expired := true, owed := [] }).inc JNL_LINK_HELD_EXPIRED
  else d

/-- The admitted links of a bay; what a link has trained to, and its whole capacity. -/
def Dev.bayLinks (d : Dev) (b : Nat) : List Nat := ((List.range 8).map (8 * b + ·)).filter (fun l => (d.link l).admitted.isSome)
def Dev.linkHas (d : Dev) (l : Nat) : Nat :=
  let r := d.rd (LNK_STATE_TR_RATE l)
  2 ^ d.rd (LNK_STATE_TR_WIDTH l) * (if r = 0 then 4 else if r = 1 then 2 else if r = 2 then 1 else 0)
def Dev.linkFull (d : Dev) (l : Nat) : Nat := 4 * 2 ^ (((d.link l).admitted.map (·.width)).getD 0)

/-- A bay is ABSENT for a reason other than a link's absence (R205, R208). -/
def Dev.bayGone (d : Dev) (b : Nat) : Bool :=
  !d.flag (BAY_STATUS_PG b) || (d.bayLinks b).isEmpty || d.lnk.barred.contains b
    || ((d.bayLinks b).filter d.linkActive).any (fun l => decide (2 * d.linkHas l < d.linkFull l))

/-- The condition of a bay: 0 FULL, 1 HALF, 2 ABSENT (R205, R208). -/
def Dev.bayCond (d : Dev) (b : Nat) : Nat :=
  let act := (d.bayLinks b).filter d.linkActive
  let out := (d.bayLinks b).filter (fun l => !d.linkActive l)
  if d.bayGone b || out.any (fun l => (d.link l).left.isNone || d.holdOver l) then 2
  else if !out.isEmpty then d.lnk.cond.get b 2
  else if act.any (fun l => decide (d.linkHas l < d.linkFull l)) then 1
  else 0

/-- Holds end at a boundary (R211, R268, R269): a link of a bay that is ABSENT is absent itself, and a hold that has lasted for longer than
LINK_HOLD expires. -/
def Dev.endHolds (d : Dev) : Dev :=
  let out := (List.range 512).filter (fun l => (d.link l).left.isSome && !(d.link l).expired)
  out.foldl (fun d l =>
    if d.bayGone (l / 8) then d.setLink l { d.link l with left := none, owed := [] }
    else if d.holdOver l then d.expireHold l
    else d) d

/-- Every bay's condition is taken at a boundary (R208, R210); a change raises source 20 (R427). -/
def Dev.takeConds (d : Dev) : Dev :=
  (List.range 64).foldl (fun d b =>
    let c := d.bayCond b
    let o := b / 8
    let j := b % 8
    let v := d.rd (SCH_VARIANT_BAY o)
    let old := bits v (2 * j) 2
    let d := { d with lnk := { d.lnk with cond := d.lnk.cond.set b c 2 } }
    if old = c then d
    else ((d.wr (SCH_VARIANT_BAY o) (v - old * 4 ^ j + c * 4 ^ j)).inc (SCH_VARIANT_CHANGES o)).raise 20) d

/-- A link that was held is available again, with the partner it had (R260, R290). -/
def Dev.linkBack (d : Dev) (l : Nat) : Bool := d.linkClass l == 0 && !(d.link l).other

/-- A running item's positions are classified for the epoch that begins (R211, R219, R229, R256, R260, R268). -/
def Dev.classify (d : Dev) (n : Nat) : Dev :=
  match d.readPlan n, d.writePlan n with
  | some p, some q =>
    if !(d.runs n || ((d.entry n).state == 4 && (d.wk n).started)) then d
    else
      let e := d.entry n
      let w := d.wk n
      let op := dOpcode e.desc
      -- R290: a link that came back with another partner ends the hold as an expired one
      let lostTo := fun (i l : Nat) (m : Nat) => bit m i && (d.link l).other
      let gone := if op = 1 ∧ ¬e.staged then 0
        else Nat.lor (d.classMask p 2) (listMask ((List.range p.width).filter (fun i => lostTo i (p.link i) w.held)))
      let held := d.classMask p 1
      let heldW := d.destMask n q 1
      let wait := held != 0 || heldW != 0
      let back := (maskList w.held 32).any (fun i => !bit held i && d.linkBack (p.link i))
        || (maskList w.heldW 32).any (fun i => !bit heldW i && d.linkBack (d.writeLink n q i))
      let lost := Nat.lor e.lost gone
      let d := d.setEntry n { e with lost := lost, held := wait, state := if e.state = 4 then 4 else if wait then 3 else 2 }
      let d := d.setWk n { w with held := held, heldW := heldW, gone := gone, ml := w.ml && lost == e.lost }
      let d := if back then d.askReplay n 1 else d
      d.posAbsent n ((d.dests n q).filter (fun i => (d.linkClass (d.writeLink n q i) == 2 || lostTo i (d.writeLink n q i) w.heldW) && !(op == 4 && bit e.done i)))
  | _, _ => d

/-- Links that are ACTIVE again owe a replay to the work they dropped (R260). -/
def Dev.linkReturns (d : Dev) : Dev :=
  d.activeLinks.foldl (fun d l =>
    let k := d.link l
    k.owed.foldl (fun d n => d.askReplay n 1) (d.setLink l { k with owed := [] })) d

/-- A cursor's positions whose link has gone are lost (R211, R234). -/
def Dev.classifyCursors (d : Dev) : Dev :=
  d.sch.cursors.foldl (fun d c =>
    match d.scrubOf c.designation c.engine with
    | none => d
    | some (_, p) =>
      let gone := (List.range p.width).filter (fun i => bit c.asks i && !c.blocks.any (fun b => b.pos == i) && d.linkClass (p.link i) != 0)
      if gone.isEmpty then d
      else d.setCursor { c with lost := Nat.lor c.lost (listMask gone) }) d

/-- The host ports that trained below HOST_CELLS (R177). -/
def Dev.takeShort (d : Dev) : Dev :=
  let m := listMask ((List.range 8).filter (fun n =>
    let c := ((d.inForce.map (fun g => g.ports.getD n (0, 0, 0, 0)))).getD (0, 0, 0, 0)
    (d.port n).linkUp && decide (1152 * d.rd (HP_STATUS_WIDTH n) * speedHalf (d.rd (HP_STATUS_SPEED n)) / (16 * 256) < c.2.2.1)))
  d.wr SCH_HOST_SHORT_SHORT m

/-! ## Start checks (R212, R214) -/

/-- The present epoch's calendars hold a run that would move the first cells of stripe `s` of an item's range: host data toward the hub
buffer for a write, shard blocks of the plan's class and the stripe's engine for a staged write and every other operation (R158, R172, R212,
R221). -/
def Dev.served (d : Dev) (n s : Nat) (p : Plan) : Bool :=
  let e := d.thisEra
  let x := d.entry n
  if dOpcode x.desc = 1 ∧ ¬x.staged then
    (e.calendar 8).zipIdx.any (fun r => !toHost r.1 && ((runKind r.1 == 1 && e.assign.get r.2 0 == x.slice + 1) || (runKind r.1 == 2 && x.slice == 0)))
  else (List.range 8).any (fun o => (e.calendar o).any (fun r => runKind r == 3 && runClass r == p.pclass && runEngine r == p.engine (dStripe x.desc + s)))

/-- The start check of an item whose next stripe a run of the epoch will serve (R212, R214). -/
def Dev.startItem (d : Dev) (n : Nat) : Dev :=
  match d.readPlan n, d.writePlan n with
  | some p, some q =>
    if !d.startable n then d
    else
      match d.pickStripe n with
      | (some s, w) => if d.served n s p then (d.setWk n (w.take s)).startStripe n p q else d.setWk n w
      | (none, w) => d.setWk n w
  | _, _ => d

/-- It is the instant of a boundary, and the boundary has been taken (R212). -/
def Dev.atBoundary (d : Dev) : Bool := d.now == epochStart d.epoch && d.sch.epoch == d.epoch

/-- The row of an opcode: the start check of an item of that opcode, at the boundary (R212, R217, R228, R232, R238, R241). -/
def Dev.startRow (d : Dev) (n op : Nat) : Dev := if dOpcode (d.entry n).desc = op ∧ d.atBoundary then d.startItem n else d

def writeStripe (n : Nat) (d : Dev) : Dev := d.startRow n 1
def readStripe (n : Nat) (d : Dev) : Dev := d.startRow n 2
def scrub (n : Nat) (d : Dev) : Dev := d.startRow n 3
def rebuildShard (n : Nat) (d : Dev) : Dev := d.startRow n 4
def migrate (n : Nat) (d : Dev) : Dev := d.startRow n 5

/-! ## EPOCH_BOUNDARY -/

/-- An island holds queued work: cells of some item wait in it (R398). -/
def Dev.islandWork (d : Dev) (i : Nat) : Bool := d.liveSlots.any (fun n => (d.wk n).cells.any (·.island == i))

/-- What the boundary does to the journal: classification, replays, start checks, and what columns ask for (R211, R212, R260). -/
def Dev.boundaryItems (d : Dev) : Dev :=
  let d := d.byAge.foldl (fun d n => d.classify n) d
  let d := d.linkReturns
  let d := (d.byAge.foldl (fun d n => d.replay n) d).settleStreams
  let d := d.byAge.foldl (fun d n => d.stripeTry n) d
  let d := d.byAge.foldl (fun d n => d.startItem n) d
  let d := d.byAge.foldl (fun d n => (d.askColumn n).stageReturn n) d
  let d := d.byAge.foldl (fun d n => if d.runs n then d.askList n else d) d
  let d := (d.lnk.links.keys.filter (fun l => (d.link l).other)).foldl (fun d l => d.setLink l { d.link l with other := false }) d
  d.classifyCursors

/-- AON_STATE.PHASE shows that eclosion is over once no bay start is under way (R426). -/
def Dev.phaseRest (d : Dev) : Dev :=
  if d.rd AON_STATE_PHASE = 6 ∧ (List.range 64).all (fun b => let s := d.bayState b; s != bsWait && s != bsRamp && s != bsPgWait) then
    d.wr AON_STATE_PHASE 0
  else d

/-- EPOCH_BOUNDARY: the pacer issues the next token (R168); changes that wait for a boundary apply, with the new image's base
taken first (R209), then the journal is gone through, and octants that are ready rejoin. -/
def epochBoundary (d : Dev) : Dev :=
  let d := d.advance d.nextBoundary
  if d.hubOff || d.flt.grave then d
  else
    let e := d.epoch
    let was := d.thisEra
    let d := if d.pacing then (List.range 9).foldl (fun d i => d.token i e) d else d.beginEpoch 8 e
    let d := { d with sch := { d.sch with epoch := e, prev := was } }
    let d := d.endHolds
    let d := (((d.applySwaps.applyOcts).switchTry).profTry).takeConds
    let d := d.liveSlices.foldl (fun d s => d.applyShare s) d
    let d := d.boundaryItems
    let idle := (List.range 9).foldl (fun (t : Tab Nat) i => if d.islandWork i then t.set i 0 0 else bump t i 1) d.sch.idle
    let d := { d with sch := { d.sch with idle := idle, gated := d.sch.gated.filter (fun i => !d.islandWork i) } }
    (d.applyRejoins.trimOld).takeShort.phaseRest

/-! ## Other rows of the schedule and the journal -/

/-- A calendar entry copy is uncorrectable: the other copy fires and the failed one is rewritten; with both, the fault is
grave (R181, R463). -/
def calendarEccError (i slot : Nat) (both : Bool) (d : Dev) : Dev :=
  if d.hubOff ∨ (d.calendar i).length ≤ slot then d
  else if both then d.fault { unit := .sch, src := 3, detail := slot % 4096 + 4096 * i }
  else
    let d := d.fault { unit := .sch, src := 2, detail := slot % 4096 + 4096 * i }
    { d with sch := { d.sch with rewrites := d.sch.rewrites ++ [(i, slot, d.epoch)] } }

/-- The failed copy is rewritten from the active slot (R181). -/
def calendarRewrite (i slot : Nat) (d : Dev) : Dev :=
  { d with sch := { d.sch with rewrites := d.sch.rewrites.filter (fun x => !(x.1 == i && x.2.1 == slot)) } }

/-- LINK_HOLD passes for a link out of ACTIVE (R268): the next boundary decides what has become of its hold (R269). -/
def linkHoldExpire (l : Nat) (d : Dev) : Dev :=
  match (d.link l).left with
  | some t => if d.linkActive l || (d.link l).expired then d else d.advance (t + d.rd JNL_CFG_LINK_HOLD_MS * 1000000 + 1)
  | none => d

/-- An island that has moved nothing and held nothing for 16 epochs gates its clocks (R398). -/
def islandGate (i : Nat) (d : Dev) : Dev :=
  if d.pacing ∧ 16 ≤ d.sch.idle.get i 0 ∧ ¬d.islandWork i then { d with sch := { d.sch with gated := setAdd i d.sch.gated } } else d

/-- A gated island ungates (R398). -/
def islandUngate (i : Nat) (d : Dev) : Dev :=
  { d with sch := { d.sch with gated := setDel i d.sch.gated, idle := d.sch.idle.set i 0 0 } }

/-- A cell of an item fails its CRC-16 at an engine's input or in a crossbar plane: the item is replayed (R260, R449). -/
def cellCrcFail (n : Nat) (engine : Bool) (u : Nat) (d : Dev) : Dev :=
  if d.hubOff then d
  else
    let e := d.entry n
    let w := d.wk n
    let col := if writesShards (dOpcode e.desc) then w.wcol else w.rcol
    let f : FEv := if engine then { unit := .eng (Fin.ofNat 72 u), src := 3, access := 6, addr := d.itemStripe n,
                                    port := some (d.slicePort e.slice), slice := some e.slice, detail := dPlan e.desc + 4096 * col }
      else { unit := .xbar, src := 2, inst := u, detail := u }
    (d.fault f).askReplay n 5

/-- A journal slot's entry, its index word, or both are unusable (R267). The item is completed from the index word, or the word is
rewritten from the entry (R255); with both gone, an ABORT that waited for the item's entry succeeds (log entry 120). -/
def journalEccError (n : Nat) (entry index : Bool) (d : Dev) : Dev :=
  let e := d.entry n
  if d.hubOff ∨ e.state = 0 then d
  else if entry ∧ index then
    let d := d.jnlFault 3 5 n e.slice
    (d.delivered n).raise 16
  else if index then d.setIdx n e.word
  else if entry then
    let x := d.jidx.get n {}
    let d := (d.setEntry n { e with slice := x.slice, instar := x.instar, queue := x.queue }).inc JNL_LOST_COUNT
    let d := d.jnlFault 2 5 n x.slice
    if e.state < 5 then d.failItem n stJournalLost
    else if e.state = 5 then d.complete n stJournalLost 0 0
    else d.setEntry n { d.entry n with status := stJournalLost, result := 0, resultHi := 0 }
  else d

end Sys2Proof.Machine
end

