-- ==== Sys2Proof/Machine/Views.lean ====
section
/-! DEFINITION. What a read of a register returns (R3, R45, R46, R48, R106, R468): the stored word, with the fields that
show other state computed from that state. No command of the table reads them but those with a row of their own. -/
namespace Sys2Proof.Machine

/-- A field of a word replaced. -/
def putField (v : Nat) (f : Fld) (x : Nat) : Nat := v - bits v f.lo f.width * 2 ^ f.lo + x % 2 ^ f.width * 2 ^ f.lo

/-- The number of physical engines in a state (R161). -/
def Dev.engCount (d : Dev) (s : Nat) : Nat := ((List.range 72).filter (fun p => d.rd (ENG_STATUS_STATE p) == s)).length

/-- Staged operations that wait for the staging port or the recovery reserve (R164–R166). -/
def Dev.stageWaiting (d : Dev) : Nat :=
  (d.liveSlots.filter (fun n =>
    let w := d.wk n
    let e := d.entry n
    (w.ml && w.reserve == 0 && dOpcode e.desc != 1) || w.cells.any (fun c => c.island == 8 && (c.ep == 0x248 || c.dest == 0x248)))).length

/-- A logical engine is powered: off under QUARTER, and in DORMANT unless an access has woken its engine (R166, R401). -/
def Dev.engPowered (d : Dev) (e : Nat) : Bool :=
  d.flag (ENG_MAP_POWERED e) && !(d.pwr.mode == 1 && d.pwr.awake.get (d.physEng e).val 0 == 0)

/-- The rate the clocks run at: a change from LEAN or QUARTER sets them before its switch, one from FULL after it, once no island
runs an epoch of the image before (R29). -/
def Dev.clockRate (d : Dev) : Nat :=
  let cur := d.rd GLB_PROFILE_STATUS_CUR_RATE
  match d.sch.prof with
  | some r => if r.settled ∧ cur ≠ 0 ∧ r.rate ≠ cur then r.rate else cur
  | none => if d.sch.trim.isSome && d.sch.prev.image.any (·.rate == 0) then 0 else cur

/-- The island clock of a physical engine in units of 100 kHz (R167). -/
def Dev.engFreq (d : Dev) (p : Nat) : Nat :=
  if d.rd (ENG_STATUS_STATE p) = 0 then 0 else if d.clockRate = 1 then 0x30D4 else 0x3D09

/-- Links held within LINK_HOLD (R211, R273). -/
def Dev.linksHeld (d : Dev) : Nat := ((List.range 512).filter (fun l => (d.link l).left.isSome && d.linkClass l == 1)).length

/-- Bits `32w` to `32w + 31` of a set of event sources (R446). -/
def srcWord (p : Nat → Bool) (w : Nat) : Nat := listMask ((List.range 32).filter (fun j => p (32 * w + j)))

/-- Fields of the blocks GLB to SCH that show other state: slices, engines, the epoch (R99, R166, R167, R210). -/
def Dev.shownLow (d : Dev) (a : Nat) : List (Fld × Nat) :=
  if a = SLC_GLOBAL then [(SLC_GLOBAL_FREE_SLICES, 1024 - d.liveSlices.length)]
  else if a = SLC_MEM_POOL then
    if d.pwr.trained then
      [(SLC_MEM_POOL_STAGE_FREE_MIB, d.stagePool - d.stageAssigned), (SLC_MEM_POOL_JNL_FREE_UNITS, d.jnlPool - d.jnlAssigned)]
    else []
  else if a = ENG_GLOBAL then
    [(ENG_GLOBAL_IN_SERVICE, d.engCount 1), (ENG_GLOBAL_SPARES, d.engCount 2),
     (ENG_GLOBAL_SWAP_PENDING, b2n ((List.range 64).any (fun e => d.flag (ENG_MAP_SWAP_PENDING e))))]
  else if a = ENG_DCACHE then
    [(ENG_DCACHE_VALID, (d.eng.cache.filter (·.valid)).length), (ENG_DCACHE_COMPUTING, (d.eng.cache.filter (fun m => !m.valid)).length)]
  else if a = ENG_STAGE then [(ENG_STAGE_WAITING, Nat.min 65535 d.stageWaiting)]
  else if a = ENG_RESERVE then [(ENG_RESERVE_FREE_MIB, d.reserveFree / 2 ^ 20)]
  else if GLB_TEMP 1 ≤ a ∧ a ≤ GLB_TEMP 8 then
    let t := (a - GLB_TEMP 0) / 4
    if d.octOff (t - 1) || d.octAsleep (t - 1) then [(GLB_TEMP_TEMP t, 0), (GLB_TEMP_VALID t, 0)] else []
  else if a = SCH_EPOCH_LO then [(SCH_EPOCH_LO_EPOCH, d.epoch)]
  else if a = SCH_EPOCH_HI then [(SCH_EPOCH_HI_EPOCH, d.epoch / 2 ^ 32)]
  else
    match regIdx (SLC_POOL_RUNS 0) 4 8 a, regIdx (SLC_USAGE 0) 0x100 1024 a, regIdx (ENG_CLOCK 0) 0x1000 72 a,
      regIdx (ENG_MAP 0) 4 64 a with
    | some n, _, _, _ => [(SLC_POOL_RUNS_POOL n, d.poolSize n), (SLC_POOL_RUNS_ASSIGNED n, d.runsAssigned n)]
    | _, some s, _, _ =>
      [(SLC_USAGE_STAGE_MIB s, ((d.slice s).stageUse + 2 ^ 20 - 1) / 2 ^ 20), (SLC_USAGE_JNL_UNITS s, (d.jnlUse s + 15) / 16)]
    | _, _, some p, _ => [(ENG_CLOCK_FREQ p, d.engFreq p)]
    | _, _, _, some e => [(ENG_MAP_POWERED e, b2n (d.engPowered e))]
    | _, _, _, _ =>
      if a = SLC_BIND 0 then [(SLC_BIND_PORT 0, d.mgrPort)]
      else if a = SLC_SHARE 0 then [(SLC_SHARE_RUNS 0, d.shareRuns 0)]
      else []

/-- The fields of LNK_STATE that are valid only in the unit of a link's first lane (R296). -/
def linkFields (l : Nat) : List Fld :=
  [LNK_STATE_ADMITTED l, LNK_STATE_AWAIT_ADMIT l, LNK_STATE_TOPO_MISMATCH l, LNK_STATE_ADM_WIDTH l, LNK_STATE_TR_WIDTH l,
   LNK_STATE_TR_FIRST l, LNK_STATE_TR_RATE l]

/-- A lane is the first lane of a link: of one that has formed, or of one whose admitted record the device keeps, while its lanes form no
other (R279, R289, R296; log entry 124). -/
def Dev.firstLane (d : Dev) (l : Nat) : Bool := d.isLink l || ((d.link l).admitted.isSome && (d.linkOf l).isNone)

/-- The fields of LNK_STATE in the unit of lane `l` as R296 has them: those of a link read 0 outside its first lane; TR_RATE of a lane of
no link reads its Reset value, not trained (log entry 124). -/
def Dev.shownState (d : Dev) (l : Nat) : List (Fld × Nat) :=
  if d.isLink l then []
  else if d.firstLane l then [(LNK_STATE_FIRST l, 1), (LNK_STATE_ADM_WIDTH l, ((d.link l).admitted.map (·.width)).getD 0)]
  else (linkFields l).map (fun f => (f, if f = LNK_STATE_TR_RATE l ∧ (d.linkOf l).isNone then 3 else 0))

/-- What a lane's unit shows otherwise than it stands: a lane with ENABLE 0 reads DISABLED and not IN_LINK (R553), and the link's fields
read 0 outside its first lane (R296, R332). -/
def Dev.shownLane (d : Dev) (a l : Nat) : List (Fld × Nat) :=
  let off := !d.flag (LNK_CTRL_ENABLE l)
  let inner := !d.firstLane l
  if a = LNK_STATE l then (if off then [(LNK_STATE_STATE l, 0)] else []) ++ d.shownState l
  else if a = LNK_LANE l then (if off then [(LNK_LANE_IN_LINK l, 0)] else [])
  else if a = LNK_TRAIN l then (if inner then [(LNK_TRAIN_TRAININGS l, 0)] else [])
  else if LNK_FLIT_STATUS l ≤ a ∧ a ≤ LNK_STREAM_ERR l then (if inner then [(⟨a, 0, 32⟩, 0)] else [])
  else if LNK_IDENT l 0 ≤ a ∧ a < LNK_IDENT l 64 then (if inner then [(⟨a, 0, 32⟩, 0)] else [])
  else []

/-- Fields of the blocks JNL to EVC that show other state (R248, R273, R446, R447). -/
def Dev.shownHigh (d : Dev) (a : Nat) : List (Fld × Nat) :=
  if a = JNL_DEBT then [(JNL_DEBT_ENTRIES, d.debt.length), (JNL_DEBT_FULL, b2n (decide (65536 ≤ d.debt.length)))]
  else if a = JNL_SCRUB then [(JNL_SCRUB_HELD, d.scrub.length)]
  else if a = JNL_INTERLOCK then [(JNL_INTERLOCK_WAITING, Nat.min 65535 ((d.liveSlots.map d.stripesWaiting).sum))]
  else if a = JNL_STATUS then [(JNL_STATUS_LIVE, d.liveSlots.length)]
  else if a = JNL_CAPACITY then [(JNL_CAPACITY_SLOTS, d.capacity)]
  else if a = JNL_PARKED then [(JNL_PARKED_PARKED, (d.liveSlots.filter (fun n => (d.entry n).state == 5)).length)]
  else if a = JNL_LINK_HELD then [(JNL_LINK_HELD_LINKS, d.linksHeld)]
  else
    match regIdx (EVC_PENDING 0) 4 16 a, regIdx (EVC_ACTIVE 0) 4 16 a, regIdx (EVC_TSTATUS 0) 0x1000 8 a with
    | some w, _, _ => [(EVC_PENDING_SRC w, srcWord d.isPending w)]
    | _, some w, _ => [(EVC_ACTIVE_SRC w, srcWord d.active w)]
    | _, _, some t =>
      [(EVC_TSTATUS_RUNNING t, d.running t), (EVC_TSTATUS_DEPTH t, (d.stack t).length), (EVC_TSTATUS_REQUEST t, b2n (d.best t).isSome),
       (EVC_TSTATUS_TOP t, ((d.stack t).head?.map (·.1)).getD 0)]
    | _, _, _ => []

/-- The value of the register at BAR0 offset `a` as the manager reads it (R3, R45, R468). -/
def Dev.readReg (d : Dev) (a : Nat) : Nat :=
  if d.addrOff a then 0xFFFFFFFF
  else ((if a < 0x600000 then d.shownLow a else if 0x800000 ≤ a ∧ a < 0xA00000 then d.shownLane a ((a - 0x800000) / 0x1000) else d.shownHigh a)).foldl (fun v f => putField v f.1 f.2) (d.word a)

/-- The value of the register at offset `o` of the doorbell page of slice `s` (R106). -/
def Dev.readDoorbell (d : Dev) (s o : Nat) : Nat :=
  let q := d.selected s
  let c := d.queue q
  if o = 0x10 then s + d.sliceState s * 2 ^ 10 + d.sliceInstar s * 2 ^ 16
  else if o = 0x14 then d.word (SLC_QUEUES s)
  else if o = 0x18 then d.word (SLC_VECTORS s)
  else if o = 0x1C then d.readReg (SLC_SHARE s)
  else if o = 0x100 then (d.slice s).qsel
  else if o = 0x108 then c.sqBase % 2 ^ 32
  else if o = 0x10C then c.sqBase / 2 ^ 32
  else if o = 0x110 then c.cqBase % 2 ^ 32
  else if o = 0x114 then c.cqBase / 2 ^ 32
  else if o = 0x118 then c.recAddr % 2 ^ 32
  else if o = 0x11C then c.recAddr / 2 ^ 32
  else if o = 0x120 then c.sqLog2 + c.cqLog2 * 2 ^ 8
  else if o = 0x124 then c.irqCount + c.irqTime * 2 ^ 8
  else if o = 0x128 then c.vecOff + b2n c.noSnoop * 2 ^ 16
  else if o = 0x134 then c.state + c.err * 2 ^ 4
  else if o = 0x138 then c.sqHead
  else if o = 0x13C then c.cqTail
  else 0

/-- A dword of the MSI-X table or of the PBA, at offset `o` from BAR2 + 0x40_0000 (R49). -/
def Dev.readMsix (d : Dev) (n o : Nat) : Nat :=
  let p := d.port n
  if o < 0x8000 then
    if o / 4 % 4 = 3 then p.table.get (o / 4) 0 / 2 * 2 + b2n (!p.unmasked.contains (o / 16)) else p.table.get (o / 4) 0
  else listMask ((List.range 32).filter (fun j => p.pba.contains ((o - 0x8000) / 4 * 32 + j)))

/-! ## Reads by a host (R2, R45–R48, R59, R401, R431, R466, R468) -/

/-- The bytes of a word that four byte enables address. -/
def enabledBytes (be v : Nat) : Nat :=
  (if bit be 0 then v % 2 ^ 8 else 0) + (if bit be 1 then v / 2 ^ 8 % 2 ^ 8 * 2 ^ 8 else 0)
    + (if bit be 2 then v / 2 ^ 16 % 2 ^ 8 * 2 ^ 16 else 0) + (if bit be 3 then v / 2 ^ 24 % 2 ^ 8 * 2 ^ 24 else 0)

/-- The value and the effect of a 32-bit read at BAR0 offset `a` of the manager port: GLB_TIME_LO latches GLB_TIME_HI (R425),
EVC_CLAIM claims (R431, R439) and BRG_EVQ takes a record (R362). -/
def Dev.readEffect (d : Dev) (a : Nat) : Nat × Dev :=
  if a = GLB_TIME_LO then (d.now % 2 ^ 32, d.wrs [(GLB_TIME_LO_NS, d.now), (GLB_TIME_HI_NS, d.now / 2 ^ 32)])
  else if a = BRG_EVQ then d.evqPop
  else
    match regIdx (EVC_CLAIM 0) 0x1000 8 a with
    | some t => if t < 2 then (0, d) else d.claim t
    | none => (d.readReg a, d)

/-- A read of port `n` of an off unit returns ones and is latched (R468). -/
def Dev.offRead (d : Dev) (n a be : Nat) : Dev := (d.offAccess n a false).emit (.readReturn n (enabledBytes be 0xFFFFFFFF))

/-- A read at BAR0 offset `a` of the manager port: it restarts the unlock sequence, stalls for a domain that sleeps, or is
carried out (R2, R47, R59, R401, R468). -/
def Dev.mgrRead (d : Dev) (a be : Nat) : Dev :=
  let d := { d with keyHalf := false }
  if d.addrOff a then d.offRead d.mgrPort a be
  else
    match d.asleep a with
    | some m => { d with pwr := { d.pwr with stalls := d.pwr.stalls ++ [.read m a be] } }
    | none =>
      let r := (d.touch a).readEffect a
      r.2.emit (.readReturn d.mgrPort (enabledBytes be r.1))

/-- A read at BAR2 offset `a` of port `n` (R48, R466). -/
def Dev.bar2Read (d : Dev) (n a be : Nat) : Dev :=
  let s := a / 0x1000
  if d.flt.grave then d.unsupportedReq n true (some ((d.port n).ext.bar2 + a))
  else if a < 0x400000 then
    if d.sliceState s = 0 ∨ d.slicePort s ≠ n then d.unsupportedReq n true (some ((d.port n).ext.bar2 + a))
    else d.emit (.readReturn n (enabledBytes be (d.readDoorbell s (a % 0x1000))))
  else d.emit (.readReturn n (enabledBytes be (if a < 0x408100 then d.readMsix n (a - 0x400000) else 0)))

/-- One 32-bit read of a BAR by the host of port `n`: a port other than the manager port sees its own page alone (R46). -/
def Dev.barRead (d : Dev) (n : Nat) (bar2 : Bool) (a be : Nat) : Dev :=
  let o := HP_STATUS n + a
  if d.hubOff then d
  else if bar2 then d.bar2Read n a be
  else if n = d.mgrPort then d.mgrRead a be
  else if 0x1000 ≤ a then d.emit (.readReturn n 0)
  else if d.addrOff o then d.offRead n o be
  else d.emit (.readReturn n (enabledBytes be (d.readReg o)))

/-- A read by the host of port `n` (R2): byte enables 3–0 are those of the register at `a`, 7–4 those of the next one, which
the device reads second. -/
def Dev.registerRead (d : Dev) (n : Nat) (bar2 : Bool) (a be : Nat) : Dev :=
  let e := if be % 16 = 0 then d else d.barRead n bar2 a (be % 16)
  if be / 16 = 0 then e else e.barRead n bar2 (a + 4) (be / 16)

/-- A 32-bit read of GLB_TIME_LO (R425). -/
def glbTimeRead (d : Dev) : Dev := d.registerRead d.mgrPort false GLB_TIME_LO 0xF

/-- A 32-bit read of BRG_EVQ (R362). -/
def brgEvqRead (d : Dev) : Dev := d.registerRead d.mgrPort false BRG_EVQ 0xF

/-- EVC_CLAIM of target `t`: read by a host with the byte enables `be` of the pair EVC_THRESHOLD and EVC_CLAIM, 7–4 those of
EVC_CLAIM, or claimed by the management pair (R431, R439). -/
def evcClaim (t : Nat) (be : Option Nat) (d : Dev) : Dev :=
  match be with
  | some be => d.registerRead d.mgrPort false (EVC_THRESHOLD t) be
  | none =>
    if d.hubOff then d
    else if t < 2 ∧ d.coreTarget t then
      let r := d.claim t
      r.2.emit (.coreReturn t r.1)
    else d

/-! ## The Bolevo identity in configuration space (R42) -/

/-- DEV_STATE (R42, R420, R466, R501). -/
def Dev.devState (d : Dev) : Nat :=
  if d.flt.grave then 3
  else if d.pwr.mode = 1 then 1
  else if d.pwr.mode ≠ 0 ∨ ¬d.pwr.unlocked then 4
  else if d.flag AON_STATE_INCOMPLETE then 2
  else 0

/-- BOLEVO_PORT of port `n`. -/
def Dev.bolevoPort (d : Dev) (n : Nat) : Nat :=
  n + 2 ^ 3 * b2n (n == d.mgrPort) + 2 ^ 4 * d.mgrPort + 2 ^ 8 * d.devState + 2 ^ 16 * (d.portSlices n).length

/-- The version of the firmware that the active management core runs, 0 before one is authenticated (R42, R502). -/
def Dev.fwVersion (d : Dev) : Nat :=
  d.mgt.coreVersion.get (d.rd MGT_STATUS_ACTIVE_CORE) 0

/-- A read of the Bolevo capability at configuration offset `o` of port `n`. -/
def Dev.bolevo (d : Dev) (n o : Nat) : Nat :=
  if o = 0x408 then 0x0BB15120
  else if o = 0x40C then d.bolevoPort n
  else if o = 0x410 then d.fwVersion
  else if o = 0x414 then d.pwr.eclosions
  else 0

end Sys2Proof.Machine
end

