-- ==== Sys2Proof/Machine/Setup.lean ====
section
/-! DEFINITION. Host writes of the set-up space, the doorbell pages and the MSI-X table (R2, R3, R44–R49, R106–R113), and
the accesses that stall in DORMANT (R401). -/
namespace Sys2Proof.Machine

/-! ## Set-up registers with an effect of their own -/

/-- SCH_SIGN_KEY word `w` (R199). -/
def signKeyWrite (w v : Nat) (d : Dev) : Dev := d.setup (SCH_SIGN_KEY w) v (fun d => d.signKeyWord w v)

/-- SLC_PERM word `w` of slice `s` (R76, R100). -/
def slcPermWrite (s w v : Nat) (d : Dev) : Dev := d.setup (SLC_PERM s w) v (fun d => d.permWrite s w v)

/-- The journal quotas drawn fit the pool of a region of `size` units (R251). -/
def Dev.jnlFits (d : Dev) (size : Nat) : Bool := decide (d.jnlAssigned ≤ size * 2048 - 256)

/-- JNL_REGION_LO (`r` = 0), JNL_REGION_HI (1) or JNL_REGION_SIZE (2) (R250, R251): accepted only while no slot is live and,
when the capacity shrinks, only while the quotas drawn fit the new pool. -/
def jnlRegionWrite (r v : Nat) (d : Dev) : Dev :=
  let a := JNL_REGION_LO + 4 * r
  let size := bits v 0 4
  d.setup a v (fun d =>
    if !d.liveSlots.isEmpty || (r == 2 && decide (0 < size ∧ size < d.rd JNL_REGION_SIZE_SIZE) && !d.jnlFits size) then
      d.wr JNL_STATUS_CFG_REFUSED 1
    else d.writeWord a v)

/-- BAY_MODEL_LIM: a write that would leave RESTART_RISE above TRIP_RISE, compared in K, leaves both (R393). -/
def Dev.modelLimWrite (d : Dev) (v : Nat) : Dev :=
  if 4 * bits v 0 10 < bits v 16 10 then d else d.writeWord BAY_MODEL_LIM v

/-- A write of a unit's fault block at offset `o` of its 0x1000-byte window (R453, R460, R471). -/
def Dev.faultWrite (d : Dev) (u : FUnit) (a o v : Nat) : Dev :=
  if o = 0xF00 then Sys2Proof.Machine.faultClear u v d
  else if o = 0xFC0 then faultInject u v d
  else if 0xF40 ≤ o ∧ o < 0xF80 then d.setup a v (fun d => d.classCfgWrite u ((o - 0xF40) / 4) v)
  else d.setup a v (fun d => d.writeWord a v)

/-- A write of a register that stands alone. -/
def Dev.writeOne (d : Dev) (a v : Nat) : Dev :=
  if a = GLB_SETUP_KEY then setupKeyWrite v d
  else if a = GLB_PROFILE then glbProfileWrite v d
  else if a = GLB_POWER_CMD then (if v % 4 = 3 then d.setup a v id else d.powerCmd (v % 4))
  else if a = GLB_LEDGER_STATUS then d.setup a v (fun d => (d.writeWord a v).sample 3)
  else if a = AON_WAKE_ARM then d.setup a v (fun d => d.wakeArmWrite v)
  else if a = AON_ECLOSION_ACK then eclosionAck v d
  else if a = MEM_STAGE then memStageWrite v d
  else if a = MEM_TRAIN then memTrainStart v d
  else if a = MEM_GEOMETRY then d.setup a v (fun d => d.geometryWrite v)
  else if a = SPR_MEMTEST then memtestStart v d
  else if a = BAY_MODEL_LIM then d.setup a v (fun d => d.modelLimWrite v)
  else d.setup a v (fun d => d.writeWord a v)

/-- A write of a register that is one of a run of registers; `none` for a register that stands alone. -/
def Dev.writeMany (d : Dev) (a v : Nat) : Option Dev :=
  match regIdx JNL_REGION_LO 4 3 a, regIdx (SCH_SIGN_KEY 0) 4 24 a, regIdx (SLC_PERM 0 0) 4 0x40000 a, winReg a,
      regIdx (LNK_CTRL 0) 0x1000 512 a, regIdx (BAY_CTRL 0) 0x1000 64 a, regIdx (GLB_TEMP 0) 4 11 a, regIdx (HP_OFF_ACCESS 0) 0x10000 8 a with
  | some r, _, _, _, _, _, _, _ => some (jnlRegionWrite r v d)
  | _, some w, _, _, _, _, _, _ => some (signKeyWrite w v d)
  | _, _, some i, _, _, _, _, _ => some (slcPermWrite (i / 256) (i % 256) v d)
  | _, _, _, some (n, w, o), _, _, _, _ =>
    some (if o = 0 then d.setup a v (fun d => d.winCtrl n w v) else d.setup a v (fun d => d.winWrite n w a v))
  | _, _, _, _, some l, _, _, _ => some (d.setup a v (fun d => d.lnkCtrl l v))
  | _, _, _, _, _, some b, _, _ => some (bayArmWrite b v d)
  | _, _, _, _, _, _, some t, _ => some (peakClr t v d)
  | _, _, _, _, _, _, _, some n => some (d.setup a v (fun d => (d.writeWord a v).sample (8 + n)))
  | _, _, _, _, _, _, _, _ => none

/-- A write of an event-controller register (R436, R437, R443); `none` for any other. -/
def Dev.writeEvc (d : Dev) (a v : Nat) : Option Dev :=
  match regIdx (EVC_SRC_CFG 0) 8 512 a, regIdx (EVC_PENDING 0) 4 16 a, regIdx (EVC_THRESHOLD 0) 0x1000 8 a, regIdx (EVC_EOI 0) 0x1000 8 a with
  | some s, _, _, _ => some (eyespotMark s v d)
  | _, some w, _, _ => some (evcPendingClear w v d)
  | _, _, some t, _ => some (d.setup a v (fun d => d.thresholdWrite t v))
  | _, _, _, some t => some (evcEoi t v true d)
  | _, _, _, _ => none

/-- A full 32-bit write by the manager to BAR0 offset `a` (R3, R44, R45). -/
def Dev.regWrite (d : Dev) (a v : Nat) : Dev :=
  match unitAt a with
  | some u => d.faultWrite u a (a % 0x1000) v
  | none =>
    match d.writeMany a v with
    | some e => e
    | none =>
      match d.writeEvc a v with
      | some e => e
      | none => d.writeOne a v

/-! ## Doorbell pages and the MSI-X table (R48, R49, R106–R113) -/

/-- DB_NUDGE (R113, R402): in DORMANT it returns the device to ACTIVE first. -/
def dbNudge (n s v : Nat) (d : Dev) : Dev :=
  d.doorbell n s 0 (fun d => (if d.pwr.mode = 1 ∧ d.pwr.req.isNone then d.dormantExit else d).nudge s v)

/-- DB_QSEL (R107). -/
def dbQselWrite (n s v : Nat) (d : Dev) : Dev := d.doorbell n s 0x100 (dbQsel s v)

/-- A queue configuration register, + 0x108 + 4 × `r` (R107). -/
def dbQueueConfigWrite (n s r v : Nat) (d : Dev) : Dev := d.doorbell n s (0x108 + 4 * r) (dbConfig s r v)

/-- DB_QCMD ENABLE (R108). -/
def dbEnable (n s : Nat) (d : Dev) : Dev := d.doorbell n s 0x130 (queueEnable s)

/-- DB_QCMD DISABLE (R110). -/
def dbDisable (n s : Nat) (d : Dev) : Dev := d.doorbell n s 0x130 (queueDisable s)

/-- A write to the doorbell page of slice `s` at page offset `o` (R48, R106). -/
def Dev.pageWrite (d : Dev) (n s o v : Nat) : Dev :=
  if o = 0 then dbNudge n s v d
  else if o = 0x100 then dbQselWrite n s v d
  else if 0x108 ≤ o ∧ o ≤ 0x128 ∧ o % 4 = 0 then dbQueueConfigWrite n s ((o - 0x108) / 4) v d
  else if o = 0x130 ∧ v % 4 = 1 then dbEnable n s d
  else if o = 0x130 ∧ v % 4 = 2 then dbDisable n s d
  else d.doorbell n s o id

/-- A write of MSI-X table dword `i` of port `n` (R49): the vector's mask bit is bit 0 of its fourth dword. -/
def Dev.msixWrite (d : Dev) (n i v : Nat) : Dev :=
  if d.hubOff || d.flt.grave then d
  else
    let p := d.port n
    let p := { p with table := p.table.set i v 0 }
    if i % 4 = 3 then
      (d.setPort n { p with unmasked := if bit v 0 then setDel (i / 4) p.unmasked else setAdd (i / 4) p.unmasked }).sendPending n
    else d.setPort n p

/-- A full 32-bit write by the host of port `n` to BAR2 offset `a` (R48, R49). -/
def Dev.bar2Write (d : Dev) (n a v : Nat) : Dev :=
  if a < 0x400000 then d.pageWrite n (a / 0x1000) (a % 0x1000) v
  else if a < 0x408000 then d.msixWrite n ((a - 0x400000) / 4) v
  else d

/-- One 32-bit write to a BAR: BAR0 of a port other than the manager port drops it (R46); `full` when every byte of the
register is enabled, else it is dropped (R2). In E3 to E5 a port's own page is off too (R420). -/
def Dev.barWrite (d : Dev) (n : Nat) (bar2 : Bool) (a v : Nat) (full : Bool) : Dev :=
  if bar2 then (if full then d.bar2Write n a v else if a < 0x400000 then d.doorbell n (a / 0x1000) (a % 0x1000) id else d)
  else if n = d.mgrPort then (if full then d.regWrite a v else d.setupPart a)
  else if !d.hubOff && !d.flt.grave && decide (a < 0x1000) && d.addrOff (HP_STATUS n + a) then d.offAccess n (HP_STATUS n + a) true
  else d

/-- A register write by the host of port `n` (R2): byte enables 3–0 are those of the register at `a`, 7–4 those of the next
one, which the device writes second. A register with no byte enabled is not accessed. -/
def registerWrite (n : Nat) (bar2 : Bool) (a v be : Nat) (d : Dev) : Dev :=
  let e := if be % 16 = 0 then d else d.barWrite n bar2 a (v % 2 ^ 32) (be % 16 == 15)
  if be / 16 = 0 then e else e.barWrite n bar2 (a + 4) (v / 2 ^ 32) (be / 16 == 15)

/-- A set-up or doorbell access that reaches a unit that is off, or any other (R2, R45, R46, R48, R59, R401, R468). -/
def offUnitAccess (n : Nat) (bar2 : Bool) (a : Nat) (access : RegAccess) (d : Dev) : Dev :=
  match access with
  | .read be => d.registerRead n bar2 a be.toNat
  | .write v be => registerWrite n bar2 a v.toNat be.toNat d

/-! ## Domains in DORMANT (R401) -/

/-- The domain a stalled access waits for. -/
def Stall.domain : Stall → Nat
  | .write m _ _ => m
  | .read m _ _ => m
  | .bridgeRead m _ _ _ _ _ => m
  | .bridgeWrite m _ _ _ _ _ _ => m

/-- A stalled access is carried out. -/
def Dev.replayStall (d : Dev) : Stall → Dev
  | .write _ a v => d.regWrite a v
  | .read _ a be => d.mgrRead a be
  | .bridgeRead _ n off dwords be t => d.hostBridgeRead n off dwords be t
  | .bridgeWrite _ n off be data reqId pasid => d.hostBridgeWrite n off be data reqId pasid

/-- The domain `m` that an access woke is ready: the accesses that wait for it are carried out in order (R401). -/
def domainReady (m : Nat) (d : Dev) : Dev :=
  let go := d.pwr.stalls.filter (fun x => x.domain == m)
  if go.isEmpty then d
  else
    let rest := d.pwr.stalls.filter (fun x => x.domain != m)
    let awake := if d.pwr.mode = 1 then d.pwr.awake.set m (d.now + 1) 0 else d.pwr.awake
    go.foldl (fun d x => d.replayStall x) { d with pwr := { d.pwr with stalls := rest, awake := awake } }

/-- A domain woken in DORMANT has seen no access for 10 ms and is off again (R401). -/
def domainIdleOff (m : Nat) (d : Dev) : Dev :=
  let t := d.pwr.awake.get m 0
  if d.pwr.mode ≠ 1 ∨ t = 0 then d
  else
    let d := d.advance (t - 1 + 10000000)
    { d with pwr := { d.pwr with awake := d.pwr.awake.set m 0 0 } }

end Sys2Proof.Machine
end

