-- ==== Sys2Proof/Machine/Settle.lean ====
section
/-! DEFINITION. What follows every command of itself: reads that cannot be issued fail, units settle, ports report their
latency tolerance. -/
namespace Sys2Proof.Machine

/-- Reads that were to be issued while their port could issue no request fail at once (R552); `fuel` bounds their number. -/
def Dev.failDead : Nat → Dev → Dev
  | 0, d => d
  | f + 1, d =>
    match d.reads.findIdx? (·.dead) with
    | none => d
    | some i => Dev.failDead f (d.readEnds i none)

/-- A slice of the port has queued work (R52): an entry in the journal, or an enabled queue with descriptors to read. -/
def Dev.queuedWork (d : Dev) (n : Nat) : Bool :=
  (d.portSlices n).any (fun s => !(d.sliceSlots s).isEmpty
    || (d.sliceQueues s).any (fun q => let c := d.queue q; c.state == 1 && (c.sqPi != c.sqHead || !c.fetched.isEmpty)))

/-- A Max Latency register in nanoseconds: a value of 10 bits and a scale of 3 (R58; log entry 86). -/
def latencyNs (v : Nat) : Nat := v % 1024 * 32 ^ (v / 1024 % 8)

/-- The latencies a port reports: BUSY_US or IDLE_US, each limited by the Max Latency the host programmed (R52, R58). -/
def Dev.ltrValue (d : Dev) (n : Nat) : Nat × Nat :=
  let x := (d.port n).ext
  let ns := 1000 * (if d.queuedWork n then d.rd (HP_LTR_CFG_BUSY_US n) else d.rd (HP_LTR_CFG_IDLE_US n))
  (Nat.min ns (latencyNs x.maxSnoop), Nat.min ns (latencyNs x.maxNoSnoop))

/-- A port whose LTR is enabled sends a message when what it reports changes (R58). -/
def Dev.sendLtr (d : Dev) (n : Nat) : Dev :=
  let p := d.port n
  if !p.ext.ltrEn || d.hubOff || !d.canIssue n || d.egressHeld n then d
  else
    let v := d.ltrValue n
    if p.ltrSent = some v then d else (d.setPort n { p with ltrSent := some v }).emit (.ltr n v.1 v.2)

/-- Every port's latency tolerance. -/
def Dev.settleLtr (d : Dev) : Dev := (List.range 8).foldl (fun d n => d.sendLtr n) d

/-- Deferrals whose period is over end (R63). -/
def Dev.settleDefer (d : Dev) : Dev := (List.range 8).foldl (fun d n => d.deferEnd n) d

/-- What follows every command. -/
def Dev.settleAll (d : Dev) : Dev := (((Dev.failDead d.reads.length d).profResume.settleDefer).settleUnits).settleLtr

end Sys2Proof.Machine
end

