-- ==== Sys2Proof/Machine/Commands.lean ====
section
/-! DEFINITION. The meaning of every command: its operands given to the operation of its family, and the settling that
follows every command. -/
namespace Sys2Proof.Machine

/-- A command's effect on the block, then what follows from it of itself (log entry 3). It always completes (log entry 1). -/
def State.run (f : Dev → Dev) (s : State) : Host.Outcome State Fault Refusal :=
  .next { s with dev := (f s.dev).settleAll }

/-- REGISTER_WRITE (R3). -/
def execRegisterWrite (port : Fin 8) (bar2 : Bool) (offset : BitVec 26) (value : BitVec 64) (first last : BitVec 4) (s : State) :
    Host.Outcome State Fault Refusal :=
  s.run (registerWrite port.val bar2 offset.toNat value.toNat (last ++ first).toNat)

/-- GLB_TIME_READ (R425). -/
def execGlbTimeRead (s : State) : Host.Outcome State Fault Refusal := s.run glbTimeRead

/-- SETUP_KEY_WRITE (R47). -/
def execSetupKeyWrite (value : BitVec 32) (s : State) : Host.Outcome State Fault Refusal := s.run (setupKeyWrite value.toNat)

/-- GLB_PROFILE_WRITE (R23). -/
def execGlbProfileWrite (value : BitVec 32) (s : State) : Host.Outcome State Fault Refusal := s.run (glbProfileWrite value.toNat)

/-- POWER_CMD_ACTIVE (R397). -/
def execPowerCmdActive (s : State) : Host.Outcome State Fault Refusal := s.run powerCmdActive

/-- POWER_CMD_DORMANT (R400). -/
def execPowerCmdDormant (s : State) : Host.Outcome State Fault Refusal := s.run powerCmdDormant

/-- POWER_CMD_DIAPAUSE (R410). -/
def execPowerCmdDiapause (s : State) : Host.Outcome State Fault Refusal := s.run powerCmdDiapause

/-- SIGN_KEY_WRITE (R199). -/
def execSignKeyWrite (word : Fin 24) (value : BitVec 32) (s : State) : Host.Outcome State Fault Refusal :=
  s.run (signKeyWrite word.val value.toNat)

/-- JNL_REGION_WRITE (R250). -/
def execJnlRegionWrite (reg : Fin 3) (value : BitVec 32) (s : State) : Host.Outcome State Fault Refusal :=
  s.run (jnlRegionWrite reg.val value.toNat)

/-- SLC_PERM_WRITE (R100). -/
def execSlcPermWrite (slice : Fin 1024) (word : Fin 256) (value : BitVec 32) (s : State) : Host.Outcome State Fault Refusal :=
  s.run (slcPermWrite slice.val word.val value.toNat)

/-- MEM_STAGE_WRITE (R509). -/
def execMemStageWrite (value : BitVec 32) (s : State) : Host.Outcome State Fault Refusal := s.run (memStageWrite value.toNat)

/-- MEM_TRAIN_START (R507). -/
def execMemTrainStart (value : BitVec 32) (s : State) : Host.Outcome State Fault Refusal := s.run (memTrainStart value.toNat)

/-- MEM_TRAIN_DONE (R508). -/
def execMemTrainDone (failed : BitVec 16) (s : State) : Host.Outcome State Fault Refusal := s.run (memTrainDone failed.toNat)

/-- MEMTEST_START (R482). -/
def execMemtestStart (value : BitVec 32) (s : State) : Host.Outcome State Fault Refusal := s.run (memtestStart value.toNat)

/-- MEMTEST_DONE (R482). -/
def execMemtestDone (rows : Nat) (s : State) : Host.Outcome State Fault Refusal := s.run (memtestDone rows)

/-- ECLOSION_ACK (R422). -/
def execEclosionAck (value : BitVec 32) (s : State) : Host.Outcome State Fault Refusal := s.run (eclosionAck value.toNat)

/-- FAULT_CLEAR (R453). -/
def execFaultClear (unit : FUnit) (value : BitVec 32) (s : State) : Host.Outcome State Fault Refusal :=
  s.run (faultClear unit value.toNat)

/-- FAULT_INJECT_FIRE (R471). -/
def execFaultInjectFire (unit : FUnit) (value : BitVec 32) (s : State) : Host.Outcome State Fault Refusal :=
  s.run (faultInject unit value.toNat)

/-- FLT_UNLOCK (R470). -/
def execFltUnlock (value : BitVec 32) (s : State) : Host.Outcome State Fault Refusal := s.run (fltUnlock value.toNat)

/-- PEAK_CLR (R550). -/
def execPeakClr (die : Fin 11) (value : BitVec 32) (s : State) : Host.Outcome State Fault Refusal :=
  s.run (peakClr die.val value.toNat)

/-- BAR4_RESIZE (R50). -/
def execBar4Resize (port : Fin 8) (log2 : Nat) (s : State) : Host.Outcome State Fault Refusal := s.run (bar4Resize port.val log2)

/-- DB_NUDGE (R113). -/
def execDbNudge (port : Fin 8) (slice : Fin 1024) (value : BitVec 32) (s : State) : Host.Outcome State Fault Refusal :=
  s.run (dbNudge port.val slice.val value.toNat)

/-- DB_QSEL_WRITE (R107). -/
def execDbQselWrite (port : Fin 8) (slice : Fin 1024) (value : BitVec 32) (s : State) : Host.Outcome State Fault Refusal :=
  s.run (dbQselWrite port.val slice.val value.toNat)

/-- DB_QUEUE_CONFIG_WRITE (R107). -/
def execDbQueueConfigWrite (port : Fin 8) (slice : Fin 1024) (reg : Fin 9) (value : BitVec 32) (s : State) : Host.Outcome State Fault Refusal :=
  s.run (dbQueueConfigWrite port.val slice.val reg.val value.toNat)

/-- QUEUE_ENABLE (R108). -/
def execQueueEnable (port : Fin 8) (slice : Fin 1024) (s : State) : Host.Outcome State Fault Refusal :=
  s.run (dbEnable port.val slice.val)

/-- QUEUE_DISABLE (R110). -/
def execQueueDisable (port : Fin 8) (slice : Fin 1024) (s : State) : Host.Outcome State Fault Refusal :=
  s.run (dbDisable port.val slice.val)

/-- QUEUE_DISABLED (R110). -/
def execQueueDisabled (queue : Fin 65536) (s : State) : Host.Outcome State Fault Refusal := s.run (queueDisabled queue.val)

/-- LANE_ENABLE_WRITE (R553). -/
def execLaneEnableWrite (lane : Fin 512) (value : BitVec 32) (s : State) : Host.Outcome State Fault Refusal :=
  s.run (laneEnableWrite lane.val value.toNat)

/-- RETRAIN (R281). -/
def execRetrain (lane : Fin 512) (value : BitVec 32) (s : State) : Host.Outcome State Fault Refusal :=
  s.run (retrain lane.val value.toNat)

/-- BAY_ARM_WRITE (R384). -/
def execBayArmWrite (bay : Fin 64) (value : BitVec 32) (s : State) : Host.Outcome State Fault Refusal :=
  s.run (bayArmWrite bay.val value.toNat)

/-- WINDOW_ENABLE (R336). -/
def execWindowEnable (port : Fin 8) (window : Fin 256) (value : BitVec 32) (s : State) : Host.Outcome State Fault Refusal :=
  s.run (windowEnable port.val window.val value.toNat)

/-- WINDOW_DISABLE (R337). -/
def execWindowDisable (port : Fin 8) (window : Fin 256) (value : BitVec 32) (s : State) : Host.Outcome State Fault Refusal :=
  s.run (windowDisable port.val window.val value.toNat)

/-- BRG_EVQ_READ (R362). -/
def execBrgEvqRead (s : State) : Host.Outcome State Fault Refusal := s.run brgEvqRead

/-- EYESPOT_MARK (R443). -/
def execEyespotMark (source : Fin 512) (value : BitVec 32) (s : State) : Host.Outcome State Fault Refusal :=
  s.run (eyespotMark source.val value.toNat)

/-- EVC_PENDING_CLEAR (R437). -/
def execEvcPendingClear (word : Fin 16) (value : BitVec 32) (s : State) : Host.Outcome State Fault Refusal :=
  s.run (evcPendingClear word.val value.toNat)

/-- EVC_CLAIM (R431). -/
def execEvcClaim (target : Fin 8) (read : Option (BitVec 8)) (s : State) : Host.Outcome State Fault Refusal :=
  s.run (evcClaim target.val (read.map (·.toNat)))

/-- EVC_EOI (R436). -/
def execEvcEoi (target : Fin 8) (value : BitVec 32) (host : Bool) (s : State) : Host.Outcome State Fault Refusal :=
  s.run (evcEoi target.val value.toNat host)

/-- DESCRIPTOR_ACCEPT (R121). -/
def execDescriptorAccept (queue : Fin 65536) (s : State) : Host.Outcome State Fault Refusal := s.run (descriptorAccept queue.val)

/-- WRITE_STRIPE (R217). -/
def execWriteStripe (slot : Fin 262144) (s : State) : Host.Outcome State Fault Refusal := s.run (writeStripe slot.val)

/-- READ_STRIPE (R228). -/
def execReadStripe (slot : Fin 262144) (s : State) : Host.Outcome State Fault Refusal := s.run (readStripe slot.val)

/-- SCRUB (R232). -/
def execScrub (slot : Fin 262144) (s : State) : Host.Outcome State Fault Refusal := s.run (scrub slot.val)

/-- REBUILD_SHARD (R238). -/
def execRebuildShard (slot : Fin 262144) (s : State) : Host.Outcome State Fault Refusal := s.run (rebuildShard slot.val)

/-- MIGRATE (R241). -/
def execMigrate (slot : Fin 262144) (s : State) : Host.Outcome State Fault Refusal := s.run (migrate slot.val)

/-- FENCE (R127). -/
def execFence (slot : Fin 262144) (s : State) : Host.Outcome State Fault Refusal := s.run (fence slot.val)

/-- ABORT (R245). -/
def execAbort (slot : Fin 262144) (s : State) : Host.Outcome State Fault Refusal := s.run (abort slot.val)

/-- CREATE_SLICE (R82). -/
def execCreateSlice (slot : Fin 262144) (s : State) : Host.Outcome State Fault Refusal := s.run (createSlice slot.val)

/-- DESTROY_SLICE (R83). -/
def execDestroySlice (slot : Fin 262144) (s : State) : Host.Outcome State Fault Refusal := s.run (destroySlice slot.val)

/-- MOULT_SLICE (R84). -/
def execMoultSlice (slot : Fin 262144) (s : State) : Host.Outcome State Fault Refusal := s.run (moultSlice slot.val)

/-- QUIESCE_SLICE (R91). -/
def execQuiesceSlice (slot : Fin 262144) (s : State) : Host.Outcome State Fault Refusal := s.run (quiesceSlice slot.val)

/-- COCOON_SLICE (R94). -/
def execCocoonSlice (slot : Fin 262144) (s : State) : Host.Outcome State Fault Refusal := s.run (cocoonSlice slot.val)

/-- SAVE_SLICE (R95). -/
def execSaveSlice (slot : Fin 262144) (s : State) : Host.Outcome State Fault Refusal := s.run (saveSlice slot.val)

/-- RESTORE_SLICE (R97). -/
def execRestoreSlice (slot : Fin 262144) (answer : Option (List Byte)) (s : State) : Host.Outcome State Fault Refusal :=
  s.run (restoreSliceAnswered slot.val answer)

/-- SET_SHARE (R92). -/
def execSetShare (slot : Fin 262144) (s : State) : Host.Outcome State Fault Refusal := s.run (setShare slot.val)

/-- LOAD_IMAGE (R201). -/
def execLoadImage (slot : Fin 262144) (s : State) : Host.Outcome State Fault Refusal := s.run (loadImage slot.val)

/-- LOAD_IMAGE_READ_DONE (R201). -/
def execLoadImageReadDone (image : Fin 2) (data : Option (List Byte)) (s : State) : Host.Outcome State Fault Refusal :=
  s.run (loadImageReadDone image.val data)

/-- SWITCH_IMAGE (R203). -/
def execSwitchImage (slot : Fin 262144) (s : State) : Host.Outcome State Fault Refusal := s.run (switchImage slot.val)

/-- SET_PROFILE (R23). -/
def execSetProfile (slot : Fin 262144) (s : State) : Host.Outcome State Fault Refusal := s.run (setProfile slot.val)

/-- ADMIT_BAY (R291). -/
def execAdmitBay (slot : Fin 262144) (s : State) : Host.Outcome State Fault Refusal := s.run (admitBay slot.val)

/-- RETIRE_BAY (R292). -/
def execRetireBay (slot : Fin 262144) (s : State) : Host.Outcome State Fault Refusal := s.run (retireBay slot.val)

/-- BAY_POWER (R384). -/
def execBayPower (slot : Fin 262144) (s : State) : Host.Outcome State Fault Refusal := s.run (bayPower slot.val)

/-- ENTER_STATE (R396). -/
def execEnterState (slot : Fin 262144) (s : State) : Host.Outcome State Fault Refusal := s.run (enterState slot.val)

/-- SET_MIRROR (R417). -/
def execSetMirror (slot : Fin 262144) (s : State) : Host.Outcome State Fault Refusal := s.run (setMirror slot.val)

/-- BRING_IN_SPARE (R485). -/
def execBringInSpare (slot : Fin 262144) (s : State) : Host.Outcome State Fault Refusal := s.run (bringInSpare slot.val)

/-- TEST_UNIT (R486). -/
def execTestUnit (slot : Fin 262144) (s : State) : Host.Outcome State Fault Refusal := s.run (testUnit slot.val)

/-- READ_LEDGER (R391). -/
def execReadLedger (slot : Fin 262144) (s : State) : Host.Outcome State Fault Refusal := s.run (readLedger slot.val)

/-- FW_UPDATE (R511). -/
def execFwUpdate (slot : Fin 262144) (answer : Option (List Byte)) (s : State) : Host.Outcome State Fault Refusal :=
  s.run (fwUpdateAnswered slot.val answer)

/-- GET_LOG (R131). -/
def execGetLog (slot : Fin 262144) (s : State) : Host.Outcome State Fault Refusal := s.run (getLog slot.val)

/-- RECORD_FETCH_DONE (R114). -/
def execRecordFetchDone (slice : Fin 1024) (page : BitVec 52) (data : Option (List (BitVec 64))) (s : State) : Host.Outcome State Fault Refusal :=
  s.run (recordFetchDone slice.val page.toNat data)

/-- DESCRIPTOR_READ_DONE (R114). -/
def execDescriptorReadDone (queue : Fin 65536) (data : Option (List (BitVec 512))) (s : State) : Host.Outcome State Fault Refusal :=
  s.run (descriptorReadDone queue.val data)

/-- SGL_READ_DONE (R120). -/
def execSglReadDone (queue : Fin 65536) (data : Option (List Byte)) (s : State) : Host.Outcome State Fault Refusal :=
  s.run (sglReadDone queue.val data)

/-- COMPLETION_SEQUENCE (R215). -/
def execCompletionSequence (s : State) : Host.Outcome State Fault Refusal := s.run completionSequence

/-- COALESCE_TIMER_EXPIRE (R126). -/
def execCoalesceTimerExpire (queue : Fin 65536) (s : State) : Host.Outcome State Fault Refusal := s.run (coalesceTimer queue.val)

/-- EPOCH_BOUNDARY (R168). -/
def execEpochBoundary (s : State) : Host.Outcome State Fault Refusal := s.run epochBoundary

/-- RUN_FIRE (R172). -/
def execRunFire (island : Fin 9) (index : Nat) (s : State) : Host.Outcome State Fault Refusal := s.run (runFire island.val index)

/-- BLOCK_COLUMN (R152). -/
def execBlockColumn (slot : Fin 1310720) (verdict : EngVerdict) (s : State) : Host.Outcome State Fault Refusal :=
  s.run (blockColumn slot.val verdict.code)

/-- MATRIX_COMPUTED (R153). -/
def execMatrixComputed (entry : Fin 1024) (s : State) : Host.Outcome State Fault Refusal := s.run (matrixComputed entry.val)

/-- ENGINES_SETTLED (R206). -/
def execEnginesSettled (s : State) : Host.Outcome State Fault Refusal := s.run enginesSettled

/-- PROFILE_SETTLED (R29). -/
def execProfileSettled (s : State) : Host.Outcome State Fault Refusal := s.run profileSettled

/-- CALENDAR_ECC_ERROR (R181). -/
def execCalendarEccError (island : Fin 9) (index : Nat) (both : Bool) (s : State) : Host.Outcome State Fault Refusal :=
  s.run (calendarEccError island.val index both)

/-- CALENDAR_REWRITE (R181). -/
def execCalendarRewrite (island : Fin 9) (index : Nat) (s : State) : Host.Outcome State Fault Refusal :=
  s.run (calendarRewrite island.val index)

/-- CELL_CRC_FAIL (R260). -/
def execCellCrcFail (slot : Fin 262144) (engine : Bool) (unit : Nat) (s : State) : Host.Outcome State Fault Refusal :=
  s.run (cellCrcFail slot.val engine unit)

/-- JOURNAL_ECC_ERROR (R267). -/
def execJournalEccError (slot : Fin 262144) (entry : Bool) (index : Bool) (s : State) : Host.Outcome State Fault Refusal :=
  s.run (journalEccError slot.val entry index)

/-- LINK_HOLD_EXPIRE (R268). -/
def execLinkHoldExpire (link : Fin 512) (s : State) : Host.Outcome State Fault Refusal := s.run (linkHoldExpire link.val)

/-- MOULT_COMPLETE (R84). -/
def execMoultComplete (slice : Fin 1024) (s : State) : Host.Outcome State Fault Refusal := s.run (moultComplete slice.val)

/-- MOULT_BEGIN (R89). -/
def execMoultBegin (slice : Fin 1024) (s : State) : Host.Outcome State Fault Refusal := s.run (moultBegin slice.val)

/-- QUIESCE_COMPLETE (R91). -/
def execQuiesceComplete (slice : Fin 1024) (s : State) : Host.Outcome State Fault Refusal := s.run (quiesceComplete slice.val)

/-- COCOON_COMPLETE (R94). -/
def execCocoonComplete (slice : Fin 1024) (s : State) : Host.Outcome State Fault Refusal := s.run (cocoonComplete slice.val)

/-- SHRINK_RELEASE (R93). -/
def execShrinkRelease (slice : Fin 1024) (s : State) : Host.Outcome State Fault Refusal := s.run (shrinkRelease slice.val)

/-- FLR (R62). -/
def execFlr (port : Fin 8) (s : State) : Host.Outcome State Fault Refusal := s.run (flr port.val)

/-- PERST_ASSERT (R57). -/
def execPerstAssert (port : Fin 8) (s : State) : Host.Outcome State Fault Refusal := s.run (perstAssert port.val)

/-- PERST_RELEASE (R501). -/
def execPerstRelease (port : Fin 8) (s : State) : Host.Outcome State Fault Refusal := s.run (perstRelease port.val)

/-- HOST_LINK_UP (R499). -/
def execHostLinkUp (port : Fin 8) (speed : Fin 8) (width : Fin 17) (s : State) : Host.Outcome State Fault Refusal :=
  s.run (hostLinkUp port.val speed.val width.val)

/-- HOST_LINK_DOWN (R552). -/
def execHostLinkDown (port : Fin 8) (s : State) : Host.Outcome State Fault Refusal := s.run (hostLinkDown port.val)

/-- BUS_MASTER_ENABLE (R552). -/
def execBusMasterEnable (port : Fin 8) (ctl : PortCtl) (s : State) : Host.Outcome State Fault Refusal :=
  s.run (busMasterEnable port.val ctl)

/-- PASID_ENABLE (R39). -/
def execPasidEnable (port : Fin 8) (on : Bool) (s : State) : Host.Outcome State Fault Refusal := s.run (pasidEnable port.val on)

/-- REQ_ID_CHANGE (R69). -/
def execReqIdChange (port : Fin 8) (id : BitVec 16) (s : State) : Host.Outcome State Fault Refusal :=
  s.run (reqIdChange port.val id.toNat)

/-- D3HOT_ENTRY (R53). -/
def execD3hotEntry (port : Fin 8) (s : State) : Host.Outcome State Fault Refusal := s.run (d3hotEntry port.val)

/-- D0_RETURN (R53). -/
def execD0Return (port : Fin 8) (s : State) : Host.Outcome State Fault Refusal := s.run (d0Return port.val)

/-- PME_TURN_OFF (R55). -/
def execPmeTurnOff (port : Fin 8) (s : State) : Host.Outcome State Fault Refusal := s.run (pmeTurnOff port.val)

/-- MSIX_UNMASK (R49). -/
def execMsixUnmask (port : Fin 8) (enable : Bool) (fnMask : Bool) (vector : Fin 2048) (masked : Bool) (s : State) : Host.Outcome State Fault Refusal :=
  s.run (msixUnmask port.val enable fnMask vector.val masked)

/-- HOST_READ_COMPLETION (R66). -/
def execHostReadCompletion (index : Nat) (status : CplStatus) (data : List Byte) (s : State) : Host.Outcome State Fault Refusal :=
  s.run (hostReadCompletion index status.code data)

/-- HOST_COMPLETION_TIMEOUT (R66). -/
def execHostCompletionTimeout (index : Nat) (s : State) : Host.Outcome State Fault Refusal := s.run (hostCompletionTimeout index)

/-- HOST_TLP_ERROR (R66). -/
def execHostTlpError (port : Fin 8) (kind : TlpError) (s : State) : Host.Outcome State Fault Refusal :=
  s.run (hostTlpError port.val kind.code)

/-- HOST_UNSUPPORTED_REQUEST (R48). -/
def execHostUnsupportedRequest (port : Fin 8) (kind : BadAccess) (offset : Nat) (read : Bool) (s : State) : Host.Outcome State Fault Refusal :=
  s.run (hostUnsupportedRequest port.val kind.code offset read)

/-- OFF_UNIT_ACCESS (R468). -/
def execOffUnitAccess (port : Fin 8) (place : BarPlace) (access : RegAccess) (s : State) : Host.Outcome State Fault Refusal :=
  s.run (offUnitAccess port.val place.bar2 place.offset.toNat access)

/-- DOMAIN_READY (R401). -/
def execDomainReady (domain : Domain) (s : State) : Host.Outcome State Fault Refusal := s.run (domainReady domain.code)

/-- DOMAIN_IDLE_OFF (R401). -/
def execDomainIdleOff (domain : Domain) (s : State) : Host.Outcome State Fault Refusal := s.run (domainIdleOff domain.code)

/-- ISLAND_GATE (R398). -/
def execIslandGate (island : Fin 9) (s : State) : Host.Outcome State Fault Refusal := s.run (islandGate island.val)

/-- ISLAND_UNGATE (R398). -/
def execIslandUngate (island : Fin 9) (s : State) : Host.Outcome State Fault Refusal := s.run (islandUngate island.val)

/-- PARTNER_SIGNAL_DETECT (R281). -/
def execPartnerSignalDetect (lane : Fin 512) (s : State) : Host.Outcome State Fault Refusal :=
  s.run (partnerSignalDetect lane.val)

/-- NO_PARTNER (R281). -/
def execNoPartner (lane : Fin 512) (s : State) : Host.Outcome State Fault Refusal := s.run (noPartner lane.val)

/-- TRAINING_BLOCK (R280). -/
def execTrainingBlock (lane : Fin 512) (block : List Byte) (s : State) : Host.Outcome State Fault Refusal :=
  s.run (trainingBlock lane.val block)

/-- EQ_DONE (R282). -/
def execEqDone (lane : Fin 512) (s : State) : Host.Outcome State Fault Refusal := s.run (eqDone lane.val)

/-- SYNC_TIMEOUT (R281). -/
def execSyncTimeout (lane : Fin 512) (s : State) : Host.Outcome State Fault Refusal := s.run (syncTimeout lane.val)

/-- EQ_TIMEOUT (R282). -/
def execEqTimeout (lane : Fin 512) (s : State) : Host.Outcome State Fault Refusal := s.run (eqTimeout lane.val)

/-- NEG_TIMEOUT (R284). -/
def execNegTimeout (lane : Fin 512) (s : State) : Host.Outcome State Fault Refusal := s.run (negTimeout lane.val)

/-- IDENT (R327). -/
def execIdent (link : Fin 512) (s : State) : Host.Outcome State Fault Refusal := s.run (ident link.val)

/-- IDENT_TIMEOUT (R288). -/
def execIdentTimeout (link : Fin 512) (s : State) : Host.Outcome State Fault Refusal := s.run (identTimeout link.val)

/-- FLIT_RECEIVE (R304). -/
def execFlitReceive (link : Fin 512) (flit : RxFlit) (s : State) : Host.Outcome State Fault Refusal :=
  s.run (flitReceive link.val flit)

/-- LINK_CTRL (R307). -/
def execLinkCtrl (link : Fin 512) (flit : RxFlit) (s : State) : Host.Outcome State Fault Refusal :=
  s.run (linkCtrl link.val flit)

/-- TX_SLOT (R314). -/
def execTxSlot (link : Fin 512) (s : State) : Host.Outcome State Fault Refusal := s.run (txSlot link.val)

/-- ACK_TIME_EXPIRE (R308). -/
def execAckTimeExpire (link : Fin 512) (s : State) : Host.Outcome State Fault Refusal := s.run (ackTimeExpire link.val)

/-- REPLAY_TO_EXPIRE (R309). -/
def execReplayToExpire (link : Fin 512) (seq : Fin 4096) (s : State) : Host.Outcome State Fault Refusal :=
  s.run (replayToExpire link.val seq.val)

/-- DEAD_TIME_EXPIRE (R329). -/
def execDeadTimeExpire (link : Fin 512) (s : State) : Host.Outcome State Fault Refusal := s.run (deadTimeExpire link.val)

/-- BLOCK (R323). -/
def execBlock (link : Fin 512) (s : State) : Host.Outcome State Fault Refusal := s.run (block link.val)

/-- STREAM_STATUS (R326). -/
def execStreamStatus (link : Fin 512) (s : State) : Host.Outcome State Fault Refusal := s.run (streamStatus link.val)

/-- TRAILER_DATA (R325). -/
def execTrailerData (link : Fin 512) (s : State) : Host.Outcome State Fault Refusal := s.run (trailerData link.val)

/-- WRITE_ACK_TIMEOUT (R326). -/
def execWriteAckTimeout (link : Fin 512) (stream : Fin 1024) (s : State) : Host.Outcome State Fault Refusal :=
  s.run (writeAckTimeout link.val stream.val)

/-- READ_DATA_TIMEOUT (R326). -/
def execReadDataTimeout (link : Fin 512) (stream : Fin 1024) (s : State) : Host.Outcome State Fault Refusal :=
  s.run (readDataTimeout link.val stream.val)

/-- LANE_TEST_RESULT (R328). -/
def execLaneTestResult (link : Fin 512) (near : Nat) (s : State) : Host.Outcome State Fault Refusal :=
  s.run (laneTestResult link.val near)

/-- BRIDGE_HOST_READ (R345). -/
def execBridgeHostRead (port : Fin 8) (offset : Nat) (dwords : Fin 1025) (be : BitVec 8) (s : State) : Host.Outcome State Fault Refusal :=
  s.run (bridgeHostRead port.val offset dwords.val be.toNat)

/-- CTRL_READ_DATA (R345). -/
def execCtrlReadData (link : Fin 512) (s : State) : Host.Outcome State Fault Refusal := s.run (ctrlReadData link.val)

/-- BRIDGE_HOST_WRITE (R350). -/
def execBridgeHostWrite (port : Fin 8) (offset : Nat) (be : BitVec 8) (data : List Byte) (reqId : BitVec 16) (pasid : Option (BitVec 20)) (s : State) : Host.Outcome State Fault Refusal :=
  s.run (bridgeHostWrite port.val offset be.toNat data reqId.toNat (pasid.map BitVec.toNat))

/-- CTRL_WRITE_STATUS (R351). -/
def execCtrlWriteStatus (link : Fin 512) (s : State) : Host.Outcome State Fault Refusal := s.run (ctrlWriteStatus link.val)

/-- READ_LIMIT_EXPIRE (R345). -/
def execReadLimitExpire (port : Fin 8) (s : State) : Host.Outcome State Fault Refusal := s.run (readLimitExpire port.val)

/-- DISCARD_TIMER_EXPIRE (R346). -/
def execDiscardTimerExpire (page : Bool) (port : Fin 8) (link : Fin 512) (tag : Fin 256) (addr : Nat) (s : State) : Host.Outcome State Fault Refusal :=
  s.run (discardTimerExpire page port.val link.val tag.val addr)

/-- WSTATUS_TIMEOUT (R351). -/
def execWstatusTimeout (link : Fin 512) (s : State) : Host.Outcome State Fault Refusal := s.run (wstatusTimeout link.val)

/-- POLL_TICK (R356). -/
def execPollTick (link : Fin 512) (s : State) : Host.Outcome State Fault Refusal := s.run (pollTick link.val)

/-- POLL_STATUS (R359). -/
def execPollStatus (link : Fin 512) (s : State) : Host.Outcome State Fault Refusal := s.run (pollStatus link.val)

/-- EVENT_LIST (R358). -/
def execEventList (link : Fin 512) (s : State) : Host.Outcome State Fault Refusal := s.run (eventList link.val)

/-- SIDEBAND_SCAN (R360). -/
def execSidebandScan (buttons : BitVec 64) (s : State) : Host.Outcome State Fault Refusal := s.run (sidebandScan buttons)

/-- PRESENCE_INSERT (R367). -/
def execPresenceInsert (bay : Fin 64) (s : State) : Host.Outcome State Fault Refusal := s.run (presenceInsert bay.val)

/-- PRESENCE_REMOVE (R378). -/
def execPresenceRemove (bay : Fin 64) (s : State) : Host.Outcome State Fault Refusal := s.run (presenceRemove bay.val)

/-- BAY_START_SLOT (R369). -/
def execBayStartSlot (s : State) : Host.Outcome State Fault Refusal := s.run bayStartSlot

/-- BAY_SAMPLE_TICK (R380). -/
def execBaySampleTick (bay : Fin 64) (ia : BitVec 16) (ib : BitVec 16) (va : BitVec 16) (vb : BitVec 16) (vout : BitVec 16) (sensor : BitVec 12) (s : State) : Host.Outcome State Fault Refusal :=
  s.run (baySampleTick bay.val ia ib va.toNat vb.toNat vout.toNat sensor.toNat)

/-- FAULT_TIMER_EXPIRE (R373). -/
def execFaultTimerExpire (bay : Fin 64) (s : State) : Host.Outcome State Fault Refusal := s.run (faultTimerExpire bay.val)

/-- POWER_GOOD (R371). -/
def execPowerGood (bay : Fin 64) (s : State) : Host.Outcome State Fault Refusal := s.run (powerGood bay.val)

/-- FEED_LOSS (R376). -/
def execFeedLoss (bay : Fin 64) (feedB : Bool) (s : State) : Host.Outcome State Fault Refusal := s.run (feedLoss bay.val feedB)

/-- FEED_USABLE (R376). -/
def execFeedUsable (bay : Fin 64) (feedB : Bool) (s : State) : Host.Outcome State Fault Refusal :=
  s.run (feedUsable bay.val feedB)

/-- FET_SHORT (R381). -/
def execFetShort (bay : Fin 64) (overA : Bool) (overB : Bool) (s : State) : Host.Outcome State Fault Refusal :=
  s.run (fetShort bay.val overA overB)

/-- RETRY_CLEAR (R378). -/
def execRetryClear (bay : Fin 64) (s : State) : Host.Outcome State Fault Refusal := s.run (retryClear bay.val)

/-- LEDGER_INTERVAL (R388). -/
def execLedgerInterval (readings : List (Option (BitVec 32))) (s : State) : Host.Outcome State Fault Refusal :=
  s.run (ledgerInterval readings)

/-- DRAIN_COMPLETE (R259). -/
def execDrainComplete (s : State) : Host.Outcome State Fault Refusal := s.run drainComplete

/-- DRAIN_TIMEOUT (R411). -/
def execDrainTimeout (s : State) : Host.Outcome State Fault Refusal := s.run drainTimeout

/-- DIAPAUSE_ABORT_POINT (R411). -/
def execDiapauseAbortPoint (weak : BitVec 6) (s : State) : Host.Outcome State Fault Refusal :=
  s.run (diapauseAbortPoint weak.toNat)

/-- UNWIND_RELOAD_DONE (R411). -/
def execUnwindReloadDone (status : CplStatus) (header : List Byte) (bodyCrc : BitVec 32) (secCrcs : List (BitVec 32)) (s : State) : Host.Outcome State Fault Refusal :=
  s.run (unwindReloadDone status.code header bodyCrc secCrcs)

/-- COMMIT_WAIT_EXPIRE (R410). -/
def execCommitWaitExpire (s : State) : Host.Outcome State Fault Refusal := s.run commitWaitExpire

/-- WAKE_FEED (R406). -/
def execWakeFeed (s : State) : Host.Outcome State Fault Refusal := s.run wakeFeed

/-- WAKE_AUX (R406). -/
def execWakeAux (s : State) : Host.Outcome State Fault Refusal := s.run wakeAux

/-- WAKE_HOST_ACTIVITY (R408). -/
def execWakeHostActivity (port : Fin 8) (s : State) : Host.Outcome State Fault Refusal := s.run (wakeHostActivity port.val)

/-- WAKE_HOST_PATTERN (R408). -/
def execWakeHostPattern (port : Fin 8) (s : State) : Host.Outcome State Fault Refusal := s.run (wakeHostPattern port.val)

/-- WAKE_EYESPOT (R444). -/
def execWakeEyespot (source : Fin 512) (s : State) : Host.Outcome State Fault Refusal := s.run (wakeEyespot source.val)

/-- AON_ALARM (R407). -/
def execAonAlarm (s : State) : Host.Outcome State Fault Refusal := s.run aonAlarm

/-- ECLOSION_RAILS_GOOD (R419). -/
def execEclosionRailsGood (bad : BitVec 6) (corrected : Nat) (board : Option (List Rail)) (s : State) : Host.Outcome State Fault Refusal :=
  s.run (eclosionRailsGood bad.toNat corrected board)

/-- ECLOSION_RAIL_TIMEOUT (R419). -/
def execEclosionRailTimeout (s : State) : Host.Outcome State Fault Refusal := s.run eclosionRailTimeout

/-- GDDR6_RETRAINED (R419). -/
def execGddr6Retrained (s : State) : Host.Outcome State Fault Refusal := s.run gddr6Retrained

/-- FIRMWARE_RELOADED (R419). -/
def execFirmwareReloaded (s : State) : Host.Outcome State Fault Refusal := s.run firmwareReloaded

/-- MIRROR_PULL_START (R419). -/
def execMirrorPullStart (s : State) : Host.Outcome State Fault Refusal := s.run mirrorPullStart

/-- MIRROR_PULL_DONE (R423). -/
def execMirrorPullDone (status : CplStatus) (header : List Byte) (bodyCrc : BitVec 32) (secCrcs : List (BitVec 32)) (s : State) : Host.Outcome State Fault Refusal :=
  s.run (mirrorPullDone status.code header bodyCrc secCrcs)

/-- MIRROR_WAIT_EXPIRE (R423). -/
def execMirrorWaitExpire (s : State) : Host.Outcome State Fault Refusal := s.run mirrorWaitExpire

/-- BROWNOUT (R403). -/
def execBrownout (s : State) : Host.Outcome State Fault Refusal := s.run brownout

/-- EVENT_SOURCE_EDGE (R428). -/
def execEventSourceEdge (source : Fin 512) (s : State) : Host.Outcome State Fault Refusal := s.run (eventSourceEdge source.val)

/-- LEVEL_SOURCE_CHANGE (R428). -/
def execLevelSourceChange (source : Fin 512) (s : State) : Host.Outcome State Fault Refusal :=
  s.run (levelSourceChange source.val)

/-- EVC_COALESCE_EXPIRE (R429). -/
def execEvcCoalesceExpire (source : Fin 512) (s : State) : Host.Outcome State Fault Refusal :=
  s.run (evcCoalesceExpire source.val)

/-- FAULT_EVENT (R450). -/
def execFaultEvent (unit : FUnit) (src : Fin 16) (inst : Nat) (access : Nat) (addr : Nat) (port : Option (Fin 8)) (slice : Option (Fin 1024)) (detail : Nat) (s : State) : Host.Outcome State Fault Refusal :=
  s.run (faultEvent unit src.val inst access addr (port.map Fin.val) (slice.map Fin.val) detail)

/-- FAULT_WINDOW_EXPIRE (R455). -/
def execFaultWindowExpire (unit : FUnit) (src : Fin 16) (inst : Nat) (s : State) : Host.Outcome State Fault Refusal :=
  s.run (faultWindowExpire unit src.val inst)

/-- HEARTBEAT_TIMEOUT (R487). -/
def execHeartbeatTimeout (core : Fin 2) (both : Bool) (s : State) : Host.Outcome State Fault Refusal :=
  s.run (heartbeatTimeout core.val both)

/-- CORE_STATE_ERROR (R465). -/
def execCoreStateError (core : Fin 2) (s : State) : Host.Outcome State Fault Refusal := s.run (coreStateError core.val)

/-- RECOVERY_COMPLETE (R488). -/
def execRecoveryComplete (s : State) : Host.Outcome State Fault Refusal := s.run recoveryComplete

/-- ENGINE_TEST_DONE (R479). -/
def execEngineTestDone (engine : Fin 72) (pass : Bool) (s : State) : Host.Outcome State Fault Refusal :=
  s.run (engineTestDone engine.val pass)

/-- OCTANT_REJOIN (R483). -/
def execOctantRejoin (octant : Fin 8) (s : State) : Host.Outcome State Fault Refusal := s.run (octantRejoin octant.val)

/-- POR_ASSERT (R496). -/
def execPorAssert (s : State) : Host.Outcome State Fault Refusal := s.run porAssert

/-- POR_RELEASE (R496). -/
def execPorRelease (mgr : Fin 8) (refclk : Fin 2) (test : Fin 4) (flash : Fin 2) (s : State) : Host.Outcome State Fault Refusal :=
  s.run (porRelease mgr.val refclk.val test.val flash.val)

/-- COLD_RAILS_GOOD (R499). -/
def execColdRailsGood (board : Option (List Rail)) (s : State) : Host.Outcome State Fault Refusal := s.run (coldRailsGood board)

/-- COLD_RAIL_TIMEOUT (R500). -/
def execColdRailTimeout (s : State) : Host.Outcome State Fault Refusal := s.run coldRailTimeout

/-- FIRMWARE_AUTH_DONE (R502). -/
def execFirmwareAuthDone (active : Fin 2) (a0 : Bool) (a1 : Bool) (b0 : Bool) (b1 : Bool) (v0 : BitVec 32) (v1 : BitVec 32) (s : State) : Host.Outcome State Fault Refusal :=
  s.run (firmwareAuthDone active.val a0 a1 b0 b1 v0.toNat v1.toNat)

/-- THERMAL_TRIP (R549). -/
def execThermalTrip (die : Fin 11) (temp : BitVec 12) (s : State) : Host.Outcome State Fault Refusal :=
  s.run (thermalTrip die.val temp.toNat)

/-- VSTBY_POWER_CYCLE (R9). -/
def execVstbyPowerCycle (s : State) : Host.Outcome State Fault Refusal := s.run vstbyPowerCycle

/-- THERMAL_WARNING (R550). -/
def execThermalWarning (die : Fin 11) (temp : BitVec 12) (s : State) : Host.Outcome State Fault Refusal :=
  s.run (thermalWarning die.val temp.toNat)

/-- PLANE_TEST_DONE (R486). -/
def execPlaneTestDone (pass : Bool) (s : State) : Host.Outcome State Fault Refusal := s.run (planeTestDone pass)

/-- STANDBY_SELFTEST_DONE (R486). -/
def execStandbySelftestDone (pass : Bool) (s : State) : Host.Outcome State Fault Refusal := s.run (standbySelftestDone pass)

/-- FW_STAGING_DONE (R511). -/
def execFwStagingDone (ok : Bool) (s : State) : Host.Outcome State Fault Refusal := s.run (fwStagingDone ok)

end Sys2Proof.Machine
end

