-- ==== Sys2Proof/Machine/Dispatch.lean ====
section
/-! DEFINITION. One arm per command. -/
namespace Sys2Proof.Machine

def exec (i : Instr) (s : State) : Host.Outcome State Fault Refusal :=
  match i with
  | .registerWrite port bar2 offset value first last => Sys2Proof.Machine.execRegisterWrite port bar2 offset value first last s
  | .glbTimeRead => Sys2Proof.Machine.execGlbTimeRead s
  | .setupKeyWrite value => Sys2Proof.Machine.execSetupKeyWrite value s
  | .glbProfileWrite value => Sys2Proof.Machine.execGlbProfileWrite value s
  | .powerCmdActive => Sys2Proof.Machine.execPowerCmdActive s
  | .powerCmdDormant => Sys2Proof.Machine.execPowerCmdDormant s
  | .powerCmdDiapause => Sys2Proof.Machine.execPowerCmdDiapause s
  | .signKeyWrite word value => Sys2Proof.Machine.execSignKeyWrite word value s
  | .jnlRegionWrite reg value => Sys2Proof.Machine.execJnlRegionWrite reg value s
  | .slcPermWrite slice word value => Sys2Proof.Machine.execSlcPermWrite slice word value s
  | .memStageWrite value => Sys2Proof.Machine.execMemStageWrite value s
  | .memTrainStart value => Sys2Proof.Machine.execMemTrainStart value s
  | .memTrainDone failed => Sys2Proof.Machine.execMemTrainDone failed s
  | .memtestStart value => Sys2Proof.Machine.execMemtestStart value s
  | .memtestDone rows => Sys2Proof.Machine.execMemtestDone rows s
  | .eclosionAck value => Sys2Proof.Machine.execEclosionAck value s
  | .faultClear unit value => Sys2Proof.Machine.execFaultClear unit value s
  | .faultInjectFire unit value => Sys2Proof.Machine.execFaultInjectFire unit value s
  | .fltUnlock value => Sys2Proof.Machine.execFltUnlock value s
  | .peakClr die value => Sys2Proof.Machine.execPeakClr die value s
  | .bar4Resize port log2 => Sys2Proof.Machine.execBar4Resize port log2 s
  | .dbNudge port slice value => Sys2Proof.Machine.execDbNudge port slice value s
  | .dbQselWrite port slice value => Sys2Proof.Machine.execDbQselWrite port slice value s
  | .dbQueueConfigWrite port slice reg value => Sys2Proof.Machine.execDbQueueConfigWrite port slice reg value s
  | .queueEnable port slice => Sys2Proof.Machine.execQueueEnable port slice s
  | .queueDisable port slice => Sys2Proof.Machine.execQueueDisable port slice s
  | .queueDisabled queue => Sys2Proof.Machine.execQueueDisabled queue s
  | .laneEnableWrite lane value => Sys2Proof.Machine.execLaneEnableWrite lane value s
  | .retrain lane value => Sys2Proof.Machine.execRetrain lane value s
  | .bayArmWrite bay value => Sys2Proof.Machine.execBayArmWrite bay value s
  | .windowEnable port window value => Sys2Proof.Machine.execWindowEnable port window value s
  | .windowDisable port window value => Sys2Proof.Machine.execWindowDisable port window value s
  | .brgEvqRead => Sys2Proof.Machine.execBrgEvqRead s
  | .eyespotMark source value => Sys2Proof.Machine.execEyespotMark source value s
  | .evcPendingClear word value => Sys2Proof.Machine.execEvcPendingClear word value s
  | .evcClaim target read => Sys2Proof.Machine.execEvcClaim target read s
  | .evcEoi target value host => Sys2Proof.Machine.execEvcEoi target value host s
  | .descriptorAccept queue => Sys2Proof.Machine.execDescriptorAccept queue s
  | .writeStripe slot => Sys2Proof.Machine.execWriteStripe slot s
  | .readStripe slot => Sys2Proof.Machine.execReadStripe slot s
  | .scrub slot => Sys2Proof.Machine.execScrub slot s
  | .rebuildShard slot => Sys2Proof.Machine.execRebuildShard slot s
  | .migrate slot => Sys2Proof.Machine.execMigrate slot s
  | .fence slot => Sys2Proof.Machine.execFence slot s
  | .abort slot => Sys2Proof.Machine.execAbort slot s
  | .createSlice slot => Sys2Proof.Machine.execCreateSlice slot s
  | .destroySlice slot => Sys2Proof.Machine.execDestroySlice slot s
  | .moultSlice slot => Sys2Proof.Machine.execMoultSlice slot s
  | .quiesceSlice slot => Sys2Proof.Machine.execQuiesceSlice slot s
  | .cocoonSlice slot => Sys2Proof.Machine.execCocoonSlice slot s
  | .saveSlice slot => Sys2Proof.Machine.execSaveSlice slot s
  | .restoreSlice slot answer => Sys2Proof.Machine.execRestoreSlice slot answer s
  | .setShare slot => Sys2Proof.Machine.execSetShare slot s
  | .loadImage slot => Sys2Proof.Machine.execLoadImage slot s
  | .loadImageReadDone image data => Sys2Proof.Machine.execLoadImageReadDone image data s
  | .switchImage slot => Sys2Proof.Machine.execSwitchImage slot s
  | .setProfile slot => Sys2Proof.Machine.execSetProfile slot s
  | .admitBay slot => Sys2Proof.Machine.execAdmitBay slot s
  | .retireBay slot => Sys2Proof.Machine.execRetireBay slot s
  | .bayPower slot => Sys2Proof.Machine.execBayPower slot s
  | .enterState slot => Sys2Proof.Machine.execEnterState slot s
  | .setMirror slot => Sys2Proof.Machine.execSetMirror slot s
  | .bringInSpare slot => Sys2Proof.Machine.execBringInSpare slot s
  | .testUnit slot => Sys2Proof.Machine.execTestUnit slot s
  | .readLedger slot => Sys2Proof.Machine.execReadLedger slot s
  | .fwUpdate slot answer => Sys2Proof.Machine.execFwUpdate slot answer s
  | .getLog slot => Sys2Proof.Machine.execGetLog slot s
  | .recordFetchDone slice page data => Sys2Proof.Machine.execRecordFetchDone slice page data s
  | .descriptorReadDone queue data => Sys2Proof.Machine.execDescriptorReadDone queue data s
  | .sglReadDone queue data => Sys2Proof.Machine.execSglReadDone queue data s
  | .completionSequence => Sys2Proof.Machine.execCompletionSequence s
  | .coalesceTimerExpire queue => Sys2Proof.Machine.execCoalesceTimerExpire queue s
  | .epochBoundary => Sys2Proof.Machine.execEpochBoundary s
  | .runFire island index => Sys2Proof.Machine.execRunFire island index s
  | .blockColumn slot verdict => Sys2Proof.Machine.execBlockColumn slot verdict s
  | .matrixComputed entry => Sys2Proof.Machine.execMatrixComputed entry s
  | .enginesSettled => Sys2Proof.Machine.execEnginesSettled s
  | .profileSettled => Sys2Proof.Machine.execProfileSettled s
  | .calendarEccError island index both => Sys2Proof.Machine.execCalendarEccError island index both s
  | .calendarRewrite island index => Sys2Proof.Machine.execCalendarRewrite island index s
  | .cellCrcFail slot engine unit => Sys2Proof.Machine.execCellCrcFail slot engine unit s
  | .journalEccError slot entry index => Sys2Proof.Machine.execJournalEccError slot entry index s
  | .linkHoldExpire link => Sys2Proof.Machine.execLinkHoldExpire link s
  | .moultComplete slice => Sys2Proof.Machine.execMoultComplete slice s
  | .moultBegin slice => Sys2Proof.Machine.execMoultBegin slice s
  | .quiesceComplete slice => Sys2Proof.Machine.execQuiesceComplete slice s
  | .cocoonComplete slice => Sys2Proof.Machine.execCocoonComplete slice s
  | .shrinkRelease slice => Sys2Proof.Machine.execShrinkRelease slice s
  | .flr port => Sys2Proof.Machine.execFlr port s
  | .perstAssert port => Sys2Proof.Machine.execPerstAssert port s
  | .perstRelease port => Sys2Proof.Machine.execPerstRelease port s
  | .hostLinkUp port speed width => Sys2Proof.Machine.execHostLinkUp port speed width s
  | .hostLinkDown port => Sys2Proof.Machine.execHostLinkDown port s
  | .busMasterEnable port ctl => Sys2Proof.Machine.execBusMasterEnable port ctl s
  | .pasidEnable port on => Sys2Proof.Machine.execPasidEnable port on s
  | .reqIdChange port id => Sys2Proof.Machine.execReqIdChange port id s
  | .d3hotEntry port => Sys2Proof.Machine.execD3hotEntry port s
  | .d0Return port => Sys2Proof.Machine.execD0Return port s
  | .pmeTurnOff port => Sys2Proof.Machine.execPmeTurnOff port s
  | .msixUnmask port enable fnMask vector masked => Sys2Proof.Machine.execMsixUnmask port enable fnMask vector masked s
  | .hostReadCompletion index status data => Sys2Proof.Machine.execHostReadCompletion index status data s
  | .hostCompletionTimeout index => Sys2Proof.Machine.execHostCompletionTimeout index s
  | .hostTlpError port kind => Sys2Proof.Machine.execHostTlpError port kind s
  | .hostUnsupportedRequest port kind offset read => Sys2Proof.Machine.execHostUnsupportedRequest port kind offset read s
  | .offUnitAccess port place access => Sys2Proof.Machine.execOffUnitAccess port place access s
  | .domainReady domain => Sys2Proof.Machine.execDomainReady domain s
  | .domainIdleOff domain => Sys2Proof.Machine.execDomainIdleOff domain s
  | .islandGate island => Sys2Proof.Machine.execIslandGate island s
  | .islandUngate island => Sys2Proof.Machine.execIslandUngate island s
  | .partnerSignalDetect lane => Sys2Proof.Machine.execPartnerSignalDetect lane s
  | .noPartner lane => Sys2Proof.Machine.execNoPartner lane s
  | .trainingBlock lane block => Sys2Proof.Machine.execTrainingBlock lane block s
  | .eqDone lane => Sys2Proof.Machine.execEqDone lane s
  | .syncTimeout lane => Sys2Proof.Machine.execSyncTimeout lane s
  | .eqTimeout lane => Sys2Proof.Machine.execEqTimeout lane s
  | .negTimeout lane => Sys2Proof.Machine.execNegTimeout lane s
  | .ident link => Sys2Proof.Machine.execIdent link s
  | .identTimeout link => Sys2Proof.Machine.execIdentTimeout link s
  | .flitReceive link flit => Sys2Proof.Machine.execFlitReceive link flit s
  | .linkCtrl link flit => Sys2Proof.Machine.execLinkCtrl link flit s
  | .txSlot link => Sys2Proof.Machine.execTxSlot link s
  | .ackTimeExpire link => Sys2Proof.Machine.execAckTimeExpire link s
  | .replayToExpire link seq => Sys2Proof.Machine.execReplayToExpire link seq s
  | .deadTimeExpire link => Sys2Proof.Machine.execDeadTimeExpire link s
  | .block link => Sys2Proof.Machine.execBlock link s
  | .streamStatus link => Sys2Proof.Machine.execStreamStatus link s
  | .trailerData link => Sys2Proof.Machine.execTrailerData link s
  | .writeAckTimeout link stream => Sys2Proof.Machine.execWriteAckTimeout link stream s
  | .readDataTimeout link stream => Sys2Proof.Machine.execReadDataTimeout link stream s
  | .laneTestResult link near => Sys2Proof.Machine.execLaneTestResult link near s
  | .bridgeHostRead port offset dwords be => Sys2Proof.Machine.execBridgeHostRead port offset dwords be s
  | .ctrlReadData link => Sys2Proof.Machine.execCtrlReadData link s
  | .bridgeHostWrite port offset be data reqId pasid => Sys2Proof.Machine.execBridgeHostWrite port offset be data reqId pasid s
  | .ctrlWriteStatus link => Sys2Proof.Machine.execCtrlWriteStatus link s
  | .readLimitExpire port => Sys2Proof.Machine.execReadLimitExpire port s
  | .discardTimerExpire page port link tag addr => Sys2Proof.Machine.execDiscardTimerExpire page port link tag addr s
  | .wstatusTimeout link => Sys2Proof.Machine.execWstatusTimeout link s
  | .pollTick link => Sys2Proof.Machine.execPollTick link s
  | .pollStatus link => Sys2Proof.Machine.execPollStatus link s
  | .eventList link => Sys2Proof.Machine.execEventList link s
  | .sidebandScan buttons => Sys2Proof.Machine.execSidebandScan buttons s
  | .presenceInsert bay => Sys2Proof.Machine.execPresenceInsert bay s
  | .presenceRemove bay => Sys2Proof.Machine.execPresenceRemove bay s
  | .bayStartSlot => Sys2Proof.Machine.execBayStartSlot s
  | .baySampleTick bay ia ib va vb vout sensor => Sys2Proof.Machine.execBaySampleTick bay ia ib va vb vout sensor s
  | .faultTimerExpire bay => Sys2Proof.Machine.execFaultTimerExpire bay s
  | .powerGood bay => Sys2Proof.Machine.execPowerGood bay s
  | .feedLoss bay feedB => Sys2Proof.Machine.execFeedLoss bay feedB s
  | .feedUsable bay feedB => Sys2Proof.Machine.execFeedUsable bay feedB s
  | .fetShort bay overA overB => Sys2Proof.Machine.execFetShort bay overA overB s
  | .retryClear bay => Sys2Proof.Machine.execRetryClear bay s
  | .ledgerInterval readings => Sys2Proof.Machine.execLedgerInterval readings s
  | .drainComplete => Sys2Proof.Machine.execDrainComplete s
  | .drainTimeout => Sys2Proof.Machine.execDrainTimeout s
  | .diapauseAbortPoint weak => Sys2Proof.Machine.execDiapauseAbortPoint weak s
  | .unwindReloadDone status header bodyCrc secCrcs => Sys2Proof.Machine.execUnwindReloadDone status header bodyCrc secCrcs s
  | .commitWaitExpire => Sys2Proof.Machine.execCommitWaitExpire s
  | .wakeFeed => Sys2Proof.Machine.execWakeFeed s
  | .wakeAux => Sys2Proof.Machine.execWakeAux s
  | .wakeHostActivity port => Sys2Proof.Machine.execWakeHostActivity port s
  | .wakeHostPattern port => Sys2Proof.Machine.execWakeHostPattern port s
  | .wakeEyespot source => Sys2Proof.Machine.execWakeEyespot source s
  | .aonAlarm => Sys2Proof.Machine.execAonAlarm s
  | .eclosionRailsGood bad corrected board => Sys2Proof.Machine.execEclosionRailsGood bad corrected board s
  | .eclosionRailTimeout => Sys2Proof.Machine.execEclosionRailTimeout s
  | .gddr6Retrained => Sys2Proof.Machine.execGddr6Retrained s
  | .firmwareReloaded => Sys2Proof.Machine.execFirmwareReloaded s
  | .mirrorPullStart => Sys2Proof.Machine.execMirrorPullStart s
  | .mirrorPullDone status header bodyCrc secCrcs => Sys2Proof.Machine.execMirrorPullDone status header bodyCrc secCrcs s
  | .mirrorWaitExpire => Sys2Proof.Machine.execMirrorWaitExpire s
  | .brownout => Sys2Proof.Machine.execBrownout s
  | .eventSourceEdge source => Sys2Proof.Machine.execEventSourceEdge source s
  | .levelSourceChange source => Sys2Proof.Machine.execLevelSourceChange source s
  | .evcCoalesceExpire source => Sys2Proof.Machine.execEvcCoalesceExpire source s
  | .faultEvent unit src inst access addr port slice detail => Sys2Proof.Machine.execFaultEvent unit src inst access addr port slice detail s
  | .faultWindowExpire unit src inst => Sys2Proof.Machine.execFaultWindowExpire unit src inst s
  | .heartbeatTimeout core both => Sys2Proof.Machine.execHeartbeatTimeout core both s
  | .coreStateError core => Sys2Proof.Machine.execCoreStateError core s
  | .recoveryComplete => Sys2Proof.Machine.execRecoveryComplete s
  | .engineTestDone engine pass => Sys2Proof.Machine.execEngineTestDone engine pass s
  | .octantRejoin octant => Sys2Proof.Machine.execOctantRejoin octant s
  | .porAssert => Sys2Proof.Machine.execPorAssert s
  | .porRelease mgr refclk test flash => Sys2Proof.Machine.execPorRelease mgr refclk test flash s
  | .coldRailsGood board => Sys2Proof.Machine.execColdRailsGood board s
  | .coldRailTimeout => Sys2Proof.Machine.execColdRailTimeout s
  | .firmwareAuthDone active a0 a1 b0 b1 v0 v1 => Sys2Proof.Machine.execFirmwareAuthDone active a0 a1 b0 b1 v0 v1 s
  | .thermalTrip die temp => Sys2Proof.Machine.execThermalTrip die temp s
  | .vstbyPowerCycle => Sys2Proof.Machine.execVstbyPowerCycle s
  | .thermalWarning die temp => Sys2Proof.Machine.execThermalWarning die temp s
  | .planeTestDone pass => Sys2Proof.Machine.execPlaneTestDone pass s
  | .standbySelftestDone pass => Sys2Proof.Machine.execStandbySelftestDone pass s
  | .fwStagingDone ok => Sys2Proof.Machine.execFwStagingDone ok s

end Sys2Proof.Machine
end

