-- ==== Sys2Proof/Machine/Step.lean ====
section
/-! DEFINITION. One step: the command at the front of the queue runs; on an empty queue time moves on. -/
namespace Sys2Proof.Machine

/-- With no command waiting, DEVICE_TIME advances by its unit of 1 ns (R9), fault windows that end close (R455), and what
follows of itself happens as after a command (log entry 3). -/
def State.tick (s : State) : State := { s with dev := (s.dev.advance (s.dev.now + 1)).settleAll }

/-- The command at the front of the queue runs with the queue's rest; an empty queue lets time pass (log entry 2). -/
def step (s : State) : Host.Outcome State Fault Refusal :=
  match s.pending with
  | [] => .next s.tick
  | c :: rest => exec c { s with pending := rest }

/-- `s` with the command a word spells at the front of its queue; no word of the table spells one. -/
def State.withFetchWord (s : State) (nbits w : Nat) : State :=
  match decodeTableWord nbits w with
  | some c => { s with pending := c :: s.pending }
  | none => s

end Sys2Proof.Machine
end

