-- ==== Sys2Proof/Safety.lean ====
section
/-! DEFINITION. The terms statements use: what a command leaves once the block has settled, when a register access is
carried out, and the invariants of the block. -/
namespace Sys2Proof.Machine

/-- `s` with the block at `d` once what follows every command has happened (log entry 3). -/
def State.settled (s : State) (d : Dev) : State := { s with dev := d.settleAll }

/-- The port has reported the latency tolerance it has now, or reports none. -/
def Dev.ltrTold (d : Dev) (n : Nat) : Bool :=
  !(d.port n).ext.ltrEn || d.hubOff || !d.canIssue n || d.egressHeld n || (d.port n).ltrSent == some (d.ltrValue n)

/-- Nothing is left to settle: no read is to fail, no held profile request may go on, no deferral is over, no link has a framing error behind
messages all taken, no automatic action, ended lane test or retirement waits, no enabled window names a FREE slice, no read stream that
nobody needs is open, every slice's TEST_BUSY says whether a unit it uses is under test, and every port has reported its latency
tolerance. -/
def Dev.quiet (d : Dev) : Bool :=
  d.reads.all (fun r => !r.dead) && (!d.sch.profWait || d.mgt.staging.isSome || d.profBusy)
    && (List.range 8).all (fun n => !d.flag (HP_FLR_MOULT_DEFERRED n) || d.deferring n)
    && d.lnk.links.keys.all (fun l => !((d.link l).sess.dead && (d.link l).inbox.isEmpty))
    && d.liveSlices.all (fun s => d.flag (SLC_STATE_TEST_BUSY s) == d.inTest s) && (List.range 8).all (fun n => d.ltrTold n)
    && d.flt.acts.isEmpty && d.lnk.ended.isEmpty && d.lnk.retiring.isEmpty
    && d.regs.all (fun e =>
      let a := e.1 / 32
      let o := a - 0x1010000
      !(decide (0x1010000 ≤ a ∧ a < 0x1020000 ∧ o % 0x20 = 0 ∧ e.1 % 32 = 0 ∧ e.2 = 1)
        && d.sliceState (d.winSlice (o / 0x2000) (o % 0x2000 / 0x20)) == 0))
    && d.activeLinks.all (fun l => (d.link l).streams.all (fun x =>
      !(x.kind == 1 && !x.cancelled && !x.timedOut && decide (x.slot < 2 ^ 20) && !d.streamCurrent x)))

/-- A manager access to BAR0 offset `a` is carried out at once: the hub has power, the device is not in GRAVE, the set-up
space is unlocked, and the unit is on and awake (R45, R47, R401, R466, R468). -/
def Dev.setupOpen (d : Dev) (a : Nat) : Bool :=
  !d.hubOff && !d.flt.grave && !d.flag GLB_SETUP_LOCK_LOCKED && !d.addrOff a && (d.asleep a).isNone

/-- The block as a register's own effect finds it: the unlock sequence restarts and an awake domain's idle time too. -/
def Dev.opened (d : Dev) (a : Nat) : Dev := Dev.touch { d with keyHalf := false } a

/-- The admin command in slot `n` has started (R130). -/
def Dev.started (d : Dev) (n : Nat) : Dev := d.setEntry n { d.entry n with state := 2 }

/-- A register whose write has no effect beyond the access types of its fields. -/
def plainReg (a : Nat) : Bool :=
  (unitAt a).isNone && (regIdx JNL_REGION_LO 4 3 a).isNone && (regIdx (SCH_SIGN_KEY 0) 4 24 a).isNone
    && (regIdx (SLC_PERM 0 0) 4 0x40000 a).isNone && (winReg a).isNone && (regIdx (LNK_CTRL 0) 0x1000 512 a).isNone
    && (regIdx (BAY_CTRL 0) 0x1000 64 a).isNone && (regIdx (GLB_TEMP 0) 4 11 a).isNone
    && (regIdx (HP_OFF_ACCESS 0) 0x10000 8 a).isNone && (regIdx (EVC_SRC_CFG 0) 8 512 a).isNone
    && (regIdx (EVC_PENDING 0) 4 16 a).isNone && (regIdx (EVC_THRESHOLD 0) 0x1000 8 a).isNone
    && (regIdx (EVC_EOI 0) 0x1000 8 a).isNone
    && !([GLB_SETUP_KEY, GLB_PROFILE, GLB_POWER_CMD, GLB_LEDGER_STATUS, AON_WAKE_ARM, AON_ECLOSION_ACK, MEM_STAGE, MEM_TRAIN,
         MEM_GEOMETRY, SPR_MEMTEST, BAY_MODEL_LIM].contains a)

/-- No ENABLED window names a FREE slice (R338). -/
def Dev.windowsBound (d : Dev) : Prop :=
  ∀ n w, n < 8 → w < 256 → d.winOn n w = true → d.sliceState (d.winSlice n w) ≠ 0

/-- Every register field outside `fs` reads as it did. -/
def Dev.regsBut (fs : List Fld) (d e : Dev) : Prop := ∀ f : Fld, f.key ∉ fs.map Fld.key → e.rd f = d.rd f

/-- Nothing but the fields in `fs` differs: every other register, queue, slice, item, link, window, bay and power state is
as it was, and nothing was put out. -/
def Dev.changes (fs : List Fld) (d e : Dev) : Prop := { e with regs := d.regs } = d ∧ Dev.regsBut fs d e

end Sys2Proof.Machine
end

