-- ==== Sys2Proof/Certificates/Slice0/Obligations.lean ====
section
/-! DEFINITION. The statements about the model, for the provers. A completion clause ends in the state the rules give, after
which the block settles (log entry 3); `TimePassesOnAnEmptyQueue` says when that changes nothing, so that an explicit next
state is also the command's frame. -/
open Sys2Proof Sys2Proof.Machine

/-! ## The queue, reset and time -/

/-- Step takes the command at the front of the queue and is exec of it with the queue's rest; every command is carried out
and leaves the rest of the queue as it is (log entry 1: an event that cannot occur leaves the block as it is). -/
def Obligations.StepIsExecOfTheFrontCommand : Prop :=
  (∀ (s : State) (c : Instr) (rest : List Instr), s.pending = c :: rest → step s = exec c { s with pending := rest })
    ∧ (∀ (c : Instr) (s : State), ∃ d : Dev, exec c s = .next { s with dev := d })

/-- On an empty queue DEVICE_TIME counts one nanosecond, and nothing else changes of a quiet block with no fault window open
between two multiples of 100 µs, at which the heartbeats advance (the model's choices, log entries 2 and 17).
A block with no dead read, held profile request that may go on, deferral that is over, framing error with nothing left to take, automatic action, ended lane test, waiting retirement, orphaned window,
unneeded stream, stale TEST_BUSY or unreported latency tolerance left is as it was once it has settled. -/
def Obligations.TimePassesOnAnEmptyQueue : Prop :=
  (
      ∀ s : State, s.pending = [] → step s = .next (s.settled (s.dev.advance (s.dev.now + 1)))
        ∧ (s.dev.flt.wins = [] → s.dev.now / 100000 = (s.dev.now + 1) / 100000 → Dev.quiet { s.dev with now := s.dev.now + 1 } = true →
          step s = .next { s with dev := { s.dev with now := s.dev.now + 1 } }))
  ∧ (
     ∀ d : Dev, d.quiet = true → d.settleAll = d)

/-- Reset: every register field holds its Reset value, no command waits, and no queue, slice, item, read, event, window or
link holds anything; among the values are the part's identity, the set-up lock, the bay limits and the engine map (R17).
At reset no window is enabled (R338). -/
def Obligations.ResetHoldsTheResetValues : Prop :=
  (
      (∀ f : Fld, State.reset.dev.rd f = resetField f.key)
        ∧ State.reset.pending = [] ∧ State.reset.dev.out = [] ∧ State.reset.dev.jnl = [] ∧ State.reset.dev.queues = []
        ∧ State.reset.dev.slices = [] ∧ State.reset.dev.work = [] ∧ State.reset.dev.reads = [] ∧ State.reset.dev.seqQ = []
        ∧ State.reset.dev.lnk = {} ∧ State.reset.dev.brg = {}
        ∧ State.reset.dev.evc = {} ∧ State.reset.dev.flt = {} ∧ State.reset.dev.now = 0
        ∧ State.reset.dev.rd GLB_SETUP_LOCK_LOCKED = 1 ∧ State.reset.dev.rd (BAY_LIMIT_ILIM 5) = 0x30
        ∧ State.reset.dev.rd (BAY_STATUS_STATE 5) = 0 ∧ State.reset.dev.rd JNL_REGION_SIZE_SIZE = 8
        ∧ (∀ l, l < 64 → State.reset.dev.rd (ENG_MAP_PHYS l) = l / 8 * 9 + l % 8))
  ∧ (
     State.reset.dev.windowsBound)

/-- No enabled window names a FREE slice after any step, whatever the state before it (R338). -/
def Obligations.EveryStepLeavesWindowsBound : Prop :=
  ∀ s t : State, step s = .next t → t.dev.windowsBound

/-- The epoch is 2.62144 µs whatever the profile: an epoch is 65,536 units of 40 ps of DEVICE_TIME, its first nanosecond is
the least one of that epoch, and no profile register takes part. -/
def Obligations.EpochLengthIsTheSameInEveryProfile : Prop :=
  ∀ (d : Dev) (e : Nat), (d.epoch = e ↔ e * 65536 ≤ d.now * 25 ∧ d.now * 25 < (e + 1) * 65536)
    ∧ (epochStart e ≤ d.now ↔ e ≤ d.epoch) ∧ (∀ r : Tab Nat, Dev.epoch { d with regs := r } = d.epoch)

/-! ## Register accesses (R2, R3, R45–R47) -/

/-- A full 32-bit write by the manager of a register without an effect of its own is its fields' access types, nothing else;
one of part of a register, of no byte, of an offset without a register, and one of another port outside its own page or while
that page is on change no register; a wider one is two, the lower register first (R2, R3, R45, R46). That a partial write of
an unlocked register that is on restarts the unlock sequence is the model's choice (log entry 78). -/
def Obligations.RegisterWritesFollowTheirAccess : Prop :=
  ∀ (s : State) (p : Fin 8) (a : BitVec 26) (v : BitVec 64),
    (p.val = s.dev.mgrPort → plainReg a.toNat = true → s.dev.setupOpen a.toNat = true →
      exec (.registerWrite p false a v 0xF#4 0#4) s
        = .next (s.settled ((s.dev.opened a.toNat).writeWord a.toNat (v.toNat % 2 ^ 32))))
    ∧ (p.val = s.dev.mgrPort → plainReg a.toNat = true → s.dev.setupOpen a.toNat = true → regFields a.toNat = none →
      exec (.registerWrite p false a v 0xF#4 0#4) s = .next (s.settled (s.dev.opened a.toNat)))
    ∧ exec (.registerWrite p false a v 0xF#4 0xF#4) s = .next (s.settled
        ((s.dev.barWrite p.val false a.toNat (v.toNat % 2 ^ 32) true).barWrite p.val false (a.toNat + 4) (v.toNat / 2 ^ 32) true))
    ∧ (∀ be : BitVec 4, p.val = s.dev.mgrPort → s.dev.setupOpen a.toNat = true → be ≠ 0#4 → be ≠ 15#4 →
      exec (.registerWrite p false a v be 0#4) s = .next (s.settled { s.dev with keyHalf := false }))
    ∧ (∀ be : BitVec 4, p.val ≠ s.dev.mgrPort →
      (0x1000 ≤ a.toNat ∨ s.dev.addrOff (HP_STATUS p.val + a.toNat) = false) →
      exec (.registerWrite p false a v be 0#4) s = .next (s.settled s.dev))
    ∧ exec (.registerWrite p false a v 0#4 0#4) s = .next (s.settled s.dev)

/-- What one write does to one field of its register: RW stores a code that is not reserved and keeps its value under a
reserved one (R6), W1C clears the bits written 1, W1S sets them, RO and WO keep what they hold; every field of another
register keeps its value. -/
def Obligations.FieldsTakeTheirAccessType : Prop :=
  ∀ (d : Dev) (a v : Nat) (l : List RField), regFields a = some l →
    (∀ f, f ∈ l →
      let old := d.rd ⟨a, f.lo, f.width⟩
      let x := bits v f.lo f.width
      (d.writeWord a v).rd ⟨a, f.lo, f.width⟩
        = (match f.acc with
          | .rw => if f.min ≤ x ∧ x ≤ f.max then x else old
          | .w1c => Nat.xor old (Nat.land old x) % 2 ^ f.width
          | .w1s => Nat.lor old x % 2 ^ f.width
          | .ro => old
          | .wo => old))
    ∧ (∀ b : Fld, b.addr ≠ a → b.lo < 32 → (d.writeWord a v).rd b = d.rd b)

/-- While the set-up space is locked, every write of the manager but that of GLB_SETUP_KEY is dropped: it sets LOCKED_WRITE,
and restarts the unlock sequence (R47); that one with part of the bytes enabled does so too is the model's choice (log 78).
The unlock sequence 0x0000_5120, 0xFFFF_AEDF: its first half is remembered, its second half then clears LOCKED, and any
other value restarts it; a read of GLB_TIME_LO returns DEVICE_TIME's low half, latches the high half and restarts it too, and
one of 64 bits returns the high half after it; an access to a unit that is off is latched for its port, be it the manager's
to any unit or another port's to its own page, and a read of one returns ones (R2, R46, R47, R52, R420, R425, R468). -/
def Obligations.LockedOffAndTimeAccesses : Prop :=
  (
      ∀ (s : State) (p : Fin 8) (a : BitVec 26) (v : BitVec 64) (be : BitVec 4), p.val = s.dev.mgrPort → a.toNat ≠ GLB_SETUP_KEY →
        s.dev.hubOff = false → s.dev.flt.grave = false → s.dev.flag GLB_SETUP_LOCK_LOCKED = true → be ≠ 0#4 →
        exec (.registerWrite p false a v be 0#4) s
          = .next (s.settled (Dev.wr { s.dev with keyHalf := false } GLB_SETUP_LOCK_LOCKED_WRITE 1)))
  ∧ (
      ∀ (s : State), s.dev.hubOff = false →
        (s.dev.flt.grave = false → s.dev.keyHalf = false →
          exec (.setupKeyWrite 0x5120#32) s = .next (s.settled { s.dev with keyHalf := true }))
        ∧ (s.dev.flt.grave = false → s.dev.keyHalf = true →
          exec (.setupKeyWrite 0xFFFFAEDF#32) s = .next (s.settled
            (Dev.wr { s.dev with keyHalf := false, pwr := { s.dev.pwr with unlocked := true } } GLB_SETUP_LOCK_LOCKED 0)))
        ∧ (∀ v : BitVec 32, s.dev.flt.grave = false → v ≠ 0x5120#32 → v ≠ 0xFFFFAEDF#32 →
          exec (.setupKeyWrite v) s = .next (s.settled { s.dev with keyHalf := false }))
        ∧ (s.dev.addrOff GLB_TIME_LO = false →
          let e := Dev.wrs { s.dev with keyHalf := false } [(GLB_TIME_LO_NS, s.dev.now), (GLB_TIME_HI_NS, s.dev.now / 2 ^ 32)]
          exec .glbTimeRead s = .next (s.settled (e.emit (.readReturn s.dev.mgrPort (s.dev.now % 2 ^ 32))))
          ∧ ∀ p : Fin 8, p.val = s.dev.mgrPort → exec (.offUnitAccess p ⟨false, BitVec.ofNat 26 GLB_TIME_LO⟩ (.read 0xFF#8)) s = .next (s.settled
              ((e.emit (.readReturn s.dev.mgrPort (s.dev.now % 2 ^ 32))).emit
                (.readReturn s.dev.mgrPort (s.dev.now / 2 ^ 32 % 2 ^ 32)))))
        ∧ (∀ (p : Fin 8) (a : BitVec 26) (v : BitVec 64) (off : Nat) (h : Bool), s.dev.flag (HP_OFF_ACCESS_VALID p.val) = false →
          (p.val = s.dev.mgrPort ∧ off = a.toNat ∧ h = false) ∨
            (p.val ≠ s.dev.mgrPort ∧ a.toNat < 0x1000 ∧ off = HP_STATUS p.val + a.toNat ∧ h = s.dev.keyHalf) →
          s.dev.addrOff off = true → off ≠ GLB_SETUP_KEY →
          let e := fun w => (Dev.wrs { s.dev with keyHalf := h } [(HP_OFF_ACCESS_VALID p.val, 1), (HP_OFF_ACCESS_WRITE p.val, w),
              (HP_OFF_ADDR_OFFSET p.val, off)]).sample (8 + p.val)
          (∀ be : BitVec 8, be.toNat / 16 = 0 → be.toNat ≠ 0 → s.dev.flt.grave = false →
              s.dev.flag GLB_SETUP_LOCK_LOCKED = false ∨ p.val ≠ s.dev.mgrPort →
            exec (.offUnitAccess p ⟨false, a⟩ (.write v be)) s = .next (s.settled (e 1)))
          ∧ exec (.offUnitAccess p ⟨false, a⟩ (.read 0x0F#8)) s = .next (s.settled ((e 0).emit (.readReturn p.val 0xFFFFFFFF)))))

/-! ## Profiles (R22–R31, R203–R206) -/

/-- GLB_PROFILE: a write while a request, a state request or a switch is pending is dropped with COLLIDE (R28); otherwise
it is stored and evaluated: refused with the first of NOT_ACTIVE, RECOVERY, NO_IMAGE and REACH_BUSY that applies, done at
once when it changes nothing or only REACH, or begun with PENDING set (R23–R30).
The events that let a profile change or a switch go on: once the clocks have settled the request is marked so, once the
engines have settled none is waited for (R29, R206). A request that changes RATE to one with its own image begins: the core's
set point is commanded first where the voltage rises, PENDING is set and the image's engines are powered (R29, R533). -/
def Obligations.ProfileRequestsAreEvaluatedAndGoOn : Prop :=
  (
      ∀ (s : State) (v : BitVec 32), s.dev.setupOpen GLB_PROFILE = true →
        let d := s.dev.opened GLB_PROFILE
        let e := d.writeWord GLB_PROFILE v.toNat
        let rate := e.rd GLB_PROFILE_RATE
        let check := e.rd GLB_PROFILE_CHECK
        let reach := e.rd GLB_PROFILE_REACH
        let same := rate = e.rd GLB_PROFILE_STATUS_CUR_RATE ∧ check = e.rd GLB_PROFILE_STATUS_CUR_CHECK
        let sameReach := reach = e.rd GLB_PROFILE_STATUS_CUR_REACH
        (d.profBusy = true → exec (.glbProfileWrite v) s = .next (s.settled (d.wr GLB_PROFILE_STATUS_COLLIDE 1)))
        ∧ (d.profBusy = false → d.mgt.staging ≠ none →
          exec (.glbProfileWrite v) s = .next (s.settled { e with sch := { e.sch with profWait := true } }))
        ∧ (d.profBusy = false → d.mgt.staging = none →
          (d.pwr.mode = 1 → exec (.glbProfileWrite v) s = .next (s.settled ((e.wr GLB_PROFILE_STATUS_RESULT 5).raise 2)))
          ∧ (d.pwr.mode ≠ 1 → e.inRecovery = true →
              exec (.glbProfileWrite v) s = .next (s.settled ((e.wr GLB_PROFILE_STATUS_RESULT 4).raise 2)))
          ∧ (d.pwr.mode ≠ 1 → e.inRecovery = false → ¬same → e.fits (e.rd GLB_PROFILE_SLOT) rate check = false →
              exec (.glbProfileWrite v) s = .next (s.settled ((e.wr GLB_PROFILE_STATUS_RESULT 2).raise 2)))
          ∧ (d.pwr.mode ≠ 1 → e.inRecovery = false → same → ¬sameReach → e.reachBusy = true →
              exec (.glbProfileWrite v) s = .next (s.settled ((e.wr GLB_PROFILE_STATUS_RESULT 3).raise 2)))
          ∧ (d.pwr.mode ≠ 1 → e.inRecovery = false → same → sameReach →
              exec (.glbProfileWrite v) s = .next (s.settled ((e.wr GLB_PROFILE_STATUS_RESULT 1).raise 2)))
          ∧ (d.pwr.mode ≠ 1 → e.inRecovery = false → same → ¬sameReach → e.reachBusy = false →
              exec (.glbProfileWrite v) s = .next (s.settled
                (((e.wr GLB_PROFILE_STATUS_CUR_REACH reach).profEpoch.wr GLB_PROFILE_STATUS_RESULT 1).raise 2)))))
  ∧ (
      ∀ s : State,
        (∀ r, s.dev.sch.prof = some r →
          exec .profileSettled s = .next (s.settled { s.dev with sch := { s.dev.sch with prof := some { r with settled := true } } }))
        ∧ exec .enginesSettled s = .next (s.settled { s.dev with eng := { s.dev.eng with settling := [] } })
        ∧ (∀ (v : BitVec 32) (g : Image), s.dev.setupOpen GLB_PROFILE = true →
          let d := s.dev.opened GLB_PROFILE
          let e := d.writeWord GLB_PROFILE v.toNat
          let rate := e.rd GLB_PROFILE_RATE
          let check := e.rd GLB_PROFILE_CHECK
          let reach := e.rd GLB_PROFILE_REACH
          let slot := e.rd GLB_PROFILE_SLOT
          let cur := e.rd GLB_PROFILE_STATUS_CUR_RATE
          d.profBusy = false → d.mgt.staging = none → d.pwr.mode ≠ 1 → e.inRecovery = false → rate ≠ cur → e.fits slot rate check = true →
          reach = e.rd GLB_PROFILE_STATUS_CUR_REACH → e.image slot = some g →
          let late := (cur == 1 && rate != 1) || (cur == 2 && rate != 2)
          let f := if late then e.setVdd rate else e
          exec (.glbProfileWrite v) s = .next (s.settled
            ((Dev.wr { f with sch := { f.sch with prof := some ⟨rate, check, reach, slot, none, !late⟩ } }
              GLB_PROFILE_STATUS_PENDING 1).powerNamed g))))

/-! ## Host ports (R33–R69, R552) -/

/-- A port's link and configuration: link up and down, Command and Device Control bits, PASID Enable, the requester ID, the
D-states, PME_Turn_Off, the BAR4 size, MSI-X masks (R38, R39, R49, R50, R52–R55, R69, R552).
A Function Level Reset or PERST_N on a port whose slices are in no period of R90 holds egress, disables its windows,
moults its slices and returns its configuration; the manager port's also locks the set-up space, ends the claims of T2–T7,
fails a pull of the mirror (log entry 117) and is a cause against a diapause entry. A port that trains in GRAVE reports it. With a slice in such a period, or with moults deferred already, MOULT_DEFERRED is set and
egress stays held while a slice of the port waits for its reset moult (R57, R62–R65). -/
def Obligations.HostPortsChangeAndReset : Prop :=
  (
      ∀ (s : State) (n : Fin 8),
        let d := s.dev
        let p := s.dev.port n.val
        (∀ (sp : Fin 8) (w : Fin 17), d.hubOff = false → p.perst = false → p.linkUp = false →
          let e := (((d.setPort n.val { p with linkUp := true, l23 := false, ltrSent := none }).wrs
            [(HP_STATUS_SPEED n.val, sp.val), (HP_STATUS_WIDTH n.val, w.val), (HP_STATUS_FLIT n.val, b2n (decide (6 ≤ sp.val)))]).bootStage).portOpens n.val
          exec (.hostLinkUp n sp w) s = .next (s.settled (if e.flt.grave then e.aer n.val (.uncorrectableInternal true) else e.scarGrave)))
        ∧ (d.hubOff = false → p.linkUp = true →
          exec (.hostLinkDown n) s = .next (s.settled (((d.setPort n.val { p with linkUp := false, l23 := false }).wrs
            [(HP_STATUS_SPEED n.val, 0), (HP_STATUS_WIDTH n.val, 0), (HP_STATUS_FLIT n.val, 0)]).commitTry)))
        ∧ (∀ c : PortCtl, d.cfgOpen n.val = true →
          exec (.busMasterEnable n c) s = .next (s.settled ((d.setPort n.val { p with
            bme := c.bme, mse := c.mse, relaxedEn := c.relaxed, noSnoopEn := c.noSnoop, idoEn := c.ido, tag10 := c.tag10,
            uieMasked := c.uieMask, uieFatal := c.uieFatal, ext := c.ext,
            aerStatus := if c.aerClear then [] else p.aerStatus,
            hdrLog := if c.aerClear then none else p.hdrLog }).portOpens n.val)))
        ∧ (d.cfgOpen n.val = true → exec (.pasidEnable n true) s
            = .next (s.settled ((((d.setPort n.val { p with pasidEn := true }).wr (HP_STATUS_PASID_EN n.val) 1).flushHeld n.val).fetchPort n.val)))
        ∧ (d.cfgOpen n.val = true → exec (.pasidEnable n false) s
            = .next (s.settled ((d.setPort n.val { p with pasidEn := false }).wr (HP_STATUS_PASID_EN n.val) 0)))
        ∧ (∀ id : BitVec 16, d.cfgOpen n.val = true → n.val ≠ d.mgrPort →
          exec (.reqIdChange n id) s = .next (s.settled ((d.portSlices n.val).foldl
            (fun e t => if t ≠ 0 ∧ e.rd (SLC_BIND_REQ_ID t) ≠ id.toNat then e.wr (SLC_STATE_ID_MISMATCH t) 1 else e)
            (d.setPort n.val { p with reqId := id.toNat }))))
        ∧ (d.cfgOpen n.val = true → n.val ≠ d.mgrPort → exec (.d3hotEntry n) s = .next (s.settled
            ((d.setPort n.val { p with d3 := true }).wrs [(HP_STATUS_DSTATE n.val, 3), (HP_STATUS_EGRESS_HOLD n.val, 1)])))
        ∧ (d.cfgOpen n.val = true → p.d3 = true → d.flag (HP_FLR_MOULT_DEFERRED n.val) = false →
          exec (.d0Return n) s = .next (s.settled
            (((((d.setPort n.val { p with d3 := false }).wr (HP_STATUS_DSTATE n.val) 0).resumeEgress n.val).sendPending n.val).fetchPort n.val)))
        ∧ (d.hubOff = false → p.linkUp = true → p.l23 = false → exec (.pmeTurnOff n) s = .next (s.settled
            (((d.setPort n.val { p with l23 := true }).emit (.pmeToAck n.val)).commitTry)))
        ∧ (∀ log2 : Nat, d.cfgOpen n.val = true → p.mse = false → 30 ≤ log2 → log2 ≤ 40 → exec (.bar4Resize n log2) s = .next (s.settled
            ((d.setPort n.val { p with bar4 := log2 }).winGoneAll
              (fun m w => m == n.val && decide (2 ^ log2 < d.winBase n.val w + d.winSize n.val w)) 3)))
        ∧ (∀ v : Fin 2048, d.cfgOpen n.val = true → exec (.msixUnmask n true false v false) s = .next (s.settled
            ((d.setPort n.val { p with msixEn := true, fnMask := false, unmasked := setAdd v.val p.unmasked }).sendPending n.val)))
        ∧ (∀ v : Fin 2048, d.cfgOpen n.val = true → exec (.msixUnmask n true false v true) s = .next (s.settled
            ((d.setPort n.val { p with msixEn := true, fnMask := false, unmasked := setDel v.val p.unmasked }).sendPending n.val))))
  ∧ (
      ∀ (s : State) (n : Fin 8),
        let d := s.dev
        let reset := fun (d : Dev) (p : Port) =>
          let e := ((d.inc (HP_FLR_COUNT n.val)).wrs
            [(HP_STATUS_EGRESS_HOLD n.val, 1), (HP_STATUS_DSTATE n.val, 0), (HP_STATUS_PASID_EN n.val, 0)]).bridgeReset n.val
          let e := e.setPort n.val p
          let l := Dev.wr { e with keyHalf := false } GLB_SETUP_LOCK_LOCKED 1
          let l := { l with reads := l.reads.map (fun (r : HRead) => if r.why == ReadFor.mirror then { r with dead := true, ecc := true } else r) }
          let e := if n.val = e.mgrPort then (l.endClaims [2, 3, 4, 5, 6, 7]).portCause else e
          (e.portSlices n.val).foldl (fun d t => d.askMoult t none true none) e
        (d.cfgOpen n.val = true →
          let e := reset d (d.port n.val).flr
          (d.flag SLC_GLOBAL_INSTAR_BUSY = false → (d.portSlices n.val).any d.period = false → e.flag (HP_FLR_MOULT_DEFERRED n.val) = false →
            exec (.flr n) s = .next (s.settled (e.resumeEgress n.val)))
          ∧ (d.flag SLC_GLOBAL_INSTAR_BUSY = true ∨ (d.portSlices n.val).any d.period = true ∨ e.flag (HP_FLR_MOULT_DEFERRED n.val) = true →
            exec (.flr n) s = .next (s.settled ((e.wr (HP_FLR_MOULT_DEFERRED n.val) 1).deferEnd n.val))))
        ∧ (∀ (e : Dev) (t : Nat), t ∈ e.portSlices n.val → ((e.slice t).moult.map (·.reset)) = some true → e.deferEnd n.val = e)
        ∧ (let e := (d.setPort n.val { d.port n.val with perst := true }).linkLost n.val
          let f := reset e { held := (e.port n.val).flr.held }
          d.hubOff = false → d.pwr.mode ≠ 4 → e.flag SLC_GLOBAL_INSTAR_BUSY = false → (e.portSlices n.val).any e.period = false →
          f.flag (HP_FLR_MOULT_DEFERRED n.val) = false →
          exec (.perstAssert n) s = .next (s.settled ((f.resumeEgress n.val).commitTry)))
        ∧ (d.hubOff = true → exec (.perstAssert n) s = .next (s.settled (d.setPort n.val { d.port n.val with perst := true })))
        ∧ exec (.perstRelease n) s = .next (s.settled (d.setPort n.val { d.port n.val with perst := false })))

/-- How the device's own reads end, and what a port rejects: payload arrives for the work that asked for it, a failure is
captured as DMA_FAIL and ends that work; a read of more requests than its port has tags goes on with the next ones (R37); a
timeout is signalled on the port; malformed and unexpected TLPs, errors corrected by replay and Unsupported Requests are reported
through AER (R36, R48, R66, R118).
A host write of a slice on a port that can issue requests leaves with the slice's PASID in requests of at most Max_Payload
that cross no 4 KiB boundary, one of a slice with a PASID waits while PASID Enable is 0, one of an earlier instar is dropped,
and a write or read on a port that cannot issue one fails at once with DMA_FAIL captured (R35, R38, R39, R85, R552).
A domain that an access woke carries out the accesses that wait for it in order, and goes off after 10 ms without one. -/
def Obligations.RequestsReadsAndDomains : Prop :=
  (
      ∀ (s : State), s.dev.hubOff = false →
        let d := s.dev
        (∀ (i slot serial att off len : Nat) (l : List Byte) (r : HRead), d.reads[i]? = some r → r.issued = true →
          r.why = .payload slot serial att off len →
          (r.last = true → (r.got ++ l).length = len →
            exec (.hostReadCompletion i .success l) s = .next (s.settled ((d.endRead i).payloadIn slot serial att off len (r.got ++ l))))
          ∧ (r.last = false → l.length = r.outLen → r.instar = d.sliceInstar r.slice →
            exec (.hostReadCompletion i .success l) s = .next (s.settled (Dev.nextReads r.port d.reads.length
              { d with reads := d.reads.set i { r with got := r.got ++ l, reqs := [], sent := false, issued := false } })))
          ∧ (r.ecc = false → exec (.hostReadCompletion i .unsupported l) s
            = .next (s.settled (((d.endRead i).dmaFail r.port r.slice r.addr 3).payloadFail slot serial att)))
          ∧ (let x := (d.port r.port).ext
             let e := d.advance (r.since + (Config.completionTimeout x.cto).toNat)
             let f := e.aerHdr r.port .completionTimeout (some (e.readHdr r 0))
             x.ctoOff = false → r.ecc = false → exec (.hostCompletionTimeout i) s = .next (s.settled
              (((f.endRead i).dmaFail r.port r.slice r.addr 3).payloadFail slot serial att))))
        ∧ (∀ n : Fin 8, (d.port n.val).linkUp = true →
          let rh := d.reqHdr none none none
          let ur := fun kind addr => (d.reqHdr kind addr none).2.aerHdr n.val .unsupportedRequest (some (d.reqHdr kind addr none).1)
          let bad := fun e => (rh.2.aerHdr n.val e (some rh.1)).faultFree { unit := .hp n, src := 3, port := some n.val } true 65536
          let corrected := fun e => (d.aerHdr n.val e none).faultFree { unit := .hp n, src := 4, port := some n.val } true 65536
          (exec (.hostTlpError n .malformed) s = .next (s.settled (bad .malformed))
            ∧ exec (.hostTlpError n .flowControl) s = .next (s.settled (bad .flowControl))
            ∧ exec (.hostTlpError n .unexpected) s = .next (s.settled (rh.2.aerHdr n.val .unexpectedCompletion (some rh.1)))
            ∧ exec (.hostTlpError n .receiver) s = .next (s.settled (corrected .receiverError))
            ∧ exec (.hostTlpError n .badTlp) s = .next (s.settled (corrected .badTlp))
            ∧ exec (.hostTlpError n .badDllp) s = .next (s.settled (corrected .badDllp))
            ∧ exec (.hostTlpError n .replayTimer) s = .next (s.settled (corrected .replayTimer))
            ∧ exec (.hostTlpError n .replayRollover) s = .next (s.settled (corrected .replayRollover)))
          ∧ (∀ (a : Nat) (r : Bool), exec (.hostUnsupportedRequest n .atomic a r) s
              = .next (s.settled ((ur none none).emit (.unsupported n.val))))
          ∧ (∀ a : Nat, a / 4096 < 1024 → d.flt.grave = false → (d.sliceState (a / 4096) = 0 ∨ d.slicePort (a / 4096) ≠ n.val) →
              exec (.hostUnsupportedRequest n .doorbell a true) s = .next (s.settled
                ((ur (some 1) (some ((d.port n.val).ext.bar2 + a))).emit (.unsupported n.val)))
              ∧ exec (.hostUnsupportedRequest n .doorbell a false) s = .next (s.settled
                (ur (some 2) (some ((d.port n.val).ext.bar2 + a)))))
          ∧ (∀ a : Nat, d.flt.grave = false → d.winAt n.val a 1 = none →
              exec (.hostUnsupportedRequest n .window a true) s = .next (s.settled
                ((ur (some 1) (some ((d.port n.val).ext.bar4 + a))).emit (.unsupported n.val)))
              ∧ exec (.hostUnsupportedRequest n .window a false) s = .next (s.settled
                (ur (some 2) (some ((d.port n.val).ext.bar4 + a)))))))
  ∧ (
      ∀ (d : Dev) (t addr : Nat) (b : List Byte) (rx ns : Bool), d.flt.grave = false → d.flag (SLC_STATE_ID_MISMATCH t) = false →
        d.resetWaits t = false → d.egressHeld (d.slicePort t) = false →
        let n := d.slicePort t
        let p := d.port n
        (p.pasidEn = true ∨ d.rd (SLC_PASID_PASID t) = 0 →
        (p.linkUp = true → p.bme = true → addr % 4096 + b.length ≤ 4096 → b.length ≤ 128 * 2 ^ Nat.min p.ext.mps 3 →
          d.hostWrite t (d.sliceInstar t) rx ns addr b
          = (true, d.emit (.hostWrite n t (if p.pasidEn then some (d.rd (SLC_PASID_PASID t)) else none) (rx && p.relaxedEn)
              (ns && p.noSnoopEn) p.idoEn addr b)))
        ∧ (p.linkUp = true → p.bme = true → d.hostWrite t (d.sliceInstar t) rx ns addr b
          = (true, d.emitAll ((reqPieces (128 * 2 ^ Nat.min p.ext.mps 3) (b.length / 64 + 2) addr b.length).map (fun x =>
              .hostWrite n t (if p.pasidEn then some (d.rd (SLC_PASID_PASID t)) else none) (rx && p.relaxedEn)
                (ns && p.noSnoopEn) p.idoEn x.1 ((b.drop (x.1 - addr)).take x.2)))))
        ∧ ((p.linkUp = false ∨ p.bme = false) → d.hostWrite t (d.sliceInstar t) rx ns addr b = (false, d.dmaFail n t addr 4)
          ∧ ∀ len why, d.hostRead t addr len ns why = (false, d.dmaFail n t addr 3)))
        ∧ (∀ k, k ≠ d.sliceInstar t → d.hostWrite t k rx ns addr b = (true, d))
        ∧ (p.pasidEn = false → d.rd (SLC_PASID_PASID t) ≠ 0 →
            let m := fun (x : Nat × Nat) =>
              OutMsg.hostWrite n t none (rx && p.relaxedEn) (ns && p.noSnoopEn) p.idoEn x.1 ((b.drop (x.1 - addr)).take x.2)
            let l := reqPieces (128 * 2 ^ Nat.min p.ext.mps 3) (b.length / 64 + 2) addr b.length
            d.hostWrite t (d.sliceInstar t) rx ns addr b = (true, d.setPort n
              { p with held := p.held ++ l.map (fun x => { slice := t, instar := d.sliceInstar t, msg := m x }) })))
  ∧ (
      ∀ (f max a n : Nat), 128 ≤ max → n ≤ 64 * f → ((reqPieces max f a n).map (·.2)).sum = n ∧
        ∀ x, x ∈ reqPieces max f a n → x.2 ≤ max ∧ x.1 % 4096 + x.2 ≤ 4096 ∧ a ≤ x.1)
  ∧ (
      ∀ (s : State) (m : Domain),
        let d := s.dev
        (d.pwr.mode = 1 → d.pwr.stalls.any (fun x => x.domain == m.code) = true →
          exec (.domainReady m) s = .next (s.settled ((d.pwr.stalls.filter (fun x => x.domain == m.code)).foldl (fun d x => d.replayStall x)
            { d with pwr := { d.pwr with stalls := d.pwr.stalls.filter (fun x => x.domain != m.code),
                                         awake := d.pwr.awake.set m.code (d.now + 1) 0 } })))
        ∧ (d.pwr.mode = 1 → d.pwr.awake.get m.code 0 ≠ 0 →
          let e := d.advance (d.pwr.awake.get m.code 0 - 1 + 10000000)
          exec (.domainIdleOff m) s = .next (s.settled { e with pwr := { e.pwr with awake := e.pwr.awake.set m.code 0 0 } })))

/-! ## The event controller (R427–R445) -/

/-- A source of a target is a candidate exactly when it is pending, active at no target, of a priority that is not 0, not
masked for that target, and of a priority above the target's THRESHOLD and RUNNING.
The source a claim returns is a candidate of highest priority, and of those the lowest in number; REQUEST is 1 exactly
when there is a candidate (R430, R431, R433). -/
def Obligations.BestCandidateIsHighestThenLowest : Prop :=
  (
      ∀ (d : Dev) (t s : Nat), d.candidate t s = true ↔
        d.isPending s = true ∧ (∀ u, u < 8 → d.activeAt u s = false) ∧ d.rd (EVC_SRC_CFG_PRIORITY s) ≠ 0
          ∧ d.rd (EVC_SRC_CFG_TMASK s) / 2 ^ t % 2 = 1 ∧ d.rd (EVC_THRESHOLD_THRESHOLD t) < d.rd (EVC_SRC_CFG_PRIORITY s)
          ∧ d.running t < d.rd (EVC_SRC_CFG_PRIORITY s))
  ∧ (
      ∀ (d : Dev) (t : Nat),
        (∀ x, d.best t = some x → d.candidate t x = true
          ∧ ∀ y, (y ∈ d.evc.pend ∨ y ∈ d.evc.level) → d.candidate t y = true →
            d.rd (EVC_SRC_CFG_PRIORITY y) < d.rd (EVC_SRC_CFG_PRIORITY x)
              ∨ (d.rd (EVC_SRC_CFG_PRIORITY y) = d.rd (EVC_SRC_CFG_PRIORITY x) ∧ x ≤ y))
        ∧ (d.best t = none → ∀ y, (y ∈ d.evc.pend ∨ y ∈ d.evc.level) → d.candidate t y = false))

/-- A claim by the host of T2–T7, or by the active core of its own target, returns the best candidate with CLAIMED and the
depth after the push, makes it active and no longer pending, and pushes its priority; without a candidate or a notified
source it returns NONE and pushes nothing (R431–R433, R435, R439).
What a push leaves: the source heads the target's stack with its priority, which RUNNING then is; it is active, no edge
source of that number is pending, and every other target's stack and every register is as it was (R431, R432). -/
def Obligations.ClaimsReturnAndPushTheBest : Prop :=
  (
      ∀ (s : State) (t : Fin 8), s.dev.hubOff = false →
        let d := { s.dev with keyHalf := false }
        (2 ≤ t.val → d.addrOff (EVC_CLAIM t.val) = false →
          (∀ x, d.best t.val = some x → exec (.evcClaim t (some 0xF0#8)) s = .next (s.settled
            ((Dev.renotify d (d.push t.val x) t.val).emit
              (.readReturn d.mgrPort (x + 2 ^ 12 + ((d.stack t.val).length + 1) * 2 ^ 16)))))
          ∧ (d.best t.val = none → d.evc.notified.get t.val (0, false) = (0, false) → exec (.evcClaim t (some 0xF0#8)) s = .next (s.settled
            (Dev.emit { d with evc := { d.evc with notified := d.evc.notified.set t.val (0, false) (0, false) } }
              (.readReturn d.mgrPort ((d.stack t.val).length * 2 ^ 16))))))
        ∧ (t.val < 2 → t.val = s.dev.rd MGT_STATUS_ACTIVE_CORE → ∀ x, s.dev.best t.val = some x →
          exec (.evcClaim t none) s = .next (s.settled ((Dev.renotify s.dev (s.dev.push t.val x) t.val).emit
            (.coreReturn t.val (x + 2 ^ 12 + ((s.dev.stack t.val).length + 1) * 2 ^ 16))))))
  ∧ (
      ∀ (d : Dev) (t x : Nat), t < 8 →
        (d.push t x).stack t = (x, d.rd (EVC_SRC_CFG_PRIORITY x)) :: d.stack t
          ∧ (d.push t x).running t = d.rd (EVC_SRC_CFG_PRIORITY x) ∧ (d.push t x).active x = true ∧ x ∉ (d.push t x).evc.pend
          ∧ (∀ u, u ≠ t → (d.push t x).stack u = d.stack u) ∧ (d.push t x).regs = d.regs ∧ (d.push t x).evc.level = d.evc.level
          ∧ (∀ y, y ≠ x → (y ∈ (d.push t x).evc.pend ↔ y ∈ d.evc.pend)))

/-- An end of interrupt ends the claim only when it names the source at the top of the stack; any other is dropped with
EOI_MISMATCH (R436); T0 and T1 take theirs from the active core only (R439). A pending bit is cleared by a write of 1 (R437). Marks
are stored, or refused for a source that is not eligible and for a 33rd (R443).
An edge source's event is counted, and makes it pending when COUNT is reached or when its TIME_US has passed; a source that the
eyespot watches is then a wake (R444). A level source takes its condition's value, and one withdrawn before a claim is marked so
(R428, R429, R435). -/
def Obligations.SourcesEndAndBecomePending : Prop :=
  (
      ∀ (s : State) (t : Fin 8) (v : BitVec 32),
        (2 ≤ t.val → s.dev.setupOpen (EVC_EOI t.val) = true →
          let d := s.dev.opened (EVC_EOI t.val)
          (∀ p l, d.stack t.val = (v.toNat % 1024, p) :: l →
            exec (.evcEoi t v true) s = .next (s.settled (Dev.renotify d
              (Dev.sample { d with evc := { d.evc with stk := d.evc.stk.set t.val l [] } } (v.toNat % 1024)) t.val)))
          ∧ ((d.stack t.val).head?.map (·.1) ≠ some (v.toNat % 1024) →
            exec (.evcEoi t v true) s = .next (s.settled (d.wr (EVC_TSTATUS_EOI_MISMATCH t.val) 1))))
        ∧ (t.val < 2 → s.dev.setupOpen (EVC_EOI t.val) = true →
          exec (.evcEoi t v true) s = .next (s.settled (s.dev.opened (EVC_EOI t.val))))
        ∧ (t.val < 2 → s.dev.hubOff = false → t.val = s.dev.rd MGT_STATUS_ACTIVE_CORE →
          let d := s.dev
          (∀ p l, d.stack t.val = (v.toNat % 1024, p) :: l →
            exec (.evcEoi t v false) s = .next (s.settled (Dev.renotify d
              (Dev.sample { d with evc := { d.evc with stk := d.evc.stk.set t.val l [] } } (v.toNat % 1024)) t.val)))
          ∧ ((d.stack t.val).head?.map (·.1) ≠ some (v.toNat % 1024) →
            exec (.evcEoi t v false) s = .next (s.settled (d.wr (EVC_TSTATUS_EOI_MISMATCH t.val) 1))))
        ∧ (∀ w : Fin 16, s.dev.setupOpen (EVC_PENDING w.val) = true →
          let d := s.dev.opened (EVC_PENDING w.val)
          exec (.evcPendingClear w v) s = .next (s.settled (Dev.masked d
            { d with evc := { d.evc with pend := d.evc.pend.filter (fun x => !(x / 32 == w.val && bit v.toNat (x % 32))) } })))
        ∧ (∀ x : Fin 512, s.dev.setupOpen (EVC_SRC_CFG x.val) = true → srcExists x.val = true →
          let d := s.dev.opened (EVC_SRC_CFG x.val)
          (v.toNat / 2 ^ 16 % 2 = 1 → d.flag (EVC_SRC_CFG_EYESPOT x.val) = false →
            (srcEligible x.val = false ∨ 32 ≤ d.rd EVC_EYESPOT_MARKED) →
            exec (.eyespotMark x v) s = .next (s.settled (d.wr EVC_EYESPOT_REFUSED 1)))
          ∧ ((v.toNat / 2 ^ 16 % 2 = 0 ∨ d.flag (EVC_SRC_CFG_EYESPOT x.val) = true ∨
              (srcEligible x.val = true ∧ d.rd EVC_EYESPOT_MARKED < 32)) → exec (.eyespotMark x v) s = .next (s.settled
            (let e := d.writeWord (EVC_SRC_CFG x.val) v.toNat
             Dev.masked d (e.wr EVC_EYESPOT_MARKED ((List.range 512).filter (fun y => e.flag (EVC_SRC_CFG_EYESPOT y))).length))))))
  ∧ (
      ∀ (s : State) (x : Fin 512), s.dev.hubOff = false → srcExists x.val = true →
        let d := s.dev
        let c := d.evc.coal.get x.val (0, 0)
        let c' := (c.1 + 1, if c.1 = 0 then d.now else c.2)
        let e := { d.evc with coal := d.evc.coal.set x.val c' (0, 0) }
        (srcLevel x.val = false → d.evc.pend.contains x.val = false →
          (d.rd (EVC_SRC_COAL_COUNT x.val) ≤ c.1 + 1 → exec (.eventSourceEdge x) s = .next (s.settled
            ((Dev.notifyRise { d with evc := e } { d with evc := { e with pend := setAdd x.val e.pend } }).spotWake x.val)))
          ∧ (c.1 + 1 < d.rd (EVC_SRC_COAL_COUNT x.val) → exec (.eventSourceEdge x) s = .next (s.settled { d with evc := e }))
          ∧ (c.1 ≠ 0 → d.rd (EVC_SRC_COAL_TIME_US x.val) ≠ 0 → exec (.evcCoalesceExpire x) s = .next (s.settled
              (let f := d.advance (c.2 + 1000 * d.rd (EVC_SRC_COAL_TIME_US x.val))
               (Dev.notifyRise f { f with evc := { f.evc with pend := setAdd x.val f.evc.pend } }).spotWake x.val))))
        ∧ (srcLevel x.val = false → d.evc.pend.contains x.val = true → exec (.eventSourceEdge x) s = .next (s.settled d))
        ∧ (srcLevel x.val = true →
          (d.levelCond x.val = true → d.evc.level.contains x.val = false → exec (.levelSourceChange x) s = .next (s.settled
            (Dev.notifyRise d { d with evc := { d.evc with level := setAdd x.val d.evc.level } })))
          ∧ (d.levelCond x.val = false → d.evc.level.contains x.val = true → d.active x.val = false → exec (.levelSourceChange x) s = .next
            (s.settled { d with evc := { d.evc with level := setDel x.val d.evc.level, notified := markWithdrawn d.evc.notified x.val } }))
          ∧ (d.levelCond x.val = d.evc.level.contains x.val → exec (.levelSourceChange x) s = .next (s.settled d))
          ∧ (d.levelCond x.val = false → d.evc.level.contains x.val = true → d.active x.val = true →
            exec (.levelSourceChange x) s = .next (s.settled { d with evc := { d.evc with level := setDel x.val d.evc.level } }))))

/-! ## Slices (R68–R101) -/

/-- CREATE_SLICE: a descriptor that R82 calls invalid, or a pool too small, ends it with that status and nothing else;
otherwise the entry is cleared but for its instar, its bitmap cleared, the resources assigned, and the slice is ACTIVE, or
COCOONED with RESTORE_TARGET (R71, R72, R82, R83, R100, R101).
A slice that CREATE_SLICE may make has no other slice with its triple, its queues or its vectors on its port, and names
the port's captured requester ID (R68, R69, R71): the conditions are those of the descriptor and of the slices that are not FREE. -/
def Obligations.CreateSliceAssignsDisjointResources : Prop :=
  (
      ∀ (s : State) (n : Fin 262144), s.dev.adminReady n.val 0x80 = true →
        let d := s.dev.started n.val
        let x := (s.dev.entry n.val).desc
        let t := darg x 4 2
        (d.createBad x = true → exec (.createSlice n) s = .next (s.settled (d.finish n.val stInvalid)))
        ∧ (d.createBad x = false → d.createOver x = true → exec (.createSlice n) s = .next (s.settled (d.finish n.val stQuota)))
        ∧ (d.createBad x = false → d.createOver x = false → exec (.createSlice n) s = .next (s.settled
            (let e := ((d.clearSliceRegs t).clearPerm t).wrs
              [(SLC_STATE_STATE t, if darg x 0xA 2 % 2 = 1 then 2 else 1), (SLC_STATE_RESTORE_TARGET t, darg x 0xA 2 % 2),
               (SLC_BIND_REQ_ID t, darg x 8 2), (SLC_BIND_PORT t, darg x 6 2), (SLC_PASID_PASID t, darg x 0xC 4),
               (SLC_QUEUES_BASE t, darg x 0x10 2), (SLC_QUEUES_LAST t, darg x 0x12 2), (SLC_QUEUES_NEXT_BASE t, darg x 0x10 2),
               (SLC_QUEUES_NEXT_LAST t, darg x 0x12 2), (SLC_VECTORS_BASE t, darg x 0x14 2), (SLC_VECTORS_LAST t, darg x 0x16 2),
               (SLC_SHARE_RUNS t, darg x 0x18 2), (SLC_SHARE_RPOLL t, darg x 0x1A 2), (SLC_QUOTA_STAGE_MIB t, darg x 0x1C 2),
               (SLC_QUOTA_JNL_UNITS t, darg x 0x1E 2)]
             let e := (e.setSlice t { lastPoll := e.epoch }).clearQueues t
             (e.reassign t (darg x 0x18 2)).finish n.val stSuccess))))
  ∧ (
      ∀ (d : Dev) (x : BitVec 512), d.createBad x = false → ∀ t, t < 1024 → (t = 0 ∨ d.sliceState t ≠ 0) →
        darg x 4 2 ≠ t ∧ darg x 4 2 ≠ 0 ∧ darg x 4 2 ≤ 1023 ∧ darg x 8 2 = (d.port (darg x 6 2)).reqId
        ∧ ¬(d.slicePort t = darg x 6 2 ∧ d.rd (SLC_BIND_REQ_ID t) = darg x 8 2 ∧ d.rd (SLC_PASID_PASID t) = darg x 0xC 4)
        ∧ (t ≠ 0 → (d.rd (SLC_QUEUES_LAST t) < darg x 0x10 2 ∨ darg x 0x12 2 < d.rd (SLC_QUEUES_BASE t)))
        ∧ (t ≠ 0 → d.slicePort t = darg x 6 2 →
            (d.rd (SLC_VECTORS_LAST t) < darg x 0x14 2 ∨ darg x 0x16 2 < d.rd (SLC_VECTORS_BASE t))))

/-- Moults and destructions: MOULT_SLICE and DESTROY_SLICE of an ACTIVE slice start a moult outside a period of R90 and end
with BUSY_RECOVERY in one; a COCOONED or QUIESCED slice is freed at once; a moult that may begin does, and one whose steps are
done completes with the new instar (R82–R87, R89, R90).
Step 1 of a moult of a slice without live items: the instar goes up by one modulo 256, what was fetched and not journalled is
dropped, and every other slice keeps its instar and its state (R84). -/
def Obligations.MoultsRaiseTheInstarAndDestroy : Prop :=
  (
      ∀ (s : State) (n : Fin 262144),
        let d := s.dev.started n.val
        let t := darg (s.dev.entry n.val).desc 4 2
        (s.dev.adminReady n.val 0x82 = true → t ≠ 0 → t ≤ 1023 → d.sliceState t ≠ 0 →
          (d.period t = true → exec (.moultSlice n) s = .next (s.settled (d.finish n.val stBusy)))
          ∧ (d.period t = false → exec (.moultSlice n) s = .next (s.settled (d.askMoult t (some n.val) false none))))
        ∧ (s.dev.adminReady n.val 0x81 = true → t ≠ 0 → t ≤ 1023 →
          (d.sliceState t = 1 → d.period t = true → exec (.destroySlice n) s = .next (s.settled (d.finish n.val stBusy)))
          ∧ (d.sliceState t = 4 ∨ (d.sliceState t = 1 ∧ d.period t = false) →
              exec (.destroySlice n) s = .next (s.settled (d.askMoult t none false (some n.val))))
          ∧ (d.sliceState t = 2 ∨ d.sliceState t = 3 →
              exec (.destroySlice n) s = .next (s.settled ((d.abortDrain t).freeSlice t n.val))))
        ∧ (∀ (u : Fin 1024) (m : Moult), (s.dev.slice u.val).moult = some m →
          (m.step = 0 → s.dev.oldWork u.val = false → m.reset = false →
            exec (.moultBegin u) s = .next (s.settled ((s.dev.moultStart u.val).moultTry u.val)))
          ∧ (m.step = 7 → exec (.moultComplete u) s = .next (s.settled (s.dev.moultEnd u.val)))))
  ∧ (
      ∀ (d : Dev) (t : Nat) (m : Moult), t < 1024 → (d.slice t).moult = some m → d.sliceSlots t = [] →
        (d.moultStart t).sliceInstar t = (d.sliceInstar t + 1) % 256
          ∧ (∀ q, q ∈ d.sliceQueues t → ((d.moultStart t).queue q).fetched = [])
          ∧ ((d.moultStart t).slice t).moult = some { m with step := 4 }
          ∧ (∀ u, u < 1024 → u ≠ t → (d.moultStart t).sliceInstar u = d.sliceInstar u ∧ (d.moultStart t).sliceState u = d.sliceState u))

/-- Quiesce and cocoon: an ACTIVE slice starts to drain, a cocoon parking what has not fired; RESUME returns a QUIESCED slice,
or a COCOONED one that is not EXPORTED, to ACTIVE; any other state is INVALID_DESCRIPTOR; the drain completes when no
accepted work, or none that is not parked, is left (R79, R82, R91, R94).
SAVE_SLICE writes the image of R98 to the buffer and sets EXPORTED, or returns the length it needs; RESTORE_SLICE reads the
image from the buffer for a target, brings a good one into it, and ends with the status R82 names for one that fails a check
(R82, R95–R97); that a target whose requester ID is not its port's is no target is the model's choice (log entry 84). -/
def Obligations.SlicesDrainSaveAndRestore : Prop :=
  (
      ∀ (s : State) (n : Fin 262144),
        let d := s.dev.started n.val
        let x := (s.dev.entry n.val).desc
        let t := darg x 4 2
        let resume := darg x 6 2 % 2 = 1
        (s.dev.adminReady n.val 0x83 = true → t ≠ 0 → t ≤ 1023 →
          (resume → d.sliceState t = 3 → exec (.quiesceSlice n) s = .next (s.settled ((d.resume t).finish n.val stSuccess)))
          ∧ (¬resume → d.sliceState t = 1 → exec (.quiesceSlice n) s = .next (s.settled
              ((d.wr (SLC_STATE_DRAINING t) 1).setSlice t { d.slice t with drainCmd := some (n.val, false) })))
          ∧ (¬resume → d.sliceState t ≠ 1 → exec (.quiesceSlice n) s = .next (s.settled (d.finish n.val stInvalid))))
        ∧ (s.dev.adminReady n.val 0x84 = true → t ≠ 0 → t ≤ 1023 →
          (resume → d.sliceState t = 2 → d.flag (SLC_STATE_EXPORTED t) = false → exec (.cocoonSlice n) s = .next (s.settled
              (((d.unpark t).resume t).finish n.val stSuccess (d.parkedOf t).length)))
          ∧ (¬resume → d.sliceState t = 1 → exec (.cocoonSlice n) s = .next (s.settled
              (((d.park t).wr (SLC_STATE_DRAINING t) 1).setSlice t { d.slice t with drainCmd := some (n.val, true) })))
          ∧ (¬resume → d.sliceState t ≠ 1 → exec (.cocoonSlice n) s = .next (s.settled (d.finish n.val stInvalid))))
        ∧ (∀ (u : Fin 1024) (k : Nat),
          ((s.dev.slice u.val).drainCmd = some (k, false) → s.dev.sliceSlots u.val = [] →
            exec (.quiesceComplete u) s = .next (s.settled
              (((s.dev.wrs [(SLC_STATE_STATE u.val, 3), (SLC_STATE_DRAINING u.val, 0)]).setSlice u.val
                { s.dev.slice u.val with drainCmd := none }).finish k stSuccess)))
          ∧ ((s.dev.slice u.val).drainCmd = some (k, true) →
            (s.dev.sliceSlots u.val).all (fun i => (s.dev.entry i).state == 5) = true →
            exec (.cocoonComplete u) s = .next (s.settled
              (((s.dev.wrs [(SLC_STATE_STATE u.val, 2), (SLC_STATE_DRAINING u.val, 0)]).setSlice u.val
                { s.dev.slice u.val with drainCmd := none }).finish k stSuccess (s.dev.parkedOf u.val).length)))))
  ∧ (
      ∀ (s : State) (n : Fin 262144),
        let d := s.dev.started n.val
        let x := (s.dev.entry n.val).desc
        let t := darg x 4 2
        (s.dev.adminReady n.val 0x85 = true → t ≤ 1023 → d.sliceState t = 2 → d.flag (SLC_STATE_EXPORTED t) = false →
          (darg x 0x10 4 < d.imageLen t → exec (.saveSlice n) s = .next (s.settled (d.finish n.val stInvalid (d.imageLen t))))
          ∧ (d.imageLen t ≤ darg x 0x10 4 →
              (let h := d.hostWrite 0 (d.entry n.val).instar true false (darg x 8 8) (d.sliceImage t)
               exec (.saveSlice n) s = .next (s.settled (if h.1 then (h.2.wr (SLC_STATE_EXPORTED t) 1).finish n.val stSuccess (d.imageLen t)
                 else h.2.finish n.val stHostDma)))
              ∧ ((d.entry n.val).instar = d.sliceInstar 0 → d.egressBarred 0 = false → d.egressWaits 0 = false →
                d.canIssue (d.slicePort 0) = true → exec (.saveSlice n) s = .next (s.settled
                  (((d.emitAll (d.writeMsgs 0 true false (darg x 8 8) (d.sliceImage t))).wr (SLC_STATE_EXPORTED t) 1).finish n.val stSuccess
                    (d.imageLen t))))))
        ∧ (s.dev.adminReady n.val 0x86 = true →
          let target := t ≤ 1023 ∧ d.sliceState t = 2 ∧ d.flag (SLC_STATE_RESTORE_TARGET t) = true ∧
            d.flag (SLC_STATE_EXPORTED t) = false ∧ d.rd (SLC_BIND_REQ_ID t) = (d.port (d.slicePort t)).reqId
          (¬target → ∀ o, exec (.restoreSlice n o) s = .next (s.settled ((d.finish n.val stInvalid).answered n.val (s.dev.entry n.val).serial o)))
          ∧ (target →
              let h := d.hostRead 0 (darg x 8 8) (darg x 0x10 4) false (.sliceImage n.val (d.entry n.val).serial)
              let f := if h.1 then h.2 else h.2.finish n.val stHostDma
              exec (.restoreSlice n none) s = .next (s.settled f)
              ∧ ∀ l, exec (.restoreSlice n (some l)) s = .next (s.settled
                  (hostReadCompletion (f.reads.findIdx (HRead.forImage n.val (s.dev.entry n.val).serial)) 0 l f)))))
  ∧ (
      ∀ (s : State) (n i : Nat) (r : HRead) (l : List Byte), s.dev.hubOff = false → s.dev.reads[i]? = some r → r.issued = true →
        let d := s.dev.endRead i
        r.why = .sliceImage n (d.entry n).serial → (d.entry n).state = 2 →
        let t := darg (d.entry n).desc 4 2
        let b := r.got ++ l
        let g := b.take (0x108 + 0x40 * leAt b 0x20 4 + 0x80 * leAt b 0x28 4)
        let ends := fun st => exec (.hostReadCompletion i .success l) s = .next (s.settled (d.finish n st))
        (r.last = true → d.restorable t = true →
          (d.imageGood t g = false → ends stInvalid)
          ∧ (d.imageGood t g = true → leAt g 8 8 ≠ (d.inForce.map (·.sig)).getD 0 → ends stNotLoaded)
          ∧ (d.imageGood t g = true → leAt g 8 8 = (d.inForce.map (·.sig)).getD 0 →
              ((imageParked g).any (fun e => !d.permitted t e.desc) = true → ends stNotPermitted)
              ∧ ((imageParked g).any (fun e => !d.permitted t e.desc) = false →
                (d.rd (SLC_QUOTA_JNL_UNITS t) * 16 < (imageParked g).length → ends stQuota)
                ∧ ((imageParked g).length ≤ d.rd (SLC_QUOTA_JNL_UNITS t) * 16 →
                  exec (.hostReadCompletion i .success l) s
                    = .next (s.settled ((d.restoreFrom t g).finish n stSuccess (imageParked g).length))))))
        ∧ (r.ecc = false → exec (.hostReadCompletion i .unsupported l) s
            = .next (s.settled ((d.dmaFail r.port r.slice r.addr 3).restoreRead n (d.entry n).serial none))))

/-- SET_SHARE: accepted, it waits for the next boundary; a raise the pools cannot supply is QUOTA_EXCEEDED and changes
nothing, one for slice 0 that names more than the staging quota, for a slice in no state that takes it, or with a value outside
its range is INVALID_DESCRIPTOR, and one for a slice whose shrink is pending waits. A shrink's queues are released once
idle, raising source 16. SLC_PERM is written for a live tenant and dropped for a FREE slice and slice 0 (R70, R92, R93, R100). -/
def Obligations.SharesShrinksAndPermissions : Prop :=
  ∀ (s : State),
    (∀ n : Fin 262144, s.dev.adminReady n.val 0x87 = true →
      let d := s.dev.started n.val
      let x := (s.dev.entry n.val).desc
      let t := darg x 4 2
      let m := darg x 6 2
      s.dev.flag (SLC_STATE_SHRINK_PENDING t) = false →
      let more := m % 2 = 1 ∨ m / 4 % 2 = 1 ∨ m / 8 % 2 = 1
      (t = 0 → more → exec (.setShare n) s = .next (s.settled (d.finish n.val stInvalid)))
      ∧ (1023 < t ∨ d.sliceState t = 0 ∨ d.sliceState t = 4 ∨ d.flag (SLC_STATE_EXPORTED t) = true ∨ d.shareBad t x = true →
          exec (.setShare n) s = .next (s.settled (d.finish n.val stInvalid)))
      ∧ (t ≠ 0 ∨ ¬more → t ≤ 1023 → d.sliceState t = 1 ∨ d.sliceState t = 2 ∨ d.sliceState t = 3 → d.flag (SLC_STATE_EXPORTED t) = false →
        d.shareBad t x = false →
        (d.shareOver t x = true ∨ d.shareOverLast t x = true → exec (.setShare n) s = .next (s.settled (d.finish n.val stQuota)))
        ∧ (d.shareOver t x = false → d.shareOverLast t x = false →
            exec (.setShare n) s = .next (s.settled (d.setSlice t { d.slice t with
            share := some ⟨n.val, m, darg x 8 2, darg x 0xC 2, darg x 0xE 2, darg x 0x10 2⟩ })))))
    ∧ (∀ (n : Fin 262144) (t : Nat), t = darg (s.dev.entry n.val).desc 4 2 → t ≤ 1023 → s.dev.flag (SLC_STATE_SHRINK_PENDING t) = true →
        exec (.setShare n) s = .next (s.settled s.dev))
    ∧ (∀ u : Fin 1024, s.dev.flag (SLC_STATE_SHRINK_PENDING u.val) = true →
      (∀ q, q ∈ s.dev.sliceQueues u.val → s.dev.rd (SLC_QUEUES_NEXT_LAST u.val) < q →
        let c := s.dev.queue q
        s.dev.owed q = 0 ∧ c.fetched = [] ∧ (c.state ≠ 1 ∨ c.limit.getD c.sqPi = c.sqHead)) →
      exec (.shrinkRelease u) s
        = .next (s.settled ((s.dev.shrinkTo u.val (s.dev.rd (SLC_QUEUES_NEXT_LAST u.val))).raise 16)))
    ∧ (∀ (u : Fin 1024) (w : Fin 256) (v : BitVec 32), s.dev.setupOpen (SLC_PERM u.val w.val) = true →
      let d := s.dev.opened (SLC_PERM u.val w.val)
      (u.val = 0 ∨ d.sliceState u.val = 0 → exec (.slcPermWrite u w v) s = .next (s.settled d))
      ∧ (u.val ≠ 0 → d.sliceState u.val ≠ 0 →
          exec (.slcPermWrite u w v) s = .next (s.settled (d.writeWord (SLC_PERM u.val w.val) v.toNat))))

/-! ## Rings (R102–R134) -/

/-- The doorbell page of an ACTIVE slice, reached through its own port: a nudge fetches the record page it names, or every
one; outside ACTIVE it is held; DB_QSEL selects a queue of the slice or sets QSEL_RANGE; a configuration register is stored for
a DISABLED queue and dropped with NOT_DISABLED for another (R79, R106, R107, R113).
DB_QCMD: ENABLE of a DISABLED queue runs the checks of R108 in order and enables the queue from slot 0 with phase 1, or
sets ERR to the first failure; an ENABLED or DISABLING queue gets NOT_DISABLED, a HALTED one is left as it is. DISABLE stops
fetch and, once no accepted work remains, the queue is DISABLED (R108, R110, R115). -/
def Obligations.DoorbellPagesAndQueueStates : Prop :=
  (
      ∀ (s : State) (n : Fin 8) (u : Fin 1024) (v : BitVec 32), s.dev.hubOff = false → s.dev.dbOpen u.val = true →
        s.dev.slicePort u.val = n.val →
        let d := s.dev
        let q := d.selected u.val
        (d.pwr.mode = 0 →
          (d.sliceState u.val ≠ 1 → exec (.dbNudge n u v) s = .next (s.settled (d.wr (SLC_STATE_NUDGE_HELD u.val) 1)))
          ∧ (d.sliceState u.val = 1 → (d.port n.val).pasidEn = true ∨ d.rd (SLC_PASID_PASID u.val) = 0 →
            d.flag (SLC_STATE_ID_MISMATCH u.val) = false →
            exec (.dbNudge n u 0xFFFFFFFF) s
              = .next (s.settled ((d.recordPages u.val).foldl
                  (fun e p => if e.fetching u.val p then e else e.fetchPage u.val p false)
                  (d.setSlice u.val { d.slice u.val with lastPoll := d.epoch })))
            ∧ (d.recordPages u.val).length ≤ 128
            ∧ (v.toNat ≤ d.rd (SLC_QUEUES_LAST u.val) - d.rd (SLC_QUEUES_BASE u.val) →
                v ≠ 0xFFFFFFFF →
                let p := (d.queue (d.rd (SLC_QUEUES_BASE u.val) + v.toNat)).recAddr / 4096
                ((d.recordPages u.val).contains p = true →
                  exec (.dbNudge n u v) s = .next (s.settled (if d.fetching u.val p then d else d.fetchPage u.val p false)))
                ∧ ((d.recordPages u.val).contains p = false → exec (.dbNudge n u v) s = .next (s.settled d)))
            ∧ (d.rd (SLC_QUEUES_LAST u.val) - d.rd (SLC_QUEUES_BASE u.val) < v.toNat → v ≠ 0xFFFFFFFF →
                exec (.dbNudge n u v) s = .next (s.settled d))))
        ∧ (v.toNat % 65536 ≤ d.rd (SLC_QUEUES_LAST u.val) - d.rd (SLC_QUEUES_BASE u.val) →
            exec (.dbQselWrite n u v) s = .next (s.settled (d.setSlice u.val { d.slice u.val with qsel := v.toNat % 65536 })))
        ∧ (d.rd (SLC_QUEUES_LAST u.val) - d.rd (SLC_QUEUES_BASE u.val) < v.toNat % 65536 →
            exec (.dbQselWrite n u v) s = .next (s.settled (d.setQueue q { d.queue q with err := 6 })))
        ∧ ((d.queue q).state ≠ 0 → ∀ r, exec (.dbQueueConfigWrite n u r v) s
            = .next (s.settled (d.setQueue q { d.queue q with err := 5 })))
        ∧ ((d.queue q).state = 0 →
            exec (.dbQueueConfigWrite n u 0 v) s = .next (s.settled (d.setQueue q { d.queue q with
              sqBase := (d.queue q).sqBase / 2 ^ 32 * 2 ^ 32 + v.toNat }))
            ∧ exec (.dbQueueConfigWrite n u 3 v) s = .next (s.settled (d.setQueue q { d.queue q with
              cqBase := (d.queue q).cqBase % 2 ^ 32 + v.toNat * 2 ^ 32 }))
            ∧ exec (.dbQueueConfigWrite n u 6 v) s = .next (s.settled (d.setQueue q { d.queue q with
              sqLog2 := v.toNat % 32, cqLog2 := v.toNat / 256 % 32 }))
            ∧ exec (.dbQueueConfigWrite n u 7 v) s = .next (s.settled (d.setQueue q { d.queue q with
              irqCount := v.toNat % 256, irqTime := v.toNat / 256 % 65536 }))))
  ∧ (
      ∀ (s : State) (n : Fin 8) (u : Fin 1024), s.dev.hubOff = false → s.dev.dbOpen u.val = true → s.dev.slicePort u.val = n.val →
        let d := s.dev
        let q := d.selected u.val
        let c := d.queue q
        let sized := 1 ≤ c.sqLog2 ∧ c.sqLog2 ≤ 16 ∧ 1 ≤ c.cqLog2 ∧ c.cqLog2 ≤ 16
        let aligned := c.sqBase % 4096 = 0 ∧ c.cqBase % 4096 = 0 ∧ c.recAddr % 8 = 0
        let vector := d.rd (SLC_VECTORS_BASE u.val) + c.vecOff ≤ d.rd (SLC_VECTORS_LAST u.val)
        let fails := fun e => exec (.queueEnable n u) s = .next (s.settled (d.setQueue q { c with err := e }))
        (c.state = 0 → d.sliceState u.val ≠ 1 → fails 7)
        ∧ (c.state = 0 → d.sliceState u.val = 1 → ¬sized → fails 1)
        ∧ (c.state = 0 → d.sliceState u.val = 1 → sized → ¬aligned → fails 2)
        ∧ (c.state = 0 → d.sliceState u.val = 1 → sized → aligned → ¬vector → fails 3)
        ∧ (c.state = 0 → d.sliceState u.val = 1 → sized → aligned → vector → 16000 < c.irqTime → fails 4)
        ∧ (c.state = 0 → d.sliceState u.val = 1 → sized → aligned → vector → c.irqTime ≤ 16000 →
            ∃ c' : QCtx, c'.state = 1 ∧ c'.err = 0 ∧ c'.sqHead = 0 ∧ c'.cqTail = 0 ∧ c'.phase = true ∧ c'.fetched = []
              ∧ c'.sqBase = c.sqBase ∧ c'.cqBase = c.cqBase ∧ c'.recAddr = c.recAddr ∧ c'.sqLog2 = c.sqLog2 ∧ c'.cqLog2 = c.cqLog2
              ∧ exec (.queueEnable n u) s = .next (s.settled (d.setQueue q c')))
        ∧ (c.state = 1 ∨ c.state = 2 → fails 5)
        ∧ (c.state = 3 → exec (.queueEnable n u) s = .next (s.settled d))
        ∧ (c.state = 1 ∨ c.state = 3 → exec (.queueDisable n u) s
            = .next (s.settled (Dev.setQueue { d with reads := d.reads.map (fun r => if r.ofQueue q then { r with why := .dropped } else r) } q
                { c with state := 2, fetched := [], reading := false, sgl := none, sglFail := false, sglBusy := false })))
        ∧ (c.state = 0 → exec (.queueDisable n u) s = .next (s.settled d))
        ∧ (∀ x : Fin 65536, (d.queue x.val).state = 2 → d.owed x.val = 0 →
            exec (.queueDisabled x) s = .next (s.settled (d.setQueue x.val { d.queue x.val with state := 0 }))))

/-- A record page's read takes each enabled queue's record: an index more than a ring ahead halts the queue with OVERRUN and
a report that names it. Descriptors and a scatter list read are kept in ring order; a failed descriptor read halts the queue
with RING_DMA (R114, R115, R118, R120).
A record that shows SQ_PI more than SQ_ENTRIES ahead of SQ_HEAD halts its queue: ERR is OVERRUN, and one report with CID
0xFFFF, INVALID_DESCRIPTOR and the offending SQ_PI enters the completion sequencer last (R115).
The completion sequencer takes the oldest request: a stale item is discarded, an admin command's counted now and any other's
when its slice moulted, a live one's entry is written and its slot released once the entry has left at host egress (R257), a report
of an earlier instar is dropped, an abort wins against the descriptor it named while that is uncompleted. A coalescing timer fires its queue's interrupt. A FENCE at
its start completes; an ABORT without a target is ALREADY_COMPLETE and one with a target asks the sequencer
(R85, R126, R127, R215, R243–R245). -/
def Obligations.RingReadsHaltsAndCompletions : Prop :=
  (
      ∀ (s : State) (i : Nat) (r : HRead), s.dev.reads[i]? = some r →
        let d := s.dev.endRead i
        r.instar = d.sliceInstar r.slice → r.ecc = false →
        (∀ (u : Fin 1024) (g : BitVec 52) (b : Bool) (l : List (BitVec 64)), r.why = .record u.val g.toNat b → r.slice = u.val →
          s.dev.findRead (fun x => x.why == .record u.val g.toNat true || x.why == .record u.val g.toNat false) = some i →
          exec (.recordFetchDone u g (some l)) s = .next (s.settled
            (((d.sliceQueues u.val).filter (fun q => (d.queue q).state == 1 && (d.queue q).recAddr / 4096 == g.toNat)).foldl
              (fun e q => e.takeRecord q (l.getD ((d.queue q).recAddr % 4096 / 8) 0) b) d)))
        ∧ (∀ (q : Fin 65536) (k : Nat), r.why = .desc q.val k → (d.queue q.val).state = 1 → d.queueSlice q.val = r.slice →
          s.dev.findRead (fun x => match x.why with | .desc y _ => y == q.val | _ => false) = some i →
          (∀ l, exec (.descriptorReadDone q (some l)) s = .next (s.settled (d.setQueue q.val { d.queue q.val with
              reading := false, fetched := l.take k })))
          ∧ (let f := d.dmaFail r.port r.slice r.addr 3
             r.instar = f.sliceInstar r.slice → (f.queue q.val).state = 1 → f.queueSlice q.val = r.slice →
             exec (.descriptorReadDone q none) s = .next (s.settled
              ((f.setQueue q.val { f.queue q.val with reading := false }).haltQueue q.val 9 3 r.addr 0x20 0))))
        ∧ (∀ (q : Fin 65536) (l : List Byte) (x : BitVec 512) (t : List (BitVec 512)), r.why = .sgl q.val →
          d.queueSlice q.val = r.slice →
          s.dev.findRead (fun x => x.why == .sgl q.val) = some i → (d.queue q.val).sglBusy = true →
          (d.queue q.val).fetched = x :: t → r.last = true →
          exec (.sglReadDone q (some l)) s = .next (s.settled (descriptorAccept q.val (d.setQueue q.val { d.queue q.val with
              sglBusy := false, sgl := some (sglEntries (dSglCount x % 65536) (r.got ++ l)) })))))
  ∧ (
      ∀ (d : Dev) (q : Nat) (w : BitVec 64) (b : Bool),
        2 ^ (d.queue q).sqLog2 < (w.toNat % 2 ^ 32 + 2 ^ 32 - (d.queue q).sqHead) % 2 ^ 32 →
        ((d.takeRecord q w b).queue q).state = 3 ∧ ((d.takeRecord q w b).queue q).err = 8
          ∧ (∃ l, (d.takeRecord q w b).seqQ
              = l ++ [.queueReport q (d.queueSlice q) (d.sliceInstar (d.queueSlice q)) 0xFFFF 0x32 (w.toNat % 2 ^ 32) true])
          ∧ (d.takeRecord q w b).jnl = d.jnl)
  ∧ (
      ∀ s : State,
        (∀ (n : Nat) (l : List SeqReq), s.dev.seqQ = .done n :: l → s.dev.flt.grave = false → (s.dev.entry n).state = 7 →
          let e := s.dev.entry n
          let d : Dev := { s.dev with seqQ := l }
          (e.instar ≠ d.sliceInstar e.slice → exec .completionSequence s
              = .next (s.settled (if 0x80 ≤ dOpcode e.desc then (d.release n).incSat (SLC_STALE_DISCARDED e.slice) else d.release n)))
          ∧ (e.instar = d.sliceInstar e.slice →
              let f := d.writeCq e.queue (dCid e.desc) e.status e.result e.resultHi e.instar (!dNoIrq e.desc)
              let p := d.slicePort e.slice
              let k := (d.port p).held.length
              ((f.port p).held[k]? = none → exec .completionSequence s = .next (s.settled
                ((f.aborts.filter (fun a => a.2 == n)).foldl (fun g a => g.complete a.1 0 0 0) (f.release n))))
              ∧ (∀ h, (f.port p).held[k]? = some h → exec .completionSequence s = .next (s.settled
                (f.setPort p { f.port p with held := (f.port p).held.set k { h with entry := some (n, e.serial) } })))))
        ∧ (∀ (q t k cid st res : Nat) (irq : Bool) (l : List SeqReq), s.dev.seqQ = .queueReport q t k cid st res irq :: l →
          s.dev.flt.grave = false →
          let d : Dev := { s.dev with seqQ := l }
          (k ≠ d.sliceInstar t → exec .completionSequence s = .next (s.settled d))
          ∧ (k = d.sliceInstar t → d.queueSlice q = t →
              exec .completionSequence s = .next (s.settled (d.writeCq q cid st res 0 k irq))))
        ∧ (∀ (a t y : Nat) (l : List SeqReq), s.dev.seqQ = .abort a t y :: l → s.dev.flt.grave = false → (s.dev.entry a).state ≠ 0 →
          let e := s.dev.entry a
          let d : Dev := { s.dev with seqQ := l }
          e.instar = d.sliceInstar e.slice →
          (d.live t = false → exec .completionSequence s = .next (s.settled (d.complete a 0x2 0 0)))
          ∧ ((d.entry t).serial ≠ y → exec .completionSequence s = .next (s.settled (d.complete a 0x2 0 0)))
          ∧ (d.passed t = true → exec .completionSequence s = .next (s.settled (d.complete a 0x2 0 0)))
          ∧ (d.live t = true → (d.entry t).serial = y → d.passed t = false →
              exec .completionSequence s = .next (s.settled (d.abortWins a t))))
        ∧ (∀ q : Fin 65536, (s.dev.queue q.val).coalCount ≠ 0 → (s.dev.queue q.val).irqTime ≠ 0 → (s.dev.queue q.val).irqCount ≠ 0 →
          exec (.coalesceTimerExpire q) s = .next (s.settled
            ((s.dev.advance ((s.dev.queue q.val).coalStart + 1000 * (s.dev.queue q.val).irqTime)).fireIrq q.val)))
        ∧ (∀ n : Fin 262144, (s.dev.entry n.val).state = 1 → s.dev.mayStart n.val = true →
          (dOpcode (s.dev.entry n.val).desc = 6 → exec (.fence n) s = .next (s.settled (s.dev.complete n.val 0 0 0)))
          ∧ (dOpcode (s.dev.entry n.val).desc = 7 →
            (s.dev.abortTarget n.val = none → exec (.abort n) s = .next (s.settled (s.dev.complete n.val 0x2 0 0)))
            ∧ (∀ t, s.dev.abortTarget n.val = some t → exec (.abort n) s = .next (s.settled
                { (s.dev.setEntry n.val { s.dev.entry n.val with state := 2 }) with
                  seqQ := s.dev.seqQ ++ [.abort n.val t (s.dev.entry t).serial] })))))

/-- The head descriptor of an enabled queue with room is accepted or rejected by the checks of R121 in order; without room it
stays in its ring; a WRITE_STRIPE or READ_STRIPE is judged with its list once that is there (R121, R122).
Acceptance: the descriptor enters the free slot, as QUEUED, under its slice's instar, with the time and the
scatter list, and a write takes its plan's next GEN; every other slot is as it was, and a rejection enters no slot
(R121, R146, R252, R254). -/
def Obligations.AcceptanceJournalsOneDescriptor : Prop :=
  (
      ∀ (s : State) (q : Fin 65536) (x : BitVec 512) (l : List (BitVec 512)), (s.dev.queue q.val).fetched = x :: l →
        let d := s.dev
        let c := d.queue q.val
        (d.acceptRoom q.val x = false → exec (.descriptorAccept q) s = .next (s.settled d))
        ∧ (c.state = 1 → c.sglBusy = false → d.canFetch (d.queueSlice q.val) = true → d.acceptRoom q.val x = true →
            d.switchHolds x = false →
            let isData := 1 ≤ dOpcode x ∧ dOpcode x ≤ 7
            let isAdmin := q.val = 0 ∧ isAdminOp (dOpcode x) = true
            let rejects := fun st => exec (.descriptorAccept q) s = .next (s.settled (d.reject q.val x st))
            (¬isData → ¬isAdmin → rejects 0x32)
            ∧ (isData ∨ isAdmin → fieldsBad x = true → rejects 0x32)
            ∧ (isData ∨ isAdmin → fieldsBad x = false → d.plansHeld x = false → rejects 0x31)
            ∧ (isData ∨ isAdmin → fieldsBad x = false → d.plansHeld x = true → d.permitted (d.queueSlice q.val) x = false →
                rejects 0x30)
            ∧ (isData ∨ isAdmin → fieldsBad x = false → d.plansHeld x = true → d.permitted (d.queueSlice q.val) x = true →
                d.rangeBad (d.queueSlice q.val) x = true → rejects 0x32)
            ∧ (isData ∨ isAdmin → fieldsBad x = false → d.plansHeld x = true → d.permitted (d.queueSlice q.val) x = true →
                d.rangeBad (d.queueSlice q.val) x = false →
                (isShardOp (dOpcode x) = true → d.stageOver (d.queueSlice q.val) x = true → rejects 0x43)
                ∧ (isShardOp (dOpcode x) = false ∨ d.stageOver (d.queueSlice q.val) x = false →
                  (dOpcode x ≠ 1 → dOpcode x ≠ 2 →
                    exec (.descriptorAccept q) s = .next (s.settled (d.accept q.val x [])))
                  ∧ (dOpcode x = 1 ∨ dOpcode x = 2 → c.sglFail = true → rejects 0x20)
                  ∧ (dOpcode x = 1 ∨ dOpcode x = 2 → c.sglFail = false → ∀ sg, sglOf x c = some sg →
                      ((sg.map (·.2)).sum ≠ dLength x → rejects 0x32)
                      ∧ ((sg.map (·.2)).sum = dLength x → (∀ e, e ∈ sg → e.2 ≠ 0) →
                        exec (.descriptorAccept q) s = .next (s.settled (d.accept q.val x sg))))))))
  ∧ (
      ∀ (d : Dev) (q : Nat) (x : BitVec 512) (l : List (Nat × Nat)),
        let s := d.queueSlice q
        let e := (d.accept q x l).entry d.freeSlot
        (e.desc = x ∧ e.slice = s ∧ e.instar = d.sliceInstar s ∧ e.queue = q ∧ e.state = 1 ∧ e.sgl = l.take 56 ∧ e.acceptTime = d.now)
          ∧ (∀ n, n ≠ d.freeSlot → (d.accept q x l).entry n = d.entry n)
          ∧ (dOpcode x = 1 → d.sch.gens.get (dPlan x) 0 ≠ 0 → e.gen = d.sch.gens.get (dPlan x) 0
              ∧ (d.accept q x l).sch.gens.get (dPlan x) 0 = (if (e.gen + 1) % 2 ^ 32 = 0 then 1 else (e.gen + 1) % 2 ^ 32))
          ∧ (∀ st, (d.reject q x st).jnl = d.jnl))

/-! ## Coding and the schedule (R135–R213) -/

/-- The code's field: multiplication distributes over exclusive OR, is commutative and associative, 1 is its unit and 2 is
multiplication by x modulo x^8 + x^4 + x^3 + x^2 + 1, which fixes it; every nonzero element has an inverse (R142). -/
def Obligations.FieldMultiplicationIsModulo11D : Prop :=
  (∀ a b c : Byte, gfMul a (b ^^^ c) = gfMul a b ^^^ gfMul a c)
    ∧ (∀ a b : Byte, gfMul a b = gfMul b a) ∧ (∀ a b c : Byte, gfMul a (gfMul b c) = gfMul (gfMul a b) c)
    ∧ (∀ a : Byte, gfMul a 1 = a) ∧ (∀ a : Byte, gfMul a 2 = if a.getLsbD 7 then (a <<< 1) ^^^ 0x1D else a <<< 1)
    ∧ (∀ a : Byte, a ≠ 0 → gfMul a (gfInv a) = 1) ∧ gfMul 0x02 0x8E = 0x01 ∧ gfMul 0x03 0x8E = 0x8F

/-- Byte `j` of a coded block is the sum over the inputs of coefficient times byte `j` of the input (R143).
The single-loss row of a data shard recovers it: with check shard k coded by `e`, the row e[c] / e[i] over the other data
shards followed by 1 / e[i] gives back shard `i`, whatever the data, when e[i] is not 0 (R151). -/
def Obligations.CodedBlocksAndSingleLoss : Prop :=
  (
      ∀ (row : List Byte) (blks : List (List Byte)) (j : Nat),
        (dotBlk row blks).getD j 0#8 = dotRow row (blks.map (fun b => b.getD j 0#8)))
  ∧ (
      ∀ (e : List Byte) (blks : List (List Byte)) (i n : Nat), e.length = blks.length → i < blks.length →
        (∀ b ∈ blks, b.length = n) → e.getD i 0#8 ≠ 0#8 →
        dotBlk ((dropIdx e i).map (gfMul (gfInv (e.getD i 0#8))) ++ [gfInv (e.getD i 0#8)]) (dropIdx blks i ++ [dotBlk e blks])
          = blks.getD i [])

/-- BLOCK_COLUMN and MATRIX_COMPUTED: a column to read is judged if its engine is up, and waits if it is not; one to encode whose program abandons it ends its operation with INTERNAL_FAULT; a second-pass
mismatch under VERIFY is counted and its work replayed with trigger VOIDED; a good column to encode sends its blocks; a pattern
that inverts becomes valid and its waiters go on, and one that does not is logged as NON_MDS and ends them
(R153–R156, R159, R198, R218). -/
def Obligations.ColumnsAreCodedAndChecked : Prop :=
  ∀ s : State,
    (∀ (n : Fin 1310720) (v : EngVerdict) (p q : Plan), n.val < 2 ^ 20 → s.dev.readPlan n.val = some p → s.dev.writePlan n.val = some q →
      s.dev.runs n.val = true → (s.dev.wk n.val).stop = none → (s.dev.wk n.val).replay = none → s.dev.flt.grave = false →
      let d := s.dev
      let w := d.wk n.val
      let e := d.entry n.val
      let g := d.writeEng n.val
      let c : ColCtx := {
        plan := q, mat := (d.inForce.bind (fun g => g.matrices.get q.matrix none)).getD ⟨q.k, q.m, [], []⟩
        words := (d.inForce.map (fun g => g.programs.get q.program [])).getD []
        path := 0, lost := [], inr := List.range q.k, surv := [], ml := none
        blocks := (List.range q.k).foldl (fun t c => Tab.set t c (w.dataBlk (c * q.columns + w.wcol)) []) [] }
      (w.reading e p = true → d.engUp (d.readEng n.val) = true → exec (.blockColumn n v) s = .next (s.settled (d.readColumn n.val v.code p)))
      ∧ (w.reading e p = true → d.engUp (d.readEng n.val) = false → exec (.blockColumn n v) s = .next (s.settled d))
      ∧ (w.reading e p = false → dOpcode e.desc = 1 ∨ dOpcode e.desc = 5 → d.engUp g = true → d.encodeReady n.val q = true →
        let d := d.countColumn g q c.go
        (c.go.bad = true → exec (.blockColumn n v) s = .next (s.settled
          ((d.engEvent n.val g 5 (d.writePlanNo n.val) (d.itemTarget n.val) w.wcol).failItem n.val 0xFF)))
        ∧ (c.go.bad = false → c.go.coded = true → (d.era (g / 8)).check = 1 ∨ q.verifyAlways = true → exec (.blockColumn n .mismatch) s = .next (s.settled
          (((d.incSat (ENG_CHECK_MISMATCH (d.physEng g).val)).engEvent n.val g 2 (d.writePlanNo n.val) (d.itemTarget n.val)
            w.wcol).askReplay n.val 5)))
        ∧ (c.go.bad = false → v = .ok →
          let sent := c.go.shards.filter (fun x => e.dropped != some x.1 && !bit e.done x.1)
          let spent := fun (t : Tab Nat) => (List.range q.k).foldl (fun (t : Tab Nat) c => t.set (c * q.columns + w.wcol) 0 0) t
          let w := if dOpcode e.desc = 1 ∧ e.staged = true then { w with enc := spent w.enc } else { w with have_ := spent w.have_ }
          exec (.blockColumn n v) s = .next (s.settled (((d.setWk n.val { w with
            wcol := w.wcol + 1, outs := w.outs.set w.wcol (listMask (sent.map (·.1))) 0 }).putCells n.val (sent.flatMap (fun x =>
              blkCells (g / 8) (0x200 + g) (q.link x.1) q.pclass g 1 x.1 w.wcol 0 x.2 e.gen true))).stripeTry n.val)))))
    ∧ (∀ (i : Fin 1024) (m : MatEntry) (x : Matrix), s.dev.eng.cache[i.val]? = some m → m.valid = false →
      s.dev.flag MGT_STATUS_RECOVERING = false → s.dev.hubOff = false →
      (s.dev.imageOf m.sig).bind (fun g => g.matrices.get m.matrix none) = some x →
      let d := s.dev
      (∀ sv rows, x.multi (maskList m.lost 32) = some (sv, rows) → d.eng.cache.length ≤ 1024 →
        exec (.matrixComputed i) s = .next (s.settled ((d.matWaiters m).foldl Dev.matResume
          (Dev.mlog { d with eng := { d.eng with cache := d.eng.cache.mapIdx (fun j y =>
            if j = i.val then { m with valid := true, survivors := sv, rows := rows } else y) } }
            6 m.plan m.matrix m.lost ((d.now - m.since) / 1000)))))
      ∧ (x.multi (maskList m.lost 32) = none → exec (.matrixComputed i) s = .next (s.settled ((d.matWaiters m).foldl
          (fun e n => e.undecodable n false)
          (Dev.mlog { d with eng := { d.eng with cache := dropIdx d.eng.cache i.val } } 5 m.plan m.matrix m.lost m.sig)))))

/-- The patches of an image that passes the octant-calendars check only lower loads: whatever the bays' conditions, no
endpoint sends or takes more cells in an epoch than the base calendar gives it (R190, R208). -/
def Obligations.PatchesOnlyLowerTheLoad : Prop :=
  ∀ (l : List Byte) (d : Dev) (o : Nat) (p : Nat → Bool), octsBad l (imageOf l) = false → (d.era o).image = some (imageOf l) → o < 8 →
    let base := ((imageOf l).octs.getD o ⟨[], []⟩).base
    cellsFrom (d.calendar o) p ≤ cellsFrom base p ∧ cellsTo (d.calendar o) p ≤ cellsTo base p
      ∧ (d.calendar o).length = base.length

/-- LOAD_IMAGE: a slot that is ACTIVE, PENDING or LOADING is left as it is with INVALID_DESCRIPTOR; a failed read leaves it
EMPTY with HOST_DMA_ERROR; a failed check leaves it FAILED with the RESULT of its step; an image that passes stands in it,
VALID. Word 23 of the key commits it if its point is on the curve (R199, R201).
The header check of LOAD_IMAGE comes before every other: a file whose MAGIC, FORMAT, length or header CRC is wrong
fails with RESULT 0xE; one with a wrong section CRC fails with the first such section (R182, R201). -/
def Obligations.ImagesLoadThroughTheChecks : Prop :=
  (
      ∀ s : State,
        (∀ n : Fin 262144, s.dev.adminReady n.val 0x90 = true →
          let d := s.dev.started n.val
          let t := darg (s.dev.entry n.val).desc 4 1
          let st := d.rd (SCH_SLOT_STATUS_STATE t)
          t ≤ 1 →
          (st = 1 ∨ st = 3 ∨ st = 5 → exec (.loadImage n) s = .next (s.settled (d.finish n.val 0x32)))
          ∧ (st = 0 ∨ st = 2 ∨ st = 4 →
              let e := d.clearSlot t 1
              let h := Dev.hostRead { e with sch := { e.sch with loads := e.sch.loads.set t (n.val + 1) 0 } } 0 (darg (s.dev.entry n.val).desc 8 8)
                (darg (s.dev.entry n.val).desc 0x10 4) false (.image t)
              exec (.loadImage n) s = .next (s.settled (if h.1 then h.2
                else Dev.finish { (h.2.wr (SCH_SLOT_STATUS_STATE t) 0) with sch := { h.2.sch with loads := h.2.sch.loads.set t 0 0 } } n.val 0x20))))
        ∧ (∀ (t : Fin 2) (i n : Nat) (r : HRead), s.dev.findRead (fun r => r.why == .image t.val) = some i →
          s.dev.reads[i]? = some r → r.ecc = false → s.dev.sch.loads.get t.val 0 = n + 1 →
          let b := s.dev.endRead i
          let d : Dev := { b with sch := { b.sch with loads := b.sch.loads.set t.val 0 0 } }
          let x := (d.entry n).desc
          let check := fun l => imageCheck l (darg x 0x10 4) d.mgrPort d.sch.key (d.flag SCH_SIGN_KEY_PRESENT) (d.flag SCH_SIGN_ENFORCE)
          exec (.loadImageReadDone t none) s = .next (s.settled
              (((d.dmaFail r.port r.slice r.addr 3).wr (SCH_SLOT_STATUS_STATE t.val) 0).finish n 0x20))
          ∧ (r.last = true → ∀ l, exec (.loadImageReadDone t (some l)) s = .next (s.settled
              (match check (r.got ++ l) with
              | some r => (d.wrs [(SCH_SLOT_STATUS_STATE t.val, 4), (SCH_SLOT_STATUS_FAIL_SECTION t.val, r)]).finish n 0x32 r
              | none => (d.installImage t.val (imageOf (r.got ++ l))).finish n 0))))
        ∧ (∀ (w : Fin 24) (v : BitVec 32), s.dev.setupOpen (SCH_SIGN_KEY w.val) = true →
          let d := s.dev.opened (SCH_SIGN_KEY w.val)
          let e : Dev := { d with sch := { d.sch with keyBuf := d.sch.keyBuf.set w.val v.toNat 0 } }
          (d.flag SCH_SIGN_ENFORCE = true → d.flag SCH_SIGN_KEY_PRESENT = true → exec (.signKeyWrite w v) s = .next (s.settled d))
          ∧ (d.flag SCH_SIGN_ENFORCE = false → w.val ≠ 23 → exec (.signKeyWrite w v) s = .next (s.settled e))
          ∧ (d.flag SCH_SIGN_ENFORCE = false → w.val = 23 →
            (onCurve e.keyBytes = true → exec (.signKeyWrite w v) s = .next (s.settled
                (Dev.wr { e with sch := { e.sch with key := e.keyBytes } } SCH_SIGN_KEY_PRESENT 1)))
            ∧ (onCurve e.keyBytes = false → exec (.signKeyWrite w v) s = .next (s.settled (e.wr SCH_SIGN_KEY_REJECTED 1))))))
  ∧ (
      ∀ (l : List Byte) (len mgr : Nat) (key : List Byte) (pres enf : Bool),
        (leAt l 0 4 ≠ 0x47534C42 ∨ leAt l 4 2 ≠ 2 ∨ leAt l 0xFC 4 ≠ (crc32c (l.take 0xFC)).toNat ∨ leAt l 8 4 ≠ len →
          imageCheck l len mgr key pres enf = some 0xE)
        ∧ (headerBad l len = false → enf = true → bit (leAt l 6 2) 0 = false → imageCheck l len mgr key pres enf = some 0xF)
        ∧ (headerBad l len = false → signatureBad l key pres enf = false → ∀ t, 1 ≤ t → t ≤ 10 →
            secCrc l t ≠ (crc32c (sec l t)).toNat → (∀ u, 1 ≤ u → u < t → secCrc l u = (crc32c (sec l u)).toNat) →
            imageCheck l len mgr key pres enf = some t)
        ∧ (headerBad l len = true ∨ sectionBad l (imageOf l) mgr ≠ 0 ∨ loadBad (imageOf l) ≠ 0 ∨ sigsBad l (imageOf l) = true →
            imageCheck l len mgr key pres enf ≠ none))

/-- SWITCH_IMAGE and SET_PROFILE: the first failing check of R203 gives the status; an accepted switch makes its slot PENDING
at the named or the next epoch and powers the engines it names; the runs that accepted SET_SHAREs will add count against the new
pool (R71); SET_PROFILE evaluates its argument as GLB_PROFILE does, and waits while a request or FW_UPDATE is under way
(R23, R28, R203, R206, R511). -/
def Obligations.SwitchesAndProfileCommands : Prop :=
  ∀ (s : State) (n : Fin 262144),
    (s.dev.profBusy = true → exec (.switchImage n) s = .next (s.settled s.dev) ∧ exec (.setProfile n) s = .next (s.settled s.dev))
    ∧ (s.dev.mgt.staging ≠ none → exec (.setProfile n) s = .next (s.settled s.dev))
    ∧ (s.dev.profBusy = false →
    let d := s.dev.started n.val
    let x := (s.dev.entry n.val).desc
    let t := darg x 4 1
    let e := darg x 8 8
    (s.dev.adminReady n.val 0x91 = true →
      (1 < t ∨ d.rd (SCH_SLOT_STATUS_STATE t) ≠ 2 → exec (.switchImage n) s = .next (s.settled (d.finish n.val 0x31)))
      ∧ (∀ g, t ≤ 1 → d.rd (SCH_SLOT_STATUS_STATE t) = 2 → d.image t = some g →
        (g.rate ≠ d.rd GLB_PROFILE_STATUS_CUR_RATE ∨ g.check ≠ d.rd GLB_PROFILE_STATUS_CUR_CHECK →
          exec (.switchImage n) s = .next (s.settled (d.finish n.val 0x31)))
        ∧ (g.rate = d.rd GLB_PROFILE_STATUS_CUR_RATE → g.check = d.rd GLB_PROFILE_STATUS_CUR_CHECK →
          ((∃ p, p < 8 ∧ (g.pool p).length < d.runsAssigned p + d.runsComing 1024 p) →
            exec (.switchImage n) s = .next (s.settled (d.finish n.val 0x43)))
          ∧ ((∀ p, p < 8 → d.runsAssigned p + d.runsComing 1024 p ≤ (g.pool p).length) →
            (e ≠ 0 → e ≤ d.epoch + 1 → exec (.switchImage n) s = .next (s.settled (d.finish n.val 0x32)))
            ∧ (e = 0 ∨ d.epoch + 1 < e →
              let at_ := if e = 0 then d.epoch + 1 else e
              let f := d.wrs [(SCH_SLOT_STATUS_STATE t, 5), (SCH_SWITCH_PENDING, 1), (SCH_SWITCH_PENDING_SLOT, t),
                (SCH_SWITCH_DRAIN_WAIT, 0), (SCH_SWITCH_EPOCH_LO_EPOCH, at_), (SCH_SWITCH_EPOCH_HI_EPOCH, at_ / 2 ^ 32)]
              exec (.switchImage n) s = .next (s.settled
                (Dev.powerNamed { f with sch := { f.sch with switch := some ⟨t, at_, some n.val, false⟩ } } g)))))))
    ∧ (s.dev.adminReady n.val 0x92 = true → s.dev.mgt.staging = none →
      exec (.setProfile n) s = .next (s.settled ((d.writeWord GLB_PROFILE (darg x 4 4)).profRequest (some n.val)))))

/-- A run fires in its calendar's order once its island's epoch has begun: in the hub a POOL run serves the slice it is assigned to, an
MGR run slice 0, a PLAN_CLASS run its class, a RECORD_POLL run its port; without work it performs its backfill; one that names
an endpoint that is not up moves no work, nor does one whose capacity is used up (R165, R172, R177, R179, R213, R478).
A token that finds an island two epochs behind with runs unfired voids them: SCH_VOID counts them and the island begins
the epoch before the token's; an island whose runs have all fired begins its next epoch, a gated one the token's (R11, R166,
R177, R180, R398). -/
def Obligations.RunsFireOrAreVoided : Prop :=
  (
      ∀ (s : State) (i : Fin 9) (k : Nat) (r : BitVec 64),
        let at_ := s.dev.sch.island.get i.val 0
        let d := if s.dev.islandDone i.val = true ∧ at_ < s.dev.sch.epoch then s.dev.beginEpoch i.val (at_ + 1) else s.dev
        s.dev.pacing = true → s.dev.islandDown i.val = false →
        (d.calendar i.val)[k]? = some r → d.sch.next.get i.val 0 = k →
        let e : Dev := { d with sch := { d.sch with next := d.sch.next.set i.val (k + 1) 0 } }
        let up := e.epUp (runSrc r) && e.epUp (runDst r)
        let ends := fun (x : Dev) => exec (.runFire i k) s = .next (s.settled x.trimOld)
        let does := fun (x : Nat × Dev) => ends (if x.1 = 0 then x.2.backfillRun i.val r else x.2)
        (up = false → runKind r = 3 → (e.headItem i.val r).isSome = true → ends e)
        ∧ (up = false → (runKind r ≠ 3 ∨ e.headItem i.val r = none) → ends (e.testRun i.val r))
        ∧ (up = true → e.runStopped i.val r = true → ends e)
        ∧ (up = true → e.runStopped i.val r = false →
          (runKind r = 0 ∨ 4 < runKind r → does (0, e))
          ∧ (i.val ≠ 8 → runKind r ≠ 3 → does (0, e))
          ∧ (i.val = 8 → runKind r = 1 → ∀ u, (e.era i.val).assign.get k 0 = u + 1 → does (e.hostRun u r))
          ∧ (i.val = 8 → runKind r = 1 → (e.era i.val).assign.get k 0 = 0 → does (0, e))
          ∧ (i.val = 8 → runKind r = 2 → does (e.hostRun 0 r))
          ∧ (runKind r = 3 → does (e.classRun i.val r))
          ∧ (i.val = 8 → runKind r = 4 → does (e.pollRun r))))
  ∧ (
      ∀ (d : Dev) (i e : Nat), i < 9 → d.islandDown i = false →
        let at_ := d.sch.island.get i 0
        let left := (d.calendar i).drop (d.sch.next.get i 0)
        let f := d.token i e
        let begins := fun x => f.sch.island.get i 0 = x ∧ f.sch.next.get i 0 = 0 ∧ (i = 8 → f.sch.stageCells = 0 ∧ f.sch.portCells = [])
        (left ≠ [] → d.sch.gated.contains i = false → at_ + 2 ≤ e →
          begins (e - 1) ∧ f.rd (SCH_VOID_RUNS i) = (d.rd (SCH_VOID_RUNS i) + left.length) % 2 ^ 32)
        ∧ (left ≠ [] → d.sch.gated.contains i = false → e < at_ + 2 → f = d)
        ∧ (left = [] → d.sch.gated.contains i = false → begins (Nat.max (at_ + 1) (e - 1)))
        ∧ (d.sch.gated.contains i = true → begins e))

/-- The boundary moves DEVICE_TIME to the next epoch and begins its counts afresh. A calendar entry's ECC error is captured
and, from one copy, remembered until its rewrite; an idle island gates and ungates; a cell CRC error replays its item; a lost
journal entry ends with JOURNAL_LOST; LINK_HOLD's end is counted (R168, R169, R181, R260, R267, R268, R398). -/
def Obligations.BoundariesAndIntegrityEvents : Prop :=
  ∀ s : State, s.dev.hubOff = false →
    let d := s.dev
    (let f := d.advance (epochStart (d.epoch + 1))
      let x := f.epoch
      let t := if f.pacing = true then (List.range 9).foldl (fun d i => d.token i x) f else f.beginEpoch 8 x
      let u : Dev := { t with sch := { t.sch with epoch := x, prev := f.thisEra } }
      let u := ((List.range 512).filter (fun l => (u.link l).left.isSome && !(u.link l).expired)).foldl (fun d l =>
        if d.bayGone (l / 8) then d.setLink l { d.link l with left := none, owed := [] } else if d.holdOver l then d.expireHold l else d) u
      let u := (((u.applySwaps.applyOcts).switchTry).profTry).takeConds
      let u := (u.liveSlices.foldl (fun d s => d.applyShare s) u).boundaryItems
      let idle := (List.range 9).foldl (fun (t : Tab Nat) i => if u.islandWork i then t.set i 0 0 else bump t i 1) u.sch.idle
      (f.hubOff = true ∨ f.flt.grave = true → exec .epochBoundary s = .next (s.settled f))
      ∧ (f.hubOff = false → f.flt.grave = false → exec .epochBoundary s = .next (s.settled
          ((Dev.applyRejoins { u with sch := { u.sch with idle := idle, gated := u.sch.gated.filter (fun i => !u.islandWork i) } }).trimOld.takeShort.phaseRest))))
    ∧ (∀ (i : Fin 9) (k : Nat), k < (d.calendar i.val).length →
      exec (.calendarEccError i k true) s = .next (s.settled
        (d.fault { unit := .sch, src := 3, detail := k % 4096 + 4096 * i.val }))
      ∧ exec (.calendarEccError i k false) s = .next (s.settled
        (let f := d.fault { unit := .sch, src := 2, detail := k % 4096 + 4096 * i.val }
         { f with sch := { f.sch with rewrites := f.sch.rewrites ++ [(i.val, k, f.epoch)] } }))
      ∧ exec (.calendarRewrite i k) s = .next (s.settled
        { d with sch := { d.sch with rewrites := d.sch.rewrites.filter (fun x => !(x.1 == i.val && x.2.1 == k)) } }))
    ∧ (∀ i : Fin 9, d.pacing = true → 16 ≤ d.sch.idle.get i.val 0 → d.islandWork i.val = false →
      exec (.islandGate i) s = .next (s.settled { d with sch := { d.sch with gated := setAdd i.val d.sch.gated } }))
    ∧ (∀ i : Fin 9, exec (.islandUngate i) s = .next (s.settled
        { d with sch := { d.sch with gated := setDel i.val d.sch.gated, idle := d.sch.idle.set i.val 0 0 } }))
    ∧ (∀ (n : Fin 262144) (u : Fin 9), exec (.cellCrcFail n false u.val) s = .next (s.settled
        ((d.fault { unit := .xbar, src := 2, inst := u.val, detail := u.val }).askReplay n.val 5)))
    ∧ (∀ n : Fin 262144, (d.entry n.val).state ≠ 0 →
      exec (.journalEccError n true true) s = .next (s.settled
        (((d.jnlFault 3 5 n.val (d.entry n.val).slice).delivered n.val).raise 16))
      ∧ exec (.journalEccError n false true) s = .next (s.settled (d.setIdx n.val (d.entry n.val).word))
      ∧ (let x := d.jidx.get n.val {}
         let f := ((d.setEntry n.val { d.entry n.val with slice := x.slice, instar := x.instar, queue := x.queue }).inc
           JNL_LOST_COUNT).jnlFault 2 5 n.val x.slice
         ((d.entry n.val).state < 5 → exec (.journalEccError n true false) s = .next (s.settled (f.failItem n.val 0x21)))
         ∧ ((d.entry n.val).state = 5 → exec (.journalEccError n true false) s = .next (s.settled (f.complete n.val 0x21 0 0)))
         ∧ (5 < (d.entry n.val).state → exec (.journalEccError n true false) s = .next (s.settled
            (f.setEntry n.val { f.entry n.val with status := 0x21, result := 0, resultHi := 0 })))))
    ∧ (∀ (l : Fin 512) (t : Nat), (d.link l.val).left = some t → d.linkActive l.val = false → (d.link l.val).expired = false →
      exec (.linkHoldExpire l) s = .next (s.settled (d.advance (t + d.rd JNL_CFG_LINK_HOLD_MS * 1000000 + 1))))
    ∧ (∀ l : Nat, (d.link l).left ≠ none → (d.link l).expired = false →
      d.expireHold l = (d.setLink l { d.link l with expired := true, owed := [] }).inc JNL_LINK_HELD_EXPIRED)

/-! ## Operations and shard streams (R211–R248, R317–R326) -/

/-- The five shard operations at the start check of their next free stripe, at the instant of a boundary: a stripe whose first cells a
run of the epoch will move begins under its plans, and no other; a row of another opcode, at another instant, or one whose
stripes are all held back, begins nothing (R212, R214, R217, R228, R232, R238, R241).
The start check of a WRITE_STRIPE: with no absent target it proceeds; with one it proceeds without that position when the
plan has DEGRADE_OK, m is at least 1, NO_DEGRADE is clear and the debt log can record it; in every other case it completes with
BAY_ABSENT, or BAY_UNREACHABLE when a hold has expired, having asked for nothing (R217, R268). -/
def Obligations.OperationsBeginByTheirTargets : Prop :=
  (
      ∀ (s : State) (n : Fin 262144) (p q : Plan), s.dev.readPlan n.val = some p → s.dev.writePlan n.val = some q →
        s.dev.startable n.val = true →
        let d := s.dev
        let op := dOpcode (d.entry n.val).desc
        let run := fun (o : Nat) (c : Instr) =>
          (op ≠ o ∨ d.atBoundary = false → exec c s = .next (s.settled d))
          ∧ (op = o → d.atBoundary = true → (∀ t w, d.pickStripe n.val = (some t, w) →
                (d.served n.val t p = true → exec c s = .next (s.settled ((d.setWk n.val (w.take t)).startStripe n.val p q)))
                ∧ (d.served n.val t p = false → exec c s = .next (s.settled (d.setWk n.val w))))
              ∧ (∀ w, d.pickStripe n.val = (none, w) → exec c s = .next (s.settled (d.setWk n.val w))))
        run 1 (.writeStripe n) ∧ run 2 (.readStripe n) ∧ run 3 (.scrub n) ∧ run 4 (.rebuildShard n) ∧ run 5 (.migrate n))
  ∧ (
      ∀ (d : Dev) (n : Nat) (p : Plan), dOpcode (d.entry n).desc = 1 → (d.entry n).state ≠ 0 → (d.entry n).state ≠ 7 →
        let e := d.entry n
        let gone := (List.range p.width).filter (fun i => d.linkClass (p.link i) == 2)
        let may := fun i => p.degradeOk = true ∧ 1 ≤ p.m ∧ dNoDegrade e.desc = false ∧ d.debtRoom (d.writePlanNo n) i (d.itemTarget n) = true
        let f := d.checkTargets n p
        let st := if gone.any (fun i => d.holdExpired (p.link i)) then 0x11 else 0x10
        let ends := (f.entry n).state = 7 ∧ (f.entry n).status = st ∧ (f.entry n).result = 0 ∧ f.seqQ = d.seqQ ++ [.done n] ∧ f.reads = d.reads
        (gone = [] → f = d.setEntry n { e with dropped := none })
        ∧ (∀ i, gone = [i] → may i → f = d.setEntry n { e with dropped := some i })
        ∧ (∀ i, gone = [i] → ¬may i → ends)
        ∧ (2 ≤ gone.length → ends))

/-- Of two outcomes an operation completes with the first in the order of R216, whichever it met first; ties and order of
meeting do not matter. -/
def Obligations.StatusesCombineInTheirOrder : Prop :=
  let order := [stInternal, stJournalLost, stHostDma, stCheckFail, stUnrecoverable, stBayUnreachable, stBayAbsent,
    stDegradedWrite, stRecovered, stSuccess]
  (∀ (i j : Nat), i < j → j < 10 → firstStatus (order.getD i 0) (order.getD j 0) = order.getD i 0
      ∧ firstStatus (order.getD j 0) (order.getD i 0) = order.getD i 0)
    ∧ (∀ (d : Dev) (n a b : Nat), a ∈ order → b ∈ order → (d.entry n).status ∈ order →
        (((d.meet n a).meet n b).entry n).status = (((d.meet n b).meet n a).entry n).status
        ∧ ∀ x, x ≠ n → ((d.meet n a).entry x) = d.entry x)

/-- The debt log: recording adds exactly the stripe and position it records when it has room; paying down removes exactly the
stripe paid when there is room for a split, and never another one; without that room the log may overstate, not understate,
and it never holds more than 65,536 entries (R223–R225). -/
def Obligations.DebtsAreRecordedAndPaidExactly : Prop :=
  ∀ (d : Dev) (p i s bay : Nat),
    let owes := fun (l : List Debt) (p i s : Nat) =>
      l.any (fun e => e.plan == p && e.pos == i && decide (e.stripe ≤ s) && decide (s < e.stripe + e.count))
    (d.debtRoom p i s = true → ∀ p' i' s', owes (d.debtRecord p i s bay).debt p' i' s' = true ↔
        owes d.debt p' i' s' = true ∨ (p' = p ∧ i' = i ∧ s' = s))
    ∧ (d.debt.length + (d.debt.filter (fun e => e.plan == p && e.pos == i && decide (e.stripe ≤ s) && decide (s < e.stripe + e.count))).length
          ≤ 65536 → ∀ p' i' s', owes (d.debtPay p i s).debt p' i' s' = true ↔
        owes d.debt p' i' s' = true ∧ ¬(p' = p ∧ i' = i ∧ s' = s))
    ∧ (∀ p' i' s', owes d.debt p' i' s' = true → ¬(p' = p ∧ i' = i ∧ s' = s) → owes (d.debtPay p i s).debt p' i' s' = true)
    ∧ (d.debt.length ≤ 65536 → (d.debtPay p i s).debt.length ≤ 65536 ∧ (d.debtRecord p i s bay).debt.length ≤ 65536)

/-- BLOCK, STREAM_STATUS, TRAILER_DATA and the streams' timeouts at the front of a link's inbox: a block of a live read stream
goes toward its column with its trailer judged; DONE makes a shard block durable and frees its identifier, a failure makes the
position absent; a witness trailer gives its GEN; no DONE, or no block, in time is a failed write or a lost block
(R218, R219, R228, R320, R323–R326). -/
def Obligations.StreamMessagesFeedTheirOperations : Prop :=
  ∀ (s : State) (l : Fin 512),
    (∀ (m : List Byte) (d : Dev) (x : Stream), s.dev.takeMsg l.val 0x01 = some (m, d) → d.stream l.val (leAt m 4 2 % 4096) = some x →
      x.kind = 1 → x.cancelled = false → x.timedOut = false →
      exec (.block l) s = .next (s.settled ((d.setStream l.val { x with cancelled := true, lastAt := d.now }).takeBlock l.val x
        ((m.drop 8).take 4096) (leAt m 0x100C 4)
        (leAt m 0x1008 4 == (crc32c ((m.drop 8).take 4096 ++ leBytes 4 (leAt m 0x100C 4))).toNat))))
    ∧ (∀ (m : List Byte) (d : Dev) (x : Stream), s.dev.takeMsg l.val 0x20 = some (m, d) → d.stream l.val (leAt m 4 2 % 4096) = some x →
      (x.kind = 0 → x.timedOut = false →
        (leAt m 6 1 = 1 → d.streamLive x = true → exec (.streamStatus l) s = .next (s.settled
          ((((d.writeDurable x).dropStream l.val x.id).writeSettled x.slot).stripeTry x.slot)))
        ∧ (2 ≤ leAt m 6 1 → leAt m 6 1 ≤ 4 → exec (.streamStatus l) s = .next (s.settled
          ((d.dropStream l.val x.id).writeFailed l.val x (leAt m 6 1)))))
      ∧ (x.kind = 1 → leAt m 6 1 = 2 → x.cancelled = false → exec (.streamStatus l) s = .next (s.settled
          ((d.setStream l.val { x with cancelled := true }).loseRead x))))
    ∧ (∀ (m : List Byte) (d : Dev) (x : Stream), s.dev.takeMsg l.val 0x22 = some (m, d) → d.stream l.val (leAt m 4 2 % 4096) = some x →
      x.kind = 2 →
      (leAt m 6 1 = 0 → x.timedOut = false → exec (.trailerData l) s = .next (s.settled
          ((d.dropStream l.val x.id).takeWitness x (some (leAt m 0xC 4)))))
      ∧ (leAt m 6 1 ≠ 0 → exec (.trailerData l) s = .next (s.settled ((d.dropStream l.val x.id).takeWitness x none))))
    ∧ (∀ (i : Fin 1024) (x : Stream), s.dev.stream l.val i.val = some x → x.timedOut = false →
      s.dev.streamUnsent l.val i.val = false →
      (x.kind = 0 → exec (.writeAckTimeout l i) s = .next (s.settled
        ((((s.dev.advance (x.lastAt + s.dev.rd LNK_STREAM_CFG_WRITE_ACK_TO * 1000000)).incSat (LNK_STREAM_ERR_ACK_TIMEOUTS l.val)).setStream
          l.val { x with timedOut := true }).writeFailed l.val x 0)))
      ∧ (x.kind = 1 → x.cancelled = false → exec (.readDataTimeout l i) s = .next (s.settled
        (((((s.dev.advance (x.lastAt + s.dev.rd LNK_STREAM_CFG_READ_DATA_TO * 1000000)).incSat
          (LNK_STREAM_ERR_READ_TIMEOUTS l.val)).setStream l.val { x with timedOut := true, cancelled := true }).txMsg l.val 1
            (streamCancel i.val)).loseRead x))))

/-! ## The journal (R249–R273) -/

/-- The journal region's registers take a write only while no slot is live and, for a smaller size, while the quotas drawn fit
the new pool; any other write is dropped with CFG_REFUSED (R250, R251).
A replay resumes an entry at its column cursor with what it has done: REPLAYS and the trigger's counter step by one and
TRIGGER records it; of two triggers the lower code stands; an entry that is ending, aborted or stale is not replayed (R265); beyond REPLAY_MAX the entry is not replayed but ends with
INTERNAL_FAULT (R254, R260, R262, R266). -/
def Obligations.JournalRegionAndReplays : Prop :=
  (
      ∀ (s : State) (r : Fin 3) (v : BitVec 32), s.dev.setupOpen (JNL_REGION_LO + 4 * r.val) = true →
        let a := JNL_REGION_LO + 4 * r.val
        let d := s.dev.opened a
        (d.liveSlots ≠ [] → exec (.jnlRegionWrite r v) s = .next (s.settled (d.wr JNL_STATUS_CFG_REFUSED 1)))
        ∧ (d.liveSlots = [] → r.val ≠ 2 → exec (.jnlRegionWrite r v) s = .next (s.settled (d.writeWord a v.toNat)))
        ∧ (d.liveSlots = [] → r.val = 2 → 0 < v.toNat % 16 → v.toNat % 16 < d.rd JNL_REGION_SIZE_SIZE →
            v.toNat % 16 * 2048 - 256 < d.jnlAssigned →
            exec (.jnlRegionWrite r v) s = .next (s.settled (d.wr JNL_STATUS_CFG_REFUSED 1)))
        ∧ (d.liveSlots = [] → r.val = 2 → d.jnlAssigned ≤ v.toNat % 16 * 2048 - 256 →
            exec (.jnlRegionWrite r v) s = .next (s.settled (d.writeWord a v.toNat))))
  ∧ (
      ∀ (d : Dev) (n t : Nat), 1 ≤ t → t ≤ 5 →
        let e := d.entry n
        let w := d.wk n
        let lives := 1 ≤ e.state ∧ e.state ≤ 4 ∧ e.abortReq = false ∧ e.instar = d.sliceInstar e.slice
        (w.replay = none → d.replay n = d)
        ∧ (w.replay = some t → ¬lives → d.replay n = d.setWk n { w with replay := none })
        ∧ (w.replay = some t → lives → e.replays + 1 ≤ d.rd JNL_CFG_REPLAY_MAX →
            let f := (d.replay n).entry n
            f.state = (if e.state ≠ 4 then e.state else if e.held then 3 else 2) ∧ f.sgl = e.sgl.take 56
              ∧ f.replays = Nat.min 255 (e.replays + 1) ∧ f.trigger = t ∧ f.col = e.col ∧ f.done = e.done
              ∧ f.stripeDone = e.stripeDone ∧ f.gen = e.gen ∧ f.acceptTime = e.acceptTime ∧ f.desc = e.desc
              ∧ ((d.replay n).wk n).replay = none ∧ ((d.replay n).wk n).cells = []
              ∧ (d.replay n).rd (JNL_REPLAY_COUNT (t - 1)) = (d.rd (JNL_REPLAY_COUNT (t - 1)) + 1) % 2 ^ 32
              ∧ ∀ x, x ≠ n → (d.replay n).entry x = d.entry x)
        ∧ (w.replay = some t → lives → d.rd JNL_CFG_REPLAY_MAX < e.replays + 1 → e.status = 0 → w.opens = 0 →
            (((d.replay n).entry n).state = 7 ∧ ((d.replay n).entry n).status = 0xFF ∧ ((d.replay n).entry n).replays = e.replays))
        ∧ (∀ u, 1 ≤ u → u ≤ 5 → 1 ≤ e.state → e.state ≤ 4 → e.instar = d.sliceInstar e.slice → e.abortReq = false →
            (((d.askReplay n t).askReplay n u).wk n).replay = some (Nat.min ((w.replay.map (Nat.min t)).getD t) u)))

/-! ## Lanes, training and admission (R274–R297, R553) -/

/-- The group a link trains: every choice is an aligned group within the admitted geometry whose lanes are all clean, and the
one taken has the most lanes × rate, ties going to the higher rate and then the lower first lane (R283). -/
def Obligations.TrainedGroupIsTheBestCleanOne : Prop :=
  (∀ (f w r clean : Nat) (c : Nat × Nat × Nat), c ∈ choicesAt f w r clean ↔
      c.1 = r ∧ c.2.2 ≤ w ∧ (∃ i, i < 2 ^ (w - c.2.2) ∧ c.2.1 = f + i * 2 ^ c.2.2)
        ∧ ∀ j, c.2.1 ≤ j → j < c.2.1 + 2 ^ c.2.2 → bit clean j = true)
    ∧ (∀ (l : List (Nat × Nat × Nat)), (l = [] ↔ l.foldl betterChoice none = none)
      ∧ ∀ c, l.foldl betterChoice none = some c → c ∈ l ∧ ∀ b, b ∈ l →
          let x := 2 ^ b.2.2 * lineRate b.1
          let y := 2 ^ c.2.2 * lineRate c.1
          x < y ∨ (x = y ∧ c.1 < b.1) ∨ (x = y ∧ c.1 = b.1 ∧ c.2.1 ≤ b.2.1))

/-- Events of lanes before ACTIVE: a signal in DETECT begins SYNC, DETECT_REPORT sets NO_PARTNER, a block with a bad MAGIC or
CRC is ignored, one that arrives inverted is read upright and in SYNC turns POL_INV (log entry 99), a block where flits are
expected takes the link down with REMOTE, EQ_DONE marks the lane, and each timer's end
fails the attempt with its reason or ends the rate (R277, R280–R285, R288, R329).
A failed attempt of lanes below TRAIN_RETRY counts ATTEMPTS, records REASON and returns each lane to DETECT; beyond it the
lane is HALTED (R285). -/
def Obligations.TrainingEventsAndFailedAttempts : Prop :=
  (
      ∀ (s : State) (l : Fin 512),
        let d := s.dev
        (d.laneState l.val = 1 →
          (d.laneMay l.val = true → exec (.partnerSignalDetect l) s = .next (s.settled (d.laneEnter l.val 2)))
          ∧ exec (.noPartner l) s = .next (s.settled
              ((d.advance ((d.lane l.val).since + 1000000 * d.rd LNK_TIMERS2_DETECT_REPORT + 1)).wr (LNK_STATE_NO_PARTNER l.val) 1)))
        ∧ (∀ b, goodBlock b = false → goodBlock (inverted b) = false → exec (.trainingBlock l b) s = .next (s.settled d))
        ∧ (∀ b, leAt b 0 2 = 0xB01E → leAt b 12 4 = (crc32c (b.take 12)).toNat → bit (leAt b 3 1) 0 = true →
            let inv := d.flag (LNK_LANE_POL_INV l.val)
            let acts := fun t : Dev → Dev => exec (.trainingBlock l (if inv then inverted b else b)) s = .next (s.settled (t d))
              ∧ (d.laneState l.val = 2 → exec (.trainingBlock l (if inv then b else inverted b)) s
                  = .next (s.settled (t (d.wr (LNK_LANE_POL_INV l.val) (if inv then 0 else 1)))))
            ((∀ k, d.linkOf l.val = some k → d.flitting k = true → l.val ∉ d.groupLanes k) → d.laneState l.val = 2 → leAt b 2 1 = 1 →
              acts (fun d => d.syncBlock l.val b))
            ∧ (∀ k, d.linkOf l.val = some k →
              (d.flitting k = true → l.val ∈ d.groupLanes k → acts (fun d => d.linkDown k 7))
              ∧ (d.flitting k = false →
                (d.laneState l.val = 3 → leAt b 2 1 = 2 → acts (fun d => ((d.wr (LNK_LANE_PRESET l.val) (leAt b 0xA 1 % 8)).setLane l.val
                    { d.lane l.val with eqFar := bit (leAt b 0xA 1) 3 }).eqCheck k))
                ∧ (d.laneState l.val = 4 → leAt b 2 1 = 4 → ∀ c, (d.link k).choice = some c → l.val ∈ d.chosenLanes k →
                    leAt b 4 1 % 32 ≠ c.2.1 + 8 * c.2.2 ∨ leAt b 5 1 / 16 % 4 ≠ c.1 → acts (fun d => d.linkFails k 6)))))
        ∧ (∀ k, d.linkOf l.val = some k → d.laneState l.val = 3 → d.flag (LNK_LANE_FAULTY l.val) = false →
            exec (.eqDone l) s = .next (s.settled
              (((d.setLane l.val { d.lane l.val with eqNear := true }).sendBay (l.val / 8)).eqCheck k)))
        ∧ (d.laneState l.val = 2 →
            let e := d.advance ((d.lane l.val).since + 250000 * d.rd LNK_TIMERS_SYNC_TO)
            exec (.syncTimeout l) s = .next (s.settled
              (e.attemptFails (if (d.lane l.val).count = 0 then [l.val] else e.candidateLanes l.val) 1)))
        ∧ (d.isLink l.val = true →
          ((∃ i ∈ d.geomLanes l.val, d.laneState i = 3) → exec (.eqTimeout l) s = .next (s.settled
              ((d.advance ((d.link l.val).rateSince + 1000000 * d.rd LNK_TIMERS_EQ_TO)).rateEnds l.val)))
          ∧ (∀ i ∈ d.geomLanes l.val, d.laneState i = 4 →
              (∀ j ∈ d.geomLanes l.val, d.laneState j = 4 → (d.lane j).since ≤ (d.lane i).since) →
              exec (.negTimeout l) s = .next (s.settled
                ((d.advance ((d.lane i).since + 250000 * d.rd LNK_TIMERS_NEG_TO)).linkFails l.val 5)))
          ∧ (d.laneState l.val = 5 → d.flag (LNK_STATE_AWAIT_ADMIT l.val) = false → exec (.identTimeout l) s = .next (s.settled
              ((d.advance ((d.link l.val).identSince + 1000000 * d.rd LNK_TIMERS_IDENT_TO)).linkFails l.val 7)))))
  ∧ (
      ∀ (d : Dev) (l reason : Nat), l < 512 → reason < 16 →
        let n := d.rd (LNK_TRAIN_ATTEMPTS l)
        let f := d.attemptFails [l] reason
        n < 31 →
        f.rd (LNK_TRAIN_ATTEMPTS l) = n + 1 ∧ f.rd (LNK_TRAIN_REASON l) = reason
          ∧ (n + 1 ≤ d.rd LNK_TIMERS2_TRAIN_RETRY → f.rd (LNK_STATE_STATE l) = 1)
          ∧ (d.rd LNK_TIMERS2_TRAIN_RETRY < n + 1 → f.rd (LNK_STATE_STATE l) = 7))

/-- Identity and admission: the two parts of a record are judged together: a bad one fails the attempt with IDENT_BAD, one that
matches the admitted record makes the link ACTIVE. ADMIT_BAY gives its status and count; RETIRE_BAY waits for blocks sent. LNK_CTRL
enables, disables and retrains; a lane test passes within 10^-5 of the bits sent (R287–R295, R553). -/
def Obligations.PartnersAreIdentifiedAndAdmitted : Prop :=
  ∀ s : State,
    (∀ (l : Fin 512) (m : List Byte) (d : Dev), s.dev.takeMsg l.val 0x31 = some (m, d) → d.laneState l.val = 5 →
      d.flag (LNK_STATE_AWAIT_ADMIT l.val) = false →
      let k := d.link l.val
      let part := (m.drop 8).take 128
      (leAt m 4 1 = 0 → exec (.ident l) s = .next (s.settled (d.setLink l.val { k with ident := part })))
      ∧ (leAt m 4 1 = 1 → k.ident.length = 128 →
          let e := d.setLink l.val { k with ident := [] }
          (identBad (k.ident ++ part) = true → exec (.ident l) s = .next (s.settled (e.linkFails l.val 8)))
          ∧ (identBad (k.ident ++ part) = false → exec (.ident l) s = .next (s.settled (e.identified l.val (k.ident ++ part))))))
    ∧ (∀ (d : Dev) (l : Nat) (r : List Byte), l < 512 → identBad r = false →
        ((d.link l).admitted = some (admitOf ((d.link l).geom.getD 0) r) →
          (d.identified l r).rd (LNK_STATE_STATE l) = 6 ∧ ((d.identified l r).link l).left = none)
        ∧ ((d.link l).admitted ≠ some (admitOf ((d.link l).geom.getD 0) r) →
          (d.identified l r).rd (LNK_STATE_AWAIT_ADMIT l) = 1 ∧ ((d.identified l r).link l).expired = (d.link l).left.isSome))
    ∧ (∀ n : Fin 262144,
      let d := s.dev.started n.val
      let b := darg (s.dev.entry n.val).desc 4 1
      (s.dev.adminReady n.val 0xA0 = true →
        (63 < b → exec (.admitBay n) s = .next (s.settled (d.finish n.val 0x32)))
        ∧ (b ≤ 63 → d.admissible b = [] → exec (.admitBay n) s = .next (s.settled (d.finish n.val 0x10)))
        ∧ (b ≤ 63 → (∃ l ∈ d.admissible b, d.topoOk l = false) → exec (.admitBay n) s = .next (s.settled
            ((((d.admissible b).filter (fun l => !d.topoOk l)).foldl (fun e l => e.wr (LNK_STATE_TOPO_MISMATCH l) 1) d).finish n.val 0x32)))
        ∧ (b ≤ 63 → d.admissible b ≠ [] → (∀ l ∈ d.admissible b, d.topoOk l = true) →
            let e := (((d.admissible b).foldl (fun e l => e.admitLink l) d).bayMask (admBit b) b true).bayMask (discBit b) b false
            exec (.admitBay n) s = .next (s.settled (Dev.finish { e with lnk := { e.lnk with barred := setDel b e.lnk.barred } } n.val 0
              (d.admissible b).length))))
      ∧ (s.dev.lnk.retiring.get b 0 ≠ 0 → exec (.retireBay n) s = .next (s.settled s.dev))
      ∧ (s.dev.adminReady n.val 0xA1 = true → s.dev.lnk.retiring.get b 0 = 0 →
        (63 < b → exec (.retireBay n) s = .next (s.settled (d.finish n.val 0x32)))
        ∧ (b ≤ 63 →
          let e : Dev := { d with lnk := { d.lnk with retiring := d.lnk.retiring.set b (n.val + 1) 0 } }
          (e.bayOwes b = true → exec (.retireBay n) s = .next (s.settled e))
          ∧ (e.bayOwes b = false → exec (.retireBay n) s = .next (s.settled ((e.retire b).finish n.val 0))))))
    ∧ (∀ (l : Fin 512) (v : BitVec 32), s.dev.setupOpen (LNK_CTRL l.val) = true →
      let r := v.toNat / 4 % 4
      let d := if r = 3 then s.dev.opened (LNK_CTRL l.val) else (s.dev.opened (LNK_CTRL l.val)).wr (LNK_CTRL_MAX_RATE l.val) r
      let on := d.flag (LNK_CTRL_ENABLE l.val)
      let e := if on = true ∧ v.toNat % 2 = 0 then d.laneDisable l.val else if on = false ∧ v.toNat % 2 = 1 then d.laneEnable l.val else d
      let f := if v.toNat / 2 % 2 = 1 then e.retrainLink l.val else e
      exec (.laneEnableWrite l v) s = .next (s.settled f) ∧ exec (.retrain l v) s = .next (s.settled f))
    ∧ (∀ (l : Fin 512) (near : Nat) (m : List Byte) (d : Dev) (t : LaneTest), s.dev.takeMsg l.val 0x33 = some (m, d) →
      let lane := l.val / 8 * 8 + leAt m 4 1 % 8
      (d.lane lane).test = some t → t.carrier = l.val →
      let e := d.wrs [(LNK_PRBS_NEAR_ERRORS lane, Nat.min near 0xFFFFFFFF), (LNK_PRBS_FAR_ERRORS lane, leAt m 8 4)]
      let lim := lineRate t.rate * 10 * t.ms
      (leAt m 5 1 ≠ 0 → exec (.laneTestResult l near) s = .next (s.settled (e.laneTestEnd lane 3)))
      ∧ (leAt m 5 1 = 0 →
        (near ≤ lim → leAt m 8 4 ≤ lim → exec (.laneTestResult l near) s
          = .next (s.settled ((e.wr (LNK_LANE_FAULTY lane) 0).laneTestEnd lane 1)))
        ∧ (lim < near ∨ lim < leAt m 8 4 → exec (.laneTestResult l near) s = .next (s.settled
            ((e.faultFree { unit := .lane (Fin.ofNat 512 lane), src := 6, access := 7 } false 16).laneTestEnd lane 2)))))

/-! ## Flits (R298–R315) -/

/-- On a link on which no flits run nothing that arrives or comes due is looked at. On one on which they do: what the lane's FEC found is
counted; a flit that fails its CRC, as one does that a codeword beyond correction carried, is discarded, counted and makes a LINK_CTRL due; one of the DATA kind reaches the receive window, a LINK_CTRL the
sender; a slot carries a due retransmission first, then a due LINK_CTRL, then a channel that is ready, else IDLE; ACK_TIME makes a LINK_CTRL due while a gap is open;
REPLAY_TO makes the flit due again, or takes the link down at its ninth retransmission; DEAD_TIME takes the link down (R301,
R275, R304, R307–R310, R314, R329). Between a framing error and the link's going down nothing arrives or leaves (the model's choice, log
entry 122). -/
def Obligations.FlitsArriveAndLeaveByTheirRules : Prop :=
  ∀ (s : State) (l : Fin 512),
    let d := s.dev
    (d.flitting l.val = false →
      (∀ f, exec (.flitReceive l f) s = .next (s.settled d)) ∧ (∀ f, exec (.linkCtrl l f) s = .next (s.settled d))
        ∧ exec (.txSlot l) s = .next (s.settled d) ∧ exec (.ackTimeExpire l) s = .next (s.settled d)
        ∧ (∀ q, exec (.replayToExpire l q) s = .next (s.settled d)) ∧ exec (.deadTimeExpire l) s = .next (s.settled d))
    ∧ (d.flitting l.val = true → (d.link l.val).sess.dead = true →
      (∀ f, exec (.flitReceive l f) s = .next (s.settled d)) ∧ exec (.txSlot l) s = .next (s.settled d))
    ∧ (d.flitting l.val = true → (d.link l.val).sess.dead = false →
      (∀ x : RxFlit, flitGood x.bytes = false ∨ 0 < x.uncorrected →
          exec (.flitReceive l x) s = .next (s.settled (((d.countFec l.val x).rxSlot l.val).rxBad l.val)))
      ∧ (∀ x : RxFlit, flitGood x.bytes = true → x.uncorrected = 0 →
          let f := x.bytes
          let e := (d.countFec l.val x).rxSlot l.val
          let g := e.setSess l.val { ((e.link l.val).sess.header f) with lastGood := d.now }
          let shown := fun x : Dev => if x.flitting l.val then x.showSess l.val else x
          (flitKind f = 0 → exec (.flitReceive l x) s = .next (s.settled (shown (g.rxData l.val f))))
          ∧ (flitKind f = 1 → exec (.linkCtrl l x) s = .next (s.settled (shown (g.rxCtrl l.val f)))
              ∧ exec (.flitReceive l x) s = exec (.linkCtrl l x) s)
          ∧ (flitKind f = 2 → exec (.flitReceive l x) s = .next (s.settled (shown g)))
          ∧ (flitKind f = 3 → exec (.flitReceive l x) s = .next (s.settled (shown (g.linkDown l.val 5)))))
      ∧ (∃ t : Dev, exec (.txSlot l) s = .next (s.settled t)
          ∧ (∀ x, (d.link l.val).sess.replay.find? (·.due) = some x → 8 ≤ x.rexmits →
              (d.linkDown l.val 2).flitting l.val = false → t = d.linkDown l.val 2)
          ∧ ((d.link l.val).sess.replay.all (fun x => !x.due) = true → (d.link l.val).sess.ctrlDue = true →
              t.out = (d.sendCtrl l.val).out ∧ (t.link l.val).sess.ctrlDue = false ∧ (t.link l.val).sess.initSent = true)
          ∧ (∀ x, (d.link l.val).sess.replay.find? (·.due) = some x → x.rexmits < 8 → t.out = (d.sendAgain l.val x).out)
          ∧ ((d.link l.val).sess.replay.all (fun x => !x.due) = true → (d.link l.val).sess.ctrlDue = false →
              let sess := (d.link l.val).sess
              let active := d.linkActive l.val
              (∀ vc, sess.control active = some vc → t.out = (d.sendData l.val vc).out)
              ∧ (sess.control active = none →
                t.out = (if active && sess.ready 0 then d.sendData l.val 0 else d.sendIdle l.val).out)))
      ∧ ((d.link l.val).sess.front ≠ (d.link l.val).sess.next → (d.link l.val).sess.reorder ≠ [] →
          exec (.ackTimeExpire l) s = .next (s.settled
            (let x := d.advance ((d.link l.val).sess.gapAt + 125 * d.rd LNK_FLIT_CFG_ACK_TIME)
             x.setSess l.val { (d.link l.val).sess with ctrlDue := true, gapAt := x.now })))
      ∧ (∀ (q : Fin 4096) (x : TxFlit),
          (d.link l.val).sess.replay.find? (fun t => t.seq == q.val && !t.stored && !t.due) = some x →
          let y := d.advance (x.sentAt + 1000 * d.rd LNK_FLIT_CFG2_REPLAY_TO)
          (8 ≤ x.rexmits → exec (.replayToExpire l q) s = .next (s.settled (y.linkDown l.val 2)))
          ∧ (x.rexmits < 8 → exec (.replayToExpire l q) s = .next (s.settled (y.setSess l.val { (d.link l.val).sess with
              replay := (d.link l.val).sess.replay.map (fun z => if z.seq = q.val then { z with due := true } else z) }))))
      ∧ exec (.deadTimeExpire l) s = .next (s.settled
          ((d.advance ((d.link l.val).sess.lastGood + 1000 * d.rd LNK_FLIT_CFG2_DEAD_TIME)).linkDown l.val 6)))

/-- Delivery is in order and drops no byte: the flit numbered NEXT, and only it, leaves the reorder buffer, NEXT moves past
it, its payload follows the bytes its channel held, and what is cut off their front is a run of whole messages, each as long
as its length field says and of a type its channel allows, also where a framing error stands behind them; the other channels are as they were. A run of
deliveries that meets no framing error ends exactly where the first gap is (R304, R305, R315, R316). -/
def Obligations.DeliveryKeepsEveryByteInOrder : Prop :=
  (∀ (s t : Session) (m : List (List Byte)) (ok : Bool), s.deliver1 = some (m, t, ok) →
    ∃ vc p, (s.next, vc, p) ∈ s.reorder
      ∧ m.flatten ++ t.rx.get vc [] = s.rx.get vc [] ++ p
      ∧ (∀ x, x ∈ m → x.length = leAt x 2 2 ∧ msgOk vc (leAt x 0 1) x.length = true)
      ∧ (∀ v, v ≠ vc → t.rx.get v [] = s.rx.get v [] ∧ t.granted.get v 0 = s.granted.get v 0)
      ∧ t.next = (s.next + 1) % 4096 ∧ (∀ r, r ∈ t.reorder ↔ r ∈ s.reorder ∧ r.1 ≠ s.next))
    ∧ (∀ (n : Nat) (s t : Session) (m : List (List Byte)), s.next < 4096 → Session.deliver n s [] = (m, t, true) →
        ∃ k, k ≤ n ∧ t.next = (s.next + k) % 4096
          ∧ (∀ i, i < k → i < 4096 → ∃ r ∈ s.reorder, r.1 = (s.next + i) % 4096)
          ∧ (k < n → ∀ r ∈ t.reorder, r.1 ≠ t.next))

/-- A sender never has more than W flits unacknowledged: with at most W between UNA and SND before a slot there are at most W
after it, whatever the slot carries (R303). -/
def Obligations.SendersStayWithinTheirWindow : Prop :=
  ∀ (d : Dev) (l : Nat),
    let within := fun s : Session => s.snd < 4096 ∧ s.una < 4096 ∧ seqDist s.snd s.una ≤ s.window
    (d.link l).sess.window ≤ 1024 → within (d.link l).sess → (∀ x, x ∈ (d.link l).sess.replay → x.due = true → x.rexmits < 8) → within ((txSlot l d).link l).sess

/-! ## The bridge (R335–R364) -/

/-- BRG_WIN_CTRL. A write with ENABLE 1 to a window that is off stores the other fields and checks the window: every check
passed, it is ENABLED; otherwise it stays off with STATE REFUSED and the REASON of the first check in the order of R336 that
fails. While it is on, only a write that clears ENABLE alone is taken. -/
def Obligations.WindowsOpenWhenEveryCheckPasses : Prop :=
  ∀ (s : State) (n : Fin 8) (w : Fin 256) (v : BitVec 32), s.dev.setupOpen (BRG_WIN_CTRL n.val w.val) = true →
    let a := BRG_WIN_CTRL n.val w.val
    let d := s.dev.opened a
    let e := (d.writeWord a v.toNat).wr (BRG_WIN_CTRL_ENABLE n.val w.val) 0
    let k := e.rd (BRG_WIN_CTRL_LOG2SIZE n.val w.val)
    let b := e.winBase n.val w.val
    let l := e.winLink n.val w.val
    let c := e.winSlice n.val w.val
    let fails : List Prop := [k < 12 ∨ 32 < k, b % 2 ^ k ≠ 0, 2 ^ (e.port n.val).bar4 < b + 2 ^ k,
      (∃ x, x < 256 ∧ x ≠ w.val ∧ e.winOn n.val x = true ∧ e.winBase n.val x < b + 2 ^ k ∧ b < e.winBase n.val x + e.winSize n.val x),
      (e.link l).admitted = none, bit (e.identCaps l) 0 = false, e.identCtrlSize l < e.winTarget n.val w.val + 2 ^ k,
      e.sliceState c = 0 ∨ e.slicePort c ≠ n.val,
      e.flag (BRG_WIN_CTRL_PREFETCHABLE n.val w.val) = true ∧ e.flag (BRG_WIN_CTRL_STRICT_ORDER n.val w.val) = true,
      c ≠ 0 ∧ e.rd (SLC_VECTORS_LAST c) < e.rd (SLC_VECTORS_BASE c) + e.rd (BRG_WIN_SLICE_VEC_OFFSET n.val w.val)]
    let state := fun (x r : Nat) => [(BRG_WIN_STATE_STATE n.val w.val, x), (BRG_WIN_STATE_REASON n.val w.val, r)]
    (d.winOn n.val w.val = false → bit v.toNat 0 = true →
      ((∀ i, i < 10 → ¬fails.getD i False) → exec (.windowEnable n w v) s = .next (s.settled
          (Dev.wrs { e with brg := { e.brg with gone := setDel (n.val * 256 + w.val) e.brg.gone } }
            ((BRG_WIN_CTRL_ENABLE n.val w.val, 1) :: state 1 0))))
      ∧ (∀ i, i < 10 → fails.getD i False → (∀ j, j < i → ¬fails.getD j False) →
          exec (.windowEnable n w v) s = .next (s.settled (e.wrs (state 2 (i + 1))))))
    ∧ (d.winOn n.val w.val = true →
      (d.word a = Nat.lor v.toNat 1 → bit v.toNat 0 = false → exec (.windowDisable n w v) s = .next (s.settled
          (d.wrs ((BRG_WIN_CTRL_ENABLE n.val w.val, 0) :: state 0 0))))
      ∧ (d.word a ≠ Nat.lor v.toNat 1 → exec (.windowDisable n w v) s = .next (s.settled d)
          ∧ exec (.windowEnable n w v) s = .next (s.settled d)))

/-- What crosses a window. A read that no window wholly holds is an Unsupported Request; one through a window whose link is
ACTIVE waits in its link's order and is served from pages that hold it; through a window whose link is not
ACTIVE it ends at once with Completer Abort and is logged NOT_ACTIVE, and a write is logged LINK_NOT_ACTIVE, or NOT_PERMITTED
without POSTED_OK; otherwise a write waits in its link's order, having invalidated the pages it overlaps. An outcome ends what
waits for it: read data, a write's status, BRG_READ_LIMIT, a page's or a tag's discard timer, WSTATUS_TO (R335, R343–R353). -/
def Obligations.HostRequestsCrossTheBridge : Prop :=
  ∀ (s : State) (n : Fin 8) (l : Fin 512), s.dev.hubOff = false → s.dev.flt.grave = false → s.dev.pwr.mode ≠ 1 →
    let d := s.dev
    (∀ o (dw : Fin 1025) be, d.winAt n.val o (4 * dw.val) = none →
        exec (.bridgeHostRead n o dw be) s
          = .next (s.settled (d.unsupportedReq n.val true (some ((d.port n.val).ext.bar4 + o)))))
    ∧ (∀ o (dw : Fin 1025) (be : BitVec 8) w, d.winAt n.val o (4 * dw.val) = some w →
        let k := d.winLink n.val w
        let r : BRead := ⟨n.val, w, k, d.winTarget n.val w + (o - d.winBase n.val w), 4 * dw.val, be.toNat, d.now, d.brg.seq, none,
          d.flag (BRG_WIN_CTRL_PREFETCHABLE n.val w), false⟩
        let e := { d with brg := { d.brg with seq := d.brg.seq + 1, reads := d.brg.reads ++ [r] } }
        (d.linkActive k = false → exec (.bridgeHostRead n o dw be) s = .next (s.settled (d.readAborts r 7)))
        ∧ (d.linkActive k = true → r.paged = false ∨ (Dev.missing e r) ≠ [] →
          exec (.bridgeHostRead n o dw be) s = .next (s.settled (Dev.forward e k).servePages))
        ∧ (d.linkActive k = true → r.paged = true → Dev.missing e r = [] →
          exec (.bridgeHostRead n o dw be) s = .next (s.settled (Dev.readAhead e r).servePages)))
    ∧ (∀ o (be : BitVec 8) (x : List Byte) (r : BitVec 16) (p : Option (BitVec 20)) w, x ≠ [] → d.winAt n.val o x.length = some w →
        let k := d.winLink n.val w
        let a := d.winTarget n.val w + (o - d.winBase n.val w)
        let q : BWrite := ⟨n.val, w, k, a, be.toNat, x, r.toNat, p.map BitVec.toNat, d.brg.seq, 0, none, false⟩
        let h : TlpHdr := ⟨2, (d.port n.val).ext.bar4 + o, x.length, r.toNat, p.map BitVec.toNat⟩
        (d.flag (BRG_WIN_CTRL_POSTED_OK n.val w) = false → exec (.bridgeHostWrite n o be x r p) s = .next (s.settled
            ((d.aerHdr n.val .unsupportedRequest (some h)).logWrite n.val w k a x.length r.toNat (p.map BitVec.toNat) 7)))
        ∧ (d.flag (BRG_WIN_CTRL_POSTED_OK n.val w) = true → d.linkActive k = false → exec (.bridgeHostWrite n o be x r p) s
            = .next (s.settled (d.writeFails n.val w k a x.length r.toNat (p.map BitVec.toNat) 6)))
        ∧ (d.flag (BRG_WIN_CTRL_POSTED_OK n.val w) = true → d.linkActive k = true → exec (.bridgeHostWrite n o be x r p) s
            = .next (s.settled (let e := d.invalidate k a x.length
                Dev.forward { e with brg := { e.brg with seq := d.brg.seq + 1, writes := e.brg.writes ++ [q] } } k))))
    ∧ (∀ m e g r, d.takeMsg l.val 0x49 = some (m, e) → e.btag l.val (leAt m 4 1) = some g → g.state = 1 →
        e.tagRead l.val (leAt m 4 1) = some r → leAt m 5 1 = 0 → (m.drop 8).length = r.len →
        exec (.ctrlReadData l) s = .next (s.settled
          ((((e.dropRead r).emit (.readData r.port (m.drop 8))).tagFree l.val (leAt m 4 1)).servePages)))
    ∧ (∀ m e x, d.takeMsg l.val 0x4B = some (m, e) →
        e.brg.writes.find? (fun y => y.link == l.val && y.sent.isSome && y.wseq == leAt m 4 2) = some x →
        let f := { e with brg := { e.brg with writes := e.brg.writes.filter (fun y => y.seq != x.seq) } }
        (leAt m 6 1 = 0 → exec (.ctrlWriteStatus l) s = .next (s.settled (f.forward l.val)))
        ∧ (x.dead = false → 1 ≤ leAt m 6 1 → leAt m 6 1 ≤ 3 →
            exec (.ctrlWriteStatus l) s = .next (s.settled ((f.bwriteFails x (leAt m 6 1)).forward l.val))))
    ∧ (∀ r, d.pwr.stalls = [] → d.brg.reads.find? (fun x => x.port == n.val) = some r → r.tag = none →
        exec (.readLimitExpire n) s = .next (s.settled
          ((((d.advance (r.since + 100000 * d.rd BRG_READ_LIMIT_LIMIT)).readAborts r 1).dropRead r).forward r.link)))
    ∧ (∀ (t : Fin 256) a p, d.page n.val l.val a = some p → p.data ≠ [] → exec (.discardTimerExpire true n l t a) s
        = .next (s.settled ((d.advance (p.since + 16000 * d.rd BRG_TIMERS_DISCARD)).pageOut p 3)))
    ∧ (∀ (t : Fin 256) a, d.btag l.val t.val = none → exec (.discardTimerExpire false n l t a) s = .next (s.settled d))
    ∧ (∀ x, d.brg.writes.find? (fun y => y.link == l.val && y.sent.isSome && !y.dead) = some x →
        exec (.wstatusTimeout l) s = .next (s.settled
          (let e := d.advance (x.sent.getD 0 + 1000000 * d.rd BRG_WSTATUS_WSTATUS_TO)
           let b := e.brg.writes.map (fun y => if y.seq = x.seq then { y with dead := true } else y)
           (Dev.bwriteFails { e with brg := { e.brg with writes := b } } x 4).forward l.val)))

/-- A tag in use is never given to another request: forwarding a link's requests, serving pages and expiring other tags leave
every tag in use as it is, so that a quarantined one becomes free only by its data or a link-down; and the tag a request takes
is the lowest free one (R344, R346). -/
def Obligations.TagsInUseAreNotReused : Prop :=
  ∀ (d : Dev) (l t : Nat) (g : RTag), d.btag l t = some g → t < 256 →
    (d.forward l).btag l t = some g
    ∧ d.servePages.btag l t = some g
    ∧ (∀ k u, k ≠ l ∨ u ≠ t → u < 256 → (d.tagExpires k u).btag l t = some g)
    ∧ (d.freeTag l ≠ some t)
    ∧ (∀ u, d.freeTag l = some u → ∀ v, v < u → (d.btag l v).isSome = true)

/-- Polling, events and the chain: a poll's slot sends POLL with the next PSEQ; a POLL_STATUS stores its word, clears
POLL_MISSED, raises 43 when ATTENTION rises and 44 when THERMAL changes, and fetches the pending groups; the events of a list
are routed in its order; a read of BRG_EVQ takes its oldest record; a scan drives the LEDs and counts the buttons (R356–R362). -/
def Obligations.PollsEventsAndTheChain : Prop :=
  ∀ (s : State) (l : Fin 512),
    let d := s.dev
    (d.flitting l.val = true → d.polls l.val = true → d.brg.polled.get l.val 0 = 0 → exec (.pollTick l) s = .next (s.settled
        (let q := d.brg.pseq.get l.val 0
         let b := { d.brg with polled := d.brg.polled.set l.val 1 0, pseq := d.brg.pseq.set l.val ((q + 1) % 2 ^ 16) 0 }
         Dev.txMsg { d with brg := b } l.val 2 (message 0x40 (leBytes 2 q ++ leBytes 2 0)))))
    ∧ (∀ m e, d.takeMsg l.val 0x41 = some (m, e) →
        let w := leAt m 8 4
        let old := e.rd (BRG_POLL_WORD_WORD l.val)
        let f := e.wrs [(BRG_POLL_WORD_WORD l.val, w), (BRG_LINK_POLL_MISSED l.val, 0)]
        let f := { f with brg := { e.brg with polled := e.brg.polled.set l.val 0 0 } }
        let g := if bit w 8 = true ∧ bit old 8 = false then f.raise 43 else f
        let h := if bits w 11 2 ≠ bits old 11 2 then g.raise 44 else g
        exec (.pollStatus l) s = .next (s.settled
          (if w % 256 = 0 then h else h.txMsg l.val 2 (message 0x42 (leBytes 4 (w % 256))))))
    ∧ (∀ m e, d.takeMsg l.val 0x43 = some (m, e) → exec (.eventList l) s = .next (s.settled
        (((m.drop 8).take (leAt m 4 2)).foldl (fun x v => x.routeEvent l.val v.toNat) e)))
    ∧ (d.hubOff = false → d.addrOff BRG_EVQ = false →
        let k := { d with keyHalf := false }
        (d.brg.evq = [] → exec .brgEvqRead s = .next (s.settled (k.emit (.readReturn d.mgrPort 0))))
        ∧ (∀ a v r, d.brg.evq = (a, v) :: r → a < 2 ^ 14 → v < 2 ^ 14 → exec .brgEvqRead s = .next (s.settled
            ((Dev.sample { k with brg := { d.brg with evq := r, evqOver := false } } 45).emit
              (.readReturn d.mgrPort (a + 2 ^ 16 * v + 2 ^ 30 * b2n d.brg.evqOver + 2 ^ 31))))))
    ∧ (d.hubOff = false → ∀ b : BitVec 64, (∀ i, i < 64 → d.brg.btn.get i 0 = 0) → (∀ i, i < 64 → d.flag (BRG_BAY_LED_BTN i) = false) →
        ∃ t : Dev, exec (.sidebandScan b) s = .next (s.settled t) ∧ t.out = .sideband d.leds :: d.out
          ∧ ∀ i, i < 64 → t.brg.btn.get i 0 = b2n (b.getLsbD i))

/-! ## Bays and the ledger (R365–R394) -/

/-- Bay presence, arming and power: an insertion is recorded and an armed bay waits for a start slot; a removal turns the gates
off; a free slot goes to the next bay, which enters RAMP with the feeds that are usable; power-good brings ON; the fault timer's end trips
the bay, also one due when the carrier is removed; a lost feed turns its gate off, and the last one returns the bay to WAIT_GROUP, but in
GRAVE (log entry 119); a usable feed turns its gate on at DVDT from VOUT; BAY_POWER and BAY_CTRL.ARM
start and stop it; the sample of 0.1 ms measures, models, trips and cools (R366–R386). -/
def Obligations.BaysStartAndStop : Prop :=
  ∀ (s : State) (b : Fin 64),
    let d := s.dev
    let k := b.val
    let watched := d.pwr.mode ≠ 5 ∧ (d.pwr.mode = 2 → d.flag AON_WAKE_ARM_PRESENCE = true)
    (watched → d.flag (BAY_STATUS_PRESENT k) = false → exec (.presenceInsert b) s = .next (s.settled
      (((((d.wr (BAY_STATUS_PRESENT k) 1).bayBit BAY_PRESENT_LO_BAY BAY_PRESENT_HI_BAY k 1).inc (BAY_TRIPS_INSERTIONS k)).raise (448 + k)).bayTry k)))
    ∧ (watched → d.flag (BAY_STATUS_PRESENT k) = true → exec (.presenceRemove b) s = .next (s.settled
        (let x := if d.powered k = true ∧ 0 < (d.bayT k).timer ∧ d.timerDone k = true then
            d.bayTrip k true false (d.inLimit k (d.rd (BAY_I_A_VALUE k)) (BAY_STATUS_GATE_A_ON k))
              (d.inLimit k (d.rd (BAY_I_B_VALUE k)) (BAY_STATUS_GATE_B_ON k))
          else d
         let e := (((x.wr (BAY_STATUS_PRESENT k) 0).bayBit BAY_PRESENT_LO_BAY BAY_PRESENT_HI_BAY k 0).gatesOff k).wrs
          [(BAY_STATUS_RETRIES k, 0), (BAY_STATUS_NEW_CARRIER k, 1)]
         (if e.bayState k = 5 ∨ e.bayState k = 7 then e else e.bayEnter k 0).raise (448 + k))))
    ∧ (∀ x, d.nextBay = some x → d.startsOk = true → d.starting < d.rd BAY_GROUP_SIZE → exec .bayStartSlot s = .next (s.settled
        (let e := d.wrs [(BAY_STATUS_GATE_A_ON x, d.rd (BAY_STATUS_FEED_A_OK x)), (BAY_STATUS_GATE_B_ON x, d.rd (BAY_STATUS_FEED_B_OK x)),
          (BAY_STATUS_DISCHARGING x, 0)]
         let up := fun (f : Fld) => (if e.flag f = true then e.rampTo x (e.rd (BAY_VOUT_VALUE x)) else Drive.off : Drive)
         let y := { e.bayT x with offAt := none, timer := 0, pgRun := 0, sinceRamp := 0, low := 0 }
         (e.setBay x { y with driveA := up (BAY_STATUS_GATE_A_ON x), driveB := up (BAY_STATUS_GATE_B_ON x) }).bayEnter x 2)))
    ∧ (d.nextBay = none ∨ d.startsOk = false ∨ d.rd BAY_GROUP_SIZE ≤ d.starting → exec .bayStartSlot s = .next (s.settled d))
    ∧ (d.bayState k = 3 → (d.bayT k).timer = 0 → d.rd (BAY_RAMP_PG_DELAY k) ≤ (d.bayT k).pgRun →
        exec (.powerGood b) s = .next (s.settled
          ((((((d.wr (BAY_STATUS_PG k) 1).bayBit BAY_PG_LO_BAY BAY_PG_HI_BAY k 1).setBay k
            { d.bayT k with pgSince := d.now, low := 0, cycled := false }).bayEnter k 4).bayLinksUp k (d.bayT k).cycled))))
    ∧ (d.flag (BAY_STATUS_PG k) = true → exec (.retryClear b) s = .next (s.settled
        ((d.advance ((d.bayT k).pgSince + 1000000000)).wr (BAY_STATUS_RETRIES k) 0)))
    ∧ (d.powered k = true → 0 < (d.bayT k).timer → d.timerDone k = true → exec (.faultTimerExpire b) s = .next (s.settled
        (d.bayTrip k true false (d.inLimit k (d.rd (BAY_I_A_VALUE k)) (BAY_STATUS_GATE_A_ON k))
          (d.inLimit k (d.rd (BAY_I_B_VALUE k)) (BAY_STATUS_GATE_B_ON k)))))
    ∧ (d.hubOff = false → ∀ f : Bool,
        let e := Dev.setDrive ((d.wrs [(gateFld k f, 0), (feedOk k f, 0)]).setBay k { d.bayT k with trim := 0 }) k f .off
        let g := if d.flag (gateFld k f) = true then e.fault { unit := .bay (Fin.ofNat 64 k), src := 3, detail := b2n f } else e
        let off := g.flag (BAY_STATUS_GATE_A_ON k) = false ∧ g.flag (BAY_STATUS_GATE_B_ON k) = false
        let h := d.wr (feedOk k f) 1
        (¬(g.powered k = true ∧ off) → exec (.feedLoss b f) s = .next (s.settled g))
        ∧ (g.powered k = true → off → exec (.feedLoss b f) s = .next (s.settled
            ((((g.setBay k { g.bayT k with waitSince := g.now, timer := 0, pgRun := 0, offAt := some g.now, cycled := true }).pgOff k).wr
              (BAY_STATUS_DISCHARGING k) 1).bayEnter k (if d.flt.grave = true then 3 else 1))))
        ∧ (h.powered k = true → h.flag (gateFld k f) = false → exec (.feedUsable b f) s = .next (s.settled
            ((((h.wr (gateFld k f) 1).wr (BAY_STATUS_DISCHARGING k) 0).setBay k { h.bayT k with offAt := none }).setDrive k f
              (.ramp (h.rd (BAY_VOUT_VALUE k) + 10 * h.rd (BAY_RAMP_DVDT k))))))
        ∧ (h.powered k = false ∨ h.flag (gateFld k f) = true → exec (.feedUsable b f) s = .next (s.settled h)))
    ∧ (d.hubOff = false → d.flag (BAY_STATUS_GATE_A_ON k) = false → d.flag (BAY_STATUS_GATE_B_ON k) = false →
        d.flag (BAY_STATUS_DISCHARGING k) = false → d.bayState k ≠ 7 → ∀ x y : Bool,
        exec (.fetShort b x y) s = .next (s.settled
          (let e := ((d.wr (BAY_STATUS_SHORT_FEED k) (if x = y then 3 else if x = true then 1 else 2)).gatesOff k).bayEnter k 7
           ((e.feedOf x y).2.fault { unit := .bay (Fin.ofNat 64 k), src := 5, detail := (e.feedOf x y).1 }).raise (64 + k))))
    ∧ (∀ v : BitVec 32, s.dev.setupOpen (BAY_CTRL k) = true →
        let e := d.opened (BAY_CTRL k)
        (bit v.toNat 0 = true → exec (.bayArmWrite b v) s = .next (s.settled ((e.wr (BAY_CTRL_ARM k) 1).bayTry k)))
        ∧ (bit v.toNat 0 = false → exec (.bayArmWrite b v) s = .next (s.settled (e.bayOff k))))
    ∧ (∀ n : Fin 262144, s.dev.adminReady n.val 0xA2 = true →
        let e := d.started n.val
        let x := (d.entry n.val).desc
        let c := darg x 4 1
        let a := darg x 5 1
        (63 < c ∨ 2 < a → exec (.bayPower n) s = .next (s.settled (e.finish n.val stInvalid)))
        ∧ (c ≤ 63 → a ≤ 2 → e.bayState c = 7 → exec (.bayPower n) s = .next (s.settled (e.finish n.val stInternal)))
        ∧ (c ≤ 63 → e.bayState c ≠ 7 →
          (a = 0 → exec (.bayPower n) s = .next (s.settled ((e.bayOff c).finish n.val stSuccess)))
          ∧ (a = 1 → exec (.bayPower n) s = .next (s.settled ((e.bayOn c true).finish n.val stSuccess)))
          ∧ (a = 2 → exec (.bayPower n) s = .next (s.settled
              (let f := e.bayOff c
               (f.setBay c { f.bayT c with cycle := (f.bayT c).cycle ++ [n.val] }).cycleOn c (f.rd (BAY_VOUT_VALUE c)))))))
    ∧ (d.hubOff = false → ∀ (ia ib va vb vo : BitVec 16) (t : BitVec 12), exec (.baySampleTick b ia ib va vb vo t) s = .next (s.settled
        ((((((((((d.dieTemp (9 + k / 32) t.toNat).bayMeasure k ia ib va.toNat vb.toNat vo.toNat).bayModels k ia ib va.toNat vb.toNat
          vo.toNat t.toNat).bayTimer k ia ib).thermalTrip k).bayRun k va.toNat vb.toNat vo.toNat).bayShare k ia ib).bayDrives k ia ib va.toNat vb.toNat vo.toNat).bayDischarge k vo.toNat).coolEnd k)))

/-- A free start slot never takes the bays in RAMP or PG_WAIT above BAY_GROUP.SIZE, and it goes to the bay that has waited
longest of those a usable feed could start, ties going to the lower number (R369). -/
def Obligations.NoMoreBaysStartThanTheGroupAllows : Prop :=
  ∀ d : Dev,
    (bayStartSlot d).starting ≤ Nat.max d.starting (d.rd BAY_GROUP_SIZE)
    ∧ (∀ b, d.nextBay = some b → b < 64 ∧ d.canStart b = true ∧ ∀ c, c < 64 → d.canStart c = true →
        (d.bayT b).waitSince < (d.bayT c).waitSince ∨ ((d.bayT b).waitSince = (d.bayT c).waitSince ∧ b ≤ c))
    ∧ (d.nextBay = none ↔ ∀ c, c < 64 → d.canStart c = false)

/-- The ledger loses no energy: what the slices' SLC_ENERGY and remainders gain in an interval is, to the nanojoule and modulo
the counters' width, the rails' energy and the bays' (R388). -/
def Obligations.TheLedgerLosesNoEnergy : Prop :=
  ∀ (d : Dev) (rail : Nat),
    let total := fun e : Dev => (List.range 1024).foldl (fun a t =>
      a + 1000000 * e.rd64 (SLC_ENERGY_LO_MJ t) (SLC_ENERGY_HI_MJ t) + e.bay.remainder.get t 0) 0
    let bays := (List.range 8).foldl (fun a o => a + d.octBayEnergy o) 0
    total (d.attribute rail) % (1000000 * 2 ^ 48) = (total d + rail + bays) % (1000000 * 2 ^ 48)

/-- The ledger's interval ends with its energy attributed, its cells counted and its time recorded, or, in the part of a power state in
which the ledger meters nothing, with its cells and time alone. READ_LEDGER writes a head and the records of its
scope, as many as the buffer takes, GET_LOG whole entries of its log; each ends with what it wrote, or HOST_DMA_ERROR
(R131, R387, R391). -/
def Obligations.LedgerAndLogsAreRead : Prop :=
  ∀ s : State,
    (∀ r, s.dev.hubOff = false →
      let d := s.dev.advance (s.dev.bay.closedAt + 1000000)
      exec (.ledgerInterval r) s = .next (s.settled (if d.unmetered then d.ledgerReset else d.ledgerClose r))
      ∧ d.ledgerReset.bay.cells = [] ∧ d.ledgerReset.bay.closedAt = d.now ∧ d.ledgerReset.regs = d.regs
      ∧ (d.ledgerClose r).bay.cells = [] ∧ (d.ledgerClose r).bay.closedAt = d.now)
    ∧ (∀ n : Fin 262144,
      let d := s.dev.started n.val
      let x := (s.dev.entry n.val).desc
      let len := darg x 0x10 4
      (s.dev.adminReady n.val 0xD0 = true →
        let scope := darg x 4 1
        let l := d.ledgerRecords scope
        let body := ((leBytes 8 d.bay.closedAt ++ leBytes 1 scope ++ leBytes 1 (d.rd GLB_LEDGER_STATUS_DISCONTINUOUS) ++ leBytes 2 0
          ++ leBytes 4 l.length ++ leBytes 16 0) ++ (l.take (Nat.min l.length ((len - 32) / 32))).flatten).take len
        (3 < scope → exec (.readLedger n) s = .next (s.settled (d.finish n.val stInvalid)))
        ∧ (scope ≤ 3 →
          (let h := d.hostWrite 0 (d.entry n.val).instar true false (darg x 8 8) body
           exec (.readLedger n) s = .next (s.settled (if h.1 then h.2.finish n.val stSuccess body.length else h.2.finish n.val stHostDma)))
          ∧ ((d.entry n.val).instar = d.sliceInstar 0 → d.egressBarred 0 = false → d.egressWaits 0 = false → d.canIssue (d.slicePort 0) = true → exec (.readLedger n) s
              = .next (s.settled ((d.emitAll (d.writeMsgs 0 true false (darg x 8 8) body)).finish n.val stSuccess body.length)))))
      ∧ (s.dev.adminReady n.val 0xD2 = true → 1 ≤ darg x 4 1 → darg x 4 1 ≤ 6 →
        let data := ((d.logFrom (darg x 4 1) (darg x 0x18 8)).take (len / 32)).flatten
        (data = [] → exec (.getLog n) s = .next (s.settled (d.finish n.val stSuccess 0)))
        ∧ (data ≠ [] →
          (let h := d.hostWrite 0 (d.entry n.val).instar true false (darg x 8 8) data
           exec (.getLog n) s = .next (s.settled (if h.1 then h.2.finish n.val stSuccess data.length else h.2.finish n.val stHostDma)))
          ∧ ((d.entry n.val).instar = d.sliceInstar 0 → d.egressBarred 0 = false → d.egressWaits 0 = false → d.canIssue (d.slicePort 0) = true → exec (.getLog n) s
              = .next (s.settled ((d.emitAll (d.writeMsgs 0 true false (darg x 8 8) data)).finish n.val stSuccess data.length))))))

/-! ## Power states, the chrysalis and eclosion (R395–R426) -/

/-- A state request for STATE ends at once with DONE when the device is in it, with BUDGET, NO_MIRROR, or RECOVERY when it is
refused; a request for ACTIVE in DORMANT returns; otherwise its entry begins. GLB_POWER_CMD collides while another request,
a switch or an update is under way, ENTER_STATE waits; SET_MIRROR checks its length (R396, R397, R400, R404, R405, R417). -/
def Obligations.StateRequestsAreEvaluated : Prop :=
  (∀ (d : Dev) (t : Nat) (cmd : Option Nat), t ≤ 2 →
    let cur := if d.pwr.mode = 1 then 1 else 0
    let short := d.rd AON_MIRROR_LEN_VALUE = 0 ∨ d.rd AON_MIRROR_LEN_VALUE < d.mirrorNeed
    let busy := d.flag SLC_GLOBAL_INSTAR_BUSY = true ∨ 1 < d.pwr.mode
    (t = cur → d.evalRequest t cmd = d.endRequest cmd 1)
    ∧ (t = 2 → 9500 < d.budget → d.evalRequest t cmd = d.endRequest cmd 5)
    ∧ (t = 2 → d.budget ≤ 9500 → short → d.evalRequest t cmd = d.endRequest cmd 6)
    ∧ (t ≠ cur → (t = 2 → d.budget ≤ 9500 ∧ ¬short) →
      (busy → d.evalRequest t cmd = d.endRequest cmd 7)
      ∧ (¬busy → t = 0 → d.evalRequest t cmd = d.dormantExit.endRequest cmd 1)
      ∧ (¬busy → t = 2 → d.evalRequest t cmd =
          (let q : PReq := ⟨2, cmd, 1, cur == 1, d.now, false, false, false, false, false, d.now, none⟩
           Dev.wrs { d with pwr := { d.pwr with noIntake := true, req := some q } } [(GLB_POWER_STATUS_PENDING, 1), (GLB_POWER_STATUS_PHASE, 1)]))
      ∧ (¬busy → t = 1 → d.evalRequest t cmd =
          (let q : PReq := ⟨1, cmd, 1, false, d.now, false, false, false, false, false, d.now, none⟩
           let e := Dev.wrs { d with pwr := { d.pwr with noIntake := true, req := some q } }
             [(GLB_POWER_STATUS_PENDING, 1), (GLB_POWER_STATUS_PHASE, 0)]
           e.queues.keys.foldl (fun d q => if (d.queue q).state = 1 then d.writeEvent q (d.queue q).sqHead true else d) e))))
  ∧ (∀ s : State, s.dev.setupOpen GLB_POWER_CMD = true →
    let d := s.dev.opened GLB_POWER_CMD
    (d.stateBusy = true → ∀ c, c ∈ [Instr.powerCmdActive, .powerCmdDormant, .powerCmdDiapause] →
      exec c s = .next (s.settled (d.wr GLB_POWER_STATUS_COLLIDE 1)))
    ∧ (d.stateBusy = false → exec .powerCmdActive s = .next (s.settled (d.evalRequest 0 none))
        ∧ exec .powerCmdDormant s = .next (s.settled (d.evalRequest 1 none))
        ∧ exec .powerCmdDiapause s = .next (s.settled (d.evalRequest 2 none))))
  ∧ (∀ (s : State) (n : Fin 262144),
    let d := s.dev.started n.val
    let x := (s.dev.entry n.val).desc
    (s.dev.stateBusy = true → exec (.enterState n) s = .next (s.settled s.dev))
    ∧ (s.dev.stateBusy = false → s.dev.adminReady n.val 0xB0 = true →
      (2 < darg x 4 1 → exec (.enterState n) s = .next (s.settled (d.finish n.val stInvalid)))
      ∧ (darg x 4 1 ≤ 2 → exec (.enterState n) s = .next (s.settled (d.evalRequest (darg x 4 1) (some n.val)))))
    ∧ (s.dev.adminReady n.val 0xB1 = true →
      let bad := d.pwr.req ≠ none ∨ d.pwr.mode ≠ 0 ∨ darg x 0x10 4 < d.mirrorNeed
      (bad → exec (.setMirror n) s = .next (s.settled (d.finish n.val stInvalid d.mirrorNeed)))
      ∧ (¬bad → exec (.setMirror n) s = .next (s.settled ((d.wrs [(AON_MIRROR_LO_VALUE, darg x 8 8), (AON_MIRROR_HI_VALUE, darg x 8 8 / 2 ^ 32),
          (AON_MIRROR_LEN_VALUE, darg x 0x10 4)]).finish n.val stSuccess d.mirrorNeed)))))

/-- An entry's steps: the drain's end takes DORMANT, or step 3; step 3 ends with the ledger closed and the mirror written; without a cause
each abort point leads to the next step, with one the entry unwinds, its RESULT fixed there, reloading GDDR6 first from step 4 on, by a read of
the mirror that R423's checks judge, INCOMPLETE set first when they fail; COMMIT_WAIT ends step 7 in the commit; the drain's timeout unwinds,
and a DORMANT request ends with DRAIN_TIMEOUT (R259, R400, R410–R413). The rails' last reading is free (log entry 118). -/
def Obligations.EntriesDrainAndUnwind : Prop :=
  ∀ (s : State) (q : PReq), s.dev.pwr.req = some q →
    let d := s.dev
    let none_ := q.wake = false ∧ q.port = false ∧ q.drain = false
    let unwinds := fun (e : Dev) (q : PReq) => (e.wr GLB_POWER_STATUS_ABORT_STEP q.step).unwindEnd { q with result := some q.cause }
    let reloads := fun e : Dev =>
      let f := e.wr GLB_POWER_STATUS_ABORT_STEP q.step
      let g := Dev.wr { f with pwr := { f.pwr with req := some { q with result := some q.cause, reload := true } } } AON_MIRROR_STATUS_PHASE 2
      let r := g.hostRead 0 g.mirrorAddr (g.rd AON_MIRROR_LEN_VALUE) false .mirror
      if r.1 = true then r.2 else r.2.reloadEnd 2
    (d.drained q = true → q.reload = false →
      (q.target = 1 → ∃ t : Dev, exec .drainComplete s = .next (s.settled t) ∧ t.pwr.mode = 1 ∧ t.pwr.noIntake = true
        ∧ t.rd GLB_POWER_STATUS_CUR = 1)
      ∧ (q.target ≠ 1 → q.step = 2 → none_ → exec .drainComplete s = .next (s.settled
          (((d.abortWaiting q).entryStep q 3).wr AON_MIRROR_STATUS_PHASE 1)))
      ∧ (q.target ≠ 1 → q.step = 2 → ¬none_ → exec .drainComplete s = .next (s.settled (unwinds d q))))
    ∧ (let e := d.advance (q.drainAt + 1000000 * d.rd AON_ENTRY_CFG_DRAIN_MS)
      (q.target = 1 → exec .drainTimeout s = .next (s.settled ((e.endRequest q.cmd 4).resumeFetch)))
      ∧ (q.target ≠ 1 → q.step = 2 → exec .drainTimeout s = .next (s.settled (unwinds e { q with drain := true }))))
    ∧ (q.target = 2 → q.reload = false →
      (q.step = 1 →
        let r := { q with drainAt := d.now }
        let e : Dev := { d with pwr := { d.pwr with req := some r } }
        (none_ → exec (.diapauseAbortPoint 0) s = .next (s.settled (e.entryStep r 2)))
        ∧ (¬none_ → exec (.diapauseAbortPoint 0) s = .next (s.settled (unwinds e r))))
      ∧ (q.step = 3 →
        let e := d.ledgerLast.writeMirror.wr AON_MIRROR_STATUS_PHASE 0
        ∀ r, e.pwr.req = some r →
          (r.wake = false → r.port = false → r.drain = false → exec (.diapauseAbortPoint 0) s = .next (s.settled (e.entryStep r (r.step + 1))))
          ∧ ((r.wake = true ∨ r.port = true ∨ r.drain = true) → r.step < 4 → exec (.diapauseAbortPoint 0) s = .next (s.settled (unwinds e r))))
      ∧ (q.step = 4 → none_ → exec (.diapauseAbortPoint 0) s = .next (s.settled (d.entryStep q 5)))
      ∧ (q.step = 4 → ¬none_ → exec (.diapauseAbortPoint 0) s = .next (s.settled (reloads d)))
      ∧ (q.step = 5 → none_ → exec (.diapauseAbortPoint 0) s = .next (s.settled ((d.saveBanks 0).entryStep q 6)))
      ∧ (q.step = 5 → ¬none_ → exec (.diapauseAbortPoint 0) s = .next (s.settled (reloads (d.saveBanks 0))))
      ∧ (q.step = 6 → none_ → exec (.diapauseAbortPoint 0) s = .next (s.settled (d.sealBanks.commitBegin q)))
      ∧ (q.step = 6 → ¬none_ → exec (.diapauseAbortPoint 0) s = .next (s.settled (reloads d.sealBanks))))
    ∧ (q.reload = true → d.hubOff = false → d.pwr.mode ≠ 3 → ∀ (i : Nat) (r : HRead) (hdr : List Byte) (body : BitVec 32) (secs : List (BitVec 32)),
      d.reads.findIdx (fun r => r.why == .mirror) = i → d.reads[i]? = some r → r.issued = true → r.last = true →
      let x := d.endRead i
      let v := headerResult hdr body secs x.pullSeq
      ∀ p, x.pwr.req = some p → p.reload = true → x.pwr.mode ≠ 3 →
      let e := x.wrs [(AON_MIRROR_STATUS_PHASE, 0), (AON_MIRROR_STATUS_RESULT, v)]
      let f := if p.step = 6 then e.inc AON_SEAL_COUNT_COUNT else e
      let g : Dev := { f with pwr := { f.pwr with banks := [] } }
      (v = 1 → exec (.unwindReloadDone .success hdr body secs) s = .next (s.settled (g.unwindEnd p)))
      ∧ (v ≠ 1 → exec (.unwindReloadDone .success hdr body secs) s = .next (s.settled
          ((g.loseMirror.wr AON_STATE_INCOMPLETE 1).unwindEnd p))))
    ∧ (q.step = 7 → exec .commitWaitExpire s = .next (s.settled
        (d.advance (q.stepAt + 1000000 * d.rd AON_ENTRY_CFG_COMMIT_WAIT)).commit))

/-- Wakes: an armed source starts the eclosion of a device in DIAPAUSE, and within 10 µs of another is recorded beside it; it is a
cause during an entry, and is held during the commit; a marked source that becomes pending is a wake with its number; one that is not armed does nothing. AON_ALARM raises source 47, and a brown-out in low-power mode loses the banks and
is recorded (R403, R406–R412, R419, R444). -/
def Obligations.WakesStartEclosions : Prop :=
  ∀ s : State,
    let d := s.dev
    let feed := d.flag AON_WAKE_ARM_FEED
    let aux := d.flag AON_WAKE_ARM_AUX
    let act := fun n => bit (d.rd AON_WAKE_ARM_ACT) n && !bit (d.rd AON_WAKE_ARM_PAT) n
    let pat := fun n => bit (d.rd AON_WAKE_ARM_ACT) n && bit (d.rd AON_WAKE_ARM_PAT) n
    let starts := fun (code detail : Nat) =>
      let e := (d.recordWake code detail false).wrs [(AON_REG_LOW_POWER, 0), (AON_STATE_PHASE, 2)]
      Dev.emit { e with pwr := { e.pwr with wakeHeld := false, startsBarred := true, railAt := e.now } } (.pwrEn true)
    (d.pwr.mode = 2 → d.pwr.blocked = false → d.rd AON_STATE_PHASE = 0 →
      (feed = true → exec .wakeFeed s = .next (s.settled (starts 1 0)))
      ∧ (aux = true → exec .wakeAux s = .next (s.settled (starts 2 0)))
      ∧ (∀ n : Fin 8, act n.val = true → exec (.wakeHostActivity n) s = .next (s.settled (starts 4 n.val)))
      ∧ (∀ n : Fin 8, pat n.val = true → exec (.wakeHostPattern n) s = .next (s.settled (starts 5 n.val))))
    ∧ (feed = true → exec .wakeFeed s = .next (s.settled (d.wake 1 0)))
    ∧ (feed = false → exec .wakeFeed s = .next (s.settled d))
    ∧ (aux = true → exec .wakeAux s = .next (s.settled (d.wake 2 0)))
    ∧ (aux = false → exec .wakeAux s = .next (s.settled d))
    ∧ (∀ n : Fin 8, (act n.val = true → exec (.wakeHostActivity n) s = .next (s.settled (d.wake 4 n.val)))
        ∧ (act n.val = false → exec (.wakeHostActivity n) s = .next (s.settled d))
        ∧ (pat n.val = true → exec (.wakeHostPattern n) s = .next (s.settled (d.wake 5 n.val)))
        ∧ (pat n.val = false → exec (.wakeHostPattern n) s = .next (s.settled d)))
    ∧ (∀ code detail,
        (d.pwr.mode = 2 → d.pwr.blocked = true → d.wake code detail = d)
        ∧ (d.pwr.mode = 2 → d.pwr.blocked = false → d.rd AON_STATE_PHASE ≠ 0 →
          let near := d.now ≤ d.rd64 AON_WAKE_TIME_LO_NS AON_WAKE_TIME_HI_NS + 10000 ∧ d.rd AON_WAKE_LAST_CODE ≠ code
          (near → d.wake code detail = (d.recordWake code detail false).noteSpot code detail) ∧ (¬near → d.wake code detail = d))
        ∧ (d.pwr.mode ≠ 2 → d.pwr.req = none → d.wake code detail = d)
        ∧ (∀ q, d.pwr.mode ≠ 2 → d.pwr.req = some q →
          let e := d.recordWake code detail true
          (q.target ≠ 2 → d.wake code detail = d)
          ∧ (q.target = 2 → q.step ≠ 7 → d.wake code detail = { e with pwr := { e.pwr with req := some { q with wake := true } } })
          ∧ (q.target = 2 → q.step = 7 → d.wake code detail = Dev.noteSpot { e with pwr := { e.pwr with wakeHeld := true } } code detail)))
    ∧ (∀ (e : Dev) (x : Nat), e.noteSpot 3 x = (if e.pwr.spot = none then { e with pwr := { e.pwr with spot := some x } } else e))
    ∧ (∀ x : Fin 512, srcEligible x.val = true →
        (d.hubOff = false → d.flag (EVC_SRC_CFG_EYESPOT x.val) = true → d.evc.pend.contains x.val = false →
          (∀ q, d.pwr.req = some q → q.target = 2 → exec (.wakeEyespot x) s = .next (s.settled
            ((Dev.notifyRise d { d with evc := { d.evc with pend := setAdd x.val d.evc.pend } }).spotWake x.val)))
          ∧ ((∀ q, d.pwr.req = some q → q.target ≠ 2) → exec (.wakeEyespot x) s = .next (s.settled d)))
        ∧ (d.hubOff = false → d.flag (EVC_SRC_CFG_EYESPOT x.val) = false → exec (.wakeEyespot x) s = .next (s.settled d))
        ∧ (d.pwr.mode = 2 → d.pwr.blocked = false → d.rd AON_STATE_PHASE = 0 → d.pwr.spot = none →
          x.val < 448 ∨ d.flag AON_WAKE_ARM_PRESENCE = true →
          (d.pwr.banks.get 5 {}).regs.get (EVC_SRC_CFG_EYESPOT x.val).key (resetField (EVC_SRC_CFG_EYESPOT x.val).key) = 1 →
          exec (.wakeEyespot x) s = .next (s.settled
            (((d.recordWake 3 x.val false).noteSpot 3 x.val).eclosionBegin)))
        ∧ (d.pwr.mode = 2 →
          (d.pwr.banks.get 5 {}).regs.get (EVC_SRC_CFG_EYESPOT x.val).key (resetField (EVC_SRC_CFG_EYESPOT x.val).key) ≠ 1 →
          exec (.wakeEyespot x) s = .next (s.settled d)))
    ∧ exec .aonAlarm s = .next (s.settled ((d.advance (d.rd64 AON_ALARM_LO_NS AON_ALARM_HI_NS)).raise 47))
    ∧ (d.pwr.mode = 2 → d.flag AON_REG_LOW_POWER = true → exec .brownout s = .next (s.settled
        (let e := d.resetExcept (fun a => !aonBlock a || a == AON_SEAL_COUNT || a == AON_REG)
         let f : Dev := { e with pwr := { e.pwr with banks := [], spot := none } }
         (f.wrs [(AON_CHRYSALIS_STATUS_B0_RUN, d.rd AON_CHRYSALIS_STATUS_B0_RUN), (AON_REG_BROWNOUT_SEEN, 1), (AON_REG_TIME_SUSPECT, 1)]).fault
           { unit := .aon, src := 5 })))
    ∧ (d.pwr.mode ≠ 2 ∨ d.flag AON_REG_LOW_POWER = false → exec .brownout s = .next (s.settled d))

/-- The stages of an eclosion: the rails' rise checks the banks and restores those that pass, after a brown-out counts all lost, B0 with
them, and starts cold (log entry 101), or times out after RAIL_TO; GDDR6 and firmware
ready, the mirror is read, and its checks in their order give RESULT: OK makes the device ACTIVE, any other loses the mirror's
items and holds ECLOSION_INCOMPLETE, which AON_ECLOSION_ACK ends (R415, R419–R424). -/
def Obligations.EclosionsRestoreTheDevice : Prop :=
  ∀ s : State,
    let d := s.dev
    (d.pwr.mode = 2 → d.rd AON_STATE_PHASE = 2 → d.flag AON_REG_BROWNOUT_SEEN = false → ∀ (bad : BitVec 6) (n : Nat) (r : Option (List Rail)),
      let lost := listMask ((List.range 6).filter (fun i => !d.bankPasses bad.toNat i))
      let e := (d.restoreBanks lost).wr AON_CHRYSALIS_STATUS_CORRECTED (Nat.min 255 n)
      let f : Dev := { e with pwr := { e.pwr with gddr := false, fw := false, pulling := false, e5Since := none, banks := [] } }
      (lost = 0 → exec (.eclosionRailsGood bad n r) s = .next (s.settled (f.b0Good r)))
      ∧ (lost ≠ 0 → bit lost 0 = false → exec (.eclosionRailsGood bad n r) s = .next (s.settled
          ((f.b0Good r).fault { unit := .aon, src := 3, detail := lost })))
      ∧ (bit lost 0 = true → exec (.eclosionRailsGood bad n r) s = .next (s.settled
          ((f.b0Lost 1 lost n r).fault { unit := .aon, src := 3, detail := lost }))))
    ∧ (d.pwr.mode = 2 → d.rd AON_STATE_PHASE = 2 → d.flag AON_REG_BROWNOUT_SEEN = true → ∀ (bad : BitVec 6) (n : Nat) (r : Option (List Rail)),
      let e := d.inc AON_SEAL_COUNT_COUNT
      exec (.eclosionRailsGood bad n r) s = .next (s.settled
        ((Dev.b0Lost { e with pwr := { e.pwr with banks := [], mirror := none } } 2 63 0 r).fault { unit := .aon, src := 3, detail := 63 })))
    ∧ (d.pwr.mode = 2 → d.rd AON_STATE_PHASE = 2 → exec .eclosionRailTimeout s = .next (s.settled
        (let e := (d.advance (d.pwr.railAt + 1000000 * d.rd AON_ECLOSION_CFG_RAIL_TO)).wrs
          [(AON_STATE_PHASE, 0), (AON_STATE_REASON, 1), (AON_REG_LOW_POWER, 1)]
         Dev.emit { e with pwr := { e.pwr with spot := none } } (.pwrEn false))))
    ∧ (d.pwr.mode = 3 →
      (d.flt.grave = false → exec .gddr6Retrained s = .next (s.settled
        (Dev.e5Ready { d with pwr := { d.pwr with gddr := true, trained := true } })))
      ∧ (d.flag GLB_GRAVE_DEVICE = false → exec .firmwareReloaded s = .next (s.settled
        (Dev.e5Ready { d with pwr := { d.pwr with fw := true } })))
      ∧ (d.flag GLB_GRAVE_DEVICE = true → exec .firmwareReloaded s = .next (s.settled
        (Dev.scarGrave { d with pwr := { d.pwr with mode := 0 } })))
      ∧ (d.pwr.gddr = true → d.pwr.fw = true → d.pwr.pulling = false → d.flt.grave = false →
        (bit (d.rd AON_CHRYSALIS_STATUS_BANK_LOST) 4 = true → exec .mirrorPullStart s = .next (s.settled (d.e5End 7)))
        ∧ (bit (d.rd AON_CHRYSALIS_STATUS_BANK_LOST) 4 = false → d.canIssue d.mgrPort = true → d.egressHeld d.mgrPort = false →
          let e := d.wrs [(AON_MIRROR_STATUS_PHASE, 2), (AON_STATE_PHASE, 5)]
          let f : Dev := { e with pwr := { e.pwr with pulling := true } }
          let r := f.hostRead 0 f.mirrorAddr (f.rd AON_MIRROR_LEN_VALUE) false .mirror
          exec .mirrorPullStart s = .next (s.settled (if r.1 = true then r.2 else r.2.e5End 2)))
        ∧ (bit (d.rd AON_CHRYSALIS_STATUS_BANK_LOST) 4 = false → d.canIssue d.mgrPort = false ∨ d.egressHeld d.mgrPort = true →
          exec .mirrorPullStart s = .next (s.settled d)))
      ∧ (∀ (i : Nat) (r : HRead) (hdr : List Byte) (body : BitVec 32) (secs : List (BitVec 32)),
        d.reads.findIdx (fun r => r.why == .mirror) = i → d.reads[i]? = some r → r.issued = true → r.last = true → d.hubOff = false →
        let x := d.endRead i
        exec (.mirrorPullDone .success hdr body secs) s = .next (s.settled (x.pullEnds (headerResult hdr body secs x.pullSeq))))
      ∧ (∀ t, d.pwr.e5Since = some t → d.pwr.pulling = false → (d.port d.mgrPort).bme = false →
        exec .mirrorWaitExpire s = .next (s.settled
          ((d.advance (t + 1000000 * d.rd AON_ECLOSION_CFG_MIRROR_WAIT)).e5End 6))))
    ∧ (∀ (hdr : List Byte) (body : BitVec 32) (secs : List (BitVec 32)) (seq : Nat),
      let good := hdr.length = 256 ∧ leAt hdr 0 4 = 0x5252494D ∧ leAt hdr 4 2 = 1 ∧ leAt hdr 0xFC 4 = (crc32c (hdr.take 0xFC)).toNat
        ∧ leAt hdr 0x18 4 = body.toNat ∧ (∀ i, i < 10 → leAt hdr (0x28 + 16 * i) 4 = (secs.getD i 0).toNat)
      let v := headerResult hdr body secs seq
      (¬good → v = 3) ∧ (good → leAt hdr 8 8 ≠ Config.dsn.toNat → v = 4) ∧ (good → leAt hdr 8 8 = Config.dsn.toNat → leAt hdr 0x10 4 ≠ seq → v = 5)
        ∧ (good → leAt hdr 8 8 = Config.dsn.toNat → leAt hdr 0x10 4 = seq → v = 1))
    ∧ (∀ (x : Dev) (v : Nat), x.pwr.mode = 3 → x.pwr.pulling = true →
      (v ≠ 1 → x.pullEnds v = x.e5End v)
      ∧ (∀ m, x.pwr.mirror = some m → m.seq = (x.rd AON_SEAL_COUNT_COUNT + 2 ^ 32 - 1) % 2 ^ 32 → x.pullEnds 1 = (x.restoreMirror m).e5End 1))
    ∧ (∀ v : BitVec 32, d.setupOpen AON_ECLOSION_ACK = true →
      let e := d.opened AON_ECLOSION_ACK
      (bit v.toNat 0 = true → e.flag AON_STATE_INCOMPLETE = true → exec (.eclosionAck v) s = .next (s.settled
          ((e.wrs [(AON_STATE_INCOMPLETE, 0), (AON_CHRYSALIS_STATUS_BANK_LOST, 0)]).e6)))
      ∧ (bit v.toNat 0 = false ∨ e.flag AON_STATE_INCOMPLETE = false → exec (.eclosionAck v) s = .next (s.settled e)))

/-- A bank returns what it saved: every register field that bank i, 1 to 5, held when it was saved reads as it did once the
bank is restored into a device whose fields of that bank read their Reset values; BAY_GROUP.STARTING, which counts bays that
run, is not among them, nor what HP_STATUS shows of a link that is down and of PowerState (R52, R56, R385, R414, R420). -/
def Obligations.BanksReturnWhatTheySaved : Prop :=
  ∀ (d e : Dev) (i : Nat) (weak : Bool), 1 ≤ i → i ≤ 5 → e.pwr.banks.get i {} = d.saveBank i weak →
    (∀ g : Fld, g.lo < 32 → d.inBank i g.addr = true → e.rd g = resetField g.key) →
    ∀ f : Fld, f.lo < 32 → d.inBank i f.addr = true → f.key ≠ BAY_GROUP_STARTING.key →
      (∀ n, n < 8 → f.key ∉ [HP_STATUS_SPEED n, HP_STATUS_WIDTH n, HP_STATUS_FLIT n, HP_STATUS_DSTATE n, HP_STATUS_EGRESS_HOLD n].map Fld.key) →
      (e.restoreBank i).rd f = d.rd f

/-! ## Faults (R446–R472) -/

/-- An error of a source opens its unit's capture with every word of the event, or merges into one that is open: a full block
keeps its first event's words and adds the source to TYPES, a latch sets OVERFLOW; a source that is grave is recorded at its scope
instead of counted; one of a port's buffers is reported by AER too (R66). A write of VALID ends the capture; FLT_UNLOCK and FAULT_INJECT act in factory test mode; a window's end
returns its count to 0 (R450–R455, R460, R463, R470, R471). -/
def Obligations.FaultEventsAreCaptured : Prop :=
  (∀ (s : State) (u : FUnit) (i : Fin 16) (inst acc addr : Nat) (p : Option (Fin 8)) (t : Option (Fin 1024)) (det : Nat) (x : FSrc),
    s.dev.unpoweredUnit u = false → faultSrc u i.val = some x →
    let d := s.dev.incSat (FAULT_COUNT_TOTAL u i.val)
    let ev : FEv := { unit := u, src := i.val, inst := inst, access := acc, addr := addr, port := p.map Fin.val, slice := t.map Fin.val, detail := det }
    let told := fun e : Dev => match u with
      | .hp n => if i.val = 0 then e.aer n.val .correctedInternal
        else if i.val = 1 then (e.aer n.val (.uncorrectableInternal false)).portLoses n.val acc inst
        else e
      | _ => e
    (x.cls ≠ 3 → s.dev.flag (FAULT_STATUS_VALID u) = false → exec (.faultEvent u i inst acc addr p t det) s = .next (s.settled
      (told (((d.captureOpen ev x.cls).sample (unitSource u)).countEvent ev x.cls))))
    ∧ (x.cls ≠ 3 → s.dev.flag (FAULT_STATUS_VALID u) = true → exec (.faultEvent u i inst acc addr p t det) s = .next (s.settled
      (told (((d.captureMerge ev x.cls).sample (unitSource u)).countEvent ev x.cls))))
    ∧ (x.cls = 3 → ∀ b, u = .bay b → s.dev.flag (FAULT_STATUS_VALID u) = false →
      exec (.faultEvent u i inst acc addr p t det) s = .next (s.settled
        (((s.dev.captureOpen ev 3).sample (unitSource u)).graveBay b.val det)))
    ∧ (x.cls = 3 → ∀ c, (u, c) ∈ [(FUnit.mgt, 1), (FUnit.sch, 2), (FUnit.aon, 3)] → s.dev.flag (FAULT_STATUS_VALID u) = false →
      exec (.faultEvent u i inst acc addr p t det) s = .next (s.settled
        (((s.dev.captureOpen ev 3).sample (unitSource u)).graveDevice c u i.val det))))
  ∧ (∀ (d : Dev) (e : FEv) (cls : Nat), e.src < 16 → cls < 4 →
    let u := e.unit
    let o := d.captureOpen e cls
    let m := d.captureMerge e cls
    o.rd (FAULT_STATUS_VALID u) = 1 ∧ o.rd (FAULT_STATUS_CLASS u) = cls ∧ o.rd (FAULT_CAPTURE_FIRST u) = e.src
    ∧ o.rd (FAULT_CAPTURE_DETAIL u) = e.detail % 2 ^ 32 ∧ o.rd (FAULT_CAPTURE_TIME_LO u) = d.now % 2 ^ 32
    ∧ (unitFull u = true → o.rd (FAULT_CAPTURE_ADDR_LO u) = e.addr % 2 ^ 32 ∧ o.rd (FAULT_CAPTURE_TYPES u) = 2 ^ e.src)
    ∧ m.rd (FAULT_CAPTURE_FIRST u) = d.rd (FAULT_CAPTURE_FIRST u) ∧ m.rd (FAULT_CAPTURE_DETAIL u) = d.rd (FAULT_CAPTURE_DETAIL u)
    ∧ m.rd (FAULT_CAPTURE_ADDR_LO u) = d.rd (FAULT_CAPTURE_ADDR_LO u) ∧ m.rd (FAULT_CAPTURE_TIME_LO u) = d.rd (FAULT_CAPTURE_TIME_LO u)
    ∧ m.rd (FAULT_MERGE_COUNT u) = Nat.min 65535 (d.rd (FAULT_MERGE_COUNT u) + 1)
    ∧ (unitFull u = true → m.rd (FAULT_CAPTURE_TYPES u) = Nat.lor (d.rd (FAULT_CAPTURE_TYPES u)) (2 ^ e.src) % 2 ^ 16
        ∧ m.rd (FAULT_STATUS_OVERFLOW u) = d.rd (FAULT_STATUS_OVERFLOW u))
    ∧ (unitFull u = false → m.rd (FAULT_STATUS_OVERFLOW u) = 1))
  ∧ (∀ (s : State) (u : FUnit) (v : BitVec 32),
    (s.dev.setupOpen (FAULT_STATUS u) = true →
      let d := s.dev.opened (FAULT_STATUS u)
      let e := if bit v.toNat 7 = true then d.wr (FAULT_STATUS_SEVERE_SEEN u) 0 else d
      exec (.faultClear u v) s = .next (s.settled (if bit v.toNat 0 = true then e.faultClear u else e))
      ∧ (d.faultClear u).rd (FAULT_STATUS_VALID u) = 0 ∧ (d.faultClear u).rd (FAULT_MERGE_COUNT u) = 0)
    ∧ (s.dev.setupOpen (FAULT_INJECT u) = true →
      let d := s.dev.opened (FAULT_INJECT u)
      (d.injectLive = false → exec (.faultInjectFire u v) s = .next (s.settled d))
      ∧ (∀ x, d.injectLive = true → faultSrc u (v.toNat % 16) = some x →
        (bit v.toNat 4 = true → x.cls ≠ 3 → exec (.faultInjectFire u v) s = .next (s.settled
          ((d.writeWord (FAULT_INJECT u) v.toNat).fault { unit := u, src := v.toNat % 16, inj := true, noCount := bit v.toNat 5 })))
        ∧ (bit v.toNat 4 = false ∨ x.cls = 3 → exec (.faultInjectFire u v) s = .next (s.settled (d.writeWord (FAULT_INJECT u) v.toNat)))))
    ∧ (s.dev.pwr.por = false → s.dev.flag GLB_TEST_FACTORY = true →
      (s.dev.flt.unlockHalf = true → v = 0xAEDFF0E8#32 → exec (.fltUnlock v) s = .next (s.settled
        (Dev.wr { s.dev with flt := { s.dev.flt with unlockHalf := false } } GLB_TEST_UNLOCKED 1)))
      ∧ (s.dev.flt.unlockHalf = false ∨ v ≠ 0xAEDFF0E8#32 → exec (.fltUnlock v) s = .next (s.settled
        { s.dev with flt := { s.dev.flt with unlockHalf := decide (v = 0x51200F17#32) } })))
    ∧ (∀ (i : Fin 16) (inst : Nat) (w : FWin),
      s.dev.flt.wins.find? (fun w => w.unit == unitBase u && w.src == i.val && w.inst == inst) = some w →
      exec (.faultWindowExpire u i inst) s = .next (s.settled ((s.dev.advance (w.start + s.dev.winLen w.unit w.src)).closeWindows))))

/-- The Nth event of a source within its window escalates, and none before it does: with no window open, N − 1 events in the
same window count and the next closes it (R455–R457). -/
def Obligations.TheNthEventInAWindowEscalates : Prop :=
  ∀ (d : Dev) (u : FUnit) (src inst cls : Nat), src < 16 → cls ≠ 2 → 0 < d.winLen (unitBase u) src →
    (∀ w, w ∈ d.flt.wins → w.unit = unitBase u → w.src = src → w.start + d.winLen w.unit w.src ≤ d.now) →
    let n := d.rd (FAULT_CLASS_CFG_N u src)
    let after := fun k => (List.range k).foldl (fun e _ => (e.countWindow u src inst cls).2) d
    (∀ k, k + 1 < n → ((after k).countWindow u src inst cls).1 = false)
    ∧ ((after (n - 1)).countWindow u src inst cls).1 = true
    ∧ (∀ w, w ∈ (after (Nat.max n 1)).flt.wins → w.unit = unitBase u → w.src = src → w.inst ≠ (if perInstance u src then inst else 0))

/-! ## Spares, tests and the management pair (R473–R493) -/

/-- BRING_IN_SPARE and TEST_UNIT for each kind of unit, and the ends of their tests, octant actions and failovers: a swap is
requested, joined or refused; a test's verdict returns its unit or retires it; an octant that is ready rejoins at a boundary; a lost
core fails over or is grave (R473–R492). -/
def Obligations.SparesTestsAndCores : Prop :=
  ∀ (s : State),
    (∀ n : Fin 262144,
      let d := s.dev.started n.val
      let x := (s.dev.entry n.val).desc
      let k := darg x 4 1
      let u := darg x 6 2
      let t := darg x 8 4
      let busy := d.flag SLC_GLOBAL_INSTAR_BUSY
      (s.dev.adminReady n.val 0xC0 = true →
        let does := fun e : Dev => exec (.bringInSpare n) s = .next (s.settled e)
        let more := fun (w : Swap) => { w with cmds := w.cmds ++ [n.val] }
        (busy = true → does (d.finish n.val stBusy))
        ∧ (busy = false → k = 1 → u < 64 →
          (d.pendingSwap u ≠ none → does (d.joinSwap u more))
          ∧ (d.pendingSwap u = none → d.octEng (u / 8) 2 = none → does (d.finish n.val stQuota))
          ∧ (∀ p, d.pendingSwap u = none → d.octEng (u / 8) 2 = some p →
              does (d.addSwap ⟨1, u, (d.physOf u).getD noUnit, p, [n.val], none, none⟩)))
        ∧ (busy = false → k = 4 → u < 9 →
          let bad := d.rd SPR_PLANE_RETIRED = u ∨ bit (d.rd SPR_PLANE_IN_USE) u = false
          (bad → does (d.finish n.val stInvalid))
          ∧ (¬bad → d.swapOf 4 u ≠ none → does (d.joinKind 4 u more))
          ∧ (∀ p, ¬bad → d.swapOf 4 u = none → d.sparePlane = some p → does (d.addSwap ⟨4, u, u, p, [n.val], none, none⟩))
          ∧ (¬bad → d.swapOf 4 u = none → d.sparePlane = none → does (d.finish n.val stQuota)))
        ∧ (busy = false → k = 5 → u < 1024 →
          (d.mgt.wires.contains u = true → does (d.finish n.val stInvalid))
          ∧ (d.mgt.wires.contains u = false → d.swapOf 5 u = none → d.wireSpare u = true → does (d.addSwap ⟨5, u, u, u, [n.val], none, none⟩))
          ∧ (d.mgt.wires.contains u = false → d.swapOf 5 u ≠ none → does (d.joinKind 5 u more))
          ∧ (d.mgt.wires.contains u = false → d.swapOf 5 u = none → d.wireSpare u = false → does (d.finish n.val stQuota)))
        ∧ (busy = false → ¬(k = 1 ∧ u < 64) → ¬(k = 4 ∧ u < 9) → ¬(k = 5 ∧ u < 1024) → does (d.finish n.val stInvalid)))
      ∧ (s.dev.adminReady n.val 0xC1 = true →
        let does := fun e : Dev => exec (.testUnit n) s = .next (s.settled e)
        (busy = true → does (d.finish n.val stBusy))
        ∧ (busy = false → k = 1 → u < 72 → t = 1 → d.eng.tests.get u 0 = 0 → d.rd (ENG_STATUS_STATE u) = 2 → d.testRuns (u / 9) = true →
            does ((((d.showTest 1 1 u).wr SPR_TEST_CELLS_CELLS 0).beginTest u n.val 0).wr (ENG_STATUS_STATE u) 3))
        ∧ (∀ e p, busy = false → k = 1 → u < 72 → t = 1 → d.eng.tests.get u 0 = 0 → d.rd (ENG_STATUS_STATE u) = 1 →
            (List.range 64).find? (fun e => d.flag (ENG_MAP_BOUND e) && d.rd (ENG_MAP_PHYS e) == u) = some e →
            d.pendingSwap e = none → d.octEng (u / 9) 2 = some p →
            does (((d.showTest 1 1 u).addSwap ⟨1, e, u, p, [], some n.val, none⟩).testRest))
        ∧ (busy = false → k = 2 → u < 512 → t = 2 → d.laneTestable u = true → does ((d.showTest 2 2 u).laneTest u n.val))
        ∧ (busy = false → k = 2 → u < 512 → t = 2 → d.laneTestable u = false → does (d.finish n.val stInvalid))
        ∧ (busy = false → k = 3 → u < 8 → 3 ≤ t → t ≤ 5 → does (d.testOctant n.val u t))
        ∧ (busy = false → k = 4 → u < 9 → t = 6 → d.sparePlane = some u → d.mgt.planeTest = none →
            does (Dev.showTest { d with mgt := { d.mgt with planeTest := some n.val } } 4 6 u))
        ∧ (busy = false → k = 7 → u < 2 → t = 7 → u ≠ d.rd MGT_STATUS_ACTIVE_CORE → d.flag MGT_STATUS_STANDBY_READY = true →
            d.mgt.selfTest = none →
            does (Dev.wr (Dev.showTest { d with mgt := { d.mgt with selfTest := some n.val } } 7 7 u) MGT_STATUS_STANDBY_TESTING 1))
        ∧ (busy = false → 7 < k → does (d.finish n.val stInvalid))))
    ∧ (∀ (p : Fin 72) (n : Nat), s.dev.eng.tests.get p.val 0 = n + 1 → s.dev.rd (ENG_STATUS_STATE p.val) = 3 → s.dev.testRuns (p.val / 9) = true →
      let d := s.dev.dropTest p.val
      (65536 ≤ s.dev.eng.testCells.get p.val 0 → exec (.engineTestDone p true) s = .next (s.settled
        ((d.wr (ENG_STATUS_STATE p.val) 2).endTest n 1 1 p.val 1)))
      ∧ exec (.engineTestDone p false) s = .next (s.settled
        (((d.wr (ENG_STATUS_STATE p.val) 4).faultFree { unit := .eng (Fin.ofNat 72 p.val), src := 6 } true (2 ^ 20)).endTest n 1 1 p.val 2)))
    ∧ (∀ (n : Nat) (ok : Bool), s.dev.mgt.planeTest = some n → exec (.planeTestDone ok) s = .next (s.settled
        (Dev.endTest { s.dev with mgt := { s.dev.mgt with planeTest := none } } n 4 6 (s.dev.rd SPR_TEST_UNIT) (if ok = true then 1 else 2))))
    ∧ (∀ (n : Nat) (ok : Bool), s.dev.mgt.selfTest = some n → exec (.standbySelftestDone ok) s = .next (s.settled
        (let e := Dev.wr { s.dev with mgt := { s.dev.mgt with selfTest := none } } MGT_STATUS_STANDBY_TESTING 0
         e.endTest n 7 7 (1 - e.rd MGT_STATUS_ACTIVE_CORE) (if ok = true then 1 else 2))))
    ∧ (∀ o : Fin 8, exec (.octantRejoin o) s = .next (s.settled
        { s.dev with mgt := { s.dev.mgt with octs := s.dev.mgt.octs.map (fun a => if a.oct = o.val ∧ a.begun then { a with ready := true } else a) } }))
    ∧ (∀ a : OctAct, a.code = 5 → a.cmd = none →
        let o := a.oct
        let d := (s.dev.maskBit SPR_OCTANT_RESETTING o false).maskBit SPR_OCTANT_BYPASSED o false
        let e : Dev := { d with sch := { d.sch with island := d.sch.island.set o d.sch.epoch 0, next := d.sch.next.set o 65536 0 } }
        let f := (e.linksOn [o]).askReplayAll 3 (e.inOctant o)
        s.dev.rejoin a = ((((List.range 9).foldl (fun d i => d.sample (192 + 9 * o + i)) f).sample (264 + o)).sample (272 + o)))
    ∧ (∀ c : Fin 2, s.dev.hubOff = false → s.dev.flag GLB_BOOT_FW_FAIL = false →
      let lost := fun k : Nat => if k = 0 then MGT_STATUS_MCA_LOST else MGT_STATUS_MCB_LOST
      let d := s.dev.wr (lost c.val) 1
      s.dev.flag (lost c.val) = false →
      (s.dev.flag (lost (1 - c.val)) = true → exec (.coreStateError c) s = .next (s.settled
          ((d.wr MGT_STATUS_STANDBY_READY 0).fault { unit := .mgt, src := 4, detail := c.val })))
      ∧ (d.flag (lost (1 - c.val)) = false →
        let e := d.fault { unit := .mgt, src := 3, detail := c.val }
        (e.rd MGT_STATUS_ACTIVE_CORE = c.val → e.pwr.mode ≠ 4 → exec (.coreStateError c) s = .next (s.settled (e.failover c.val 2)))
        ∧ (e.rd MGT_STATUS_ACTIVE_CORE = c.val → e.pwr.mode = 4 → exec (.coreStateError c) s = .next (s.settled e))
        ∧ (e.rd MGT_STATUS_ACTIVE_CORE ≠ c.val → exec (.coreStateError c) s = .next (s.settled
          (((e.endSelfTest 3).wr MGT_STATUS_STANDBY_READY 0).mlog 3 c.val 2 0 0))))
      ∧ exec (.heartbeatTimeout c false) s = .next (s.settled (((List.range (s.dev.rd MGT_CFG_HB_LOSS)).foldl
          (fun d _ => d.fault { unit := .mgt, src := 2, detail := c.val }) s.dev).coreLost c.val 1)))
    ∧ (∀ t, s.dev.mgt.recovering = some t → exec .recoveryComplete s = .next (s.settled
        (let us := Nat.min (2 ^ 20 - 1) ((s.dev.now - t) / 1000)
         let start := s.dev.pwr.trained = false ∨ s.dev.pwr.mode = 3
         let d := Dev.wrs { s.dev with mgt := { s.dev.mgt with recovering := none } } [(MGT_STATUS_RECOVERING, 0),
           (SLC_GLOBAL_INSTAR_BUSY, if start then 1 else 0), (SLC_GLOBAL_REASON, if start then 1 else 0), (MGT_RECOVERY_US, us), (MGT_RECOVERY_RJ_LIVE, 0)]
         let e : Dev := { d with mgt := { d.mgt with journal := [] } }
         (((e.askReplayAll 4 (fun n => (e.wk n).matWait || (s.dev.mgt.journal.contains (n, (e.entry n).serial) && (e.entry n).state == 2))).mlog 2
           0 us 0 0).raise 49))))

/-- No logical engine has two pending swaps: escalation, BRING_IN_SPARE and TEST_UNIT join the pending one or add one where
there is none (R459, R476). -/
def Obligations.AtMostOneSwapPerEngine : Prop :=
  ∀ (d : Dev),
    let once := fun e : Dev => ∀ u, (e.mgt.swaps.filter (fun w => w.kind == 1 && w.unit == u)).length ≤ 1
    once d → (∀ a p, once (d.engAction a p)) ∧ (∀ n e, once (d.bringEngine n e)) ∧ (∀ n p, once (d.testEngine n p))
      ∧ (∀ n e, d.pendingSwap e ≠ none → (d.bringEngine n e).mgt.swaps.length = d.mgt.swaps.length
          ∧ ∃ w, (d.bringEngine n e).pendingSwap e = some w ∧ n ∈ w.cmds)

/-! ## Cold start, temperature, GDDR6 and firmware (R494–R511, R549, R550) -/

/-- The cold start: POR_N takes the rack down and, released, samples the straps and asserts PWR_EN; good rails lead to C3 and
commands VDD_CORE's set point, and rails that are late to FAULT_N; authentication of the firmware's slots makes the device ACTIVE or sets FW_FAIL. A removal of VSTBY leaves
the flash alone and releases FAULT_N. A trip takes the rack down with its die recorded, a warning sets its bit (R9, R496–R503, R549, R550). -/
def Obligations.ColdStartsAndTemperature : Prop :=
  ∀ s : State,
    let d := s.dev
    (let e := (d.rackOff false).releaseFaultN
      let p := { e.pwr with mode := 5, por := true, req := none, noIntake := false, banks := [], mirror := none, awake := [] }
      exec .porAssert s = .next (s.settled (Dev.wrs
        { e with pwr := { p with stalls := [], wasActive := [], trained := false, spot := none, unlocked := false } }
        [(GLB_TEST_FACTORY, 0), (GLB_TEST_UNLOCKED, 0)])))
    ∧ (d.pwr.por = true → ∀ (m : Fin 8) (r f : Fin 2) (t : Fin 4), exec (.porRelease m r t f) s = .next (s.settled
        (let e := ((d.wr (HP_STATUS_MGR d.mgrPort) 0).wrs [(GLB_STRAP_MGR_PORT, m.val), (GLB_STRAP_REFCLK_MODE, r.val), (GLB_STRAP_TEST_MODE, t.val),
          (GLB_STRAP_FLASH_MODE, f.val), (GLB_TEST_FACTORY, if t.val = 2 then 1 else 0), (GLB_BOOT_STAGE, 2), (GLB_BOOT_COLD_CAUSE, 0),
          (AON_REG_LOW_POWER, 0), (HP_STATUS_MGR m.val, 1)]).inc AON_SEAL_COUNT_COUNT
         let p := { e.pwr with por := false, blocked := false, startsBarred := false, pulling := false }
         Dev.emit { e with pwr := { p with gddr := false, fw := false, e5Since := none, wakeHeld := false } } (.pwrEn true))))
    ∧ (d.pwr.mode = 5 → d.pwr.por = false → d.pwr.blocked = false →
      (∀ r, exec (.coldRailsGood r) s = .next (s.settled
        (let e := ((Dev.repairColumns (Dev.wr { d with pwr := { d.pwr with mode := 4 } } GLB_BOOT_STAGE 3)).boardRecord r).setVdd 0
         ((if e.rd GLB_STRAP_TEST_MODE = 1 then (e.wr GLB_BOOT_STRAP_BAD 1).assertFaultN else e).evcRestart none).timeLatch)))
      ∧ exec .coldRailTimeout s = .next (s.settled
          ((Dev.emit { d with pwr := { d.pwr with blocked := true } } (.pwrEn false)).emit (.faultN true))))
    ∧ (d.pwr.mode = 4 → d.flag GLB_BOOT_FW_FAIL = false → d.rd GLB_STRAP_TEST_MODE ≠ 1 → d.rd GLB_STRAP_TEST_MODE ≠ 3 →
      ∀ (a : Fin 2) (v w : BitVec 32),
      (∃ t : Dev, exec (.firmwareAuthDone a false false false false v w) s = .next (s.settled t) ∧ t.rd GLB_BOOT_FW_FAIL = 1
        ∧ t.pwr.mode = 4 ∧ t.out = .faultN true :: d.out)
      ∧ (∃ t : Dev, exec (.firmwareAuthDone a true true true true v w) s = .next (s.settled t)
        ∧ (d.flag GLB_GRAVE_DEVICE = false → d.flag MGT_STATUS_MCA_LOST = false → d.flag MGT_STATUS_MCB_LOST = false →
            t.pwr.mode = 0 ∧ t.rd GLB_BOOT_FW_SLOT = a.val ∧ t.rd GLB_BOOT_FW_FALLBACK = 0
            ∧ t.rd MGT_STATUS_ACTIVE_CORE = 0 ∧ t.rd MGT_STATUS_STANDBY_READY = 1)))
    ∧ (let flash : Mgmt := { flashActive := d.mgt.flashActive, versions := d.mgt.versions }
       exec .vstbyPowerCycle s = .next (s.settled { fresh := d.fresh, out := .faultN false :: d.out, serial := d.serial, mgt := flash }))
    ∧ (∀ (n : Fin 11) (t : BitVec 12), d.pwr.por = false → d.hubOff = false → ∃ e : Dev,
        exec (.thermalTrip n t) s = .next (s.settled e) ∧ e.pwr.mode = 5 ∧ e.pwr.blocked = true ∧ e.rd GLB_THERM_STATUS_TRIP = 1
          ∧ e.rd GLB_THERM_STATUS_TRIP_DIE = n.val ∧ e.rd GLB_BOOT_STAGE = d.rd GLB_BOOT_STAGE % 8)
    ∧ (∀ (n : Fin 11) (t : BitVec 12), d.hubOff = false →
        let lim := 8 * (if n.val < 9 then d.rd GLB_THERM_CFG_WARN_C else d.rd GLB_THERM_CFG_WARN_BP_C)
        let e := d.dieTemp n.val t.toNat
        (t.toNat < lim → exec (.thermalWarning n t) s = .next (s.settled e))
        ∧ (lim ≤ t.toNat → exec (.thermalWarning n t) s = .next (s.settled
            (e.wr GLB_THERM_STATUS_WARN (Nat.lor (e.rd GLB_THERM_STATUS_WARN) (2 ^ n.val))))))
    ∧ (∀ (n : Fin 11) (v : BitVec 32), d.setupOpen (GLB_TEMP n.val) = true →
        let e := d.opened (GLB_TEMP n.val)
        (bit v.toNat 28 = true → exec (.peakClr n v) s = .next (s.settled (e.wr (GLB_TEMP_PEAK n.val) 0)))
        ∧ (bit v.toNat 28 = false → exec (.peakClr n v) s = .next (s.settled e)))

/-- GDDR6 and the firmware: MEM_TRAIN starts training once, which sets the layout, the staging window and ends INSTAR_BUSY, or
names the channels that failed; MEM_STAGE moves the window within its bounds or is refused; a channel test runs in DORMANT and
spends spare rows; FW_UPDATE stages a checked image in the other slot, and commits it (R482, R506–R511). -/
def Obligations.MemoryAndFirmware : Prop :=
  ∀ s : State,
    (∀ v : BitVec 32,
      (s.dev.setupOpen MEM_TRAIN = true →
        let d := (s.dev.opened MEM_TRAIN).writeWord MEM_TRAIN v.toNat
        let starts := bit v.toNat 0 = true ∧ d.flag MEM_TRAIN_BUSY = false ∧ d.pwr.trained = false
        (starts → exec (.memTrainStart v) s = .next (s.settled (d.wrs [(MEM_TRAIN_BUSY, 1), (MEM_TRAIN_RESULT, 0), (MEM_TRAIN_FAILED, 0)])))
        ∧ (¬starts → exec (.memTrainStart v) s = .next (s.settled d)))
      ∧ (s.dev.setupOpen MEM_STAGE = true →
        let d := s.dev.opened MEM_STAGE
        let lo := v.toNat % 2 ^ 16
        let n := v.toNat / 2 ^ 16 % 2 ^ 16
        let fits := d.pwr.trained = true ∧ d.liveSlices = [0] ∧ 256 ≤ n ∧ lo + n ≤ d.rd MEM_LAYOUT_SYS_BASE_MIB
          ∧ ((lo + n) * 2 ^ 20 ≤ d.jnlBase ∨ d.jnlEnd ≤ lo * 2 ^ 20)
        (fits → exec (.memStageWrite v) s = .next (s.settled (d.wrs [(MEM_STAGE_BASE_MIB, lo), (MEM_STAGE_SIZE_MIB, n)])))
        ∧ (¬fits → exec (.memStageWrite v) s = .next (s.settled (d.wr MEM_TRAIN_STAGE_REFUSED 1))))
      ∧ (s.dev.setupOpen SPR_MEMTEST = true →
        let d := s.dev.opened SPR_MEMTEST
        let e := d.writeWord SPR_MEMTEST v.toNat
        let starts := bit v.toNat 4 = true ∧ d.flag SPR_MEMTEST_BUSY = false ∧ e.pwr.mode = 1
        (starts → exec (.memtestStart v) s = .next (s.settled
          ((Dev.wrs { e with mgt := { e.mgt with memCh := e.rd SPR_MEMTEST_CHANNEL } }
            [(SPR_MEMTEST_BUSY, 1), (SPR_MEMTEST_OUTCOME, 0)]).testRest)))
        ∧ (¬starts → exec (.memtestStart v) s = .next (s.settled e))))
    ∧ (s.dev.hubOff = false → s.dev.flag MEM_TRAIN_BUSY = true →
      let bad := s.dev.flag MEM_GEOMETRY_VDDQ = true ∧ 16 < s.dev.rd MEM_GEOMETRY_RATE_GBPS
      (∀ v : BitVec 16, v ≠ 0#16 → ¬bad → exec (.memTrainDone v) s = .next (s.settled
        (s.dev.wrs [(MEM_TRAIN_BUSY, 0), (MEM_TRAIN_FAILED, v.toNat), (MEM_TRAIN_RESULT, 2)])))
      ∧ (∀ v : BitVec 16, bad → exec (.memTrainDone v) s = .next (s.settled
        (s.dev.wrs [(MEM_TRAIN_BUSY, 0), (MEM_TRAIN_FAILED, 0xFFFF), (MEM_TRAIN_RESULT, 2)])))
      ∧ (¬bad → exec (.memTrainDone 0) s = .next (s.settled
        (let d := s.dev.wrs [(MEM_TRAIN_BUSY, 0), (MEM_TRAIN_FAILED, 0)]
         let u := if d.flag MEM_GEOMETRY_DENSITY = true then 14336 else 7168
         let e := d.wrs [(MEM_TRAIN_RESULT, 1), (MEM_LAYOUT_USABLE_MIB, u), (MEM_LAYOUT_SYS_BASE_MIB, u - 128), (MEM_STAGE_BASE_MIB, 256),
           (MEM_STAGE_SIZE_MIB, u - 128 - 256), (SLC_GLOBAL_INSTAR_BUSY, b2n d.mgt.recovering.isSome),
           (SLC_GLOBAL_REASON, 2 * b2n d.mgt.recovering.isSome)]
         let f := Dev.spareRows { e with pwr := { e.pwr with trained := true } }
         (f.recordPages 0).foldl (fun d p => d.fetchPage 0 p false) f))))
    ∧ (∀ rows : Nat, s.dev.flag SPR_MEMTEST_BUSY = true → exec (.memtestDone rows) s = .next (s.settled
        (let c := s.dev.mgt.memCh
         let left := s.dev.rd (SPR_ROWS_SPARE_LEFT c)
         ((s.dev.wrs [(SPR_MEMTEST_BUSY, 0), (SPR_MEMTEST_OUTCOME, if rows ≤ left then 1 else 2),
           (SPR_ROWS_SPARE_LEFT c, left - Nat.min rows left), (SPR_ROWS_REMAPPED c, s.dev.rd (SPR_ROWS_REMAPPED c) + Nat.min rows left)]).testRest).raise 51)))
    ∧ (∀ (n : Fin 262144), s.dev.adminReady n.val 0xD1 = true →
      s.dev.flag GLB_POWER_STATUS_PENDING = false → s.dev.flag GLB_PROFILE_STATUS_PENDING = false → s.dev.mgt.staging = none → s.dev.pwr.mode = 0 →
      let d := s.dev.started n.val
      let x := (s.dev.entry n.val).desc
      let len := darg x 0x10 4
      let does := fun e : Dev => exec (.fwUpdate n none) s = .next (s.settled e)
        ∧ ∀ l, exec (.fwUpdate n (some l)) s = .next (s.settled
          (hostReadCompletion (e.reads.findIdx (HRead.forImage n.val (s.dev.entry n.val).serial)) 0 l e))
      (darg x 4 1 = 1 → d.mgt.staged = none → does (d.finish n.val stInvalid))
      ∧ (∀ t, darg x 4 1 = 1 → d.mgt.staged = some t → does
          (((Dev.wrs { d with mgt := { d.mgt with staged := none, flashActive := t } } [(GLB_FW_UPDATE_STATE, 3),
            (GLB_FW_UPDATE_NEXT_SLOT, t)]).mlog 8 1 0 0 t).finish n.val stSuccess))
      ∧ (1 < darg x 4 1 ∨ (darg x 4 1 = 0 ∧ 2 ^ 20 < len) → does (d.finish n.val stInvalid))
      ∧ (darg x 4 1 = 0 → len ≤ 2 ^ 20 →
        let h := d.hostRead 0 (darg x 8 8) len false (.firmware n.val (d.entry n.val).serial)
        does (if h.1 then Dev.wr { h.2 with mgt := { h.2.mgt with staging := some n.val, fwReading := true } } GLB_FW_UPDATE_STATE 1
          else h.2.finish n.val stHostDma)))
    ∧ (∀ (n i : Nat) (r : HRead) (l : List Byte), s.dev.hubOff = false → s.dev.reads[i]? = some r → r.issued = true →
      let d := s.dev.endRead i
      r.why = .firmware n (d.entry n).serial → d.mgt.staging = some n → d.mgt.fwReading = true →
      let len := darg (d.entry n).desc 0x10 4
      let idle := Dev.wr { d with mgt := { d.mgt with staging := none, fwReading := false } } GLB_FW_UPDATE_STATE
        (if d.mgt.staged.isSome then 2 else 0)
      let b := r.got ++ l
      r.last = true → exec (.hostReadCompletion i .success l) s = .next (s.settled (if fwGood b len = true then
        { d with mgt := { d.mgt with fwReading := false, versions := d.mgt.versions.set (1 - d.mgt.flashActive) (leAt b 4 4) 0 } }
        else idle.finish n stInvalid)))
    ∧ (∀ n, s.dev.mgt.staging = some n → s.dev.mgt.fwReading = false →
      let t := 1 - s.dev.mgt.flashActive
      exec (.fwStagingDone true) s = .next (s.settled
        (let d := Dev.wr { s.dev with mgt := { s.dev.mgt with staging := none, staged := some t } } GLB_FW_UPDATE_STATE 2
         (d.mlog 8 0 (darg (d.entry n).desc 0x10 4) 0 t).finish n stSuccess))
      ∧ exec (.fwStagingDone false) s = .next (s.settled
        ((Dev.wr { s.dev with mgt := { s.dev.mgt with staging := none, staged := none } } GLB_FW_UPDATE_STATE 0).finish n stInternal)))

/-- A loss of core power leaves what VSTBY holds: the scar and its cause, the shorted bays, the seal count, ENFORCE, the
trip, B0_RUN, BROWNOUT_SEEN and DEVICE_TIME; a bay whose scar bit is set is SHORTED (R9, R381, R403, R464, R496, R549). -/
def Obligations.VstbyItemsSurvivePowerLoss : Prop :=
  ∀ (d : Dev) (aon : Bool),
    let e := d.powerLoss aon
    (∀ f, f ∈ [GLB_GRAVE_DEVICE, GLB_GRAVE_BAY, GLB_GRAVE_CAUSE, BAY_SHORTED_LO_BAY, BAY_SHORTED_HI_BAY, AON_SEAL_COUNT_COUNT,
        GLB_STRAP_MGR_PORT, GLB_TEST_FACTORY] → e.rd f = d.rd f)
    ∧ (∀ f, f ∈ [SCH_SIGN_ENFORCE, GLB_THERM_STATUS_TRIP, GLB_THERM_STATUS_TRIP_DIE, AON_CHRYSALIS_STATUS_B0_RUN, AON_REG_BROWNOUT_SEEN,
        AON_REG_TIME_SUSPECT, HP_STATUS_MGR d.mgrPort] → e.rd f = d.rd f % 2 ^ f.width)
    ∧ e.now = d.now ∧ e.out = d.out
    ∧ (∀ b, b < 64 → bit (d.rd BAY_SHORTED_LO_BAY + 2 ^ 32 * d.rd BAY_SHORTED_HI_BAY) b = true → e.bayState b = 7)
    ∧ (aon = false → ∀ f : Fld, f.lo < 32 → vstbyHeld f.addr = false → f.addr / 4096 < 0x1400 ∨ 0x1440 ≤ f.addr / 4096 →
        (∀ g, g ∈ [SCH_SIGN_ENFORCE, GLB_THERM_STATUS_TRIP, GLB_THERM_STATUS_TRIP_DIE, AON_CHRYSALIS_STATUS_B0_RUN, AON_REG_BROWNOUT_SEEN,
          AON_REG_TIME_SUSPECT, HP_STATUS_MGR d.mgrPort] → g.key ≠ f.key) → e.rd f = resetField f.key)
end

