-- ==== Sys2Proof/Laws/Tab.lean ====
section
/-! SUPPORT. What a sparse table reads after each operation, and that every operation keeps its canonical form. -/
namespace Sys2Proof.Machine

set_option Elab.async false

@[simp] theorem Tab.get_nil {α : Type} (k : Nat) (z : α) : Tab.get ([] : Tab α) k z = z := rfl

theorem Tab.get_cons {α : Type} (e : Nat × α) (t : Tab α) (k : Nat) (z : α) :
    Tab.get (e :: t) k z = if e.1 = k then e.2 else Tab.get t k z := rfl

theorem Tab.get_drop_eq {α : Type} (t : Tab α) (k : Nat) (z : α) : Tab.get (Tab.drop t k) k z = z := by
  induction t with
  | nil => rfl
  | cons e t ih =>
    by_cases h : e.1 = k
    · simpa [Tab.drop, h] using ih
    · simpa [Tab.drop, Tab.get, h] using ih

theorem Tab.get_drop_ne {α : Type} (t : Tab α) {j k : Nat} (z : α) (h : j ≠ k) :
    Tab.get (Tab.drop t k) j z = Tab.get t j z := by
  induction t with
  | nil => rfl
  | cons e t ih =>
    by_cases hk : e.1 = k
    · have hj : e.1 ≠ j := fun hj => h (hj ▸ hk)
      simpa [Tab.drop, Tab.get, hk, hj, Ne.symm h] using ih
    · by_cases hj : e.1 = j <;> simp [Tab.drop, Tab.get, hk, hj, h, ih]

theorem Tab.get_insert_ne {α : Type} (t : Tab α) {j k : Nat} (v z : α) (h : j ≠ k) :
    Tab.get (Tab.insert t k v) j z = Tab.get t j z := by
  induction t with
  | nil => simp [Tab.insert, Tab.get, Ne.symm h]
  | cons e t ih =>
    by_cases hk : k < e.1
    · simp [Tab.insert, Tab.get, hk, Ne.symm h]
    · simp [Tab.insert, Tab.get, hk, ih]

theorem Tab.get_insert_eq {α : Type} (t : Tab α) (k : Nat) (v z : α) (h : ∀ e, e ∈ t → e.1 ≠ k) :
    Tab.get (Tab.insert t k v) k z = v := by
  induction t with
  | nil => simp [Tab.insert, Tab.get]
  | cons e t ih =>
    by_cases hk : k < e.1
    · simp [Tab.insert, Tab.get, hk]
    · have he := h e (List.mem_cons_self ..)
      simp [Tab.insert, Tab.get, hk, he, ih (fun x hx => h x (List.mem_cons_of_mem _ hx))]

theorem Tab.drop_no_key {α : Type} (t : Tab α) (k : Nat) : ∀ e, e ∈ Tab.drop t k → e.1 ≠ k := by
  induction t with
  | nil => intro e h; cases h
  | cons x t ih =>
    intro e h
    by_cases hk : x.1 = k
    · exact ih e (by simpa [Tab.drop, hk] using h)
    · simp only [Tab.drop, hk, if_false, List.mem_cons] at h
      rcases h with h | h
      · exact h ▸ hk
      · exact ih e h

/-- A read after a write of the same key gives what was written. -/
@[simp] theorem Tab.get_set_eq {α : Type} [DecidableEq α] (t : Tab α) (k : Nat) (v z : α) :
    Tab.get (Tab.set t k v z) k z = v := by
  unfold Tab.set
  split
  · next h => rw [Tab.get_drop_eq, h]
  · exact Tab.get_insert_eq _ _ _ _ (Tab.drop_no_key t k)

/-- A write leaves every other key alone. -/
theorem Tab.get_set_ne {α : Type} [DecidableEq α] (t : Tab α) {j k : Nat} (v z y : α) (h : j ≠ k) :
    Tab.get (Tab.set t k v z) j y = Tab.get t j y := by
  unfold Tab.set
  split
  · exact Tab.get_drop_ne t y h
  · rw [Tab.get_insert_ne _ _ _ h, Tab.get_drop_ne t y h]

theorem Tab.drop_drop {α : Type} (t : Tab α) (k : Nat) : Tab.drop (Tab.drop t k) k = Tab.drop t k := by
  induction t with
  | nil => rfl
  | cons e t ih => by_cases h : e.1 = k <;> simp [Tab.drop, h, ih]

theorem Tab.drop_insert {α : Type} (t : Tab α) (k : Nat) (v : α) : Tab.drop (Tab.insert t k v) k = Tab.drop t k := by
  induction t with
  | nil => simp [Tab.insert, Tab.drop]
  | cons e t ih =>
    by_cases h : k < e.1
    · simp [Tab.insert, h, Tab.drop]
    · by_cases hk : e.1 = k <;> simp [Tab.insert, h, Tab.drop, hk, ih]

/-- The last of two writes of one key stands. -/
@[simp] theorem Tab.set_set {α : Type} [DecidableEq α] (t : Tab α) (k : Nat) (u v z : α) :
    Tab.set (Tab.set t k u z) k v z = Tab.set t k v z := by
  have h : Tab.drop (Tab.set t k u z) k = Tab.drop t k := by
    unfold Tab.set
    split
    · exact Tab.drop_drop t k
    · rw [Tab.drop_insert, Tab.drop_drop]
  unfold Tab.set at h ⊢
  rw [h]

/-- A read of a table without the entries that `p` does not keep, at a key that `p` keeps. -/
theorem Tab.get_filter {α : Type} (t : Tab α) (p : Nat → Bool) (k : Nat) (z : α) (h : p k = true) :
    Tab.get (t.filter (fun e => p e.1)) k z = Tab.get t k z := by
  induction t with
  | nil => rfl
  | cons e t ih =>
    by_cases hk : e.1 = k
    · subst hk; simp [h, Tab.get]
    · by_cases hp : p e.1 = true <;> simp [hp, Tab.get, hk, ih]

/-- A read of a table without the entries that `p` does not keep, at a key that `p` does not keep. -/
theorem Tab.get_filter_gone {α : Type} (t : Tab α) (p : Nat → Bool) (k : Nat) (z : α) (h : p k = false) :
    Tab.get (t.filter (fun e => p e.1)) k z = z := by
  induction t with
  | nil => rfl
  | cons e t ih =>
    by_cases hp : p e.1 = true
    · have hk : e.1 ≠ k := fun hk => by rw [hk, h] at hp; cases hp
      simp [hp, Tab.get, hk, ih]
    · simp [hp, ih]

/-! ## The canonical form -/

/-- The canonical form, as a property of each entry and of neighbours. -/
theorem Tab.wf_iff {α : Type} [DecidableEq α] (z : Nat → α) (t : Tab α) :
    Tab.wf z t = true ↔ t.Pairwise (fun a b => a.1 < b.1) ∧ ∀ e, e ∈ t → e.2 ≠ z e.1 := by
  induction t with
  | nil => simp [Tab.wf]
  | cons e t ih =>
    cases t with
    | nil => simp [Tab.wf]
    | cons f r =>
      have hw : Tab.wf z (e :: f :: r) = (decide (e.2 ≠ z e.1) && decide (e.1 < f.1) && Tab.wf z (f :: r)) := rfl
      rw [hw, Bool.and_eq_true, Bool.and_eq_true, ih, decide_eq_true_iff, decide_eq_true_iff]
      constructor
      · rintro ⟨⟨h1, h2⟩, h3, h4⟩
        refine ⟨List.pairwise_cons.2 ⟨?_, h3⟩, ?_⟩
        · intro x hx
          rcases List.mem_cons.1 hx with rfl | hx
          · exact h2
          · exact Nat.lt_trans h2 ((List.pairwise_cons.1 h3).1 x hx)
        · intro x hx
          rcases List.mem_cons.1 hx with rfl | hx
          · exact h1
          · exact h4 x hx
      · rintro ⟨h1, h2⟩
        exact ⟨⟨h2 e (List.mem_cons_self ..), (List.pairwise_cons.1 h1).1 f (List.mem_cons_self ..)⟩,
          (List.pairwise_cons.1 h1).2, fun x hx => h2 x (List.mem_cons_of_mem _ hx)⟩

theorem Tab.drop_eq_filter {α : Type} (t : Tab α) (k : Nat) : Tab.drop t k = t.filter (fun e => e.1 != k) := by
  induction t with
  | nil => rfl
  | cons e t ih => by_cases h : e.1 = k <;> simp [Tab.drop, h, ih]

theorem Tab.mem_insert {α : Type} (t : Tab α) (k : Nat) (v : α) (e : Nat × α) :
    e ∈ Tab.insert t k v ↔ e = (k, v) ∨ e ∈ t := by
  induction t with
  | nil => simp [Tab.insert]
  | cons x t ih =>
    by_cases h : k < x.1
    · simp [Tab.insert, h]
    · simp only [Tab.insert, h, if_false, List.mem_cons, ih]
      constructor
      · rintro (h | h | h)
        · exact .inr (.inl h)
        · exact .inl h
        · exact .inr (.inr h)
      · rintro (h | h | h)
        · exact .inr (.inl h)
        · exact .inl h
        · exact .inr (.inr h)

theorem Tab.insert_sorted {α : Type} (t : Tab α) (k : Nat) (v : α) (h : t.Pairwise (fun a b => a.1 < b.1))
    (hk : ∀ e, e ∈ t → e.1 ≠ k) : (Tab.insert t k v).Pairwise (fun a b => a.1 < b.1) := by
  induction t with
  | nil => simp [Tab.insert]
  | cons e t ih =>
    have he := List.pairwise_cons.1 h
    by_cases hlt : k < e.1
    · simp only [Tab.insert, hlt, if_true]
      refine List.pairwise_cons.2 ⟨?_, h⟩
      intro x hx
      rcases List.mem_cons.1 hx with rfl | hx
      · exact hlt
      · exact Nat.lt_trans hlt (he.1 x hx)
    · simp only [Tab.insert, hlt, if_false]
      refine List.pairwise_cons.2 ⟨?_, ih he.2 (fun x hx => hk x (List.mem_cons_of_mem _ hx))⟩
      intro x hx
      rcases (Tab.mem_insert t k v x).1 hx with rfl | hx
      · exact Nat.lt_of_le_of_ne (Nat.le_of_not_lt hlt) (hk e (List.mem_cons_self ..))
      · exact he.1 x hx

/-- A write keeps the canonical form. -/
theorem Tab.set_wf {α : Type} [DecidableEq α] (z : Nat → α) (t : Tab α) (k : Nat) (v : α) (h : Tab.wf z t = true) :
    Tab.wf z (Tab.set t k v (z k)) = true := by
  obtain ⟨h1, h2⟩ := (Tab.wf_iff z t).1 h
  have hd : (Tab.drop t k).Pairwise (fun a b => a.1 < b.1) := by
    rw [Tab.drop_eq_filter]; exact h1.sublist List.filter_sublist
  have hm : ∀ e, e ∈ Tab.drop t k → e.2 ≠ z e.1 := by
    intro e he
    rw [Tab.drop_eq_filter] at he
    exact h2 e (List.mem_filter.1 he).1
  unfold Tab.set
  split
  · exact (Tab.wf_iff z _).2 ⟨hd, hm⟩
  · next hv =>
    refine (Tab.wf_iff z _).2 ⟨Tab.insert_sorted _ _ _ hd (Tab.drop_no_key t k), ?_⟩
    intro e he
    rcases (Tab.mem_insert _ k v e).1 he with rfl | he
    · exact hv
    · exact hm e he

end Sys2Proof.Machine
end

