-- ==== Sys2Proof/Laws/State.lean ====
section
/-! SUPPORT. Every field of the block's state after every named update of it, so that no proof unfolds a record update. -/
namespace Sys2Proof.Machine

set_option Elab.async false

/-! ## wr -/

@[simp] theorem Dev.wr_now (d : Dev) (f : Fld) (v : Nat) : (d.wr f v).now = d.now := rfl
@[simp] theorem Dev.wr_fresh (d : Dev) (f : Fld) (v : Nat) : (d.wr f v).fresh = d.fresh := rfl
@[simp] theorem Dev.wr_out (d : Dev) (f : Fld) (v : Nat) : (d.wr f v).out = d.out := rfl
@[simp] theorem Dev.wr_keyHalf (d : Dev) (f : Fld) (v : Nat) : (d.wr f v).keyHalf = d.keyHalf := rfl
@[simp] theorem Dev.wr_evc (d : Dev) (f : Fld) (v : Nat) : (d.wr f v).evc = d.evc := rfl
@[simp] theorem Dev.wr_flt (d : Dev) (f : Fld) (v : Nat) : (d.wr f v).flt = d.flt := rfl
@[simp] theorem Dev.wr_ports (d : Dev) (f : Fld) (v : Nat) : (d.wr f v).ports = d.ports := rfl
@[simp] theorem Dev.wr_queues (d : Dev) (f : Fld) (v : Nat) : (d.wr f v).queues = d.queues := rfl
@[simp] theorem Dev.wr_slices (d : Dev) (f : Fld) (v : Nat) : (d.wr f v).slices = d.slices := rfl
@[simp] theorem Dev.wr_jnl (d : Dev) (f : Fld) (v : Nat) : (d.wr f v).jnl = d.jnl := rfl
@[simp] theorem Dev.wr_jidx (d : Dev) (f : Fld) (v : Nat) : (d.wr f v).jidx = d.jidx := rfl
@[simp] theorem Dev.wr_work (d : Dev) (f : Fld) (v : Nat) : (d.wr f v).work = d.work := rfl
@[simp] theorem Dev.wr_seqQ (d : Dev) (f : Fld) (v : Nat) : (d.wr f v).seqQ = d.seqQ := rfl
@[simp] theorem Dev.wr_aborts (d : Dev) (f : Fld) (v : Nat) : (d.wr f v).aborts = d.aborts := rfl
@[simp] theorem Dev.wr_reads (d : Dev) (f : Fld) (v : Nat) : (d.wr f v).reads = d.reads := rfl
@[simp] theorem Dev.wr_readSeq (d : Dev) (f : Fld) (v : Nat) : (d.wr f v).readSeq = d.readSeq := rfl
@[simp] theorem Dev.wr_serial (d : Dev) (f : Fld) (v : Nat) : (d.wr f v).serial = d.serial := rfl
@[simp] theorem Dev.wr_debt (d : Dev) (f : Fld) (v : Nat) : (d.wr f v).debt = d.debt := rfl
@[simp] theorem Dev.wr_scrub (d : Dev) (f : Fld) (v : Nat) : (d.wr f v).scrub = d.scrub := rfl
@[simp] theorem Dev.wr_sch (d : Dev) (f : Fld) (v : Nat) : (d.wr f v).sch = d.sch := rfl
@[simp] theorem Dev.wr_eng (d : Dev) (f : Fld) (v : Nat) : (d.wr f v).eng = d.eng := rfl
@[simp] theorem Dev.wr_lnk (d : Dev) (f : Fld) (v : Nat) : (d.wr f v).lnk = d.lnk := rfl
@[simp] theorem Dev.wr_brg (d : Dev) (f : Fld) (v : Nat) : (d.wr f v).brg = d.brg := rfl
@[simp] theorem Dev.wr_bay (d : Dev) (f : Fld) (v : Nat) : (d.wr f v).bay = d.bay := rfl
@[simp] theorem Dev.wr_pwr (d : Dev) (f : Fld) (v : Nat) : (d.wr f v).pwr = d.pwr := rfl
@[simp] theorem Dev.wr_mgt (d : Dev) (f : Fld) (v : Nat) : (d.wr f v).mgt = d.mgt := rfl

/-! ## emit -/

@[simp] theorem Dev.emit_regs (d : Dev) (m : OutMsg) : (d.emit m).regs = d.regs := rfl
@[simp] theorem Dev.emit_now (d : Dev) (m : OutMsg) : (d.emit m).now = d.now := rfl
@[simp] theorem Dev.emit_fresh (d : Dev) (m : OutMsg) : (d.emit m).fresh = d.fresh := rfl
@[simp] theorem Dev.emit_keyHalf (d : Dev) (m : OutMsg) : (d.emit m).keyHalf = d.keyHalf := rfl
@[simp] theorem Dev.emit_evc (d : Dev) (m : OutMsg) : (d.emit m).evc = d.evc := rfl
@[simp] theorem Dev.emit_flt (d : Dev) (m : OutMsg) : (d.emit m).flt = d.flt := rfl
@[simp] theorem Dev.emit_ports (d : Dev) (m : OutMsg) : (d.emit m).ports = d.ports := rfl
@[simp] theorem Dev.emit_queues (d : Dev) (m : OutMsg) : (d.emit m).queues = d.queues := rfl
@[simp] theorem Dev.emit_slices (d : Dev) (m : OutMsg) : (d.emit m).slices = d.slices := rfl
@[simp] theorem Dev.emit_jnl (d : Dev) (m : OutMsg) : (d.emit m).jnl = d.jnl := rfl
@[simp] theorem Dev.emit_jidx (d : Dev) (m : OutMsg) : (d.emit m).jidx = d.jidx := rfl
@[simp] theorem Dev.emit_work (d : Dev) (m : OutMsg) : (d.emit m).work = d.work := rfl
@[simp] theorem Dev.emit_seqQ (d : Dev) (m : OutMsg) : (d.emit m).seqQ = d.seqQ := rfl
@[simp] theorem Dev.emit_aborts (d : Dev) (m : OutMsg) : (d.emit m).aborts = d.aborts := rfl
@[simp] theorem Dev.emit_reads (d : Dev) (m : OutMsg) : (d.emit m).reads = d.reads := rfl
@[simp] theorem Dev.emit_readSeq (d : Dev) (m : OutMsg) : (d.emit m).readSeq = d.readSeq := rfl
@[simp] theorem Dev.emit_serial (d : Dev) (m : OutMsg) : (d.emit m).serial = d.serial := rfl
@[simp] theorem Dev.emit_debt (d : Dev) (m : OutMsg) : (d.emit m).debt = d.debt := rfl
@[simp] theorem Dev.emit_scrub (d : Dev) (m : OutMsg) : (d.emit m).scrub = d.scrub := rfl
@[simp] theorem Dev.emit_sch (d : Dev) (m : OutMsg) : (d.emit m).sch = d.sch := rfl
@[simp] theorem Dev.emit_eng (d : Dev) (m : OutMsg) : (d.emit m).eng = d.eng := rfl
@[simp] theorem Dev.emit_lnk (d : Dev) (m : OutMsg) : (d.emit m).lnk = d.lnk := rfl
@[simp] theorem Dev.emit_brg (d : Dev) (m : OutMsg) : (d.emit m).brg = d.brg := rfl
@[simp] theorem Dev.emit_bay (d : Dev) (m : OutMsg) : (d.emit m).bay = d.bay := rfl
@[simp] theorem Dev.emit_pwr (d : Dev) (m : OutMsg) : (d.emit m).pwr = d.pwr := rfl
@[simp] theorem Dev.emit_mgt (d : Dev) (m : OutMsg) : (d.emit m).mgt = d.mgt := rfl

/-! ## setPort -/

@[simp] theorem Dev.setPort_regs (d : Dev) (n : Nat) (p : Port) : (d.setPort n p).regs = d.regs := rfl
@[simp] theorem Dev.setPort_now (d : Dev) (n : Nat) (p : Port) : (d.setPort n p).now = d.now := rfl
@[simp] theorem Dev.setPort_fresh (d : Dev) (n : Nat) (p : Port) : (d.setPort n p).fresh = d.fresh := rfl
@[simp] theorem Dev.setPort_out (d : Dev) (n : Nat) (p : Port) : (d.setPort n p).out = d.out := rfl
@[simp] theorem Dev.setPort_keyHalf (d : Dev) (n : Nat) (p : Port) : (d.setPort n p).keyHalf = d.keyHalf := rfl
@[simp] theorem Dev.setPort_evc (d : Dev) (n : Nat) (p : Port) : (d.setPort n p).evc = d.evc := rfl
@[simp] theorem Dev.setPort_flt (d : Dev) (n : Nat) (p : Port) : (d.setPort n p).flt = d.flt := rfl
@[simp] theorem Dev.setPort_queues (d : Dev) (n : Nat) (p : Port) : (d.setPort n p).queues = d.queues := rfl
@[simp] theorem Dev.setPort_slices (d : Dev) (n : Nat) (p : Port) : (d.setPort n p).slices = d.slices := rfl
@[simp] theorem Dev.setPort_jnl (d : Dev) (n : Nat) (p : Port) : (d.setPort n p).jnl = d.jnl := rfl
@[simp] theorem Dev.setPort_jidx (d : Dev) (n : Nat) (p : Port) : (d.setPort n p).jidx = d.jidx := rfl
@[simp] theorem Dev.setPort_work (d : Dev) (n : Nat) (p : Port) : (d.setPort n p).work = d.work := rfl
@[simp] theorem Dev.setPort_seqQ (d : Dev) (n : Nat) (p : Port) : (d.setPort n p).seqQ = d.seqQ := rfl
@[simp] theorem Dev.setPort_aborts (d : Dev) (n : Nat) (p : Port) : (d.setPort n p).aborts = d.aborts := rfl
@[simp] theorem Dev.setPort_reads (d : Dev) (n : Nat) (p : Port) : (d.setPort n p).reads = d.reads := rfl
@[simp] theorem Dev.setPort_readSeq (d : Dev) (n : Nat) (p : Port) : (d.setPort n p).readSeq = d.readSeq := rfl
@[simp] theorem Dev.setPort_serial (d : Dev) (n : Nat) (p : Port) : (d.setPort n p).serial = d.serial := rfl
@[simp] theorem Dev.setPort_debt (d : Dev) (n : Nat) (p : Port) : (d.setPort n p).debt = d.debt := rfl
@[simp] theorem Dev.setPort_scrub (d : Dev) (n : Nat) (p : Port) : (d.setPort n p).scrub = d.scrub := rfl
@[simp] theorem Dev.setPort_sch (d : Dev) (n : Nat) (p : Port) : (d.setPort n p).sch = d.sch := rfl
@[simp] theorem Dev.setPort_eng (d : Dev) (n : Nat) (p : Port) : (d.setPort n p).eng = d.eng := rfl
@[simp] theorem Dev.setPort_lnk (d : Dev) (n : Nat) (p : Port) : (d.setPort n p).lnk = d.lnk := rfl
@[simp] theorem Dev.setPort_brg (d : Dev) (n : Nat) (p : Port) : (d.setPort n p).brg = d.brg := rfl
@[simp] theorem Dev.setPort_bay (d : Dev) (n : Nat) (p : Port) : (d.setPort n p).bay = d.bay := rfl
@[simp] theorem Dev.setPort_pwr (d : Dev) (n : Nat) (p : Port) : (d.setPort n p).pwr = d.pwr := rfl
@[simp] theorem Dev.setPort_mgt (d : Dev) (n : Nat) (p : Port) : (d.setPort n p).mgt = d.mgt := rfl

/-! ## setQueue -/

@[simp] theorem Dev.setQueue_regs (d : Dev) (q : Nat) (c : QCtx) : (d.setQueue q c).regs = d.regs := rfl
@[simp] theorem Dev.setQueue_now (d : Dev) (q : Nat) (c : QCtx) : (d.setQueue q c).now = d.now := rfl
@[simp] theorem Dev.setQueue_fresh (d : Dev) (q : Nat) (c : QCtx) : (d.setQueue q c).fresh = d.fresh := rfl
@[simp] theorem Dev.setQueue_out (d : Dev) (q : Nat) (c : QCtx) : (d.setQueue q c).out = d.out := rfl
@[simp] theorem Dev.setQueue_keyHalf (d : Dev) (q : Nat) (c : QCtx) : (d.setQueue q c).keyHalf = d.keyHalf := rfl
@[simp] theorem Dev.setQueue_evc (d : Dev) (q : Nat) (c : QCtx) : (d.setQueue q c).evc = d.evc := rfl
@[simp] theorem Dev.setQueue_flt (d : Dev) (q : Nat) (c : QCtx) : (d.setQueue q c).flt = d.flt := rfl
@[simp] theorem Dev.setQueue_ports (d : Dev) (q : Nat) (c : QCtx) : (d.setQueue q c).ports = d.ports := rfl
@[simp] theorem Dev.setQueue_slices (d : Dev) (q : Nat) (c : QCtx) : (d.setQueue q c).slices = d.slices := rfl
@[simp] theorem Dev.setQueue_jnl (d : Dev) (q : Nat) (c : QCtx) : (d.setQueue q c).jnl = d.jnl := rfl
@[simp] theorem Dev.setQueue_jidx (d : Dev) (q : Nat) (c : QCtx) : (d.setQueue q c).jidx = d.jidx := rfl
@[simp] theorem Dev.setQueue_work (d : Dev) (q : Nat) (c : QCtx) : (d.setQueue q c).work = d.work := rfl
@[simp] theorem Dev.setQueue_seqQ (d : Dev) (q : Nat) (c : QCtx) : (d.setQueue q c).seqQ = d.seqQ := rfl
@[simp] theorem Dev.setQueue_aborts (d : Dev) (q : Nat) (c : QCtx) : (d.setQueue q c).aborts = d.aborts := rfl
@[simp] theorem Dev.setQueue_reads (d : Dev) (q : Nat) (c : QCtx) : (d.setQueue q c).reads = d.reads := rfl
@[simp] theorem Dev.setQueue_readSeq (d : Dev) (q : Nat) (c : QCtx) : (d.setQueue q c).readSeq = d.readSeq := rfl
@[simp] theorem Dev.setQueue_serial (d : Dev) (q : Nat) (c : QCtx) : (d.setQueue q c).serial = d.serial := rfl
@[simp] theorem Dev.setQueue_debt (d : Dev) (q : Nat) (c : QCtx) : (d.setQueue q c).debt = d.debt := rfl
@[simp] theorem Dev.setQueue_scrub (d : Dev) (q : Nat) (c : QCtx) : (d.setQueue q c).scrub = d.scrub := rfl
@[simp] theorem Dev.setQueue_sch (d : Dev) (q : Nat) (c : QCtx) : (d.setQueue q c).sch = d.sch := rfl
@[simp] theorem Dev.setQueue_eng (d : Dev) (q : Nat) (c : QCtx) : (d.setQueue q c).eng = d.eng := rfl
@[simp] theorem Dev.setQueue_lnk (d : Dev) (q : Nat) (c : QCtx) : (d.setQueue q c).lnk = d.lnk := rfl
@[simp] theorem Dev.setQueue_brg (d : Dev) (q : Nat) (c : QCtx) : (d.setQueue q c).brg = d.brg := rfl
@[simp] theorem Dev.setQueue_bay (d : Dev) (q : Nat) (c : QCtx) : (d.setQueue q c).bay = d.bay := rfl
@[simp] theorem Dev.setQueue_pwr (d : Dev) (q : Nat) (c : QCtx) : (d.setQueue q c).pwr = d.pwr := rfl
@[simp] theorem Dev.setQueue_mgt (d : Dev) (q : Nat) (c : QCtx) : (d.setQueue q c).mgt = d.mgt := rfl

/-! ## setSlice -/

@[simp] theorem Dev.setSlice_regs (d : Dev) (t : Nat) (c : SCtx) : (d.setSlice t c).regs = d.regs := rfl
@[simp] theorem Dev.setSlice_now (d : Dev) (t : Nat) (c : SCtx) : (d.setSlice t c).now = d.now := rfl
@[simp] theorem Dev.setSlice_fresh (d : Dev) (t : Nat) (c : SCtx) : (d.setSlice t c).fresh = d.fresh := rfl
@[simp] theorem Dev.setSlice_out (d : Dev) (t : Nat) (c : SCtx) : (d.setSlice t c).out = d.out := rfl
@[simp] theorem Dev.setSlice_keyHalf (d : Dev) (t : Nat) (c : SCtx) : (d.setSlice t c).keyHalf = d.keyHalf := rfl
@[simp] theorem Dev.setSlice_evc (d : Dev) (t : Nat) (c : SCtx) : (d.setSlice t c).evc = d.evc := rfl
@[simp] theorem Dev.setSlice_flt (d : Dev) (t : Nat) (c : SCtx) : (d.setSlice t c).flt = d.flt := rfl
@[simp] theorem Dev.setSlice_ports (d : Dev) (t : Nat) (c : SCtx) : (d.setSlice t c).ports = d.ports := rfl
@[simp] theorem Dev.setSlice_queues (d : Dev) (t : Nat) (c : SCtx) : (d.setSlice t c).queues = d.queues := rfl
@[simp] theorem Dev.setSlice_jnl (d : Dev) (t : Nat) (c : SCtx) : (d.setSlice t c).jnl = d.jnl := rfl
@[simp] theorem Dev.setSlice_jidx (d : Dev) (t : Nat) (c : SCtx) : (d.setSlice t c).jidx = d.jidx := rfl
@[simp] theorem Dev.setSlice_work (d : Dev) (t : Nat) (c : SCtx) : (d.setSlice t c).work = d.work := rfl
@[simp] theorem Dev.setSlice_seqQ (d : Dev) (t : Nat) (c : SCtx) : (d.setSlice t c).seqQ = d.seqQ := rfl
@[simp] theorem Dev.setSlice_aborts (d : Dev) (t : Nat) (c : SCtx) : (d.setSlice t c).aborts = d.aborts := rfl
@[simp] theorem Dev.setSlice_reads (d : Dev) (t : Nat) (c : SCtx) : (d.setSlice t c).reads = d.reads := rfl
@[simp] theorem Dev.setSlice_readSeq (d : Dev) (t : Nat) (c : SCtx) : (d.setSlice t c).readSeq = d.readSeq := rfl
@[simp] theorem Dev.setSlice_serial (d : Dev) (t : Nat) (c : SCtx) : (d.setSlice t c).serial = d.serial := rfl
@[simp] theorem Dev.setSlice_debt (d : Dev) (t : Nat) (c : SCtx) : (d.setSlice t c).debt = d.debt := rfl
@[simp] theorem Dev.setSlice_scrub (d : Dev) (t : Nat) (c : SCtx) : (d.setSlice t c).scrub = d.scrub := rfl
@[simp] theorem Dev.setSlice_sch (d : Dev) (t : Nat) (c : SCtx) : (d.setSlice t c).sch = d.sch := rfl
@[simp] theorem Dev.setSlice_eng (d : Dev) (t : Nat) (c : SCtx) : (d.setSlice t c).eng = d.eng := rfl
@[simp] theorem Dev.setSlice_lnk (d : Dev) (t : Nat) (c : SCtx) : (d.setSlice t c).lnk = d.lnk := rfl
@[simp] theorem Dev.setSlice_brg (d : Dev) (t : Nat) (c : SCtx) : (d.setSlice t c).brg = d.brg := rfl
@[simp] theorem Dev.setSlice_bay (d : Dev) (t : Nat) (c : SCtx) : (d.setSlice t c).bay = d.bay := rfl
@[simp] theorem Dev.setSlice_pwr (d : Dev) (t : Nat) (c : SCtx) : (d.setSlice t c).pwr = d.pwr := rfl
@[simp] theorem Dev.setSlice_mgt (d : Dev) (t : Nat) (c : SCtx) : (d.setSlice t c).mgt = d.mgt := rfl

/-! ## setEntry -/

@[simp] theorem Dev.setEntry_regs (d : Dev) (n : Nat) (e : JEntry) : (d.setEntry n e).regs = d.regs := rfl
@[simp] theorem Dev.setEntry_now (d : Dev) (n : Nat) (e : JEntry) : (d.setEntry n e).now = d.now := rfl
@[simp] theorem Dev.setEntry_fresh (d : Dev) (n : Nat) (e : JEntry) : (d.setEntry n e).fresh = d.fresh := rfl
@[simp] theorem Dev.setEntry_out (d : Dev) (n : Nat) (e : JEntry) : (d.setEntry n e).out = d.out := rfl
@[simp] theorem Dev.setEntry_keyHalf (d : Dev) (n : Nat) (e : JEntry) : (d.setEntry n e).keyHalf = d.keyHalf := rfl
@[simp] theorem Dev.setEntry_evc (d : Dev) (n : Nat) (e : JEntry) : (d.setEntry n e).evc = d.evc := rfl
@[simp] theorem Dev.setEntry_flt (d : Dev) (n : Nat) (e : JEntry) : (d.setEntry n e).flt = d.flt := rfl
@[simp] theorem Dev.setEntry_ports (d : Dev) (n : Nat) (e : JEntry) : (d.setEntry n e).ports = d.ports := rfl
@[simp] theorem Dev.setEntry_queues (d : Dev) (n : Nat) (e : JEntry) : (d.setEntry n e).queues = d.queues := rfl
@[simp] theorem Dev.setEntry_slices (d : Dev) (n : Nat) (e : JEntry) : (d.setEntry n e).slices = d.slices := rfl
@[simp] theorem Dev.setEntry_jidx (d : Dev) (n : Nat) (e : JEntry) : (d.setEntry n e).jidx = d.jidx := rfl
@[simp] theorem Dev.setEntry_work (d : Dev) (n : Nat) (e : JEntry) : (d.setEntry n e).work = d.work := rfl
@[simp] theorem Dev.setEntry_seqQ (d : Dev) (n : Nat) (e : JEntry) : (d.setEntry n e).seqQ = d.seqQ := rfl
@[simp] theorem Dev.setEntry_aborts (d : Dev) (n : Nat) (e : JEntry) : (d.setEntry n e).aborts = d.aborts := rfl
@[simp] theorem Dev.setEntry_reads (d : Dev) (n : Nat) (e : JEntry) : (d.setEntry n e).reads = d.reads := rfl
@[simp] theorem Dev.setEntry_readSeq (d : Dev) (n : Nat) (e : JEntry) : (d.setEntry n e).readSeq = d.readSeq := rfl
@[simp] theorem Dev.setEntry_serial (d : Dev) (n : Nat) (e : JEntry) : (d.setEntry n e).serial = d.serial := rfl
@[simp] theorem Dev.setEntry_debt (d : Dev) (n : Nat) (e : JEntry) : (d.setEntry n e).debt = d.debt := rfl
@[simp] theorem Dev.setEntry_scrub (d : Dev) (n : Nat) (e : JEntry) : (d.setEntry n e).scrub = d.scrub := rfl
@[simp] theorem Dev.setEntry_sch (d : Dev) (n : Nat) (e : JEntry) : (d.setEntry n e).sch = d.sch := rfl
@[simp] theorem Dev.setEntry_eng (d : Dev) (n : Nat) (e : JEntry) : (d.setEntry n e).eng = d.eng := rfl
@[simp] theorem Dev.setEntry_lnk (d : Dev) (n : Nat) (e : JEntry) : (d.setEntry n e).lnk = d.lnk := rfl
@[simp] theorem Dev.setEntry_brg (d : Dev) (n : Nat) (e : JEntry) : (d.setEntry n e).brg = d.brg := rfl
@[simp] theorem Dev.setEntry_bay (d : Dev) (n : Nat) (e : JEntry) : (d.setEntry n e).bay = d.bay := rfl
@[simp] theorem Dev.setEntry_pwr (d : Dev) (n : Nat) (e : JEntry) : (d.setEntry n e).pwr = d.pwr := rfl
@[simp] theorem Dev.setEntry_mgt (d : Dev) (n : Nat) (e : JEntry) : (d.setEntry n e).mgt = d.mgt := rfl

/-! ## setIdx -/

@[simp] theorem Dev.setIdx_regs (d : Dev) (n : Nat) (x : JIdx) : (d.setIdx n x).regs = d.regs := rfl
@[simp] theorem Dev.setIdx_now (d : Dev) (n : Nat) (x : JIdx) : (d.setIdx n x).now = d.now := rfl
@[simp] theorem Dev.setIdx_fresh (d : Dev) (n : Nat) (x : JIdx) : (d.setIdx n x).fresh = d.fresh := rfl
@[simp] theorem Dev.setIdx_out (d : Dev) (n : Nat) (x : JIdx) : (d.setIdx n x).out = d.out := rfl
@[simp] theorem Dev.setIdx_keyHalf (d : Dev) (n : Nat) (x : JIdx) : (d.setIdx n x).keyHalf = d.keyHalf := rfl
@[simp] theorem Dev.setIdx_evc (d : Dev) (n : Nat) (x : JIdx) : (d.setIdx n x).evc = d.evc := rfl
@[simp] theorem Dev.setIdx_flt (d : Dev) (n : Nat) (x : JIdx) : (d.setIdx n x).flt = d.flt := rfl
@[simp] theorem Dev.setIdx_ports (d : Dev) (n : Nat) (x : JIdx) : (d.setIdx n x).ports = d.ports := rfl
@[simp] theorem Dev.setIdx_queues (d : Dev) (n : Nat) (x : JIdx) : (d.setIdx n x).queues = d.queues := rfl
@[simp] theorem Dev.setIdx_slices (d : Dev) (n : Nat) (x : JIdx) : (d.setIdx n x).slices = d.slices := rfl
@[simp] theorem Dev.setIdx_jnl (d : Dev) (n : Nat) (x : JIdx) : (d.setIdx n x).jnl = d.jnl := rfl
@[simp] theorem Dev.setIdx_work (d : Dev) (n : Nat) (x : JIdx) : (d.setIdx n x).work = d.work := rfl
@[simp] theorem Dev.setIdx_seqQ (d : Dev) (n : Nat) (x : JIdx) : (d.setIdx n x).seqQ = d.seqQ := rfl
@[simp] theorem Dev.setIdx_aborts (d : Dev) (n : Nat) (x : JIdx) : (d.setIdx n x).aborts = d.aborts := rfl
@[simp] theorem Dev.setIdx_reads (d : Dev) (n : Nat) (x : JIdx) : (d.setIdx n x).reads = d.reads := rfl
@[simp] theorem Dev.setIdx_readSeq (d : Dev) (n : Nat) (x : JIdx) : (d.setIdx n x).readSeq = d.readSeq := rfl
@[simp] theorem Dev.setIdx_serial (d : Dev) (n : Nat) (x : JIdx) : (d.setIdx n x).serial = d.serial := rfl
@[simp] theorem Dev.setIdx_debt (d : Dev) (n : Nat) (x : JIdx) : (d.setIdx n x).debt = d.debt := rfl
@[simp] theorem Dev.setIdx_scrub (d : Dev) (n : Nat) (x : JIdx) : (d.setIdx n x).scrub = d.scrub := rfl
@[simp] theorem Dev.setIdx_sch (d : Dev) (n : Nat) (x : JIdx) : (d.setIdx n x).sch = d.sch := rfl
@[simp] theorem Dev.setIdx_eng (d : Dev) (n : Nat) (x : JIdx) : (d.setIdx n x).eng = d.eng := rfl
@[simp] theorem Dev.setIdx_lnk (d : Dev) (n : Nat) (x : JIdx) : (d.setIdx n x).lnk = d.lnk := rfl
@[simp] theorem Dev.setIdx_brg (d : Dev) (n : Nat) (x : JIdx) : (d.setIdx n x).brg = d.brg := rfl
@[simp] theorem Dev.setIdx_bay (d : Dev) (n : Nat) (x : JIdx) : (d.setIdx n x).bay = d.bay := rfl
@[simp] theorem Dev.setIdx_pwr (d : Dev) (n : Nat) (x : JIdx) : (d.setIdx n x).pwr = d.pwr := rfl
@[simp] theorem Dev.setIdx_mgt (d : Dev) (n : Nat) (x : JIdx) : (d.setIdx n x).mgt = d.mgt := rfl

/-! ## setWk -/

@[simp] theorem Dev.setWk_regs (d : Dev) (n : Nat) (w : Work) : (d.setWk n w).regs = d.regs := rfl
@[simp] theorem Dev.setWk_now (d : Dev) (n : Nat) (w : Work) : (d.setWk n w).now = d.now := rfl
@[simp] theorem Dev.setWk_fresh (d : Dev) (n : Nat) (w : Work) : (d.setWk n w).fresh = d.fresh := rfl
@[simp] theorem Dev.setWk_out (d : Dev) (n : Nat) (w : Work) : (d.setWk n w).out = d.out := rfl
@[simp] theorem Dev.setWk_keyHalf (d : Dev) (n : Nat) (w : Work) : (d.setWk n w).keyHalf = d.keyHalf := rfl
@[simp] theorem Dev.setWk_evc (d : Dev) (n : Nat) (w : Work) : (d.setWk n w).evc = d.evc := rfl
@[simp] theorem Dev.setWk_flt (d : Dev) (n : Nat) (w : Work) : (d.setWk n w).flt = d.flt := rfl
@[simp] theorem Dev.setWk_ports (d : Dev) (n : Nat) (w : Work) : (d.setWk n w).ports = d.ports := rfl
@[simp] theorem Dev.setWk_queues (d : Dev) (n : Nat) (w : Work) : (d.setWk n w).queues = d.queues := rfl
@[simp] theorem Dev.setWk_slices (d : Dev) (n : Nat) (w : Work) : (d.setWk n w).slices = d.slices := rfl
@[simp] theorem Dev.setWk_jnl (d : Dev) (n : Nat) (w : Work) : (d.setWk n w).jnl = d.jnl := rfl
@[simp] theorem Dev.setWk_seqQ (d : Dev) (n : Nat) (w : Work) : (d.setWk n w).seqQ = d.seqQ := rfl
@[simp] theorem Dev.setWk_aborts (d : Dev) (n : Nat) (w : Work) : (d.setWk n w).aborts = d.aborts := rfl
@[simp] theorem Dev.setWk_reads (d : Dev) (n : Nat) (w : Work) : (d.setWk n w).reads = d.reads := rfl
@[simp] theorem Dev.setWk_readSeq (d : Dev) (n : Nat) (w : Work) : (d.setWk n w).readSeq = d.readSeq := rfl
@[simp] theorem Dev.setWk_serial (d : Dev) (n : Nat) (w : Work) : (d.setWk n w).serial = d.serial := rfl
@[simp] theorem Dev.setWk_debt (d : Dev) (n : Nat) (w : Work) : (d.setWk n w).debt = d.debt := rfl
@[simp] theorem Dev.setWk_scrub (d : Dev) (n : Nat) (w : Work) : (d.setWk n w).scrub = d.scrub := rfl
@[simp] theorem Dev.setWk_sch (d : Dev) (n : Nat) (w : Work) : (d.setWk n w).sch = d.sch := rfl
@[simp] theorem Dev.setWk_eng (d : Dev) (n : Nat) (w : Work) : (d.setWk n w).eng = d.eng := rfl
@[simp] theorem Dev.setWk_lnk (d : Dev) (n : Nat) (w : Work) : (d.setWk n w).lnk = d.lnk := rfl
@[simp] theorem Dev.setWk_brg (d : Dev) (n : Nat) (w : Work) : (d.setWk n w).brg = d.brg := rfl
@[simp] theorem Dev.setWk_bay (d : Dev) (n : Nat) (w : Work) : (d.setWk n w).bay = d.bay := rfl
@[simp] theorem Dev.setWk_pwr (d : Dev) (n : Nat) (w : Work) : (d.setWk n w).pwr = d.pwr := rfl
@[simp] theorem Dev.setWk_jidx (d : Dev) (n : Nat) (w : Work) : (d.setWk n w).jidx = d.jidx := rfl
@[simp] theorem Dev.setWk_mgt (d : Dev) (n : Nat) (w : Work) : (d.setWk n w).mgt = d.mgt := rfl

/-! ## setLane -/

@[simp] theorem Dev.setLane_regs (d : Dev) (l : Nat) (t : LaneT) : (d.setLane l t).regs = d.regs := rfl
@[simp] theorem Dev.setLane_now (d : Dev) (l : Nat) (t : LaneT) : (d.setLane l t).now = d.now := rfl
@[simp] theorem Dev.setLane_fresh (d : Dev) (l : Nat) (t : LaneT) : (d.setLane l t).fresh = d.fresh := rfl
@[simp] theorem Dev.setLane_out (d : Dev) (l : Nat) (t : LaneT) : (d.setLane l t).out = d.out := rfl
@[simp] theorem Dev.setLane_keyHalf (d : Dev) (l : Nat) (t : LaneT) : (d.setLane l t).keyHalf = d.keyHalf := rfl
@[simp] theorem Dev.setLane_evc (d : Dev) (l : Nat) (t : LaneT) : (d.setLane l t).evc = d.evc := rfl
@[simp] theorem Dev.setLane_flt (d : Dev) (l : Nat) (t : LaneT) : (d.setLane l t).flt = d.flt := rfl
@[simp] theorem Dev.setLane_ports (d : Dev) (l : Nat) (t : LaneT) : (d.setLane l t).ports = d.ports := rfl
@[simp] theorem Dev.setLane_queues (d : Dev) (l : Nat) (t : LaneT) : (d.setLane l t).queues = d.queues := rfl
@[simp] theorem Dev.setLane_slices (d : Dev) (l : Nat) (t : LaneT) : (d.setLane l t).slices = d.slices := rfl
@[simp] theorem Dev.setLane_jnl (d : Dev) (l : Nat) (t : LaneT) : (d.setLane l t).jnl = d.jnl := rfl
@[simp] theorem Dev.setLane_jidx (d : Dev) (l : Nat) (t : LaneT) : (d.setLane l t).jidx = d.jidx := rfl
@[simp] theorem Dev.setLane_work (d : Dev) (l : Nat) (t : LaneT) : (d.setLane l t).work = d.work := rfl
@[simp] theorem Dev.setLane_seqQ (d : Dev) (l : Nat) (t : LaneT) : (d.setLane l t).seqQ = d.seqQ := rfl
@[simp] theorem Dev.setLane_aborts (d : Dev) (l : Nat) (t : LaneT) : (d.setLane l t).aborts = d.aborts := rfl
@[simp] theorem Dev.setLane_reads (d : Dev) (l : Nat) (t : LaneT) : (d.setLane l t).reads = d.reads := rfl
@[simp] theorem Dev.setLane_readSeq (d : Dev) (l : Nat) (t : LaneT) : (d.setLane l t).readSeq = d.readSeq := rfl
@[simp] theorem Dev.setLane_serial (d : Dev) (l : Nat) (t : LaneT) : (d.setLane l t).serial = d.serial := rfl
@[simp] theorem Dev.setLane_debt (d : Dev) (l : Nat) (t : LaneT) : (d.setLane l t).debt = d.debt := rfl
@[simp] theorem Dev.setLane_scrub (d : Dev) (l : Nat) (t : LaneT) : (d.setLane l t).scrub = d.scrub := rfl
@[simp] theorem Dev.setLane_sch (d : Dev) (l : Nat) (t : LaneT) : (d.setLane l t).sch = d.sch := rfl
@[simp] theorem Dev.setLane_eng (d : Dev) (l : Nat) (t : LaneT) : (d.setLane l t).eng = d.eng := rfl
@[simp] theorem Dev.setLane_brg (d : Dev) (l : Nat) (t : LaneT) : (d.setLane l t).brg = d.brg := rfl
@[simp] theorem Dev.setLane_bay (d : Dev) (l : Nat) (t : LaneT) : (d.setLane l t).bay = d.bay := rfl
@[simp] theorem Dev.setLane_pwr (d : Dev) (l : Nat) (t : LaneT) : (d.setLane l t).pwr = d.pwr := rfl
@[simp] theorem Dev.setLane_mgt (d : Dev) (l : Nat) (t : LaneT) : (d.setLane l t).mgt = d.mgt := rfl

/-! ## setLink -/

@[simp] theorem Dev.setLink_regs (d : Dev) (l : Nat) (t : LinkT) : (d.setLink l t).regs = d.regs := rfl
@[simp] theorem Dev.setLink_now (d : Dev) (l : Nat) (t : LinkT) : (d.setLink l t).now = d.now := rfl
@[simp] theorem Dev.setLink_fresh (d : Dev) (l : Nat) (t : LinkT) : (d.setLink l t).fresh = d.fresh := rfl
@[simp] theorem Dev.setLink_out (d : Dev) (l : Nat) (t : LinkT) : (d.setLink l t).out = d.out := rfl
@[simp] theorem Dev.setLink_keyHalf (d : Dev) (l : Nat) (t : LinkT) : (d.setLink l t).keyHalf = d.keyHalf := rfl
@[simp] theorem Dev.setLink_evc (d : Dev) (l : Nat) (t : LinkT) : (d.setLink l t).evc = d.evc := rfl
@[simp] theorem Dev.setLink_flt (d : Dev) (l : Nat) (t : LinkT) : (d.setLink l t).flt = d.flt := rfl
@[simp] theorem Dev.setLink_ports (d : Dev) (l : Nat) (t : LinkT) : (d.setLink l t).ports = d.ports := rfl
@[simp] theorem Dev.setLink_queues (d : Dev) (l : Nat) (t : LinkT) : (d.setLink l t).queues = d.queues := rfl
@[simp] theorem Dev.setLink_slices (d : Dev) (l : Nat) (t : LinkT) : (d.setLink l t).slices = d.slices := rfl
@[simp] theorem Dev.setLink_jnl (d : Dev) (l : Nat) (t : LinkT) : (d.setLink l t).jnl = d.jnl := rfl
@[simp] theorem Dev.setLink_jidx (d : Dev) (l : Nat) (t : LinkT) : (d.setLink l t).jidx = d.jidx := rfl
@[simp] theorem Dev.setLink_work (d : Dev) (l : Nat) (t : LinkT) : (d.setLink l t).work = d.work := rfl
@[simp] theorem Dev.setLink_seqQ (d : Dev) (l : Nat) (t : LinkT) : (d.setLink l t).seqQ = d.seqQ := rfl
@[simp] theorem Dev.setLink_aborts (d : Dev) (l : Nat) (t : LinkT) : (d.setLink l t).aborts = d.aborts := rfl
@[simp] theorem Dev.setLink_reads (d : Dev) (l : Nat) (t : LinkT) : (d.setLink l t).reads = d.reads := rfl
@[simp] theorem Dev.setLink_readSeq (d : Dev) (l : Nat) (t : LinkT) : (d.setLink l t).readSeq = d.readSeq := rfl
@[simp] theorem Dev.setLink_serial (d : Dev) (l : Nat) (t : LinkT) : (d.setLink l t).serial = d.serial := rfl
@[simp] theorem Dev.setLink_debt (d : Dev) (l : Nat) (t : LinkT) : (d.setLink l t).debt = d.debt := rfl
@[simp] theorem Dev.setLink_scrub (d : Dev) (l : Nat) (t : LinkT) : (d.setLink l t).scrub = d.scrub := rfl
@[simp] theorem Dev.setLink_sch (d : Dev) (l : Nat) (t : LinkT) : (d.setLink l t).sch = d.sch := rfl
@[simp] theorem Dev.setLink_eng (d : Dev) (l : Nat) (t : LinkT) : (d.setLink l t).eng = d.eng := rfl
@[simp] theorem Dev.setLink_brg (d : Dev) (l : Nat) (t : LinkT) : (d.setLink l t).brg = d.brg := rfl
@[simp] theorem Dev.setLink_bay (d : Dev) (l : Nat) (t : LinkT) : (d.setLink l t).bay = d.bay := rfl
@[simp] theorem Dev.setLink_pwr (d : Dev) (l : Nat) (t : LinkT) : (d.setLink l t).pwr = d.pwr := rfl
@[simp] theorem Dev.setLink_mgt (d : Dev) (l : Nat) (t : LinkT) : (d.setLink l t).mgt = d.mgt := rfl

/-! ## What each update changes -/

@[simp] theorem Dev.emit_out_eq (d : Dev) (m : OutMsg) : (d.emit m).out = m :: d.out := rfl
@[simp] theorem Dev.port_setPort (d : Dev) (n : Nat) (p : Port) : (d.setPort n p).port n = p := Tab.get_set_eq ..
@[simp] theorem Dev.queue_setQueue (d : Dev) (q : Nat) (c : QCtx) : (d.setQueue q c).queue q = c := Tab.get_set_eq ..
@[simp] theorem Dev.slice_setSlice (d : Dev) (t : Nat) (c : SCtx) : (d.setSlice t c).slice t = c := Tab.get_set_eq ..
@[simp] theorem Dev.entry_setEntry (d : Dev) (n : Nat) (e : JEntry) : (d.setEntry n e).entry n = e := Tab.get_set_eq ..
@[simp] theorem Dev.wk_setWk (d : Dev) (n : Nat) (w : Work) : (d.setWk n w).wk n = w := Tab.get_set_eq ..
@[simp] theorem Dev.lane_setLane (d : Dev) (l : Nat) (t : LaneT) : (d.setLane l t).lane l = t := Tab.get_set_eq ..
@[simp] theorem Dev.link_setLink (d : Dev) (l : Nat) (t : LinkT) : (d.setLink l t).link l = t := Tab.get_set_eq ..

theorem Dev.port_setPort_ne (d : Dev) {m n : Nat} (p : Port) (h : m ≠ n) : (d.setPort n p).port m = d.port m := Tab.get_set_ne _ _ _ _ h
theorem Dev.queue_setQueue_ne (d : Dev) {m q : Nat} (c : QCtx) (h : m ≠ q) : (d.setQueue q c).queue m = d.queue m := Tab.get_set_ne _ _ _ _ h
theorem Dev.slice_setSlice_ne (d : Dev) {m t : Nat} (c : SCtx) (h : m ≠ t) : (d.setSlice t c).slice m = d.slice m := Tab.get_set_ne _ _ _ _ h
theorem Dev.entry_setEntry_ne (d : Dev) {m n : Nat} (e : JEntry) (h : m ≠ n) : (d.setEntry n e).entry m = d.entry m := Tab.get_set_ne _ _ _ _ h
theorem Dev.wk_setWk_ne (d : Dev) {m n : Nat} (w : Work) (h : m ≠ n) : (d.setWk n w).wk m = d.wk m := Tab.get_set_ne _ _ _ _ h
theorem Dev.lane_setLane_ne (d : Dev) {m l : Nat} (t : LaneT) (h : m ≠ l) : (d.setLane l t).lane m = d.lane m := Tab.get_set_ne _ _ _ _ h
theorem Dev.link_setLink_ne (d : Dev) {m l : Nat} (t : LinkT) (h : m ≠ l) : (d.setLink l t).link m = d.link m := Tab.get_set_ne _ _ _ _ h

/-! ## Register fields -/

/-- A field read after it was written gives what was written, cut to its width. -/
@[simp] theorem Dev.rd_wr_eq (d : Dev) (f : Fld) (v : Nat) : (d.wr f v).rd f = v % 2 ^ f.width := Tab.get_set_eq ..

/-- A write leaves every other field as it reads. -/
theorem Dev.rd_wr_ne (d : Dev) (f g : Fld) (v : Nat) (h : g.key ≠ f.key) : (d.wr f v).rd g = d.rd g := Tab.get_set_ne _ _ _ _ h

/-- The last of two writes of one field stands. -/
@[simp] theorem Dev.wr_wr (d : Dev) (f : Fld) (u v : Nat) : (d.wr f u).wr f v = d.wr f v := by
  simp only [Dev.wr, Tab.set_set]

/-- Reads look at the register store alone. -/
theorem Dev.rd_congr {d e : Dev} (h : e.regs = d.regs) (f : Fld) : e.rd f = d.rd f := by simp only [Dev.rd, h]
theorem Dev.flag_congr {d e : Dev} (h : e.regs = d.regs) (f : Fld) : e.flag f = d.flag f := by simp only [Dev.flag, Dev.rd, h]

@[simp] theorem Dev.wrs_nil (d : Dev) : d.wrs [] = d := rfl
@[simp] theorem Dev.wrs_cons (d : Dev) (p : Fld × Nat) (l : List (Fld × Nat)) : d.wrs (p :: l) = (d.wr p.1 p.2).wrs l := rfl

/-- Several writes leave every field they do not name as it reads. -/
theorem Dev.rd_wrs_ne (l : List (Fld × Nat)) : ∀ (d : Dev) (g : Fld), (∀ p, p ∈ l → g.key ≠ p.1.key) → (d.wrs l).rd g = d.rd g := by
  induction l with
  | nil => intro d g _; rfl
  | cons p l ih =>
    intro d g h
    rw [Dev.wrs_cons, ih _ _ (fun q hq => h q (List.mem_cons_of_mem _ hq)), Dev.rd_wr_ne _ _ _ _ (h p (List.mem_cons_self ..))]

/-- Several writes change nothing but the register store. -/
theorem Dev.wrs_regs_only (l : List (Fld × Nat)) : ∀ d : Dev, d.wrs l = { d with regs := (d.wrs l).regs } := by
  induction l with
  | nil => intro d; rfl
  | cons p l ih => intro d; rw [Dev.wrs_cons, ih]; rfl

@[simp] theorem Dev.wrs_now (d : Dev) (l : List (Fld × Nat)) : (d.wrs l).now = d.now := by rw [Dev.wrs_regs_only]
@[simp] theorem Dev.wrs_fresh (d : Dev) (l : List (Fld × Nat)) : (d.wrs l).fresh = d.fresh := by rw [Dev.wrs_regs_only]
@[simp] theorem Dev.wrs_out (d : Dev) (l : List (Fld × Nat)) : (d.wrs l).out = d.out := by rw [Dev.wrs_regs_only]
@[simp] theorem Dev.wrs_keyHalf (d : Dev) (l : List (Fld × Nat)) : (d.wrs l).keyHalf = d.keyHalf := by rw [Dev.wrs_regs_only]
@[simp] theorem Dev.wrs_evc (d : Dev) (l : List (Fld × Nat)) : (d.wrs l).evc = d.evc := by rw [Dev.wrs_regs_only]
@[simp] theorem Dev.wrs_flt (d : Dev) (l : List (Fld × Nat)) : (d.wrs l).flt = d.flt := by rw [Dev.wrs_regs_only]
@[simp] theorem Dev.wrs_ports (d : Dev) (l : List (Fld × Nat)) : (d.wrs l).ports = d.ports := by rw [Dev.wrs_regs_only]
@[simp] theorem Dev.wrs_queues (d : Dev) (l : List (Fld × Nat)) : (d.wrs l).queues = d.queues := by rw [Dev.wrs_regs_only]
@[simp] theorem Dev.wrs_slices (d : Dev) (l : List (Fld × Nat)) : (d.wrs l).slices = d.slices := by rw [Dev.wrs_regs_only]
@[simp] theorem Dev.wrs_jnl (d : Dev) (l : List (Fld × Nat)) : (d.wrs l).jnl = d.jnl := by rw [Dev.wrs_regs_only]
@[simp] theorem Dev.wrs_work (d : Dev) (l : List (Fld × Nat)) : (d.wrs l).work = d.work := by rw [Dev.wrs_regs_only]
@[simp] theorem Dev.wrs_seqQ (d : Dev) (l : List (Fld × Nat)) : (d.wrs l).seqQ = d.seqQ := by rw [Dev.wrs_regs_only]
@[simp] theorem Dev.wrs_aborts (d : Dev) (l : List (Fld × Nat)) : (d.wrs l).aborts = d.aborts := by rw [Dev.wrs_regs_only]
@[simp] theorem Dev.wrs_reads (d : Dev) (l : List (Fld × Nat)) : (d.wrs l).reads = d.reads := by rw [Dev.wrs_regs_only]
@[simp] theorem Dev.wrs_readSeq (d : Dev) (l : List (Fld × Nat)) : (d.wrs l).readSeq = d.readSeq := by rw [Dev.wrs_regs_only]
@[simp] theorem Dev.wrs_serial (d : Dev) (l : List (Fld × Nat)) : (d.wrs l).serial = d.serial := by rw [Dev.wrs_regs_only]
@[simp] theorem Dev.wrs_debt (d : Dev) (l : List (Fld × Nat)) : (d.wrs l).debt = d.debt := by rw [Dev.wrs_regs_only]
@[simp] theorem Dev.wrs_scrub (d : Dev) (l : List (Fld × Nat)) : (d.wrs l).scrub = d.scrub := by rw [Dev.wrs_regs_only]
@[simp] theorem Dev.wrs_sch (d : Dev) (l : List (Fld × Nat)) : (d.wrs l).sch = d.sch := by rw [Dev.wrs_regs_only]
@[simp] theorem Dev.wrs_eng (d : Dev) (l : List (Fld × Nat)) : (d.wrs l).eng = d.eng := by rw [Dev.wrs_regs_only]
@[simp] theorem Dev.wrs_lnk (d : Dev) (l : List (Fld × Nat)) : (d.wrs l).lnk = d.lnk := by rw [Dev.wrs_regs_only]
@[simp] theorem Dev.wrs_brg (d : Dev) (l : List (Fld × Nat)) : (d.wrs l).brg = d.brg := by rw [Dev.wrs_regs_only]
@[simp] theorem Dev.wrs_bay (d : Dev) (l : List (Fld × Nat)) : (d.wrs l).bay = d.bay := by rw [Dev.wrs_regs_only]
@[simp] theorem Dev.wrs_pwr (d : Dev) (l : List (Fld × Nat)) : (d.wrs l).pwr = d.pwr := by rw [Dev.wrs_regs_only]
@[simp] theorem Dev.wrs_mgt (d : Dev) (l : List (Fld × Nat)) : (d.wrs l).mgt = d.mgt := by rw [Dev.wrs_regs_only]

/-! ## Reads of registers under updates of other fields -/

@[simp] theorem Dev.rd_emit (d : Dev) (m : OutMsg) (f : Fld) : (d.emit m).rd f = d.rd f := rfl
@[simp] theorem Dev.flag_emit (d : Dev) (m : OutMsg) (f : Fld) : (d.emit m).flag f = d.flag f := rfl
@[simp] theorem Dev.rd_setPort (d : Dev) (n : Nat) (p : Port) (f : Fld) : (d.setPort n p).rd f = d.rd f := rfl
@[simp] theorem Dev.flag_setPort (d : Dev) (n : Nat) (p : Port) (f : Fld) : (d.setPort n p).flag f = d.flag f := rfl
@[simp] theorem Dev.rd_setQueue (d : Dev) (q : Nat) (c : QCtx) (f : Fld) : (d.setQueue q c).rd f = d.rd f := rfl
@[simp] theorem Dev.flag_setQueue (d : Dev) (q : Nat) (c : QCtx) (f : Fld) : (d.setQueue q c).flag f = d.flag f := rfl
@[simp] theorem Dev.rd_setSlice (d : Dev) (t : Nat) (c : SCtx) (f : Fld) : (d.setSlice t c).rd f = d.rd f := rfl
@[simp] theorem Dev.flag_setSlice (d : Dev) (t : Nat) (c : SCtx) (f : Fld) : (d.setSlice t c).flag f = d.flag f := rfl
@[simp] theorem Dev.rd_setIdx (d : Dev) (n : Nat) (x : JIdx) (f : Fld) : (d.setIdx n x).rd f = d.rd f := rfl
@[simp] theorem Dev.flag_setIdx (d : Dev) (n : Nat) (x : JIdx) (f : Fld) : (d.setIdx n x).flag f = d.flag f := rfl
@[simp] theorem Dev.rd_setEntry (d : Dev) (n : Nat) (e : JEntry) (f : Fld) : (d.setEntry n e).rd f = d.rd f := rfl
@[simp] theorem Dev.flag_setEntry (d : Dev) (n : Nat) (e : JEntry) (f : Fld) : (d.setEntry n e).flag f = d.flag f := rfl
@[simp] theorem Dev.rd_setWk (d : Dev) (n : Nat) (w : Work) (f : Fld) : (d.setWk n w).rd f = d.rd f := rfl
@[simp] theorem Dev.flag_setWk (d : Dev) (n : Nat) (w : Work) (f : Fld) : (d.setWk n w).flag f = d.flag f := rfl
@[simp] theorem Dev.rd_setLane (d : Dev) (l : Nat) (t : LaneT) (f : Fld) : (d.setLane l t).rd f = d.rd f := rfl
@[simp] theorem Dev.flag_setLane (d : Dev) (l : Nat) (t : LaneT) (f : Fld) : (d.setLane l t).flag f = d.flag f := rfl
@[simp] theorem Dev.rd_setLink (d : Dev) (l : Nat) (t : LinkT) (f : Fld) : (d.setLink l t).rd f = d.rd f := rfl
@[simp] theorem Dev.flag_setLink (d : Dev) (l : Nat) (t : LinkT) (f : Fld) : (d.setLink l t).flag f = d.flag f := rfl

end Sys2Proof.Machine
end

