-- ==== Sys2Proof/Laws/Ops.lean ====
section
/-! SUPPORT. What each shared operation can do, said once: register accesses, admin commands, messages, events, requests on
a host port and faults. -/
namespace Sys2Proof.Machine

set_option Elab.async false

/-! ## Commands -/

/-- Every command's meaning is a function of the block, after which the block settles. -/
theorem State.run_eq (f : Dev → Dev) (s : State) : s.run f = .next (s.settled (f s.dev)) := rfl

theorem State.settled_pending (s : State) (d : Dev) : (s.settled d).pending = s.pending := by rw [State.settled]
theorem State.settled_dev (s : State) (d : Dev) : (s.settled d).dev = d.settleAll := by rw [State.settled]

/-! ## Register accesses -/

/-- A manager write that is carried out at once is the register's own effect. -/
theorem Dev.setup_open {d : Dev} {a : Nat} (v : Nat) (f : Dev → Dev) (h : d.setupOpen a = true) : d.setup a v f = f (d.opened a) := by
  simp only [Dev.setupOpen, Bool.and_eq_true, Bool.not_eq_true'] at h
  obtain ⟨⟨⟨⟨h1, h2⟩, h3⟩, h4⟩, h5⟩ := h
  have e1 : Dev.flag { d with keyHalf := false } GLB_SETUP_LOCK_LOCKED = false := h3
  have e2 : Dev.addrOff { d with keyHalf := false } a = false := h4
  have e3 : Dev.asleep { d with keyHalf := false } a = none := Option.isNone_iff_eq_none.1 h5
  simp [Dev.setup, Dev.opened, h1, h2, e1, e2, e3]

/-- Everything a manager write can do: nothing without power; restart the unlock sequence alone in GRAVE; set LOCKED_WRITE in a
locked space; be latched for a unit that is off; wait for a domain that sleeps; or be carried out. -/
theorem Dev.setup_cases (d : Dev) (a v : Nat) (f : Dev → Dev) :
    let e : Dev := { d with keyHalf := false }
    (d.hubOff = true ∧ d.setup a v f = d)
    ∨ (d.hubOff = false ∧ d.flt.grave = true ∧ d.setup a v f = e)
    ∨ (d.flag GLB_SETUP_LOCK_LOCKED = true ∧ d.setup a v f = e.wr GLB_SETUP_LOCK_LOCKED_WRITE 1)
    ∨ (d.addrOff a = true ∧ d.setup a v f = e.offAccess d.mgrPort a true)
    ∨ (∃ m, d.asleep a = some m ∧ d.setup a v f = { e with pwr := { d.pwr with stalls := d.pwr.stalls ++ [.write m a v] } })
    ∨ (d.setupOpen a = true ∧ d.setup a v f = f (d.opened a)) := by
  intro e
  by_cases h1 : d.hubOff = true
  · exact .inl ⟨h1, by simp [Dev.setup, h1]⟩
  simp only [Bool.not_eq_true] at h1
  by_cases h2 : d.flt.grave = true
  · exact .inr (.inl ⟨h1, h2, by simp [Dev.setup, h1, h2, e]⟩)
  simp only [Bool.not_eq_true] at h2
  by_cases h3 : d.flag GLB_SETUP_LOCK_LOCKED = true
  · refine .inr (.inr (.inl ⟨h3, ?_⟩))
    have g : e.flag GLB_SETUP_LOCK_LOCKED = true := h3
    simp [Dev.setup, h1, h2, g, e]
  simp only [Bool.not_eq_true] at h3
  by_cases h4 : d.addrOff a = true
  · refine .inr (.inr (.inr (.inl ⟨h4, ?_⟩)))
    have g : e.flag GLB_SETUP_LOCK_LOCKED = false := h3
    have g' : e.addrOff a = true := h4
    have hm : e.mgrPort = d.mgrPort := rfl
    simp only [Dev.setup, h1, Bool.false_eq_true, if_false]
    show (if e.flt.grave = true then e else if e.flag GLB_SETUP_LOCK_LOCKED = true then e.wr GLB_SETUP_LOCK_LOCKED_WRITE 1
      else if e.addrOff a = true then e.offAccess e.mgrPort a true else _) = _
    have h2' : e.flt.grave = false := h2
    simp [h2', g, g', hm]
  simp only [Bool.not_eq_true] at h4
  cases h5 : d.asleep a with
  | some m =>
    refine .inr (.inr (.inr (.inr (.inl ⟨m, rfl, ?_⟩))))
    have g : Dev.flag { d with keyHalf := false } GLB_SETUP_LOCK_LOCKED = false := h3
    have g' : Dev.addrOff { d with keyHalf := false } a = false := h4
    have g'' : Dev.asleep { d with keyHalf := false } a = some m := h5
    simp [Dev.setup, h1, h2, g, g', g'', e]
  | none =>
    have h : d.setupOpen a = true := by simp [Dev.setupOpen, h1, h2, h3, h4, h5]
    exact .inr (.inr (.inr (.inr (.inr ⟨h, Dev.setup_open v f h⟩))))

/-- A write of one field changes nothing but the register store. -/
theorem Dev.writeField_regs_only (d : Dev) (a v : Nat) (f : RField) : d.writeField a v f = { d with regs := (d.writeField a v f).regs } := by
  simp only [Dev.writeField]
  split <;> (try split) <;> rfl

/-- A register write by the access types changes nothing but the register store. -/
theorem Dev.writeWord_regs_only (d : Dev) (a v : Nat) : d.writeWord a v = { d with regs := (d.writeWord a v).regs } := by
  unfold Dev.writeWord
  split
  · rfl
  · next l _ =>
    have key : ∀ (l : List RField) (d : Dev),
        l.foldl (fun d f => d.writeField a v f) d = { d with regs := (l.foldl (fun d f => d.writeField a v f) d).regs } := by
      intro l
      induction l with
      | nil => intro d; rfl
      | cons f l ih => intro d; rw [List.foldl_cons, ih, Dev.writeField_regs_only]
    exact key l d

/-! ## Admin commands -/

/-- An admin command that may start has its effect. -/
theorem Dev.admin_ready {d : Dev} {n op : Nat} (f : BitVec 512 → Dev → Dev) (h : d.adminReady n op = true) :
    d.admin n op f = f (d.entry n).desc (d.started n) := by simp [Dev.admin, h, Dev.started]

/-- One that may not start does nothing. -/
theorem Dev.admin_not_ready {d : Dev} {n op : Nat} (f : BitVec 512 → Dev → Dev) (h : d.adminReady n op = false) :
    d.admin n op f = d := by simp [Dev.admin, h]

/-- A start changes the entry's state alone. -/
theorem Dev.started_entry (d : Dev) (n m : Nat) : ((d.started n).entry m).desc = (d.entry m).desc := by
  by_cases h : m = n
  · subst h; simp [Dev.started]
  · rw [Dev.started, Dev.entry_setEntry_ne _ _ h]

/-! ## Messages -/

/-- The message at the front of an inbox has its effect; without one there is none. -/
theorem Dev.onMsg_some {d : Dev} {l t : Nat} {m : List Byte} {e : Dev} (f : List Byte → Dev → Dev) (h : d.takeMsg l t = some (m, e)) :
    d.onMsg l t f = f m e := by simp [Dev.onMsg, h]
theorem Dev.onMsg_none {d : Dev} {l t : Nat} (f : List Byte → Dev → Dev) (h : d.takeMsg l t = none) : d.onMsg l t f = d := by
  simp [Dev.onMsg, h]

/-! ## Completions -/

/-- An item that holds a slot and has not completed completes: its entry takes the status and the result, and it waits for the
sequencer. -/
theorem Dev.finish_live {d : Dev} {n : Nat} (status result : Nat) (h : (d.entry n).state ≠ 0) (h' : (d.entry n).state ≠ 7) :
    d.finish n status result =
      (let e : JEntry := { d.entry n with state := 7, status := status, result := result % 2 ^ 32, resultHi := result / 2 ^ 32 % 2 ^ 16 }
       { d.setEntry n e with seqQ := d.seqQ ++ [.done n] }) := by
  simp [Dev.finish, Dev.complete, h, h']

/-- One that does not is left as it is. -/
theorem Dev.finish_done {d : Dev} {n : Nat} (status result : Nat) (h : (d.entry n).state = 0 ∨ (d.entry n).state = 7) :
    d.finish n status result = d := by simp [Dev.finish, Dev.complete, h]

/-- A completion changes the journal's entry and the sequencer's queue alone. -/
theorem Dev.finish_frame (d : Dev) (n status result : Nat) :
    d.finish n status result = { d with jnl := (d.finish n status result).jnl, seqQ := (d.finish n status result).seqQ } := by
  simp only [Dev.finish, Dev.complete]
  split <;> rfl

/-! ## Events -/

/-- An interrupt changes a port's held messages or PBA, or what is put out. -/
theorem Dev.msix_frame (d : Dev) (n v : Nat) : d.msix n v = { d with ports := (d.msix n v).ports, out := (d.msix n v).out } := by
  simp only [Dev.msix]
  split
  · rfl
  · split
    · split <;> rfl
    · rfl

/-- A notification changes the notified source beside that. -/
theorem Dev.notify_frame (d : Dev) (t : Nat) :
    d.notify t = { d with evc := (d.notify t).evc, ports := (d.notify t).ports, out := (d.notify t).out } := by
  simp only [Dev.notify]
  split
  · rfl
  · rw [Dev.msix_frame]

theorem Dev.notifyRise_frame (d0 d : Dev) :
    Dev.notifyRise d0 d = { d with evc := (Dev.notifyRise d0 d).evc, ports := (Dev.notifyRise d0 d).ports, out := (Dev.notifyRise d0 d).out } := by
  have key : ∀ (l : List Nat) (e : Dev), e = { d with evc := e.evc, ports := e.ports, out := e.out } →
      let r := l.foldl (fun e t => if (d0.best t).isNone && (d.best t).isSome then e.notify t else e) e
      r = { d with evc := r.evc, ports := r.ports, out := r.out } := by
    intro l
    induction l with
    | nil => intro e h; exact h
    | cons t l ih =>
      intro e h
      rw [List.foldl_cons]
      apply ih
      by_cases c : ((d0.best t).isNone && (d.best t).isSome) = true
      · rw [if_pos c, Dev.notify_frame, h]
      · rw [if_neg c]; exact h
  exact key _ d rfl

/-- A recorded wake changes the registers alone. -/
theorem Dev.recordWake_frame (d : Dev) (c x : Nat) (t : Bool) :
    d.recordWake c x t = { d with regs := (d.recordWake c x t).regs } := by
  simp only [Dev.recordWake]
  split
  · split <;> rfl
  · rfl

theorem Dev.noteSpot_frame (d : Dev) (c x : Nat) : d.noteSpot c x = { d with pwr := (d.noteSpot c x).pwr } := by
  simp only [Dev.noteSpot]
  split <;> rfl

/-- A wake changes the registers that record it, the power controller's own state, and what is put out. -/
theorem Dev.wake_frame (d : Dev) (c x : Nat) :
    d.wake c x = { d with regs := (d.wake c x).regs, pwr := (d.wake c x).pwr, out := (d.wake c x).out } := by
  simp only [Dev.wake]
  split
  · split
    · rfl
    · split
      · split
        · rw [Dev.noteSpot_frame, Dev.recordWake_frame]
        · rfl
      · rw [Dev.eclosionBegin, Dev.noteSpot_frame, Dev.recordWake_frame]
        rfl
  · split
    · split
      · rfl
      · split
        · rw [Dev.noteSpot_frame, Dev.recordWake_frame]
        · rw [Dev.recordWake_frame]
    · rfl

theorem Dev.spotWake_frame (d : Dev) (x : Nat) :
    d.spotWake x = { d with regs := (d.spotWake x).regs, pwr := (d.spotWake x).pwr, out := (d.spotWake x).out } := by
  simp only [Dev.spotWake]
  split
  · rw [Dev.wake_frame]
  · rfl

/-- An edge source's event changes the event controller, what its notifications change, and, through the eyespot, what a wake changes. -/
theorem Dev.raise_frame (d : Dev) (x : Nat) :
    d.raise x = { d with evc := (d.raise x).evc, ports := (d.raise x).ports, out := (d.raise x).out, regs := (d.raise x).regs, pwr := (d.raise x).pwr } := by
  simp only [Dev.raise]
  split
  · rfl
  · split
    · rw [Dev.spotWake_frame]
    · split
      · rfl
      · split
        · rw [Dev.becomesPending, Dev.spotWake_frame, Dev.notifyRise_frame]
        · rfl

theorem Dev.setLevel_frame (d : Dev) (x : Nat) (c : Bool) :
    d.setLevel x c = { d with evc := (d.setLevel x c).evc, ports := (d.setLevel x c).ports, out := (d.setLevel x c).out } := by
  simp only [Dev.setLevel]
  split
  · rfl
  · split
    · rw [Dev.notifyRise_frame]
    · rfl

/-- A level source's sample changes the event controller, and what its notifications change. -/
theorem Dev.sample_frame (d : Dev) (x : Nat) :
    d.sample x = { d with evc := (d.sample x).evc, ports := (d.sample x).ports, out := (d.sample x).out } := Dev.setLevel_frame ..

@[simp] theorem Dev.sample_regs (d : Dev) (x : Nat) : (d.sample x).regs = d.regs := by rw [Dev.sample_frame]
@[simp] theorem Dev.rd_sample (d : Dev) (x : Nat) (f : Fld) : (d.sample x).rd f = d.rd f := Dev.rd_congr (Dev.sample_regs ..) f
@[simp] theorem Dev.raise_bay (d : Dev) (x : Nat) : (d.raise x).bay = d.bay := by rw [Dev.raise_frame]
@[simp] theorem Dev.sample_bay (d : Dev) (x : Nat) : (d.sample x).bay = d.bay := by rw [Dev.sample_frame]
@[simp] theorem Dev.sample_pwr (d : Dev) (x : Nat) : (d.sample x).pwr = d.pwr := by rw [Dev.sample_frame]
@[simp] theorem Dev.raise_mgt (d : Dev) (x : Nat) : (d.raise x).mgt = d.mgt := by rw [Dev.raise_frame]
@[simp] theorem Dev.sample_mgt (d : Dev) (x : Nat) : (d.sample x).mgt = d.mgt := by rw [Dev.sample_frame]

/-! ## Time -/

/-- DEVICE_TIME never goes back, and reaches the time it is moved to. -/
theorem Dev.closeWindows_now (d : Dev) : d.closeWindows.now = d.now := by
  have key : ∀ (l : List FWin) (e : Dev), (l.foldl (fun e w => e.showWin w.unit w.src) e).now = e.now := by
    intro l
    induction l with
    | nil => intro e; rfl
    | cons w l ih => intro e; rw [List.foldl_cons, ih]; rfl
  simp only [Dev.closeWindows]
  rw [key]

/-! ## Requests on a host port -/

/-- A host write: dropped in GRAVE, for an earlier instar or while the slice may issue none; held; issued, in as many requests as Max_Payload asks; or failed. -/
theorem Dev.hostWrite_cases (d : Dev) (t k : Nat) (rx ns : Bool) (addr : Nat) (b : List Byte) :
    d.hostWrite t k rx ns addr b = (true, d)
    ∨ (d.egressWaits t = true ∧ ∃ p, d.hostWrite t k rx ns addr b = (true, d.setPort (d.slicePort t) p))
    ∨ (d.canIssue (d.slicePort t) = true ∧ d.hostWrite t k rx ns addr b = (true, d.emitAll (d.writeMsgs t rx ns addr b)))
    ∨ (d.canIssue (d.slicePort t) = false ∧ d.hostWrite t k rx ns addr b = (false, d.dmaFail (d.slicePort t) t addr 4)) := by
  simp only [Dev.hostWrite]
  split
  · exact .inl rfl
  · split
    · next h => exact .inr (.inl ⟨h, _, rfl⟩)
    · split
      · next h => exact .inr (.inr (.inl ⟨h, rfl⟩))
      · next h => exact .inr (.inr (.inr ⟨by simpa using h, rfl⟩))

/-- Messages put out change what is put out alone. -/
theorem Dev.emitAll_frame (d : Dev) (l : List OutMsg) : d.emitAll l = { d with out := (d.emitAll l).out } := by
  have key : ∀ (l : List OutMsg) (e : Dev), l.foldl (fun d m => d.emit m) e = { e with out := (l.foldl (fun d m => d.emit m) e).out } := by
    intro l
    induction l with
    | nil => intro e; rfl
    | cons m l ih => intro e; rw [List.foldl_cons, ih]; rfl
  exact key l d

/-- A host read: none for a slice whose requests are barred, but that an admin command's is among the reads and fails; failed where the port can issue none; else it waits for a tag, or for
the port, or is issued, and is among the reads in every one of these cases. -/
theorem Dev.hostRead_cases (d : Dev) (t addr len : Nat) (ns : Bool) (why : ReadFor) :
    d.hostRead t addr len ns why = (true, d)
    ∨ (d.canIssue (d.slicePort t) = false ∧ d.hostRead t addr len ns why = (false, d.dmaFail (d.slicePort t) t addr 3))
    ∨ ∃ r e, d.hostRead t addr len ns why = (true, e) ∧ r ∈ e.reads := by
  simp only [Dev.hostRead]
  split
  · split
    · exact .inr (.inr ⟨_, _, rfl, List.mem_append_right _ (List.mem_singleton_self _)⟩)
    · exact .inl rfl
  · split
    · next h =>
      simp only [Bool.and_eq_true, Bool.not_eq_true'] at h
      exact .inr (.inl ⟨h.2, rfl⟩)
    · split
      · exact .inr (.inr ⟨_, _, rfl, List.mem_append_right _ (List.mem_singleton_self _)⟩)
      · exact .inr (.inr ⟨_, _, rfl, List.mem_append_right _ (List.mem_singleton_self _)⟩)

/-! ## Faults -/

/-- A history entry changes the fault block's ring alone. -/
theorem Dev.history_frame (d : Dev) (u : FUnit) (src what cls flags detail addr : Nat) :
    d.history u src what cls flags detail addr = { d with flt := (d.history u src what cls flags detail addr).flt } := by
  simp only [Dev.history]
  split <;> rfl
@[simp] theorem Dev.rd_history (d : Dev) (u : FUnit) (src what cls flags detail addr : Nat) (f : Fld) :
    (d.history u src what cls flags detail addr).rd f = d.rd f := by rw [Dev.history_frame]; rfl

/-- A write after writes still changes the register store alone. -/
theorem Dev.wr_regs_only_of {d x : Dev} (f : Fld) (v : Nat) (h : x = { d with regs := x.regs }) :
    x.wr f v = { d with regs := (x.wr f v).regs } := by rw [h]; rfl
theorem Dev.wrs_regs_only_of {d x : Dev} (l : List (Fld × Nat)) (h : x = { d with regs := x.regs }) :
    x.wrs l = { d with regs := (x.wrs l).regs } := by
  induction l generalizing x with
  | nil => exact h
  | cons p l ih => exact ih (Dev.wr_regs_only_of p.1 p.2 h)
@[simp] theorem Dev.history_regs (d : Dev) (u : FUnit) (src what cls flags detail addr : Nat) :
    (d.history u src what cls flags detail addr).regs = d.regs := by rw [Dev.history_frame]
theorem Dev.history_of {d x : Dev} (u : FUnit) (src what cls flags detail addr : Nat) (h : x = { d with regs := x.regs }) :
    x.history u src what cls flags detail addr = { d with regs := (x.history u src what cls flags detail addr).regs, flt := (x.history u src what cls flags detail addr).flt } := by
  rw [Dev.history_regs]
  exact (Dev.history_frame ..).trans (by rw [h])

/-- A capture that opens, or takes on another event, changes registers and the ring alone. -/
theorem Dev.captureOpen_frame (d : Dev) (e : FEv) (cls : Nat) :
    d.captureOpen e cls = { d with regs := (d.captureOpen e cls).regs, flt := (d.captureOpen e cls).flt } := by
  simp only [Dev.captureOpen]
  refine Dev.history_of _ _ _ _ _ _ _ ?_
  split
  · exact Dev.wrs_regs_only _ _
  · exact Dev.wrs_regs_only_of _ (Dev.wrs_regs_only _ _)
theorem Dev.captureMerge_frame (d : Dev) (e : FEv) (cls : Nat) :
    d.captureMerge e cls = { d with regs := (d.captureMerge e cls).regs } := by
  simp only [Dev.captureMerge, Dev.raiseClass]
  refine Dev.wr_regs_only_of _ _ (Dev.wr_regs_only_of _ _ (Dev.wr_regs_only_of _ _ ?_))
  split
  · exact Dev.wr_regs_only_of _ _ rfl
  · exact Dev.wr_regs_only_of _ _ rfl

/-- A count in a window changes the windows and IN_WINDOW alone. -/
theorem Dev.countWindow_frame (d : Dev) (u : FUnit) (src inst cls : Nat) :
    (d.countWindow u src inst cls).2 = { d with regs := (d.countWindow u src inst cls).2.regs, flt := (d.countWindow u src inst cls).2.flt } := by
  simp only [Dev.countWindow]
  split <;> split <;> rfl

end Sys2Proof.Machine
end

