-- ==== Sys2Proof/Laws/Exec.lean ====
section
/-! SUPPORT. What every command has in common: it answers a next state, in which the queue is as it was and everything that
follows a command has happened. -/
namespace Sys2Proof.Machine

set_option Elab.async false

set_option maxRecDepth 4000 in
/-- Every command answers a next state, and the block has settled in it (log entries 1 and 3). -/
theorem exec_settled (i : Instr) (s : State) : ∃ d : Dev, exec i s = .next (s.settled d) := by
  cases i
  all_goals exact ⟨_, State.run_eq _ s⟩

/-- No command touches the queue of the commands that wait. -/
theorem exec_pending {i : Instr} {s t : State} (h : exec i s = .next t) : t.pending = s.pending := by
  obtain ⟨d, e⟩ := exec_settled i s
  rw [e] at h
  rw [← Host.Outcome.next.inj h]
  exact State.settled_pending s d

end Sys2Proof.Machine
end

