-- ==== Sys2Proof/Machine/Cfg.lean ====
section
/-! DEFINITION. A port's configuration space as this manual gives it: the header (R40), the BARs (R43), the capability chain
(R41) and the Bolevo identity (R42). No command of the table reads it; the views stand here for what a host's read returns. -/
namespace Sys2Proof.Machine

/-- The capabilities of a port (R41). -/
inductive Cap where
  | powerManagement | msix | pciExpress
  | aer | serialNumber | pasid | ltr | l1Substates | resizableBar
  | secondary | dataLinkFeature | phys16 | phys32 | phys64 | phys128 | laneMargining | device3 | flitLogging
  | bolevo
  deriving DecidableEq, Repr

/-- The Capability ID of a capability, or of an extended one: the PCI Express standard's codes (log entry 79). -/
def Cap.id : Cap → Nat
  | .powerManagement => 0x01
  | .msix => 0x11
  | .pciExpress => 0x10
  | .aer => 0x0001
  | .serialNumber => 0x0003
  | .pasid => 0x001B
  | .ltr => 0x0018
  | .l1Substates => 0x001E
  | .resizableBar => 0x0015
  | .secondary => 0x0019
  | .dataLinkFeature => 0x0025
  | .phys16 => 0x0026
  | .phys32 => 0x002A
  | .phys64 => 0x0031
  | .phys128 => 0x0037
  | .laneMargining => 0x0027
  | .device3 => 0x002F
  | .flitLogging => 0x0032
  | .bolevo => 0x000B

/-- The capabilities of the first 256 bytes, in chain order (R41). -/
def capList : List (Nat × Cap) := [(0x40, .powerManagement), (0x50, .msix), (0x70, .pciExpress)]

/-- The physical-layer group (R41). -/
def physGroup : List Cap :=
  [.secondary, .dataLinkFeature, .phys16, .phys32, .phys64, .phys128, .laneMargining, .device3, .flitLogging]

/-- The physical-layer group above offset `o`: which capability comes next and where it lies, the first one too, are free within
0x1A0–0x3FF, with room left for those still to come (R41; log entry 79). -/
def physChain : (fuel i o : Nat) → List Cap → List (Nat × Cap)
  | 0, _, _, _ => []
  | f + 1, i, o, l =>
    let k := (Config.physLayout i).toNat
    let j := k / 256 % l.length
    let a := o + 4 * (1 + k % ((0x3FC - o) / 4 - f))
    (a, l.getD j .secondary) :: physChain f (i + 1) a (dropIdx l j)

/-- The extended capabilities in ascending order of offset (R41). -/
def extCaps : List (Nat × Cap) :=
  [(0x100, .aer), (0x148, .serialNumber), (0x158, .pasid), (0x160, .ltr), (0x168, .l1Substates), (0x178, .resizableBar)]
    ++ physChain physGroup.length 0 0x19C physGroup ++ [(0x400, .bolevo)]

/-- The offset that follows `o` in a chain; 0 after the last. -/
def nextCap (l : List (Nat × Cap)) (o : Nat) : Nat := ((l.find? (fun c => decide (o < c.1))).map (·.1)).getD 0

/-- The size of a BAR of port `n`: 0, 2 or 4 (R43). -/
def Dev.barSize (d : Dev) (n bar : Nat) : Nat :=
  if bar = 0 then (if n = d.mgrPort then 2 ^ 26 else 2 ^ 12) else if bar = 2 then 2 ^ 23 else 2 ^ (d.port n).bar4

/-- A BAR as a 64-bit register: its address, cut to its size, memory of 64 bits, prefetchable for BAR4 (R43; the attribute bits are
the standard's, log entry 79). -/
def Dev.barReg (d : Dev) (n bar : Nat) : Nat :=
  let x := (d.port n).ext
  let a := if bar = 0 then x.bar0 else if bar = 2 then x.bar2 else x.bar4
  a % 2 ^ 64 / d.barSize n bar * d.barSize n bar + (if bar = 4 then 0xC else 0x4)

/-- The dword of the first 256 bytes of port `n`'s configuration space at offset `o`, where this manual gives it (R40, R41, R43). -/
def Dev.cfgHeader (d : Dev) (n o : Nat) : Option Nat :=
  if o = 0x00 then some 0x51201F2D
  else if o = 0x08 then some 0x018000B1
  else if o = 0x0C then some 0
  else if o = 0x10 then some (d.barReg n 0 % 2 ^ 32)
  else if o = 0x14 then some (d.barReg n 0 / 2 ^ 32)
  else if o = 0x18 then some (d.barReg n 2 % 2 ^ 32)
  else if o = 0x1C then some (d.barReg n 2 / 2 ^ 32)
  else if o = 0x20 then some (d.barReg n 4 % 2 ^ 32)
  else if o = 0x24 then some (d.barReg n 4 / 2 ^ 32)
  else if o = 0x2C then some 0x00011F2D
  else if o = 0x34 then some 0x40
  else if o = 0x3C then some 0
  else if o = 0x54 then some 0x00400002
  else if o = 0x58 then some 0x00408002
  else none

/-- What the notes of R41 say of a capability: PME_Support in every state, No_Soft_Reset, the MSI-X table size field, FLR, the
10-bit and 14-bit tags, Max PASID Width. -/
structure CapNotes where
  pmeSupport : Nat := 0
  noSoftReset : Bool := true
  msixTableSize : Nat := 0x7FF
  flrCapable : Bool := true
  tag10 : Bool := true
  tag14 : Bool := true
  maxPasidWidth : Nat := 20
  deriving DecidableEq, Repr

/-- Every port's capability notes (R41). -/
def capNotes : CapNotes := {}

/-- The upper half of the header word of the capability at `o`: PM capabilities (version 3, PME_Support), MSI-X Message Control
(Table Size), PCI Express capabilities (version 2, Endpoint), in the standard's places (log entry 79). -/
def CapNotes.word (c : CapNotes) (o : Nat) : Nat := if o = 0x40 then 3 + 2 ^ 11 * c.pmeSupport else if o = 0x50 then c.msixTableSize else 2

/-- What every port supports of the PCI Express standard (R35): sizes in bytes, link rates as SPEED codes, completion-timeout
ranges, the tag bits as requester and completer in flit and in non-flit mode. -/
structure PortFeatures where
  speeds : List Nat := [1, 2, 3, 4, 5, 6, 7]
  widths : List Nat := [16, 8, 4, 2, 1]
  flitFrom : Nat := 6
  maxPayload : Nat := 1024
  maxReadRequest : Nat := 4096
  rcb : Nat := 64
  tagsFlit : Nat := 14
  tagsNonFlit : Nat := 10
  pasidBits : Nat := 20
  pasidExecute : Bool := false
  pasidPrivileged : Bool := false
  msixVectors : Nat := 2048
  timeoutRanges : List String := ["A", "B", "C", "D"]
  timeoutDisable : Bool := true
  aspmL1 : Bool := true
  l11 : Bool := true
  l12 : Bool := true
  l0p : Bool := true
  deriving DecidableEq, Repr

/-- Every port's features (R35). -/
def portFeatures : PortFeatures := {}

/-- The offset of the Device 3 capability, in the physical-layer group. -/
def device3At : Nat := ((extCaps.find? (fun c => c.2 == .device3)).map (·.1)).getD 0

/-- Capability registers whose content the notes of R35 and R41 give, in the standard's places (log entry 79): PMCSR, Device
Capabilities and Device Capabilities 2, PASID, LTR, L1 PM Substates, the Resizable BAR entry of BAR4, Device Capabilities 3. -/
def Dev.capReg (d : Dev) (n o : Nat) : Option Nat :=
  let p := d.port n
  if o = 0x44 then some (3 * b2n p.d3 + 2 ^ 3 * b2n capNotes.noSoftReset)
  else if o = 0x74 then some (3 + 2 ^ 28 * b2n capNotes.flrCapable)
  else if o = 0x94 then some (0xF + 2 ^ 4 + 2 ^ 11 + (2 ^ 16 + 2 ^ 17) * b2n capNotes.tag10)
  else if o = 0x15C then some (2 ^ 8 * capNotes.maxPasidWidth + 2 ^ 16 * b2n p.pasidEn)
  else if o = 0x164 then some (p.ext.maxSnoop % 2 ^ 16 + 2 ^ 16 * (p.ext.maxNoSnoop % 2 ^ 16))
  else if o = 0x16C then some 0x1F
  else if o = 0x17C then some (((List.range 11).map (fun k => 2 ^ (14 + k))).sum)
  else if o = 0x180 then some (4 + 2 ^ 5 * 1 + 2 ^ 8 * (p.bar4 - 20))
  else if o = device3At + 4 then some ((2 ^ 1 + 2 ^ 2) * b2n capNotes.tag14)
  else none

/-- Offset `o` of port `n`'s configuration space: the header, a capability's header word (ID and Next), the registers of `capReg`, the
Device Serial Number and the Bolevo capability (R40–R42). None where this manual gives no value. -/
def Dev.cfgRead (d : Dev) (n o : Nat) : Option Nat :=
  match d.cfgHeader n o, capList.find? (fun c => c.1 == o), extCaps.find? (fun c => c.1 == o) with
  | some v, _, _ => some v
  | _, some c, _ => some (c.2.id + 2 ^ 8 * nextCap capList o + 2 ^ 16 * capNotes.word o)
  | _, _, some c => some (c.2.id + 2 ^ 16 * 1 + 2 ^ 20 * nextCap extCaps o)
  | _, _, _ =>
    if o = 0x14C then some (Config.dsn.toNat % 2 ^ 32)
    else if o = 0x150 then some (Config.dsn.toNat / 2 ^ 32)
    else if o = 0x404 then some (0x0B05 + 2 ^ 16 * 1 + 2 ^ 20 * 0x018)
    else if 0x408 ≤ o ∧ o ≤ 0x414 ∧ o % 4 = 0 then some (d.bolevo n o)
    else d.capReg n o

end Sys2Proof.Machine
end

