-- ==== Sys2Proof/Tests/Slice0.lean ====
section
/-! SUPPORT. Tests of this author's: ill-formed commands that the checks refuse, values worked out by hand from the manual,
and, for each statement with hypotheses, a state and operands that meet them, clause by clause. -/
namespace Sys2Proof.Tests

set_option Elab.async false
open Sys2Proof.Machine

/-! ## Small states -/

/-- A device that runs: ACTIVE, out of POR_N, GDDR6 trained, set-up space unlocked. -/
def up : Dev :=
  Dev.wrs { ({} : Dev) with pwr := { mode := 0, por := false, trained := true } } [(GLB_SETUP_LOCK_LOCKED, 0), (SLC_GLOBAL_INSTAR_BUSY, 0)]
def st (d : Dev) : State := { dev := d, pending := [] }
/-- A descriptor of the bytes at the given offsets. -/
def desc (op : Nat) (args : List (Nat × Nat)) : BitVec 512 := BitVec.ofNat 512 (args.foldl (fun a x => a + x.2 * 2 ^ (8 * x.1)) op)
/-- `d` with the admin command `op` accepted in slot 0. -/
def adm (d : Dev) (op : Nat) (args : List (Nat × Nat)) : Dev := d.setEntry 0 { desc := desc op args, state := 1 }
/-- `up` with host port 0 up and mastering. -/
def upP : Dev := up.setPort 0 { linkUp := true, perst := false, bme := true, pasidEn := true }
/-- `up` with slice 5 ACTIVE on port 0, queues 16–31. -/
def upS : Dev := upP.wrs [(SLC_STATE_STATE 5, 1), (SLC_QUEUES_BASE 5, 16), (SLC_QUEUES_LAST 5, 31), (SLC_VECTORS_BASE 5, 8),
  (SLC_VECTORS_LAST 5, 15), (SLC_STATE_INSTAR 5, 1), (SLC_QUOTA_JNL_UNITS 5, 2)]
/-- An issued read of port 0 for slice `t` of instar `k`. -/
def hread (t k : Nat) (w : ReadFor) (a n : Nat) : HRead := ⟨0, t, k, w, a, n, false, true, 0, true, false, false, 0, [(a, n)], [], 0⟩

/-! ## Files that end in their CRC -/

theorem leNat_leBytes4 (c : Nat) : leNat (leBytes 4 c) = c % 2 ^ 32 := by
  simp [leBytes, leNat]
  omega
theorem leAt_mid (a m r : List Byte) {n k : Nat} (h : a.length = n) (g : m.length = k) : leAt (a ++ (m ++ r)) n k = leNat m := by
  subst h g
  rw [leAt, List.drop_left, List.take_left]
/-- A CRC-32C that follows what it covers is found right. -/
theorem crc_tail (b r : List Byte) {n : Nat} (h : b.length = n) :
    leAt (b ++ leBytes 4 (crc32c b).toNat ++ r) n 4 = (crc32c ((b ++ leBytes 4 (crc32c b).toNat ++ r).take n)).toNat := by
  subst h
  have e : (leBytes 4 (crc32c b).toNat ++ r).take 4 = leBytes 4 (crc32c b).toNat := by simp [leBytes]
  rw [leAt, List.append_assoc, List.drop_left, List.take_left, e, leNat_leBytes4]
  exact Nat.mod_eq_of_lt (crc32c b).isLt

/-! ## Ill-formed commands -/

theorem test_wf_register_write : WellFormed (.registerWrite 0 false 0x102 0 0xF 0) = false
    ∧ WellFormed (.registerWrite 0 false 0x104 0 0xF 0xF) = false ∧ WellFormed (.registerWrite 0 false 0x108 0 0xF 0xF) = true
    ∧ WellFormed (.registerWrite 0 false 0x108 0 0 0) = false := by decide
theorem test_wf_bar4 : WellFormed (.bar4Resize 0 29) = false ∧ WellFormed (.bar4Resize 0 41) = false
    ∧ WellFormed (.bar4Resize 0 30) = true := by decide
theorem test_wf_eyespot : WellFormed (.eyespotMark 0 0) = false := by decide
theorem test_wf_reads : WellFormed (.evcClaim 2 (some 0)) = false
    ∧ WellFormed (.offUnitAccess 0 ⟨false, 0x104⟩ (.read 0xFF)) = false ∧ WellFormed (.offUnitAccess 0 ⟨true, 8⟩ (.write 0 0)) = false := by decide
theorem test_wf_image : WellFormed (.loadImageReadDone 0 (some [])) = false := by decide
theorem test_wf_records : WellFormed (.recordFetchDone 0 0 (some [0#64])) = false := by decide
theorem test_wf_descriptors : WellFormed (.descriptorReadDone 0 (some [])) = false
    ∧ WellFormed (.descriptorReadDone 0 (some (List.replicate 65 0#512))) = false := by decide
theorem test_wf_sgl : WellFormed (.sglReadDone 0 (some (List.replicate 17 0#8))) = false := by decide
theorem test_wf_calendar : WellFormed (.calendarEccError 0 4096 true) = false := by decide
theorem test_wf_cell : WellFormed (.cellCrcFail 0 true 72) = false ∧ WellFormed (.cellCrcFail 0 false 9) = false := by decide
theorem test_wf_host_link : WellFormed (.hostLinkUp 0 0 16) = false ∧ WellFormed (.hostLinkUp 0 1 3) = false := by decide
theorem test_wf_training : WellFormed (.trainingBlock 0 (List.replicate 15 0#8)) = false := by decide
theorem test_wf_flit : WellFormed (.flitReceive 0 ⟨List.replicate 255 0#8, 0, 0⟩) = false
    ∧ WellFormed (.linkCtrl 0 ⟨List.replicate 257 0#8, 0, 0⟩) = false := by decide +kernel
theorem test_wf_bridge_read : WellFormed (.bridgeHostRead 0 2 1 0) = false ∧ WellFormed (.bridgeHostRead 0 4 0 0) = false := by decide
theorem test_wf_bridge_write : WellFormed (.bridgeHostWrite 0 2 0 [0, 0, 0, 0] 0 none) = false
    ∧ WellFormed (.bridgeHostWrite 0 4 0 [0] 0 none) = false ∧ WellFormed (.bridgeHostWrite 0 4 0 [] 0 none) = false := by decide
theorem test_wf_ledger : WellFormed (.ledgerInterval (List.replicate 17 none)) = false := by decide
theorem test_wf_rails : WellFormed (.coldRailsGood (some (List.replicate 17 ⟨0, 0, 0, true⟩))) = false := by decide
theorem test_wf_sources : WellFormed (.wakeEyespot 0) = false ∧ WellFormed (.eventSourceEdge 0) = false
    ∧ WellFormed (.levelSourceChange 0) = false ∧ WellFormed (.evcCoalesceExpire 0) = false := by decide

/-! ## Hypotheses met: the queue, registers and host ports -/

theorem test_hyp_StepIsExecOfTheFrontCommand : ({ dev := up, pending := [.brownout, .completionSequence] } : State).pending = .brownout :: [.completionSequence] := by
  decide
theorem test_hyp_TimePassesOnAnEmptyQueue : (st up).pending = [] ∧ up.flt.wins = [] ∧ up.now / 100000 = (up.now + 1) / 100000
    ∧ Dev.quiet { up with now := up.now + 1 } = true ∧ up.quiet = true := by decide +kernel
theorem test_hyp_EveryStepLeavesWindowsBound : ∃ t, step { dev := up, pending := [.glbTimeRead] } = .next t :=
  let ⟨_, h⟩ := exec_settled .glbTimeRead (st up)
  ⟨_, h⟩
theorem test_hyp_RegisterWritesFollowTheirAccess : (0 : Fin 8).val = up.mgrPort ∧ plainReg 0x640 = true ∧ up.setupOpen 0x640 = true
    ∧ regFields 0x640 ≠ none ∧ plainReg 0x3FFFFFC = true ∧ up.setupOpen 0x3FFFFFC = true ∧ regFields 0x3FFFFFC = none
    ∧ ((1 : Fin 8).val ≠ up.mgrPort ∧ 0x1000 ≤ 0x640 * 4 ∧ up.addrOff (HP_STATUS 1 + 0xFFC) = false)
    ∧ (0xE#4 ≠ 0#4 ∧ 0xE#4 ≠ 15#4) := by decide
theorem test_hyp_FieldsTakeTheirAccessType : ∃ l, regFields GLB_THERM_CFG = some l ∧ l ≠ []
    ∧ GLB_PROFILE_RATE.addr ≠ GLB_THERM_CFG ∧ GLB_PROFILE_RATE.lo < 32 := ⟨_, rfl, by decide, by decide, by decide⟩
theorem test_hyp_LockedOffAndTimeAccesses :
    (let d := up.wr GLB_SETUP_LOCK_LOCKED 1
     (0 : Fin 8).val = d.mgrPort ∧ (0x100#26).toNat ≠ GLB_SETUP_KEY ∧ d.hubOff = false ∧ d.flt.grave = false
      ∧ d.flag GLB_SETUP_LOCK_LOCKED = true ∧ d.keyHalf = false ∧ d.addrOff GLB_TIME_LO = false ∧ 1#4 ≠ 0#4 ∧ (1#8).toNat / 16 = 0 ∧ (1#8).toNat ≠ 0)
    ∧ Dev.hubOff { up with keyHalf := true } = false ∧ Dev.keyHalf { up with keyHalf := true } = true ∧ (7#32 ≠ 0x5120#32 ∧ 7#32 ≠ 0xFFFFAEDF#32)
    ∧ (let d := up.wr GLB_BOOT_FW_FAIL 1
       d.addrOff 0x100000 = true ∧ 0x100000 ≠ GLB_SETUP_KEY ∧ d.flag (HP_OFF_ACCESS_VALID 0) = false ∧ d.mgrPort = 0
        ∧ d.flag GLB_SETUP_LOCK_LOCKED = false ∧ d.flt.grave = false)
    ∧ (let z := up.wr GLB_BOOT_FW_FAIL 1
       z.addrOff (HP_STATUS 7 + 0xFFC) = true ∧ z.mgrPort ≠ 7 ∧ z.flag (HP_OFF_ACCESS_VALID 7) = false) := by decide

/-- A schedule image of nothing but a profile, and `d` with it in force in slot 0 and running. -/
def img : Image := { lanes := [], ports := [], engines := 0, stageCells := 0, plans := [], matrices := [], programs := [], hub := []
                     octs := [], order := [], pools := [], mgr := [], backfill := [], rate := 0, check := 0, engineCells := 0
                     sigs := [], sig := 7, len := 0, signed := false }
def fed (g : Image) (d : Dev) : Dev :=
  let e := d.wrs [(SCH_SWITCH_ACTIVE_SLOT, 0), (SCH_SLOT_STATUS_STATE 0, 3)]
  { e with sch := { e.sch with images := [(0, some g)], running := true } }

theorem test_hyp_ProfileRequestsAreEvaluatedAndGoOn :
    let same := fun e : Dev => e.rd GLB_PROFILE_RATE = e.rd GLB_PROFILE_STATUS_CUR_RATE ∧ e.rd GLB_PROFILE_CHECK = e.rd GLB_PROFILE_STATUS_CUR_CHECK
    let reach := fun e : Dev => e.rd GLB_PROFILE_REACH = e.rd GLB_PROFILE_STATUS_CUR_REACH
    let d := up.opened GLB_PROFILE
    let w := fun (d : Dev) v => (d.opened GLB_PROFILE).writeWord GLB_PROFILE v
    let busy := up.wr (LNK_STATE_STATE 9) 2
    let rec_ := up.wr MGT_STATUS_RECOVERING 1
    let dorm : Dev := { up with pwr := { up.pwr with mode := 1 } }
    let g := { img with rate := 1 }
    let fits := { up.wr (SCH_SLOT_STATUS_STATE 1) 2 with sch := { up.sch with images := [(1, some g)] } }
    up.setupOpen GLB_PROFILE = true ∧ (up.wr GLB_PROFILE_STATUS_PENDING 1).profBusy = true ∧ d.profBusy = false
      ∧ dorm.setupOpen GLB_PROFILE = true ∧ (rec_.setupOpen GLB_PROFILE = true ∧ (w rec_ 0).inRecovery = true) ∧ d.pwr.mode ≠ 1
      ∧ ((w up 1).inRecovery = false ∧ ¬same (w up 1) ∧ (w up 1).fits ((w up 1).rd GLB_PROFILE_SLOT) 1 0 = false)
      ∧ (same (w busy 0x100) ∧ ¬reach (w busy 0x100) ∧ (w busy 0x100).reachBusy = true)
      ∧ (same (w up 0) ∧ reach (w up 0)) ∧ (same (w up 0x100) ∧ ¬reach (w up 0x100) ∧ (w up 0x100).reachBusy = false)
      ∧ ((w fits 0x10001).inRecovery = false ∧ (w fits 0x10001).rd GLB_PROFILE_RATE ≠ (w fits 0x10001).rd GLB_PROFILE_STATUS_CUR_RATE
        ∧ (w fits 0x10001).fits ((w fits 0x10001).rd GLB_PROFILE_SLOT) 1 0 = true ∧ reach (w fits 0x10001)
        ∧ (w fits 0x10001).image ((w fits 0x10001).rd GLB_PROFILE_SLOT) = some g)
      ∧ ((up.opened GLB_PROFILE).profBusy = false ∧ (up.opened GLB_PROFILE).pwr.mode ≠ 1)
      ∧ (let k := (fits.wr GLB_PROFILE_STATUS_CUR_RATE 1).wr (SCH_SLOT_STATUS_STATE 1) 2
         let g0 : Dev := { k with sch := { k.sch with images := [(1, some img)] } }
         (w g0 0x10000).inRecovery = false ∧ (w g0 0x10000).rd GLB_PROFILE_RATE ≠ 1
          ∧ (w g0 0x10000).fits ((w g0 0x10000).rd GLB_PROFILE_SLOT) 0 0 = true ∧ reach (w g0 0x10000)
          ∧ (w g0 0x10000).image ((w g0 0x10000).rd GLB_PROFILE_SLOT) = some img)
      ∧ ({ up.sch with prof := some ⟨1, 0, 0, 0, none, false⟩ } : Sched).prof ≠ none
      ∧ (let f : Dev := { up with mgt := { up.mgt with staging := some 3 } }
         f.setupOpen GLB_PROFILE = true ∧ (f.opened GLB_PROFILE).profBusy = false ∧ (f.opened GLB_PROFILE).mgt.staging ≠ none ∧ d.mgt.staging = none
          ∧ (w up 0).mgt.staging = none ∧ (dorm.opened GLB_PROFILE).pwr.mode = 1 ∧ (dorm.opened GLB_PROFILE).profBusy = false) := by decide +kernel

theorem test_hyp_HostPortsChangeAndReset :
    let d2 := upP.setPort 1 { linkUp := true, perst := false }
    let d3 := upP.setPort 0 { upP.port 0 with d3 := true }
    let busy := upS.wr SLC_GLOBAL_INSTAR_BUSY 1
    let off : Dev := { upP with pwr := { upP.pwr with mode := 5 } }
    (up.hubOff = false ∧ (up.setPort 0 { up.port 0 with perst := false }).hubOff = false
        ∧ ((up.setPort 0 { up.port 0 with perst := false }).port 0).perst = false
        ∧ ((up.setPort 0 { up.port 0 with perst := false }).port 0).linkUp = false)
      ∧ (upP.port 0).linkUp = true ∧ upP.cfgOpen 0 = true ∧ (d2.cfgOpen 1 = true ∧ 1 ≠ d2.mgrPort)
      ∧ (d3.cfgOpen 0 = true ∧ (d3.port 0).d3 = true ∧ d3.flag (HP_FLR_MOULT_DEFERRED 0) = false) ∧ (upP.port 0).l23 = false
      ∧ (upP.port 0).mse = false ∧ ((upS.portSlices 0).any upS.period = false ∧ (busy.portSlices 0).any busy.period = true)
      ∧ (let e := (upS.setPort 0 { upS.port 0 with perst := true }).linkLost 0
         upS.pwr.mode ≠ 4 ∧ (e.portSlices 0).any e.period = false) ∧ off.hubOff = true
      ∧ (upP.wr (HP_FLR_MOULT_DEFERRED 0) 1).flag (HP_FLR_MOULT_DEFERRED 0) = true
      ∧ (30 ≤ 40 ∧ (5 ∈ upS.portSlices 0 ∧ (((upS.setSlice 5 { moult := some ⟨0, [], true, none, false⟩ }).slice 5).moult.map (·.reset)) = some true
        ∧ 5 ∈ (upS.setSlice 5 { moult := some ⟨0, [], true, none, false⟩ }).portSlices 0)) := by decide +kernel
theorem foldl_none {α : Type} (f : Dev → α → Dev) (d : Dev) (l : List α) (h : ∀ x ∈ l, f d x = d) : l.foldl f d = d := by
  induction l with
  | nil => rfl
  | cons x l ih => rw [List.foldl_cons, h x (by simp)]; exact ih (fun y m => h y (by simp [m]))
/-- Windows that are off stay as they are. -/
theorem winGoneAll_none (d : Dev) (p : Nat → Nat → Bool) (st : Nat) (h : ∀ n ∈ List.range 8, ∀ w ∈ List.range 256, d.winOn n w = false) :
    d.winGoneAll p st = d :=
  foldl_none _ d _ (fun n m => foldl_none _ d _ (fun w k => by simp [h n m w k]))
/-- What a reset of port `n` does before its slices moult, on a port of no window, and the moults it asks for. -/
def reset1 (d : Dev) (p : Port) (n : Nat) : Dev :=
  let e := ((d.inc (HP_FLR_COUNT n)).wrs [(HP_STATUS_EGRESS_HOLD n, 1), (HP_STATUS_DSTATE n, 0), (HP_STATUS_PASID_EN n, 0)]).bridgeReset n
  let e := e.setPort n p
  (e.portSlices n).foldl (fun d t => d.askMoult t none true none) e
theorem bridgeReset_none (d : Dev) (n : Nat) (h : d.pwr.stalls = []) (g : d.brg.reads = []) (q : d.brg.pages = [])
    (k : ∀ n ∈ List.range 8, ∀ w ∈ List.range 256, d.winOn n w = false) : d.bridgeReset n = d := by
  have e : { d.pwr with stalls := [] } = d.pwr := by
    rw [← h]
  have b : ∀ x : Brg, x.reads = [] → x.pages = [] → { x with reads := [], pages := [] } = x := by
    intro x u v
    cases x
    cases u
    cases v
    rfl
  have r : d.stalledReads n = [] := by simp [Dev.stalledReads, h]
  simp only [Dev.bridgeReset, r, List.foldl_nil, h, List.filter_nil, e, winGoneAll_none d _ _ k, g, q]
  exact congrArg (fun x : Brg => { d with brg := x }) (b d.brg g q)
theorem test_hyp_HostPortsChangeAndReset_flr :
    let x := upS.setPort 1 { linkUp := true, perst := false }
    let z := (x.setPort 1 { x.port 1 with perst := true }).linkLost 1
    (x.cfgOpen 1 = true ∧ x.flag SLC_GLOBAL_INSTAR_BUSY = false ∧ (x.portSlices 1).any x.period = false
        ∧ (reset1 x (x.port 1).flr 1).flag (HP_FLR_MOULT_DEFERRED 1) = false)
      ∧ (z.flag SLC_GLOBAL_INSTAR_BUSY = false ∧ (z.portSlices 1).any z.period = false
        ∧ (reset1 z { held := (z.port 1).flr.held } 1).flag (HP_FLR_MOULT_DEFERRED 1) = false)
      ∧ 1 ≠ x.mgrPort ∧ (upS.wr SLC_GLOBAL_INSTAR_BUSY 1).flag SLC_GLOBAL_INSTAR_BUSY = true := by
  refine ⟨⟨by decide +kernel, by decide +kernel, by decide +kernel, ?_⟩, ⟨by decide +kernel, by decide +kernel, ?_⟩, by decide +kernel, by decide +kernel⟩
  · rw [reset1, bridgeReset_none _ _ (by decide +kernel) (by decide +kernel) (by decide +kernel) (by decide +kernel)]
    decide +kernel
  · rw [reset1, bridgeReset_none _ _ (by decide +kernel) (by decide +kernel) (by decide +kernel) (by decide +kernel)]
    decide +kernel

theorem test_hyp_RequestsReadsAndDomains :
    let r : HRead := hread 5 1 (.payload 9 3 0 0 2) 0x1000 2
    let d : Dev := { upS with reads := [r] }
    let no := upS.setPort 0 { upS.port 0 with bme := false }
    let more : HRead := ⟨0, 5, 1, .payload 9 3 0 0 5000, 0x1000, 5000, false, true, 0, true, false, false, 0, [(0x1000, 4096)], [], 0⟩
    let s0 : Stall := .write 4 0x1000000 1
    let p : Power := { mode := 1, por := false, stalls := [s0], awake := [(4, 1)] }
    let z : Dev := { up with pwr := p }
    (d.hubOff = false ∧ d.reads[0]? = some r ∧ r.issued = true ∧ r.ecc = false ∧ r.why = .payload 9 3 0 0 2 ∧ r.last = true
        ∧ (r.got ++ [1#8, 2#8]).length = 2)
      ∧ (more.last = false ∧ more.outLen = 4096 ∧ more.instar = d.sliceInstar more.slice ∧ more.issued = true
        ∧ more.why = .payload 9 3 0 0 5000 ∧ ({ upS with reads := [more] } : Dev).reads[0]? = some more)
      ∧ (d.port 0).linkUp = true ∧ ((7 * 4096) / 4096 < 1024 ∧ d.flt.grave = false ∧ (d.sliceState (7 * 4096 / 4096) = 0))
      ∧ d.winAt 0 0x1000 1 = none
      ∧ (d.flag (SLC_STATE_ID_MISMATCH 5) = false ∧ d.resetWaits 5 = false ∧ d.egressHeld (d.slicePort 5) = false)
      ∧ ((d.port 0).bme = true ∧ (no.port 0).bme = false ∧ 2 ≠ d.sliceInstar 5 ∧ (d.port 0).pasidEn = true
        ∧ 0xF80 % 4096 + 128 ≤ 4096 ∧ 128 ≤ 128 * 2 ^ Nat.min (d.port 0).ext.mps 3)
      ∧ (let q := (upS.setPort 0 { upS.port 0 with pasidEn := false }).wr (SLC_PASID_PASID 5) 7
         (q.port 0).pasidEn = false ∧ q.rd (SLC_PASID_PASID 5) ≠ 0 ∧ q.resetWaits 5 = false ∧ q.egressHeld 0 = false ∧ q.slicePort 5 = 0)
      ∧ (128 ≤ 128 ∧ 128 ≤ 64 * 2)
      ∧ (z.pwr.mode = 1 ∧ z.pwr.stalls.any (fun x => x.domain == (Domain.engine 4).code) = true ∧ z.pwr.awake.get (Domain.engine 4).code 0 ≠ 0) := by
  decide +kernel

theorem test_hyp_RequestsReadsAndDomains_timeout : ∃ (d : Dev) (r : HRead),
    let x := (d.port r.port).ext
    let e := d.advance (r.since + (Config.completionTimeout x.cto).toNat)
    d.hubOff = false ∧ d.reads[0]? = some r ∧ r.issued = true ∧ r.why = .payload 9 3 0 0 2 ∧ x.ctoOff = false ∧ r.ecc = false
      ∧ e.reads[0]? = some r := by
  let r : HRead := hread 5 1 (.payload 9 3 0 0 2) 0x1000 2
  let d : Dev := { upS with reads := [r], now := 2 ^ 40 }
  refine ⟨d, r, ?_⟩
  have h : d.advance (r.since + (Config.completionTimeout (d.port r.port).ext.cto).toNat) = d := by
    have l := (Config.completionTimeout (d.port r.port).ext.cto).isLt
    have n : ¬d.now < r.since + (Config.completionTimeout (d.port r.port).ext.cto).toNat := by
      show ¬2 ^ 40 < 0 + (Config.completionTimeout (d.port r.port).ext.cto).toNat
      omega
    simp only [Dev.advance, n, if_false]
  simp only [h]
  decide +kernel

/-! ## Hypotheses met: the event controller -/

/-- `up` with edge source 1 pending, of priority 6 for target `t`. -/
def ev (t : Nat) : Dev :=
  let d := up.wrs [(EVC_SRC_CFG_PRIORITY 1, 6), (EVC_SRC_CFG_TMASK 1, 2 ^ t), (EVC_SRC_CFG_PRIORITY 16, 6), (EVC_SRC_CFG_TMASK 16, 2 ^ t)]
  { d with evc := { pend := [16, 1] } }

theorem test_hyp_BestCandidateIsHighestThenLowest : (ev 7).candidate 7 1 = true ∧ (ev 7).best 7 = some 1 ∧ (ev 7).best 6 = none
    ∧ 16 ∈ (ev 7).evc.pend := by decide +kernel
theorem test_hyp_ClaimsReturnAndPushTheBest :
    (ev 7).hubOff = false ∧ (ev 7).addrOff (EVC_CLAIM 7) = false ∧ Dev.best { ev 7 with keyHalf := false } 7 = some 1
      ∧ (Dev.best { ev 7 with keyHalf := false } 2 = none ∧ (ev 7).evc.notified.get 2 (0, false) = (0, false))
      ∧ ((0 : Fin 8).val < 2 ∧ (0 : Fin 8).val = (ev 0).rd MGT_STATUS_ACTIVE_CORE ∧ (ev 0).best 0 = some 1) := by decide +kernel
theorem test_hyp_SourcesEndAndBecomePending :
    let c : Dev := { up with evc := { stk := [(2, [(9, 4)])] } }
    let eoi := c.opened (EVC_EOI 2)
    let full := (up.wr EVC_EYESPOT_MARKED 32).opened (EVC_SRC_CFG 47)
    let k := up.wrs [(EVC_SRC_COAL_COUNT 1, 2), (EVC_SRC_COAL_TIME_US 1, 10)]
    let k1 : Dev := { k with evc := { coal := [(1, (1, 0))] } }
    let l3 := up.wr GLB_LEDGER_STATUS_DISCONTINUOUS 1
    let off : Dev := { up with evc := { level := [3], stk := [(2, [(3, 4)])] } }
    (c.setupOpen (EVC_EOI 2) = true ∧ eoi.stack 2 = ((9#32).toNat % 1024, 4) :: [] ∧ (eoi.stack 2).head?.map (·.1) ≠ some ((8#32).toNat % 1024))
      ∧ ((0 : Fin 8).val = c.rd MGT_STATUS_ACTIVE_CORE ∧ (c.stack 0).head?.map (·.1) ≠ some 0) ∧ up.setupOpen (EVC_PENDING 15) = true
      ∧ (up.setupOpen (EVC_SRC_CFG 47) = true ∧ srcExists 47 = true ∧ (0x10000#32).toNat / 2 ^ 16 % 2 = 1 ∧ (0#32).toNat / 2 ^ 16 % 2 = 0
        ∧ full.flag (EVC_SRC_CFG_EYESPOT 47) = false ∧ 32 ≤ full.rd EVC_EYESPOT_MARKED ∧ srcEligible 1 = false
        ∧ (up.opened (EVC_SRC_CFG 1)).flag (EVC_SRC_CFG_EYESPOT 1) = false ∧ up.setupOpen (EVC_SRC_CFG 1) = true)
      ∧ (srcExists 1 = true ∧ srcLevel 1 = false ∧ k.evc.pend.contains 1 = false ∧ (k.evc.coal.get 1 (0, 0)).1 + 1 < k.rd (EVC_SRC_COAL_COUNT 1)
        ∧ k1.rd (EVC_SRC_COAL_COUNT 1) ≤ (k1.evc.coal.get 1 (0, 0)).1 + 1 ∧ (k1.evc.coal.get 1 (0, 0)).1 ≠ 0 ∧ k1.rd (EVC_SRC_COAL_TIME_US 1) ≠ 0)
      ∧ (srcLevel 3 = true ∧ l3.levelCond 3 = true ∧ l3.evc.level.contains 3 = false)
      ∧ (off.levelCond 3 = false ∧ off.evc.level.contains 3 = true ∧ off.active 3 = true)
      ∧ (let h : Dev := { up with evc := { stk := [(0, [(9, 4)])] } }
         (0 : Fin 8).val < 2 ∧ h.setupOpen (EVC_EOI 0) = true ∧ h.hubOff = false ∧ h.rd MGT_STATUS_ACTIVE_CORE = 0
          ∧ h.stack 0 = ((9#32).toNat % 1024, 4) :: [])
      ∧ (srcEligible 47 = true ∧ (up.opened (EVC_SRC_CFG 47)).rd EVC_EYESPOT_MARKED < 32
        ∧ ((up.wr (EVC_SRC_CFG_EYESPOT 47) 1).opened (EVC_SRC_CFG 47)).flag (EVC_SRC_CFG_EYESPOT 47) = true)
      ∧ (ev 7).evc.pend.contains 1 = true
      ∧ (let w : Dev := { up with evc := { level := [3] } }
         w.levelCond 3 = false ∧ w.evc.level.contains 3 = true ∧ w.active 3 = false)
      ∧ up.levelCond 3 = up.evc.level.contains 3 := by decide +kernel

/-! ## Hypotheses met: slices -/

theorem test_hyp_CreateSliceAssignsDisjointResources :
    let x := [(4, 9), (0x10, 32), (0x12, 40), (0x14, 16), (0x16, 20), (0x1E, 1), (0xC, 3)]
    let d := (adm upS 0x80 x).started 0
    (adm upS 0x80 x).adminReady 0 0x80 = true ∧ d.createBad (desc 0x80 x) = false ∧ d.createOver (desc 0x80 x) = false
      ∧ d.createBad (desc 0x80 [(4, 5)]) = true ∧ (5 < 1024 ∧ d.sliceState 5 ≠ 0 ∧ 0 < 1024)
      ∧ (let y := [(4, 9), (0x10, 32), (0x12, 40), (0x14, 16), (0x16, 20), (0x1E, 16384), (0xC, 3)]
         d.createBad (desc 0x80 y) = false ∧ d.createOver (desc 0x80 y) = true) := by decide +kernel
theorem test_hyp_MoultsRaiseTheInstarAndDestroy :
    let busy := upS.wr SLC_GLOBAL_INSTAR_BUSY 1
    let m0 : Moult := ⟨0, [], false, none, false⟩
    let m7 : Moult := ⟨7, [], false, none, false⟩
    let a := adm upS 0x82 [(4, 5)]
    let b := adm busy 0x82 [(4, 5)]
    let c := adm (upS.wr (SLC_STATE_STATE 1023) 3) 0x81 [(4, 1023)]
    (a.adminReady 0 0x82 = true ∧ darg (a.entry 0).desc 4 2 ≠ 0 ∧ darg (a.entry 0).desc 4 2 ≤ 1023 ∧ (a.started 0).sliceState 5 ≠ 0
        ∧ (a.started 0).period 5 = false ∧ b.adminReady 0 0x82 = true ∧ (b.started 0).period 5 = true)
      ∧ ((adm upS 0x81 [(4, 5)]).adminReady 0 0x81 = true ∧ ((adm upS 0x81 [(4, 5)]).started 0).sliceState 5 = 1
        ∧ ((adm busy 0x81 [(4, 5)]).started 0).period 5 = true ∧ (adm busy 0x81 [(4, 5)]).adminReady 0 0x81 = true)
      ∧ (let f := adm (upS.wr (SLC_STATE_STATE 5) 4) 0x81 [(4, 5)]
         f.adminReady 0 0x81 = true ∧ (f.started 0).sliceState 5 = 4)
      ∧ (c.adminReady 0 0x81 = true ∧ darg (c.entry 0).desc 4 2 = 1023 ∧ (c.started 0).sliceState 1023 = 3)
      ∧ (((upS.setSlice 5 { moult := some m0 }).slice 5).moult = some m0 ∧ m0.step = 0 ∧ (upS.setSlice 5 { moult := some m0 }).oldWork 5 = false
        ∧ m0.reset = false ∧ (upS.setSlice 5 { moult := some m0 }).sliceSlots 5 = [])
      ∧ (((upS.setSlice 1023 { moult := some m7 }).slice 1023).moult = some m7 ∧ m7.step = 7) := by decide +kernel
/-- The bytes of a RESTORE_SLICE image for a slice with one queue and eight vectors, no parked item, signature 7. -/
def sliceHead : List Byte :=
  leBytes 4 0x53494C53 ++ leBytes 2 1 ++ leBytes 2 0 ++ leBytes 8 7 ++ leBytes 8 0 ++ leBytes 8 0 ++ leBytes 4 1
    ++ leBytes 2 8 ++ leBytes 2 0 ++ leBytes 4 0 ++ leBytes 4 0 ++ leBytes 208 0 ++ leBytes 64 0
def sliceBytes : List Byte := sliceHead ++ leBytes 4 (crc32c sliceHead).toNat ++ leBytes 4 0
theorem sliceBytes_good (d : Dev) (s : Nat) (h : (d.queueRange s).length = 1)
    (g : d.rd (SLC_VECTORS_LAST s) + 1 - d.rd (SLC_VECTORS_BASE s) = 8) : d.imageGood s sliceBytes = true := by
  have e : leAt sliceBytes 0x140 4 = (crc32c (sliceBytes.take 0x140)).toNat := crc_tail sliceHead _ (by decide +kernel)
  have a : leAt sliceBytes 0x20 4 = 1 := by decide +kernel
  have b : leAt sliceBytes 0x28 4 = 0 := by decide +kernel
  have c : sliceBytes.length = 0x148 := by decide +kernel
  simp only [Dev.imageGood, a, b, c, h, g]
  rw [show 0x108 + 0x40 * 1 + 0x80 * 0 - 8 = 0x140 from rfl, e]
  simp only [beq_self_eq_true, Bool.and_true, Bool.true_and]
  decide +kernel
/-- One that also holds a parked item of descriptor `x`. -/
def parkedHead (x : BitVec 512) : List Byte :=
  leBytes 4 0x53494C53 ++ leBytes 2 1 ++ leBytes 2 0 ++ leBytes 8 7 ++ leBytes 8 0 ++ leBytes 8 0 ++ leBytes 4 1
    ++ leBytes 2 8 ++ leBytes 2 0 ++ leBytes 4 1 ++ leBytes 4 0 ++ leBytes 208 0 ++ leBytes 64 0 ++ leBytes 64 x.toNat ++ leBytes 64 0
def parked (x : BitVec 512) : List Byte := parkedHead x ++ leBytes 4 (crc32c (parkedHead x)).toNat ++ leBytes 4 0
def parkedBytes : List Byte := parked (desc 2 [(4, 1), (0x14, 1)])
def parkedFence : List Byte := parked (desc 6 [])
theorem parked_good (x : BitVec 512) (d : Dev) (s : Nat) (h : (d.queueRange s).length = 1)
    (g : d.rd (SLC_VECTORS_LAST s) + 1 - d.rd (SLC_VECTORS_BASE s) = 8) (k : x = desc 2 [(4, 1), (0x14, 1)] ∨ x = desc 6 []) :
    d.imageGood s (parked x) = true := by
  have lh : (parkedHead x).length = 0x1C0 := by rcases k with rfl | rfl <;> decide +kernel
  have e : leAt (parked x) 0x1C0 4 = (crc32c ((parked x).take 0x1C0)).toNat := crc_tail (parkedHead x) _ lh
  have c : (parked x).length = 0x1C8 ∧ leAt (parked x) 0x20 4 = 1 ∧ leAt (parked x) 0x28 4 = 1 ∧ leAt (parked x) 0 4 = 0x53494C53
      ∧ leAt (parked x) 4 2 = 1 ∧ leAt (parked x) 0x24 2 = 8 := by rcases k with rfl | rfl <;> decide +kernel
  simp only [Dev.imageGood, c, h, g]
  rw [show 0x108 + 0x40 * 1 + 0x80 * 1 - 8 = 0x1C0 from rfl, e]
  simp
theorem test_hyp_SlicesDrainSaveAndRestore :
    let q := adm (upS.wr (SLC_STATE_STATE 5) 3) 0x83 [(4, 5), (6, 1)]
    let c := adm (upS.wr (SLC_STATE_STATE 5) 2) 0x84 [(4, 5), (6, 1)]
    let n := adm upS 0x83 [(4, 5)]
    let v := adm (upS.wr (SLC_STATE_STATE 5) 2) 0x85 [(4, 5), (0x10, 0x508)]
    let w := adm (upS.wr (SLC_STATE_STATE 5) 2) 0x85 [(4, 5), (0x10, 0x507)]
    let r := adm ((fed img upS).wrs [(SLC_STATE_STATE 5, 2), (SLC_STATE_RESTORE_TARGET 5, 1), (SLC_QUEUES_LAST 5, 16)]) 0x86 [(4, 5), (0x10, 0x148)]
    let k := { upS with slices := [(5, { drainCmd := some (3, false) }), (6, { drainCmd := some (4, true) })] }
    (q.adminReady 0 0x83 = true ∧ (q.started 0).sliceState 5 = 3 ∧ n.adminReady 0 0x83 = true ∧ (n.started 0).sliceState 5 = 1
        ∧ darg (q.entry 0).desc 6 2 % 2 = 1 ∧ ¬darg (n.entry 0).desc 6 2 % 2 = 1)
      ∧ (c.adminReady 0 0x84 = true ∧ (c.started 0).sliceState 5 = 2 ∧ (c.started 0).flag (SLC_STATE_EXPORTED 5) = false
        ∧ (adm upS 0x84 [(4, 5)]).adminReady 0 0x84 = true ∧ (adm upS 0x84 [(4, 6)]).adminReady 0 0x84 = true
        ∧ ((adm upS 0x84 [(4, 6)]).started 0).sliceState 6 ≠ 1)
      ∧ ((k.slice 5).drainCmd = some (3, false) ∧ k.sliceSlots 5 = [] ∧ (k.slice 6).drainCmd = some (4, true)
        ∧ (k.sliceSlots 6).all (fun i => (k.entry i).state == 5) = true)
      ∧ (v.adminReady 0 0x85 = true ∧ (v.started 0).sliceState 5 = 2 ∧ (v.started 0).imageLen 5 ≤ darg (v.entry 0).desc 0x10 4
        ∧ (v.started 0).flag (SLC_STATE_EXPORTED 5) = false
        ∧ ((v.started 0).entry 0).instar = (v.started 0).sliceInstar 0 ∧ (v.started 0).egressBarred 0 = false ∧ (v.started 0).egressWaits 0 = false
        ∧ (v.started 0).canIssue ((v.started 0).slicePort 0) = true
        ∧ w.adminReady 0 0x85 = true ∧ darg (w.entry 0).desc 0x10 4 < (w.started 0).imageLen 5)
      ∧ (r.adminReady 0 0x86 = true ∧ 5 ≤ 1023 ∧ (r.started 0).sliceState 5 = 2 ∧ (r.started 0).flag (SLC_STATE_RESTORE_TARGET 5) = true
        ∧ (r.started 0).flag (SLC_STATE_EXPORTED 5) = false
        ∧ (r.started 0).rd (SLC_BIND_REQ_ID 5) = ((r.started 0).port ((r.started 0).slicePort 5)).reqId
        ∧ (adm upS 0x86 [(4, 5)]).adminReady 0 0x86 = true ∧ ¬((adm upS 0x86 [(4, 5)]).started 0).sliceState 5 = 2) := by decide +kernel
/-- `d` with the image that the RESTORE_SLICE in slot 0 asked for on its way. -/
def reading (d : Dev) : Dev :=
  let e := d.setEntry 0 { d.entry 0 with state := 2 }
  { e with reads := [hread 0 0 (.sliceImage 0 (e.entry 0).serial) 0 0x148] }
theorem test_hyp_SlicesDrainSaveAndRestore_image :
    let base := fun d : Dev => reading (adm (d.wrs [(SLC_STATE_STATE 5, 2), (SLC_STATE_RESTORE_TARGET 5, 1), (SLC_QUEUES_LAST 5, 16)])
      0x86 [(4, 5), (0x10, 0x148)])
    let ok := fun s : Dev => decide (s.hubOff = false ∧ s.reads[0]? = some (hread 0 0 (.sliceImage 0 (Dev.entry (s.endRead 0) 0).serial) 0 0x148)
      ∧ (Dev.entry (s.endRead 0) 0).state = 2 ∧ Dev.restorable (s.endRead 0) 5 = true ∧ (Dev.queueRange (s.endRead 0) 5).length = 1
      ∧ Dev.rd (s.endRead 0) (SLC_VECTORS_LAST 5) + 1 - Dev.rd (s.endRead 0) (SLC_VECTORS_BASE 5) = 8)
    let r := Dev.endRead (base (fed img upS)) 0
    let r0 := Dev.endRead (base upS) 0
    let j := Dev.endRead (base ((fed img upS).wr (SLC_QUOTA_JNL_UNITS 5) 0)) 0
    (ok (base (fed img upS)) ∧ ok (base upS) ∧ (hread 0 0 (.image 0) 0 0x148).issued = true ∧ (hread 0 0 (.image 0) 0 0).ecc = false
        ∧ (hread 0 0 (.sliceImage 0 (Dev.entry (Dev.endRead (base upS) 0) 0).serial) 0 0x148).last = true)
      ∧ (sliceBytes.length = 0x108 + 0x40 * leAt sliceBytes 0x20 4 + 0x80 * leAt sliceBytes 0x28 4 ∧ r.imageGood 5 [] = false)
      ∧ (leAt sliceBytes 8 8 ≠ (r0.inForce.map (·.sig)).getD 0 ∧ leAt sliceBytes 8 8 = (r.inForce.map (·.sig)).getD 0)
      ∧ ((imageParked sliceBytes).any (fun e => !r.permitted 5 e.desc) = false
        ∧ (imageParked sliceBytes).length ≤ r.rd (SLC_QUOTA_JNL_UNITS 5) * 16)
      ∧ ok (base ((fed img upS).wr (SLC_QUOTA_JNL_UNITS 5) 0)) ∧ (parkedBytes.length = 0x108 + 0x40 * 1 + 0x80 * 1
        ∧ leAt parkedBytes 0x20 4 = 1 ∧ leAt parkedBytes 0x28 4 = 1 ∧ leAt parkedBytes 8 8 = (r.inForce.map (·.sig)).getD 0
        ∧ (imageParked parkedBytes).any (fun e => !r.permitted 5 e.desc) = true
        ∧ (imageParked parkedFence).any (fun e => !j.permitted 5 e.desc) = false
        ∧ j.rd (SLC_QUOTA_JNL_UNITS 5) * 16 < (imageParked parkedFence).length) := by decide +kernel
theorem test_hyp_SharesShrinksAndPermissions :
    let z := adm upS 0x87 [(4, 0), (6, 1)]
    let o := adm upS 0x87 [(4, 5), (6, 4), (0xE, 16384)]
    let k := adm upS 0x87 [(4, 5), (6, 8), (0x10, 31)]
    let h := upS.wrs [(SLC_STATE_SHRINK_PENDING 5, 1), (SLC_QUEUES_NEXT_LAST 5, 30)]
    let hq := h.setQueue 31 { state := 1 }
    (z.adminReady 0 0x87 = true ∧ z.flag (SLC_STATE_SHRINK_PENDING 0) = false ∧ darg (z.entry 0).desc 6 2 % 2 = 1)
      ∧ (o.adminReady 0 0x87 = true ∧ (o.started 0).sliceState 5 = 1 ∧ (o.started 0).shareBad 5 (o.entry 0).desc = false
        ∧ (o.started 0).shareOver 5 (o.entry 0).desc = true ∧ (o.started 0).flag (SLC_STATE_EXPORTED 5) = false)
      ∧ (k.adminReady 0 0x87 = true ∧ (k.started 0).shareBad 5 (k.entry 0).desc = false
        ∧ (k.started 0).shareOver 5 (k.entry 0).desc = false ∧ (k.started 0).shareOverLast 5 (k.entry 0).desc = false)
      ∧ (let b := adm upS 0x87 [(4, 5), (6, 4), (0xE, 16385)]
         let l := adm (upS.wrs [(SLC_STATE_STATE 6, 1), (SLC_QUEUES_BASE 6, 32), (SLC_QUEUES_LAST 6, 40)]) 0x87 [(4, 5), (6, 8), (0x10, 32)]
         let w := adm upS 0x87 [(4, 0), (6, 2), (0xC, 0)]
         b.adminReady 0 0x87 = true ∧ (b.started 0).shareBad 5 (b.entry 0).desc = true
          ∧ (l.adminReady 0 0x87 = true ∧ (l.started 0).shareBad 5 (l.entry 0).desc = false
            ∧ (l.started 0).shareOverLast 5 (l.entry 0).desc = true)
          ∧ (w.adminReady 0 0x87 = true ∧ ¬(darg (w.entry 0).desc 6 2 % 2 = 1 ∨ darg (w.entry 0).desc 6 2 / 4 % 2 = 1
            ∨ darg (w.entry 0).desc 6 2 / 8 % 2 = 1) ∧ (w.started 0).sliceState 0 = 1 ∧ (w.started 0).shareBad 0 (w.entry 0).desc = false
            ∧ (w.started 0).shareOver 0 (w.entry 0).desc = false ∧ (w.started 0).shareOverLast 0 (w.entry 0).desc = false))
      ∧ (hq.flag (SLC_STATE_SHRINK_PENDING 5) = true ∧ 31 ∈ hq.sliceQueues 5 ∧ hq.rd (SLC_QUEUES_NEXT_LAST 5) < 31
        ∧ hq.owed 31 = 0 ∧ (hq.queue 31).fetched = [] ∧ ((hq.queue 31).limit.getD (hq.queue 31).sqPi = (hq.queue 31).sqHead)
        ∧ hq.sliceQueues 5 = [31] ∧ (adm h 0x87 [(4, 5)]).flag (SLC_STATE_SHRINK_PENDING (darg ((adm h 0x87 [(4, 5)]).entry 0).desc 4 2)) = true)
      ∧ (upS.setupOpen (SLC_PERM 5 255) = true ∧ (upS.opened (SLC_PERM 5 255)).sliceState 5 ≠ 0
        ∧ upS.setupOpen (SLC_PERM 6 0) = true ∧ (upS.opened (SLC_PERM 6 0)).sliceState 6 = 0 ∧ upS.setupOpen (SLC_PERM 0 0) = true) := by
  decide +kernel

/-! ## Hypotheses met: rings -/

theorem test_hyp_DoorbellPagesAndQueueStates :
    let q := upS.setQueue 16 { state := 1 }
    let h := upS.wr (SLC_STATE_STATE 5) 3
    let c0 : QCtx := { sqLog2 := 16, cqLog2 := 1, sqBase := 0x1000, cqBase := 0x2000, recAddr := 8 }
    let sized := fun c : QCtx => 1 ≤ c.sqLog2 ∧ c.sqLog2 ≤ 16 ∧ 1 ≤ c.cqLog2 ∧ c.cqLog2 ≤ 16
    let aligned := fun c : QCtx => c.sqBase % 4096 = 0 ∧ c.cqBase % 4096 = 0 ∧ c.recAddr % 8 = 0
    let vector := fun c : QCtx => upS.rd (SLC_VECTORS_BASE 5) + c.vecOff ≤ upS.rd (SLC_VECTORS_LAST 5)
    (q.hubOff = false ∧ q.dbOpen 5 = true ∧ q.slicePort 5 = (0 : Fin 8).val ∧ q.pwr.mode = 0 ∧ q.sliceState 5 = 1 ∧ h.sliceState 5 ≠ 1
        ∧ h.dbOpen 5 = true ∧ (q.port 0).pasidEn = true ∧ q.flag (SLC_STATE_ID_MISMATCH 5) = false)
      ∧ ((15#32).toNat ≤ q.rd (SLC_QUEUES_LAST 5) - q.rd (SLC_QUEUES_BASE 5) ∧ q.rd (SLC_QUEUES_LAST 5) - q.rd (SLC_QUEUES_BASE 5) < (16#32).toNat
        ∧ ((q.recordPages 5).contains ((q.queue (q.rd (SLC_QUEUES_BASE 5) + (0#32).toNat)).recAddr / 4096) = true
          ∧ (upS.recordPages 5).contains ((upS.queue (upS.rd (SLC_QUEUES_BASE 5) + (0#32).toNat)).recAddr / 4096) = false)
        ∧ 15#32 ≠ 0xFFFFFFFF#32 ∧ 0#32 ≠ 0xFFFFFFFF#32
        ∧ (0xFFFF000F#32).toNat % 65536 ≤ 15 ∧ 15 < (0x10#32).toNat % 65536)
      ∧ ((q.queue (q.selected 5)).state ≠ 0 ∧ (upS.queue (upS.selected 5)).state = 0)
      ∧ (sized c0 ∧ aligned c0 ∧ vector c0 ∧ c0.irqTime ≤ 16000 ∧ ¬sized { c0 with sqLog2 := 17 } ∧ ¬aligned { c0 with recAddr := 4 }
        ∧ ¬vector { c0 with vecOff := 8 } ∧ vector { c0 with vecOff := 7 } ∧ 16000 < { c0 with irqTime := 16001 }.irqTime)
      ∧ (((upS.setQueue 16 { state := 2 }).queue 16).state = 2 ∧ (upS.setQueue 16 { state := 2 }).owed 16 = 0
        ∧ ((upS.setQueue 16 { state := 3 }).queue ((upS.setQueue 16 { state := 3 }).selected 5)).state = 3) := by decide +kernel
theorem test_hyp_RingReadsHaltsAndCompletions :
    let rec_ : HRead := hread 5 1 (.record 5 1 false) 0x1000 4096
    let de : HRead := hread 5 1 (.desc 16 2) 0x1000 128
    let sg : HRead := hread 5 1 (.sgl 16) 0x1000 16
    let d := { upS.setQueue 16 { state := 1, fetched := [0#512], sglBusy := true } with reads := [rec_, de, sg] }
    let one : QCtx := { state := 1, sqLog2 := 4, sqHead := 0xFFFFFFFF }
    let s7 := { upS.setEntry 3 { state := 7, slice := 5, instar := 1 } with seqQ := [.done 3] }
    let s8 := { upS.setEntry 3 { state := 7, slice := 5, instar := 0 } with seqQ := [.done 3] }
    let ab := { (upS.setEntry 3 { state := 2, slice := 5, instar := 1, desc := desc 7 [] }).setEntry 4 { state := 2, slice := 5, instar := 1 } with
      seqQ := [.abort 3 4 0] }
    let ab' := { upS.setEntry 3 { state := 2, slice := 5, instar := 1, desc := desc 7 [] } with seqQ := [.abort 3 4 0] }
    let rep : Dev := { upS with seqQ := [.queueReport 16 5 1 0xFFFF 0x32 0 true] }
    let old : Dev := { upS with seqQ := [.queueReport 16 5 0 0xFFFF 0x32 0 true] }
    let co := upS.setQueue 16 { state := 1, coalCount := 1, irqTime := 5, irqCount := 4 }
    let fe := upS.setEntry 0 { state := 1, slice := 5, instar := 1, queue := 16, desc := desc 6 [] }
    let at_ := (upS.setEntry 0 { state := 1, slice := 5, instar := 1, queue := 16, desc := desc 7 [(36, 5)] }).setEntry 9
      { state := 1, slice := 5, instar := 1, queue := 16, desc := desc 1 [(2, 5)] }
    (d.reads[0]? = some rec_ ∧ rec_.instar = Dev.sliceInstar (d.endRead 0) rec_.slice ∧ rec_.ecc = false
        ∧ d.findRead (fun x => x.why == .record 5 (1#52).toNat true || x.why == .record 5 (1#52).toNat false) = some 0)
      ∧ (d.reads[1]? = some de ∧ de.instar = Dev.sliceInstar (d.endRead 1) de.slice ∧ Dev.queueSlice (d.endRead 1) 16 = de.slice ∧ (Dev.queue (d.endRead 1) 16).state = 1
        ∧ d.findRead (fun x => match x.why with | .desc y _ => y == 16 | _ => false) = some 1)
      ∧ (d.reads[2]? = some sg ∧ sg.instar = Dev.sliceInstar (d.endRead 2) sg.slice ∧ Dev.queueSlice (d.endRead 2) 16 = sg.slice ∧ d.findRead (fun x => x.why == .sgl 16) = some 2 ∧ (Dev.queue (d.endRead 2) 16).sglBusy = true
        ∧ (Dev.queue (d.endRead 2) 16).fetched = 0#512 :: [] ∧ sg.last = true)
      ∧ 2 ^ (Dev.queue (upS.setQueue 16 one) 16).sqLog2
          < ((16#64).toNat % 2 ^ 32 + 2 ^ 32 - (Dev.queue (upS.setQueue 16 one) 16).sqHead) % 2 ^ 32
      ∧ (s7.seqQ = .done 3 :: [] ∧ s7.flt.grave = false ∧ (s7.entry 3).state = 7 ∧ (s7.entry 3).instar = s7.sliceInstar 5 ∧ s7.aborts = []
        ∧ (s8.entry 3).state = 7 ∧ (s8.entry 3).instar ≠ s8.sliceInstar 5)
      ∧ (ab.seqQ = .abort 3 4 0 :: [] ∧ (ab.entry 4).serial = 0 ∧ (ab.entry 4).serial ≠ 1 ∧ (ab.entry 3).state ≠ 0 ∧ (ab.entry 3).instar = ab.sliceInstar 5 ∧ ab.live 4 = true
        ∧ (rep.seqQ = .queueReport 16 5 1 0xFFFF 0x32 0 true :: [] ∧ 1 = rep.sliceInstar 5 ∧ rep.queueSlice 16 = 5
          ∧ old.seqQ = .queueReport 16 5 0 0xFFFF 0x32 0 true :: [] ∧ 0 ≠ old.sliceInstar 5 ∧ rep.flt.grave = false)
        ∧ ab'.live 4 = false ∧ (ab'.entry 3).instar = ab'.sliceInstar 5)
      ∧ ((co.queue 16).coalCount ≠ 0 ∧ (co.queue 16).irqTime ≠ 0 ∧ (co.queue 16).irqCount ≠ 0)
      ∧ ((fe.entry 0).state = 1 ∧ fe.mayStart 0 = true ∧ dOpcode (fe.entry 0).desc = 6)
      ∧ (at_.mayStart 0 = true ∧ dOpcode (at_.entry 0).desc = 7 ∧ at_.abortTarget 0 = some 9 ∧ (at_.entry 0).state = 1
        ∧ Dev.abortTarget (fe.setEntry 0 { fe.entry 0 with desc := desc 7 [] }) 0 = none) := by decide +kernel
theorem test_hyp_RingReadsHaltsAndCompletions_entries :
    let de : HRead := hread 5 1 (.desc 16 2) 0x1000 128
    let d : Dev := { (upS.wr (FAULT_STATUS_VALID (.hp 0)) 1).setQueue 16 { state := 1 } with reads := [de] }
    let f : Dev := (d.endRead 0).dmaFail de.port de.slice de.addr 3
    let s7 : Dev := upS.setEntry 3 { state := 7, slice := 5, instar := 1, queue := 16 }
    let held := fun d : Dev => ((Dev.writeCq d 16 0 0 0 0 1 true).port 0).held[(d.port 0).held.length]?.isSome
    let ab : Dev := (upS.setEntry 3 { state := 2, slice := 5, instar := 1, desc := desc 7 [] }).setEntry 4 { state := 7, slice := 5, instar := 1 }
    let gone : Dev := ab.setPort 0 { ab.port 0 with held := [{ slice := 5, instar := 1, msg := .pwrEn true, entry := some (4, 0) }] }
    (de.instar = f.sliceInstar de.slice ∧ (f.queue 16).state = 1 ∧ f.queueSlice 16 = de.slice)
      ∧ (held s7 = false ∧ held (s7.wr (HP_STATUS_EGRESS_HOLD 0) 1) = true ∧ s7.slicePort 5 = 0)
      ∧ (ab.live 4 = true ∧ ab.passed 4 = false ∧ gone.passed 4 = true) := by decide +kernel

/-! ## Hypotheses met: acceptance, coding and the schedule -/

/-- A plan of 2 + 1 shards on lanes 0, 8 and 16, and an image that names it as plan 1. -/
def pl : Plan := { degradeOk := true, verifyAlways := false, stagedAllowed := true, k := 2, m := 1, log2s := 12, matrix := 1, program := 1
                   f := 0, log2g := 0, pclass := 0, stripes := 16, targets := [(0, 0), (8, 0), (16, 0)] }
def mat : Matrix := { k := 2, m := 1, enc := [[1#8, 1#8]], single := [] }
def pimg : Image := { img with plans := [(1, some pl)], matrices := [(1, some mat)], sigs := [0, 3] }
/-- `upS` with that image in force and queue 16 of slice 5 holding descriptor `x` at its head; slice 5 may read and write plan 1. -/
def head (x : BitVec 512) : Dev :=
  let d := (fed pimg upS).wrs [(SLC_PERM_READ 5 1, 1), (SLC_PERM_WRITE 5 1, 1), (SLC_QUOTA_STAGE_MIB 5, 1)]
  d.setQueue 16 { state := 1, sqLog2 := 4, cqLog2 := 4, fetched := [x] }
theorem test_hyp_AcceptanceJournalsOneDescriptor :
    let ok := fun (d : Dev) (x : BitVec 512) => decide ((d.queue 16).state = 1 ∧ (d.queue 16).sglBusy = false ∧ d.canFetch (d.queueSlice 16) = true
      ∧ d.acceptRoom 16 x = true ∧ d.switchHolds x = false ∧ (d.queue 16).fetched = x :: [])
    let isData := fun x => decide (1 ≤ dOpcode x ∧ dOpcode x ≤ 7)
    let pass := fun (d : Dev) x => decide (isData x = true ∧ fieldsBad x = false ∧ d.plansHeld x = true
      ∧ d.permitted (d.queueSlice 16) x = true ∧ d.rangeBad (d.queueSlice 16) x = false)
    let w := desc 1 [(4, 1), (0x14, 512)]
    let no := (head (desc 2 [(4, 1), (0x14, 512)])).wr (SLC_PERM_READ 5 1) 0
    let poor := (head w).wr (SLC_QUOTA_STAGE_MIB 5) 0
    let list := desc 1 [(4, 1), (0x14, 512), (0x20, 2)]
    (ok (head (desc 9 [])) (desc 9 []) ∧ isData (desc 9 []) = false ∧ isAdminOp 9 = false)
      ∧ (ok (head (desc 1 [(4, 1)])) (desc 1 [(4, 1)]) ∧ fieldsBad (desc 1 [(4, 1)]) = true)
      ∧ (let x := desc 2 [(4, 2), (0x14, 512)]
         ok (head x) x ∧ fieldsBad x = false ∧ (head x).plansHeld x = false)
      ∧ (let x := desc 2 [(4, 1), (0x14, 512)]
         ok no x ∧ fieldsBad x = false ∧ no.plansHeld x = true ∧ no.permitted (no.queueSlice 16) x = false)
      ∧ (let x := desc 2 [(4, 1), (8, 16), (0x14, 512)]
         ok (head x) x ∧ fieldsBad x = false ∧ (head x).plansHeld x = true ∧ (head x).permitted 5 x = true ∧ (head x).queueSlice 16 = 5
          ∧ (head x).rangeBad 5 x = true)
      ∧ (ok poor w ∧ pass poor w ∧ isShardOp (dOpcode w) = true ∧ poor.stageOver 5 w = true)
      ∧ (ok (head (desc 6 [])) (desc 6 []) ∧ pass (head (desc 6 [])) (desc 6 []) ∧ isShardOp 6 = false)
      ∧ (ok (head w) w ∧ pass (head w) w ∧ (head w).stageOver 5 w = false ∧ sglOf w ((head w).queue 16) = some [(0, 512)]
        ∧ ([(0, 512)].map (·.2)).sum = dLength w ∧ (∀ e ∈ [(0, 512)], e.2 ≠ 0) ∧ ((head w).queue 16).sglFail = false)
      ∧ (let d := (head list).setQueue 16 { (head list).queue 16 with sgl := some [(0, 512), (0, 1)] }
         ok d list ∧ pass d list ∧ ([(0, 512), (0, 1)].map (·.2)).sum ≠ dLength list
          ∧ sglOf list (d.queue 16) = some [(0, 512), (0, 1)])
      ∧ (let d := (head list).setQueue 16 { (head list).queue 16 with sglFail := true }
         ok d list ∧ pass d list ∧ (d.queue 16).sglFail = true)
      ∧ ((head w).setQueue 16 { (head w).queue 16 with cqLog2 := 0 }).acceptRoom 16 w = false
      ∧ (let d : Dev := { head w with sch := { (head w).sch with gens := [(1, 0xFFFFFFFF)] } }
         dOpcode w = 1 ∧ d.sch.gens.get (dPlan w) 0 ≠ 0) := by decide +kernel

/-- `head` with a write of plan 1 in slot 3, begun, whose one column has its data at the encoder and program `p` to run. -/
def col (p : List (BitVec 64)) : Dev :=
  let d := (fed { pimg with programs := [(1, p)] } upS).setEntry 3
    { state := 2, slice := 5, instar := 1, queue := 16, desc := desc 1 [(4, 1), (0x14, 8192)], sgl := [(0, 8192)], gen := 9 }
  let w : Work := { started := true, data := [(0, List.replicate 4096 0#8), (1, List.replicate 4096 0#8)], have_ := [(0, 4096), (1, 4096)] }
  { d with work := [(3, w)] }
/-- The column as `blockColumn` gives it to its program. -/
def ctx (d : Dev) : ColCtx :=
  let w := d.wk 3
  { plan := pl, mat := mat, words := (d.inForce.map (fun g => g.programs.get 1 [])).getD [], path := 0, lost := [], inr := List.range 2
    surv := [], ml := none, blocks := (List.range 2).foldl (fun t c => Tab.set t c (w.dataBlk (c * pl.columns + w.wcol)) []) [] }
theorem test_hyp_CodedBlocksAndSingleLoss : [1#8, 2#8].length = [[1#8, 7#8], [3#8, 4#8]].length ∧ 1 < [[1#8, 7#8], [3#8, 4#8]].length
    ∧ (∀ b ∈ [[1#8, 7#8], [3#8, 4#8]], b.length = 2) ∧ [1#8, 2#8].getD 1 0#8 ≠ 0#8 := by decide
/-- The shortest program that runs the array: MAC of no row, END. -/
def endP : List (BitVec 64) := [0x9000000000000000#64, 0xF000000000000000#64]
theorem test_hyp_ColumnsAreCodedAndChecked :
    let d := col endP
    let r := d.setEntry 3 { d.entry 3 with desc := desc 2 [(4, 1), (0x14, 8192)] }
    let b := col []
    let v := (col endP).wr GLB_PROFILE_STATUS_CUR_CHECK 1
    let m : MatEntry := ⟨7, 1, 1, false, [], [], 0, 0, 1⟩
    let bad : MatEntry := ⟨7, 1, 3, false, [], [], 0, 0, 1⟩
    let e : Dev := { d with eng := { d.eng with cache := [bad, m] } }
    (d.readPlan 3 = some pl ∧ d.writePlan 3 = some pl ∧ d.runs 3 = true ∧ (d.wk 3).stop = none ∧ (d.wk 3).replay = none ∧ d.flt.grave = false)
      ∧ (r.readPlan 3 = some pl ∧ r.runs 3 = true ∧ (r.wk 3).reading (r.entry 3) pl = true
        ∧ r.engUp (r.readEng 3) = true ∧ Dev.engUp (r.wr (ENG_MAP_BOUND (r.readEng 3)) 0) (r.readEng 3) = false)
      ∧ ((d.wk 3).reading (d.entry 3) pl = false ∧ dOpcode (d.entry 3).desc = 1 ∧ d.encodeReady 3 pl = true ∧ d.engUp (d.writeEng 3) = true)
      ∧ ((ctx b).go.bad = true ∧ b.encodeReady 3 pl = true ∧ b.engUp (b.writeEng 3) = true ∧ (ctx d).go.bad = false)
      ∧ ((ctx v).go.bad = false ∧ (ctx v).go.coded = true ∧ (v.era (v.writeEng 3 / 8)).check = 1 ∧ v.encodeReady 3 pl = true
        ∧ v.engUp (v.writeEng 3) = true)
      ∧ (e.eng.cache[1]? = some m ∧ m.valid = false ∧ e.flag MGT_STATUS_RECOVERING = false ∧ e.hubOff = false
        ∧ (e.imageOf m.sig).bind (fun g => g.matrices.get m.matrix none) = some mat ∧ (mat.multi (maskList m.lost 32)).isSome = true
        ∧ e.eng.cache.length ≤ 1024)
      ∧ (e.eng.cache[0]? = some bad ∧ mat.multi (maskList bad.lost 32) = none
        ∧ (e.imageOf bad.sig).bind (fun g => g.matrices.get bad.matrix none) = some mat) := by decide +kernel

/-- The header of an image of ten empty sections, unsigned, with CRC `c` for its section 10. -/
def imgHead (c : Nat) : List Byte :=
  leBytes 4 0x47534C42 ++ leBytes 2 2 ++ leBytes 2 0 ++ leBytes 4 256 ++ leBytes 52 0
    ++ (List.range 9).flatMap (fun _ => leBytes 4 0x100 ++ leBytes 12 0) ++ leBytes 4 0x100 ++ leBytes 4 0 ++ leBytes 4 c ++ leBytes 4 0 ++ leBytes 28 0
def imgBytes (c : Nat) : List Byte := imgHead c ++ leBytes 4 (crc32c (imgHead c)).toNat ++ []
theorem imgBytes_headerBad : headerBad (imgBytes 1) 256 = false := by
  have e : leAt (imgBytes 1) 0xFC 4 = (crc32c ((imgBytes 1).take 0xFC)).toNat := crc_tail (imgHead 1) _ (by decide +kernel)
  simp only [headerBad, e, bne_self_eq_false, Bool.or_false]
  decide +kernel
/-- A header whose one section is of the octant calendars' length. -/
def octBytes : List Byte := List.replicate 0x90 0#8 ++ leBytes 4 0x100 ++ leBytes 4 0x80000
theorem test_hyp_PatchesOnlyLowerTheLoad :
    octsBad octBytes (imageOf octBytes) = false ∧ ((fed (imageOf octBytes) up).era 7).image = some (imageOf octBytes) ∧ 7 < 8 :=
  ⟨by decide +kernel, rfl, by decide⟩
theorem test_hyp_ImagesLoadThroughTheChecks :
    let a := adm upP 0x90 [(4, 1)]
    let b := adm (upP.wr (SCH_SLOT_STATUS_STATE 1) 5) 0x90 [(4, 1)]
    let k : Dev := { adm upP 0x90 [(4, 1)] with
      reads := [hread 0 0 (.image 1) 0 256], sch := { upP.sch with loads := [(1, 1)] } }
    let y := Dev.clearSlot (a.started 0) 1 1
    let x : Dev := { y with sch := { y.sch with loads := [(1, 1)] } }
    (a.adminReady 0 0x90 = true ∧ darg (a.entry 0).desc 4 1 ≤ 1 ∧ (a.started 0).rd (SCH_SLOT_STATUS_STATE 1) = 0
        ∧ (x.hostRead 0 (darg (a.entry 0).desc 8 8) (darg (a.entry 0).desc 0x10 4) false (.image 1)).1 = true)
      ∧ (b.adminReady 0 0x90 = true ∧ (b.started 0).rd (SCH_SLOT_STATUS_STATE 1) = 5)
      ∧ (k.findRead (fun r => r.why == .image 1) = some 0 ∧ k.sch.loads.get 1 0 = 0 + 1
        ∧ k.reads[0]? = some (hread 0 0 (.image 1) 0 256) ∧ (hread 0 0 (.image 1) 0 256).ecc = false ∧ (hread 0 0 (.image 1) 0 256).last = true)
      ∧ (upP.setupOpen (SCH_SIGN_KEY 23) = true ∧ (upP.opened (SCH_SIGN_KEY 23)).flag SCH_SIGN_ENFORCE = false
        ∧ onCurve (upP.opened (SCH_SIGN_KEY 23)).keyBytes = false)
      ∧ (let e := (upP.wrs [(SCH_SIGN_ENFORCE, 1), (SCH_SIGN_KEY_PRESENT, 1)])
         e.setupOpen (SCH_SIGN_KEY 0) = true ∧ (e.opened (SCH_SIGN_KEY 0)).flag SCH_SIGN_ENFORCE = true
          ∧ (e.opened (SCH_SIGN_KEY 0)).flag SCH_SIGN_KEY_PRESENT = true)
      ∧ leAt [] 0 4 ≠ 0x47534C42 ∧ headerBad [] 0 = true
      ∧ (bit (leAt (imgBytes 1) 6 2) 0 = false ∧ signatureBad (imgBytes 1) [] false false = false
        ∧ secCrc (imgBytes 1) 10 ≠ (crc32c (sec (imgBytes 1) 10)).toNat
        ∧ (∀ u ∈ List.range 10, 1 ≤ u → secCrc (imgBytes 1) u = (crc32c (sec (imgBytes 1) u)).toNat)) := by decide +kernel

/-- The base point of P-384, as a key's bytes lie (R199): it is on the curve. -/
theorem test_onCurve :
    onCurve (beBytes 48 0xaa87ca22be8b05378eb1c71ef320ad746e1d3b628ba79b9859f741e082542a385502f25dbf55296c3a545e3872760ab7
      ++ beBytes 48 0x3617de4a96262c6f5d9e98bf9292dc29f8f41dbd289a147ce9da3113b5f0b8c00a60b1ce1d7e819d7a431d7c90ea0e5f) = true := by
  decide +kernel
theorem test_hyp_SwitchesAndProfileCommands :
    let put := fun (g : Image) (d : Dev) => { d.wr (SCH_SLOT_STATUS_STATE 1) 2 with sch := { d.sch with images := (1, some g) :: d.sch.images } }
    let d := put img upS
    let w := put { img with rate := 1 } upS
    let o := (put img upS).wr (SLC_SHARE_RUNS 5) 1
    let x := [(4, 1), (8, 2)]
    (upS.profBusy = false ∧ (adm upS 0x91 x).adminReady 0 0x91 = true ∧ ((adm upS 0x91 x).started 0).rd (SCH_SLOT_STATUS_STATE 1) ≠ 2)
      ∧ ((adm d 0x91 x).adminReady 0 0x91 = true ∧ (adm d 0x91 x).profBusy = false
        ∧ ((adm d 0x91 x).started 0).rd (SCH_SLOT_STATUS_STATE 1) = 2 ∧ ((adm d 0x91 x).started 0).image 1 = some img
        ∧ img.rate = d.rd GLB_PROFILE_STATUS_CUR_RATE ∧ img.check = d.rd GLB_PROFILE_STATUS_CUR_CHECK
        ∧ (∀ p ∈ List.range 8, ((adm d 0x91 x).started 0).runsAssigned p + ((adm d 0x91 x).started 0).runsComing 1024 p ≤ (img.pool p).length)
        ∧ ((adm d 0x91 x).started 0).epoch + 1 < 2 ∧ 1 ≤ ((adm d 0x91 x).started 0).epoch + 1)
      ∧ (((adm w 0x91 x).started 0).image 1 = some { img with rate := 1 } ∧ 1 ≠ w.rd GLB_PROFILE_STATUS_CUR_RATE)
      ∧ (0 < 8 ∧ (img.pool 0).length < ((adm o 0x91 x).started 0).runsAssigned 0 + ((adm o 0x91 x).started 0).runsComing 1024 0 ∧ (adm o 0x91 x).adminReady 0 0x91 = true)
      ∧ ((adm upS 0x92 []).adminReady 0 0x92 = true ∧ (adm upS 0x92 []).profBusy = false ∧ (adm upS 0x92 []).mgt.staging = none)
      ∧ ((upS.wr GLB_PROFILE_STATUS_PENDING 1).profBusy = true ∧ ({ up.mgt with staging := some 3 } : Mgmt).staging ≠ none) := by decide +kernel
/-- A run of the given kind from host port 0 to the staging buffer, and an image whose octant 0 has it alone, one whose hub has. -/
def kindRun (k : Nat) : BitVec 64 := BitVec.ofNat 64 (0x240 + 0x249 * 2 ^ 12 + k * 2 ^ 32)
def oneRun (k : Nat) : Image := { img with octs := [⟨[kindRun k], []⟩] }
def hubRun (k : Nat) : Image := { img with hub := [kindRun k] }
theorem test_hyp_RunsFireOrAreVoided :
    let o := fun k : Nat => fed (oneRun k) upS
    let h := fun k : Nat => fed (hubRun k) upS
    let r := kindRun
    let ready := fun (d : Dev) (i k : Nat) => decide ((d.calendar i)[0]? = some (r k) ∧ d.sch.next.get i 0 = 0 ∧ d.pacing = true ∧ d.islandDown i = false
      ∧ d.islandDone i = false ∧ (d.epUp (runSrc (r k)) && d.epUp (runDst (r k))) = true ∧ d.runStopped i (r k) = false ∧ runKind (r k) = k)
    let one : Dev := { h 1 with sch := { (h 1).sch with assign := [(0, 6)] } }
    let late : Dev := { o 1 with sch := { (o 1).sch with epoch := 5, next := [(0, 1)], prev := { image := (o 1).inForce, assign := [(0, 6)] } } }
    let lane : Image := { img with octs := [⟨[0#64], []⟩] }
    let rc := BitVec.ofNat 64 (0x200 * 2 ^ 12 + 3 * 2 ^ 32 + 2 ^ 44)
    let cl : Image := { lane with octs := [⟨[rc], []⟩] }
    let b := fed cl (col [])
    let cell := b.setWk 3 { b.wk 3 with cells := [⟨0, 0, 0x200, 0, 0, 0, 0, 0, 0, [], 9, true⟩] }
    let full := fed { hubRun 2 with ports := [(0, 0, 5, 0)] } upS
    let old : Dev := { (o 2) with sch := { (o 2).sch with island := [(0, 0)] } }
    (ready (h 0) 8 0 ∧ ready (h 5) 8 5 ∧ ready (o 0) 0 0 ∧ ready (o 1) 0 1 ∧ ready (h 1) 8 1 ∧ ready one 8 1 ∧ ready (h 2) 8 2 ∧ ready (h 3) 8 3
        ∧ ready (h 4) 8 4)
      ∧ ((Dev.era one 8).assign.get 0 0 = 5 + 1 ∧ (Dev.era (h 1) 8).assign.get 0 0 = 0)
      ∧ (late.islandDone 0 = true ∧ late.sch.island.get 0 0 < late.sch.epoch ∧ late.pacing = true ∧ late.islandDown 0 = false
        ∧ (Dev.calendar (late.beginEpoch 0 1) 0)[0]? = some (r 1) ∧ (Dev.sch (late.beginEpoch 0 1)).next.get 0 0 = 0)
      ∧ (runKind rc = 3 ∧ (fed cl upS).headItem 0 rc = none ∧ (cell.headItem 0 rc).isSome = true ∧ (cell.calendar 0)[0]? = some rc
        ∧ cell.pacing = true ∧ cell.islandDone 0 = false ∧ cell.islandDown 0 = false ∧ (cell.epUp (runSrc rc) && cell.epUp (runDst rc)) = false)
      ∧ (full.runStopped 8 (r 2) = true ∧ (full.calendar 8)[0]? = some (r 2) ∧ full.pacing = true
        ∧ (full.epUp (runSrc (r 2)) && full.epUp (runDst (r 2))) = true)
      ∧ ((fed lane upS).calendar 0 = [0#64] ∧ (fed lane upS).pacing = true
        ∧ ((fed lane upS).epUp (runSrc 0#64) && (fed lane upS).epUp (runDst 0#64)) = false ∧ runKind 0#64 ≠ 3)
      ∧ ({ (o 0).sch with gated := [0] } : Sched).gated.contains 0 = true
      ∧ (0 < 9 ∧ old.islandDown 0 = false ∧ (old.calendar 0).drop (old.sch.next.get 0 0) ≠ [] ∧ old.sch.gated.contains 0 = false
        ∧ old.sch.island.get 0 0 + 2 ≤ 2 ∧ 1 < old.sch.island.get 0 0 + 2)
      ∧ (old.calendar 8).drop (old.sch.next.get 8 0) = [] := by decide +kernel
theorem test_hyp_BoundariesAndIntegrityEvents :
    let d := fed (oneRun 0) upS
    let g : Dev := { d with flt := { d.flt with grave := true } }
    let i : Dev := { d with sch := { d.sch with idle := [(0, 16)] } }
    let e := d.setEntry 262143 { state := 4, slice := 5, instar := 1 }
    let l := d.setLink 511 { left := some 0 }
    d.hubOff = false ∧ d.flt.grave = false ∧ g.flt.grave = true ∧ 0 < (d.calendar 0).length ∧ (i.pacing = true ∧ 16 ≤ i.sch.idle.get 0 0 ∧ i.islandWork 0 = false)
      ∧ (let at_ := fun f : Dev => f.advance (epochStart (f.epoch + 1))
         Dev.hubOff (at_ d) = false ∧ (at_ d).flt.grave = false ∧ (at_ g).flt.grave = true)
      ∧ ((e.entry 262143).state ≠ 0 ∧ (e.entry 262143).state < 5)
      ∧ (Dev.entry (d.setEntry 0 { state := 5, slice := 5, instar := 1 }) 0).state = 5
      ∧ 5 < (Dev.entry (d.setEntry 0 { state := 7, slice := 5, instar := 1 }) 0).state
      ∧ ((l.link 511).left = some 0 ∧ l.linkActive 511 = false ∧ (l.link 511).expired = false) := by decide +kernel

/-! ## Hypotheses met: operations, streams and the journal -/

/-- `d` with lane `l` a link of one lane, ACTIVE, in a bay whose condition is FULL, with `inbox` received. -/
def linkUp (l : Nat) (inbox : List (List Byte)) (d : Dev) : Dev :=
  let e := d.wrs [(LNK_STATE_FIRST l, 1), (LNK_STATE_STATE l, 6), (LNK_STATE_TR_FIRST l, l % 8)]
  { e with lnk := { e.lnk with cond := e.lnk.cond.set (l / 8) 0 2, links := e.lnk.links.set l { inbox, geom := some 0 } {} } }
/-- `head` with the shard operation `x` in slot 3, accepted. -/
def item (x : BitVec 512) : Dev :=
  (fed pimg upS).setEntry 3 { state := 1, slice := 5, instar := 1, queue := 16, desc := x, sgl := [(0, 8192)] }
theorem test_hyp_OperationsBeginByTheirTargets :
    let w := desc 1 [(4, 1), (0x14, 8192)]
    let d := item w
    let u := linkUp 0 [] (linkUp 8 [] (linkUp 16 [] d))
    let one := linkUp 0 [] (linkUp 8 [] d)
    let n := item (desc (1 + 4 * 256) [(4, 1), (0x14, 8192)])
    let gone := fun d : Dev => (List.range 3).filter (fun i => d.linkClass (pl.link i) == 2)
    let two := desc 3 [(4, 1), (0x14, 1)]
    (d.readPlan 3 = some pl ∧ d.writePlan 3 = some pl ∧ d.startable 3 = true ∧ dOpcode (d.entry 3).desc = 1 ∧ (d.pickStripe 3).1 = some 0)
      ∧ (dOpcode ((item two).entry 3).desc = 3 ∧ (item two).startable 3 = true ∧ ((item two).pickStripe 3).1 = some 0)
      ∧ (let e := (item w).setWk 3 { nextStripe := 1 }
         (e.pickStripe 3).1 = none ∧ e.startable 3 = true ∧ e.atBoundary = true)
      ∧ (let g : Image := { pimg with hub := [BitVec.ofNat 64 (0x240 + 0x250 * 2 ^ 12 + 2 ^ 32)] }
         let h := fed g (item w)
         let e : Dev := { h with sch := { h.sch with assign := [(0, 6)] } }
         e.atBoundary = true ∧ e.served 3 0 pl = true ∧ e.startable 3 = true ∧ (e.pickStripe 3).1 = some 0
          ∧ d.atBoundary = true ∧ d.served 3 0 pl = false ∧ Dev.atBoundary { d with now := 1 } = false ∧ Dev.startable { d with now := 1 } 3 = true)
      ∧ (let r := fun c : Nat => BitVec.ofNat 64 (0x200 * 2 ^ 12 + 3 * 2 ^ 32 + pl.pclass * 2 ^ 36 + c)
         let i := fed { pimg with octs := [⟨(List.range 8).map (fun e => r (e * 2 ^ 24)), []⟩] } (item two)
         i.atBoundary = true ∧ i.startable 3 = true ∧ (i.pickStripe 3).1 = some 0 ∧ i.served 3 0 pl = true)
      ∧ ((d.entry 3).state ≠ 0 ∧ (d.entry 3).state ≠ 7 ∧ gone u = [] ∧ gone one = [2] ∧ gone d = [0, 1, 2])
      ∧ (pl.degradeOk = true ∧ 1 ≤ pl.m ∧ dNoDegrade (one.entry 3).desc = false
        ∧ one.debtRoom (one.writePlanNo 3) 2 (one.itemTarget 3) = true)
      ∧ (gone (linkUp 0 [] (linkUp 8 [] n)) = [2] ∧ dNoDegrade (n.entry 3).desc = true) := by decide +kernel
theorem test_hyp_StatusesCombineInTheirOrder : 0 < 9 ∧ 9 < 10 ∧ stInternal ∈ [stInternal, stJournalLost, stHostDma, stCheckFail,
    stUnrecoverable, stBayUnreachable, stBayAbsent, stDegradedWrite, stRecovered, stSuccess]
    ∧ (({} : Dev).entry 3).status ∈ [stInternal, stJournalLost, stHostDma, stCheckFail, stUnrecoverable, stBayUnreachable, stBayAbsent,
      stDegradedWrite, stRecovered, stSuccess] := by decide
theorem test_hyp_DebtsAreRecordedAndPaidExactly :
    let d : Dev := { up with debt := [⟨0, 4, 3, 1, 2, 0⟩] }
    d.debtRoom 1 2 7 = true ∧ d.debt.length ≤ 65536
      ∧ d.debt.length + (d.debt.filter (fun e => e.plan == 1 && e.pos == 2 && decide (e.stripe ≤ 5) && decide (5 < e.stripe + e.count))).length ≤ 65536
      ∧ d.debt.any (fun e => e.plan == 1 && e.pos == 2 && decide (e.stripe ≤ 6) && decide (6 < e.stripe + e.count)) = true
      ∧ ¬(1 = 1 ∧ 2 = 2 ∧ 6 = 5) := by decide +kernel
theorem test_hyp_StreamMessagesFeedTheirOperations :
    let rd_ : Stream := ⟨7, 1, 3, 0, 1, 0, 0, 0, 0, false, false⟩
    let wr_ : Stream := ⟨7, 0, 3, 0, 1, 0, 0, 0, 0, false, false⟩
    let tr_ : Stream := ⟨7, 2, 3, 0, 1, 0, 0, 0, 0, false, false⟩
    let at_ := fun (x : Stream) (m : List Byte) =>
      let d := linkUp 511 [m] (item (desc 1 [(4, 1), (0x14, 8192)]))
      d.setLink 511 { d.link 511 with streams := [x] }
    let blk := message 1 (leBytes 2 7 ++ leBytes 2 0)
    let done := message 0x20 (leBytes 2 7 ++ [1#8, 0#8])
    let bad := message 0x20 (leBytes 2 7 ++ [2#8, 0#8])
    let tr := message 0x22 (leBytes 2 7 ++ [0#8, 0#8] ++ leBytes 4 0)
    let trb := message 0x22 (leBytes 2 7 ++ [1#8, 0#8] ++ leBytes 4 0)
    let takes := fun (x : Stream) (m : List Byte) (t : Nat) => decide (((at_ x m).takeMsg 511 t).map (·.1) = some m
      ∧ (((at_ x m).takeMsg 511 t).bind (fun y => y.2.stream 511 (leAt m 4 2 % 4096))) = some x)
    (takes rd_ blk 1 = true ∧ rd_.kind = 1 ∧ rd_.cancelled = false ∧ rd_.timedOut = false)
      ∧ (takes wr_ done 0x20 = true ∧ wr_.kind = 0 ∧ leAt done 6 1 = 1 ∧ (at_ wr_ []).streamLive wr_ = true)
      ∧ (takes wr_ bad 0x20 = true ∧ 2 ≤ leAt bad 6 1 ∧ leAt bad 6 1 ≤ 4) ∧ takes rd_ bad 0x20 = true
      ∧ (takes tr_ tr 0x22 = true ∧ tr_.kind = 2 ∧ leAt tr 6 1 = 0) ∧ (takes tr_ trb 0x22 = true ∧ leAt trb 6 1 ≠ 0)
      ∧ ((at_ wr_ []).stream 511 7 = some wr_ ∧ (at_ rd_ []).stream 511 7 = some rd_ ∧ wr_.timedOut = false
        ∧ (at_ wr_ []).streamUnsent 511 7 = false ∧ (at_ rd_ []).streamUnsent 511 7 = false ∧ 7 < 1024 ∧ tr_.timedOut = false) := by decide +kernel
theorem test_hyp_JournalRegionAndReplays :
    let a := JNL_REGION_LO + 4 * 2
    let d := up.opened a
    let full := up.setEntry 9 { state := 1 }
    let drawn := upS.wr (SLC_QUOTA_JNL_UNITS 5) 16128
    let w := fun (t : Option Nat) (d : Dev) => d.setWk 3 { started := true, replay := t }
    let it := item (desc 1 [(4, 1), (0x14, 8192)])
    let many := it.setEntry 3 { it.entry 3 with replays := 255 }
    (up.setupOpen a = true ∧ d.liveSlots = [] ∧ full.liveSlots ≠ [] ∧ full.setupOpen a = true ∧ d.jnlAssigned ≤ (1#32).toNat % 16 * 2048 - 256)
      ∧ (drawn.setupOpen a = true ∧ (drawn.opened a).liveSlots = [] ∧ 0 < (7#32).toNat % 16
        ∧ (7#32).toNat % 16 < (drawn.opened a).rd JNL_REGION_SIZE_SIZE ∧ (7#32).toNat % 16 * 2048 - 256 < (drawn.opened a).jnlAssigned)
      ∧ (1 ≤ 5 ∧ ((w none it).wk 3).replay = none ∧ ((w (some 5) it).wk 3).replay = some 5
        ∧ (it.entry 3).replays + 1 ≤ (w (some 5) it).rd JNL_CFG_REPLAY_MAX)
      ∧ (((w (some 1) many).wk 3).replay = some 1 ∧ (w (some 1) many).rd JNL_CFG_REPLAY_MAX < (many.entry 3).replays + 1 ∧ (many.entry 3).state ≠ 0
        ∧ (many.entry 3).state ≠ 7 ∧ (many.entry 3).status = 0 ∧ ((w (some 1) many).wk 3).opens = 0)
      ∧ (1 ≤ (it.entry 3).state ∧ (it.entry 3).state ≤ 4 ∧ (it.entry 3).instar = it.sliceInstar 5 ∧ (it.entry 3).abortReq = false)
      ∧ (let gone := w (some 5) (it.setEntry 3 { it.entry 3 with abortReq := true })
         (gone.wk 3).replay = some 5 ∧ (gone.entry 3).abortReq = true)
      ∧ (let k := it.setEntry 3 { it.entry 3 with state := 4, held := true }
         Dev.wk (w (some 5) k) 3 |>.replay == some 5) = true := by
  decide +kernel

/-! ## Hypotheses met: lanes, partners and flits -/

/-- A training block of the given KIND, KIND's byte 3 and AUX byte, with its CRC. -/
def trainBytes (magic kind b3 b4 b5 aux : Nat) : List Byte :=
  let b := leBytes 2 magic ++ leBytes 1 kind ++ leBytes 1 b3 ++ leBytes 1 b4 ++ leBytes 1 b5 ++ leBytes 4 0 ++ leBytes 1 aux ++ leBytes 1 0
  b ++ leBytes 4 (crc32c b).toNat
/-- `up` with lane 9 in state `x`, in the candidate link of one lane that it leads. -/
def lane9 (x : Nat) : Dev :=
  (up.wr (LNK_STATE_STATE 9) x).setLink 9 { geom := some 0, choice := some (1, 1, 0) }
theorem test_hyp_TrainedGroupIsTheBestCleanOne : (1, 2, 1) ∈ choicesAt 0 2 1 0xC
    ∧ [(1, 2, 1), (0, 0, 0)].foldl betterChoice none = some (0, 0, 0) := by decide +kernel
theorem test_hyp_TrainingEventsAndFailedAttempts :
    let may := (lane9 1).wrs [(BAY_STATUS_PG 1, 1), (LNK_CTRL_ENABLE 9, 1)]
    let good := fun (k b3 : Nat) => trainBytes 0xB01E k b3 0 0 0
    let ok := fun (b : List Byte) (k : Nat) => decide (leAt b 0 2 = 0xB01E ∧ leAt b 12 4 = (crc32c (b.take 12)).toNat
      ∧ bit (leAt b 3 1) 0 = true ∧ leAt b 2 1 = k)
    let act := (linkUp 9 [] up)
    (may.laneState 9 = 1 ∧ may.laneMay 9 = true) ∧ goodBlock (List.replicate 16 0#8) = false ∧ goodBlock (inverted (List.replicate 16 0#8)) = false
      ∧ ((lane9 2).flag (LNK_LANE_POL_INV 9) = false ∧ ((lane9 2).wr (LNK_LANE_POL_INV 9) 1).flag (LNK_LANE_POL_INV 9) = true
        ∧ ((lane9 2).wr (LNK_LANE_POL_INV 9) 1).laneState 9 = 2)
      ∧ (ok (good 1 1) 1 = true ∧ ok (good 2 1) 2 = true ∧ ok (good 4 1) 4 = true)
      ∧ ((lane9 2).linkOf 9 = some 9 ∧ (lane9 2).flitting 9 = false ∧ (lane9 2).laneState 9 = 2 ∧ (lane9 3).laneState 9 = 3
        ∧ (lane9 3).linkOf 9 = some 9 ∧ (lane9 4).linkOf 9 = some 9)
      ∧ (act.linkOf 9 = some 9 ∧ act.flitting 9 = true ∧ 9 ∈ act.groupLanes 9)
      ∧ ((lane9 4).laneState 9 = 4 ∧ ((lane9 4).link 9).choice = some (1, 1, 0) ∧ 9 ∈ (lane9 4).chosenLanes 9
        ∧ leAt (good 4 1) 4 1 % 32 ≠ 1 + 8 * 0)
      ∧ (lane9 3).flag (LNK_LANE_FAULTY 9) = false ∧ ((lane9 2).lane 9).count = 0
      ∧ (let l := (lane9 3).wr (LNK_STATE_FIRST 9) 1
         l.isLink 9 = true ∧ l.geomLanes 9 = [9] ∧ l.laneState 9 = 3)
      ∧ (let l := (lane9 4).wr (LNK_STATE_FIRST 9) 1
         l.isLink 9 = true ∧ l.geomLanes 9 = [9] ∧ l.laneState 9 = 4
          ∧ (∀ j ∈ l.geomLanes 9, l.laneState j = 4 → (l.lane j).since ≤ (l.lane 9).since))
      ∧ (let l := (lane9 5).wr (LNK_STATE_FIRST 9) 1
         l.laneState 9 = 5 ∧ l.flag (LNK_STATE_AWAIT_ADMIT 9) = false)
      ∧ (511 < 512 ∧ 15 < 16 ∧ up.rd (LNK_TRAIN_ATTEMPTS 511) < 31 ∧ up.rd (LNK_TRAIN_ATTEMPTS 511) + 1 ≤ up.rd LNK_TIMERS2_TRAIN_RETRY
        ∧ (up.wr (LNK_TRAIN_ATTEMPTS 511) 30).rd LNK_TIMERS2_TRAIN_RETRY < 30 + 1) := by decide +kernel
/-- A good identity record of a memory bay of 4 KiB units, its CRC in place. -/
def identHead : List Byte :=
  leBytes 4 0x44495450 ++ leBytes 2 1 ++ leBytes 2 2 ++ leBytes 40 0 ++ leBytes 8 4096 ++ leBytes 1 8 ++ leBytes 1 1 ++ leBytes 194 0
def identBytes : List Byte := identHead ++ leBytes 4 (crc32c identHead).toNat ++ []
theorem identBytes_good : identBad identBytes = false := by
  have e : leAt identBytes 0xFC 4 = (crc32c (identBytes.take 0xFC)).toNat := crc_tail identHead _ (by decide +kernel)
  simp only [identBad, e, bne_self_eq_false, Bool.or_false]
  decide +kernel
theorem test_hyp_PartnersAreIdentifiedAndAdmitted :
    let i := fun (part : Nat) (k : List Byte) =>
      let d := (lane9 5).wr (LNK_STATE_FIRST 9) 1
      d.setLink 9 { d.link 9 with inbox := [message 0x31 (leBytes 1 part ++ leBytes 3 0 ++ leBytes 128 0)], ident := k }
    let seen := fun d : Dev => ((d.takeMsg 9 0x31).map (fun x => (leAt x.1 4 1, x.2.laneState 9, x.2.flag (LNK_STATE_AWAIT_ADMIT 9))))
    let k := up.setLink 9 { geom := some 0, admitted := some (admitOf 0 identBytes) }
    let up9 := linkUp 9 [] (fed { img with lanes := List.replicate 512 0 } upP)
    let owes := up9.setLink 9 { up9.link 9 with streams := [⟨7, 0, 3, 0, 1, 0, 0, 0, 0, false, false⟩] }
    let prbs := fun (x : Nat) =>
      (linkUp 9 [message 0x33 (leBytes 1 1 ++ leBytes 1 x ++ leBytes 6 0)] up).setLane 9 { test := some ⟨0, 9, 100, 2⟩ }
    (seen (i 0 []) = some (0, 5, false) ∧ seen (i 1 (leBytes 128 0)) = some (1, 5, false) ∧ (leBytes 128 0).length = 128
        ∧ identBad (leBytes 128 0 ++ leBytes 128 0) = true)
      ∧ ((k.link 9).admitted = some (admitOf ((k.link 9).geom.getD 0) identBytes) ∧ 9 < 512
        ∧ (up.link 9).admitted ≠ some (admitOf ((up.link 9).geom.getD 0) identBytes))
      ∧ ((adm up9 0xA0 [(4, 1)]).adminReady 0 0xA0 = true ∧ ((adm up9 0xA0 [(4, 1)]).started 0).admissible 1 = [9]
        ∧ (adm up9 0xA0 [(4, 64)]).adminReady 0 0xA0 = true ∧ 63 < 64 ∧ ((adm up9 0xA0 [(4, 63)]).started 0).admissible 63 = []
        ∧ (adm up9 0xA0 [(4, 63)]).adminReady 0 0xA0 = true)
      ∧ ((adm (linkUp 9 [] upP) 0xA0 [(4, 1)]).adminReady 0 0xA0 = true
        ∧ ((adm (linkUp 9 [] upP) 0xA0 [(4, 1)]).started 0).topoOk 9 = false)
      ∧ ((adm up9 0xA1 [(4, 1)]).adminReady 0 0xA1 = true ∧ ((adm up9 0xA1 [(4, 1)]).started 0).bayOwes 1 = false
        ∧ (adm owes 0xA1 [(4, 1)]).adminReady 0 0xA1 = true ∧ ((adm owes 0xA1 [(4, 1)]).started 0).bayOwes 1 = true
        ∧ (adm up9 0xA1 [(4, 1)]).lnk.retiring.get 1 0 = 0 ∧ (adm up9 0xA1 [(4, 64)]).adminReady 0 0xA1 = true
        ∧ ({ up9.lnk with retiring := [(1, 1)] } : Links).retiring.get 1 0 ≠ 0)
      ∧ up.setupOpen (LNK_CTRL 511) = true
      ∧ (((prbs 0).takeMsg 9 0x33).map (fun x => ((x.2.lane 9).test, 9 / 8 * 8 + leAt x.1 4 1 % 8, leAt x.1 5 1, leAt x.1 8 4))
          = some (some ⟨0, 9, 100, 2⟩, 9, 0, 0)
        ∧ ((prbs 1).takeMsg 9 0x33).map (fun x => ((x.2.lane 9).test, 9 / 8 * 8 + leAt x.1 4 1 % 8, leAt x.1 5 1)) = some (some ⟨0, 9, 100, 2⟩, 9, 1)
        ∧ 0 ≤ lineRate 2 * 10 * 100 ∧ lineRate 2 * 10 * 100 < lineRate 2 * 10 * 100 + 1) := by
  decide +kernel

/-- A flit as the device seals it is good. -/
theorem crc_flit (h : Nat) (p : List Byte) (e : (leBytes 6 h ++ p ++ List.replicate (246 - p.length) 0#8).length = 252) :
    flitGood (flitOf h p) = true := by
  have c := crc_tail (leBytes 6 h ++ p ++ List.replicate (246 - p.length) 0#8) [] e
  rw [List.append_nil] at c
  have c : leAt (flitOf h p) 252 4 = (crc32c ((flitOf h p).take 252)).toNat := c
  have l : (flitOf h p).length = 256 := by
    show (leBytes 6 h ++ p ++ List.replicate (246 - p.length) 0#8 ++ leBytes 4 _).length = 256
    rw [List.length_append, e]
    rfl
  simp [flitGood, l, c]
def noFlit : List Byte := flitOf (flitHeader 0 1 0 0 0 false 0 0) []
theorem test_hyp_FlitsArriveAndLeaveByTheirRules :
    let d := linkUp 9 [] up
    let s := fun x : Session => d.setSess 9 x
    let f : TxFlit := ⟨4095, 0, [], 8, 0, false, true⟩
    let g : TxFlit := { f with due := false, rexmits := 7 }
    up.flitting 9 = false ∧ d.flitting 9 = true ∧ ((s { dead := true }).link 9).sess.dead = true ∧ (s { dead := true }).flitting 9 = true
      ∧ (d.link 9).sess.dead = false ∧ flitGood [] = false ∧ flitKind noFlit = 0 ∧ flitKind (flitOf (flitHeader 1 0 0 0 0 false 0 0) []) = 1
      ∧ flitKind (flitOf (flitHeader 3 0 0 0 0 false 0 0) []) = 3
      ∧ (((s { replay := [f] }).link 9).sess.replay.find? (·.due) = some f ∧ 8 ≤ f.rexmits ∧ ((s { replay := [f] }).linkDown 9 2).flitting 9 = false)
      ∧ ((((s {}).link 9).sess.replay.all (fun x => !x.due)) = true ∧ ((s {}).link 9).sess.ctrlDue = true)
      ∧ (flitKind (flitOf (flitHeader 2 0 0 0 0 false 0 0) []) = 2 ∧ ((s { replay := [{ f with rexmits := 7 }] }).link 9).sess.replay.find? (·.due)
          = some { f with rexmits := 7 })
      ∧ (let q := ((s { ctrlDue := false }).link 9).sess
         let c := ((s { ctrlDue := false, width := 8, limit := [(1, 9)], tx := [(1, [[0#8, 0#8, 4#8, 0#8]])] }).link 9).sess
         q.replay.all (fun x => !x.due) = true ∧ q.ctrlDue = false ∧ q.control ((s { ctrlDue := false }).linkActive 9) = none
          ∧ c.ctrlDue = false ∧ (c.control true).isSome = true ∧ (s { ctrlDue := false }).linkActive 9 = true)
      ∧ (((s { front := 2, reorder := [(1, 0, [])] }).link 9).sess.front ≠ 0 ∧ ((s { front := 2, reorder := [(1, 0, [])] }).link 9).sess.reorder ≠ []
        ∧ ((s { front := 2, reorder := [(1, 0, [])] }).link 9).sess.next = 0)
      ∧ (((s { replay := [g] }).link 9).sess.replay.find? (fun t => t.seq == 4095 && !t.stored && !t.due) = some g ∧ g.rexmits < 8)
      ∧ (let h := { g with rexmits := 8 }
         ((s { replay := [h] }).link 9).sess.replay.find? (fun t => t.seq == 4095 && !t.stored && !t.due) = some h) := by decide +kernel
theorem test_flit_good : flitGood noFlit = true ∧ flitGood (flitOf (flitHeader 3 0 0 0 0 false 0 0) []) = true
    ∧ flitGood (flitOf (flitHeader 1 0 0 0 0 false 0 0) []) = true ∧ flitGood (flitOf (flitHeader 2 0 0 0 0 false 0 0) []) = true :=
  ⟨crc_flit _ _ (by decide +kernel), crc_flit _ _ (by decide +kernel), crc_flit _ _ (by decide +kernel), crc_flit _ _ (by decide +kernel)⟩
/-- A session whose reorder buffer holds the flit it waits for, with one whole STREAM_STATUS in it. -/
def ses : Session := { next := 4095, front := 0, reorder := [(4095, 2, message 0x20 (leBytes 12 0))] }
theorem test_hyp_DeliveryKeepsEveryByteInOrder :
    (ses.deliver1.map (fun x => (x.1, x.2.2))) = some ([message 0x20 (leBytes 12 0)], true) ∧ ses.next < 4096
      ∧ ((Session.deliver 2 ses []).2.1.next = 0 ∧ (Session.deliver 2 ses []).2.2 = true) := by decide +kernel
theorem test_hyp_SendersStayWithinTheirWindow :
    let d := up.setSess 9 { width := 8, snd := 1023, una := 4095, replay := [⟨4095, 0, [], 7, 0, false, true⟩] }
    (d.link 9).sess.window ≤ 1024 ∧ (d.link 9).sess.snd < 4096 ∧ (d.link 9).sess.una < 4096
      ∧ seqDist (d.link 9).sess.snd (d.link 9).sess.una ≤ (d.link 9).sess.window
      ∧ (∀ x, x ∈ (d.link 9).sess.replay → x.due = true → x.rexmits < 8) := by decide +kernel

/-! ## Hypotheses met: the bridge -/

/-- `up` with window 255 of port 0 on the memory of the partner at lane 9: 4 KiB at 0, and ENABLED if `on`. -/
def win (on : Nat) : Dev :=
  let d := linkUp 9 [] upP
  let e := d.setLink 9 { d.link 9 with admitted := some ⟨0, 0, 0, [], 0⟩ }
  e.wrs [(BRG_WIN_CTRL_LOG2SIZE 0 255, 12), (BRG_WIN_CTRL_LINK 0 255, 9), (LNK_IDENT_DATA 9 14, 1), (LNK_IDENT_DATA 9 15, 4096),
    (BRG_WIN_CTRL_ENABLE 0 255, on)]
theorem test_hyp_WindowsOpenWhenEveryCheckPasses :
    let v := (win 1).word (BRG_WIN_CTRL 0 255)
    let chk := fun (d : Dev) (x : Nat) =>
      let e := ((d.opened (BRG_WIN_CTRL 0 255)).writeWord (BRG_WIN_CTRL 0 255) x).wr (BRG_WIN_CTRL_ENABLE 0 255) 0
      let k := e.rd (BRG_WIN_CTRL_LOG2SIZE 0 255)
      let b := e.winBase 0 255
      let c := e.winSlice 0 255
      [decide (k < 12 ∨ 32 < k), decide (b % 2 ^ k ≠ 0), decide (2 ^ (e.port 0).bar4 < b + 2 ^ k), (e.link 9).admitted.isNone, !bit (e.identCaps 9) 0,
        decide (e.identCtrlSize 9 < e.winTarget 0 255 + 2 ^ k), decide (e.sliceState c = 0 ∨ e.slicePort c ≠ 0),
        e.flag (BRG_WIN_CTRL_PREFETCHABLE 0 255) && e.flag (BRG_WIN_CTRL_STRICT_ORDER 0 255), decide (c ≠ 0)]
    (win 0).setupOpen (BRG_WIN_CTRL 0 255) = true ∧ Dev.winOn ((win 0).opened (BRG_WIN_CTRL 0 255)) 0 255 = false ∧ bit v 0 = true
      ∧ (∀ x ∈ List.range 255, (win 0).winOn 0 x = false)
      ∧ (chk (win 0) v).contains true = false ∧ chk (win 0) (v - 0x100) = [true, false, false, false, false, false, false, false, false]
      ∧ chk (win 0) (v + 0x100) = [false, false, false, false, false, true, false, false, false]
      ∧ (Dev.winOn ((win 1).opened (BRG_WIN_CTRL 0 255)) 0 255 = true
        ∧ ((win 1).opened (BRG_WIN_CTRL 0 255)).word (BRG_WIN_CTRL 0 255) = Nat.lor (v - 1) 1 ∧ bit (v - 1) 0 = false
        ∧ ((win 1).opened (BRG_WIN_CTRL 0 255)).word (BRG_WIN_CTRL 0 255) ≠ Nat.lor (v + 2) 1) := by decide +kernel
theorem test_hyp_HostRequestsCrossTheBridge :
    let d := win 1
    let down := d.wr (LNK_STATE_STATE 9) 1
    let ok := d.wr (BRG_WIN_CTRL_POSTED_OK 0 255) 1
    let okDown := ok.wr (LNK_STATE_STATE 9) 1
    (d.hubOff = false ∧ d.flt.grave = false ∧ d.pwr.mode ≠ 1 ∧ d.winAt 0 0x1000 4 = none ∧ d.winAt 0 0xFFC (4 * 1) = some 255
        ∧ down.winAt 0 0xFFC (4 * 1) = some 255 ∧ down.linkActive (down.winLink 0 255) = false)
      ∧ ([0#8, 0#8, 0#8, 0#8] ≠ [] ∧ d.flag (BRG_WIN_CTRL_POSTED_OK 0 255) = false ∧ ok.flag (BRG_WIN_CTRL_POSTED_OK 0 255) = true
        ∧ ok.linkActive (ok.winLink 0 255) = true ∧ ok.winAt 0 0xFFC 4 = some 255)
      ∧ (okDown.linkActive (okDown.winLink 0 255) = false ∧ okDown.flag (BRG_WIN_CTRL_POSTED_OK 0 255) = true
        ∧ okDown.winAt 0 0xFFC 4 = some 255)
      ∧ (let r := fun b => (⟨0, 255, 9, 0, 4, 15, 0, 0, none, b, false⟩ : BRead)
         let e := fun (d : Dev) b => ({ d with brg := { d.brg with seq := d.brg.seq + 1, reads := d.brg.reads ++ [r b] } } : Dev)
         let pre := d.wr (BRG_WIN_CTRL_PREFETCHABLE 0 255) 1
         let held : Dev := { pre with brg := { pages := [⟨0, 255, 9, 0, none, false, 0, [0#8], false, 0, false⟩] } }
         d.winAt 0 0 (4 * 1) = some 255 ∧ d.linkActive (d.winLink 0 255) = true ∧ d.flag (BRG_WIN_CTRL_PREFETCHABLE 0 255) = false
          ∧ (pre.winAt 0 0 (4 * 1) = some 255 ∧ pre.flag (BRG_WIN_CTRL_PREFETCHABLE 0 255) = true ∧ Dev.missing (e pre true) (r true) ≠ [])
          ∧ (held.winAt 0 0 (4 * 1) = some 255 ∧ held.linkActive 9 = true ∧ Dev.missing (e held true) (r true) = []
            ∧ Dev.nextPage (e held true) (r true) = none)) := by decide +kernel
/-- A read of window 255 that waits with tag 255, a write that waits for the status of WSEQ 3, and a page. -/
def bread : BRead := ⟨0, 255, 9, 0, 4, 15, 0, 0, some 255, false, false⟩
def bwrite : BWrite := ⟨0, 255, 9, 0, 255, [0, 0, 0, 0], 0, none, 0, 3, some 0, false⟩
def bpage : BPage := ⟨0, 255, 9, 0x40, none, false, 0, [0], false, 0, false⟩
def brg (b : Brg) (l : List (List Byte)) : Dev := { linkUp 9 l up with brg := b }
theorem test_hyp_HostRequestsCrossTheBridge_data :
    let t := brg { tags := [(9 * 256 + 255, some ⟨1, 0, 255, 0, 4, 0⟩)], reads := [bread] } [message 0x49 (leBytes 4 255 ++ leBytes 4 0)]
    (t.takeMsg 9 0x49).map (fun x => (leAt x.1 4 1, leAt x.1 5 1)) = some (255, 0)
      ∧ (t.takeMsg 9 0x49).map (fun x => (x.1.drop 8).length) = some bread.len
      ∧ (t.takeMsg 9 0x49).bind (fun x => x.2.btag 9 255) = some ⟨1, 0, 255, 0, 4, 0⟩
      ∧ (t.takeMsg 9 0x49).bind (fun x => x.2.tagRead 9 255) = some bread := by decide +kernel
theorem test_hyp_HostRequestsCrossTheBridge_status :
    let at_ := fun n : Nat => brg { writes := [bwrite] } [message 0x4B (leBytes 2 3 ++ leBytes 2 n)]
    let finds := fun n : Nat => decide (((at_ n).takeMsg 9 0x4B).bind (fun x => x.2.brg.writes.find?
      (fun y => y.link == 9 && y.sent.isSome && y.wseq == leAt x.1 4 2)) = some bwrite
      ∧ ((at_ n).takeMsg 9 0x4B).map (fun x => leAt x.1 6 1) = some n)
    finds 0 = true ∧ finds 1 = true ∧ finds 3 = true ∧ bwrite.dead = false := by decide +kernel
theorem test_hyp_HostRequestsCrossTheBridge_timers :
    let q : BRead := { bread with tag := none }
    up.pwr.stalls = [] ∧ (brg { reads := [q] } []).brg.reads.find? (fun x => x.port == 0) = some q ∧ q.tag = none
      ∧ (brg { pages := [bpage] } []).page 0 9 0x40 = some bpage ∧ bpage.data ≠ [] ∧ up.btag 9 255 = none
      ∧ (brg { writes := [bwrite] } []).brg.writes.find? (fun y => y.link == 9 && y.sent.isSome && !y.dead) = some bwrite := by decide +kernel
theorem test_hyp_TagsInUseAreNotReused :
    let g : RTag := ⟨4, 0, 255, 0, 4, 0⟩
    let d : Dev := { win 1 with brg := { tags := [(9 * 256 + 0, some g)] } }
    d.btag 9 0 = some g ∧ 0 < 256 ∧ (10 ≠ 9 ∨ 0 ≠ 0) ∧ 255 < 256 ∧ d.freeTag 9 = some 1 ∧ 0 < 1 := by decide +kernel
theorem test_hyp_PollsEventsAndTheChain :
    let d := linkUp 511 [message 0x41 (leBytes 8 0)] (up.wr (LNK_IDENT_DATA 511 14) 2)
    let e := linkUp 511 [message 0x43 (leBytes 2 1 ++ leBytes 2 0 ++ leBytes 4 5)] up
    let q : Dev := { up with brg := { evq := [(9, 3)] } }
    (d.flitting 511 = true ∧ d.polls 511 = true ∧ d.brg.polled.get 511 0 = 0) ∧ (d.takeMsg 511 0x41).isSome = true
      ∧ (e.takeMsg 511 0x43).isSome = true ∧ (up.hubOff = false ∧ up.addrOff BRG_EVQ = false ∧ up.brg.evq = [] ∧ q.brg.evq = (9, 3) :: [] ∧ 9 < 2 ^ 14)
      ∧ ((∀ i ∈ List.range 64, up.brg.btn.get i 0 = 0) ∧ ∀ i ∈ List.range 64, up.flag (BRG_BAY_LED_BTN i) = false) := by decide +kernel

/-! ## Hypotheses met: bays, power and faults -/

theorem test_hyp_BaysStartAndStop :
    let p := up.wr (BAY_STATUS_PRESENT 63) 1
    let w := up.wrs [(BAY_STATUS_STATE 63, 1), (BAY_STATUS_FEED_B_OK 63, 1)]
    let pg := (up.wr (BAY_STATUS_STATE 63) 3).setBay 63 { pgRun := 2 ^ 20 }
    let on := (up.wrs [(BAY_STATUS_STATE 63, 4), (BAY_STATUS_PG 63, 1), (BAY_STATUS_GATE_A_ON 63, 1)]).setBay 63 { timer := 2 ^ 20 }
    let off := up.setBay 63 { offAt := some 0 }
    let short := (upP.wr (BAY_STATUS_STATE 63) 7)
    let g := fun d : Dev => (d.wrs [(gateFld 63 false, 0), (feedOk 63 false, 0)]).setBay 63 { d.bayT 63 with trim := 0 }
    (up.pwr.mode ≠ 5 ∧ up.pwr.mode ≠ 2 ∧ up.flag (BAY_STATUS_PRESENT 63) = false ∧ p.flag (BAY_STATUS_PRESENT 63) = true)
      ∧ (w.nextBay = some 63 ∧ w.startsOk = true ∧ w.starting < w.rd BAY_GROUP_SIZE ∧ up.nextBay = none
        ∧ Dev.startsOk { w with pwr := { w.pwr with mode := 5 } } = false ∧ (w.wr BAY_GROUP_SIZE 1).rd BAY_GROUP_SIZE
          ≤ ((w.wr BAY_GROUP_SIZE 1).wr (BAY_STATUS_STATE 3) 3).starting)
      ∧ (pg.bayState 63 = 3 ∧ (pg.bayT 63).timer = 0 ∧ pg.rd (BAY_RAMP_PG_DELAY 63) ≤ (pg.bayT 63).pgRun)
      ∧ (on.flag (BAY_STATUS_PG 63) = true ∧ on.powered 63 = true ∧ 0 < (on.bayT 63).timer ∧ on.timerDone 63 = true)
      ∧ ((g up).powered 63 = false ∧ on.flag (gateFld 63 false) = true ∧ (on.wr (feedOk 63 false) 1).powered 63 = true
        ∧ (up.wr (feedOk 63 false) 1).powered 63 = false
        ∧ (let f := (g on).fault { unit := .bay 63, src := 3, detail := 0 }
           f.powered 63 = true ∧ f.flag (BAY_STATUS_GATE_A_ON 63) = false ∧ f.flag (BAY_STATUS_GATE_B_ON 63) = false))
      ∧ (off.flag (BAY_STATUS_GATE_A_ON 63) = false ∧ off.flag (BAY_STATUS_GATE_B_ON 63) = false
        ∧ off.flag (BAY_STATUS_DISCHARGING 63) = false ∧ (off.bayT 63).offAt ≠ none ∧ off.bayState 63 ≠ 7)
      ∧ up.setupOpen (BAY_CTRL 63) = true
      ∧ ((adm upP 0xA2 [(4, 64)]).adminReady 0 0xA2 = true ∧ (adm upP 0xA2 [(4, 63), (5, 2)]).adminReady 0 0xA2 = true
        ∧ ((adm upP 0xA2 [(4, 63), (5, 2)]).started 0).bayState 63 ≠ 7 ∧ (adm short 0xA2 [(4, 63)]).adminReady 0 0xA2 = true
        ∧ ((adm short 0xA2 [(4, 63)]).started 0).bayState 63 = 7
        ∧ (adm upP 0xA2 [(4, 63)]).adminReady 0 0xA2 = true ∧ (adm upP 0xA2 [(4, 63), (5, 1)]).adminReady 0 0xA2 = true
        ∧ (adm upP 0xA2 [(4, 0), (5, 3)]).adminReady 0 0xA2 = true) := by decide +kernel
theorem test_hyp_NoMoreBaysStartThanTheGroupAllows :
    let w := up.wrs [(BAY_STATUS_STATE 63, 1), (BAY_STATUS_FEED_B_OK 63, 1), (BAY_STATUS_STATE 3, 1), (BAY_STATUS_FEED_A_OK 3, 1)]
    w.nextBay = some 3 ∧ 63 < 64 ∧ w.canStart 63 = true := by decide +kernel
theorem test_hyp_LedgerAndLogsAreRead :
    let a := adm upP 0xD0 [(4, 3), (0x10, 32)]
    let x := adm upP 0xD0 [(4, 4), (0x10, 32)]
    let l := adm upP 0xD2 [(4, 1), (0x10, 64)]
    let k : Dev := { l with scrub := [⟨0, 0, 0, 1, 0, 0, 0, 0, 0, 0⟩], flt := { l.flt with hist := [⟨0, 1, 0, 0, 0, 0, 0, 0, 0⟩], histSeq := 1 } }
    up.hubOff = false ∧ (a.adminReady 0 0xD0 = true ∧ darg (a.entry 0).desc 4 1 = 3 ∧ x.adminReady 0 0xD0 = true ∧ 3 < darg (x.entry 0).desc 4 1)
      ∧ (l.adminReady 0 0xD2 = true ∧ ((l.started 0).logFrom 1 0).take 2 = [])
      ∧ (k.adminReady 0 0xD2 = true ∧ (((k.started 0).logFrom 1 0).take 2).flatten ≠ [] ∧ 1 ≤ darg (k.entry 0).desc 4 1 ∧ darg (k.entry 0).desc 4 1 ≤ 6)
      ∧ (∀ d ∈ [a.started 0, k.started 0], (d.entry 0).instar = d.sliceInstar 0 ∧ d.egressBarred 0 = false ∧ d.egressWaits 0 = false
        ∧ d.canIssue (d.slicePort 0) = true) := by decide +kernel
theorem test_hyp_StateRequestsAreEvaluated :
    let dorm : Dev := { upP with pwr := { upP.pwr with mode := 1 } }
    let fat := upP.wrs [(AON_WAKE_ARM_ACT, 0xFF)]
    let mir := upP.wr AON_MIRROR_LEN_VALUE 0xFFFFFFFF
    let busy := mir.wr SLC_GLOBAL_INSTAR_BUSY 1
    let pend := upP.wr GLB_POWER_STATUS_PENDING 1
    (dorm.pwr.mode = 1 ∧ 9500 < fat.budget ∧ upP.budget ≤ 9500 ∧ upP.rd AON_MIRROR_LEN_VALUE = 0)
      ∧ (mir.rd AON_MIRROR_LEN_VALUE ≠ 0 ∧ mir.mirrorNeed ≤ mir.rd AON_MIRROR_LEN_VALUE ∧ mir.flag SLC_GLOBAL_INSTAR_BUSY = false)
      ∧ (busy.flag SLC_GLOBAL_INSTAR_BUSY = true ∧ upP.setupOpen GLB_POWER_CMD = true ∧ (upP.opened GLB_POWER_CMD).stateBusy = false
        ∧ pend.setupOpen GLB_POWER_CMD = true ∧ (pend.opened GLB_POWER_CMD).stateBusy = true)
      ∧ ((adm upP 0xB0 [(4, 3)]).adminReady 0 0xB0 = true ∧ (adm upP 0xB0 [(4, 2)]).stateBusy = false ∧ (adm upP 0xB0 [(4, 2)]).adminReady 0 0xB0 = true)
      ∧ ((adm upP 0xB1 [(0x10, 0xFFFFFFFF)]).adminReady 0 0xB1 = true
        ∧ ((adm upP 0xB1 [(0x10, 0xFFFFFFFF)]).started 0).mirrorNeed ≤ darg ((adm upP 0xB1 [(0x10, 0xFFFFFFFF)]).entry 0).desc 0x10 4
        ∧ ((adm upP 0xB1 []).adminReady 0 0xB1 = true ∧ 0 < ((adm upP 0xB1 []).started 0).mirrorNeed)) := by decide +kernel
theorem test_hyp_EntriesDrainAndUnwind :
    let q : PReq := ⟨2, none, 6, false, 0, false, false, false, false, false, 0, none⟩
    let at_ := fun q : PReq => ({ up with pwr := { up.pwr with req := some q } } : Dev)
    let two : PReq := { q with step := 2 }
    let one : PReq := { two with target := 1 }
    let woken : PReq := { q with wake := true }
    let pull := hread 0 0 .mirror 0x1000 256
    let re : PReq := { q with step := 4, reload := true, result := some 2 }
    let d := fun q : PReq => ({ (at_ q) with reads := [pull] } : Dev)
    ((at_ q).pwr.req = some q ∧ q.reload = false ∧ q.target = 2 ∧ (q.wake = false ∧ q.port = false ∧ q.drain = false)
        ∧ ¬(woken.wake = false ∧ woken.port = false ∧ woken.drain = false))
      ∧ ((at_ two).drained two = true ∧ (at_ one).drained one = true ∧ two.target ≠ 1 ∧ one.target = 1 ∧ { q with step := 1 }.step = 1)
      ∧ (let three := { q with step := 3 }
         let a : Dev := { upP with pwr := { upP.pwr with req := some three } }
         let last := fun d : Dev => Power.req (Dev.pwr (d.ledgerLast.writeMirror.wr AON_MIRROR_STATUS_PHASE 0))
         last a = some three ∧ last (a.wr (HP_STATUS_EGRESS_HOLD 0) 1) = some { three with port := true } ∧ three.step < 4)
      ∧ ((d re).pwr.req = some re ∧ re.reload = true ∧ (d re).hubOff = false ∧ (d re).pwr.mode ≠ 3
        ∧ (d re).reads.findIdx (fun r => r.why == .mirror) = 0 ∧ (d re).reads[0]? = some pull ∧ pull.issued = true ∧ pull.last = true
        ∧ Power.req (Dev.pwr ((d re).endRead 0)) = some re ∧ Power.mode (Dev.pwr ((d re).endRead 0)) ≠ 3
        ∧ headerResult [] 0 [] 0 ≠ 1 ∧ re.step ≠ 6 ∧ { re with step := 6 }.step = 6)
      ∧ { q with step := 7 }.step = 7 := by decide +kernel
/-- A mirror's header that its own checks pass, of ten empty sections, DSN `x` and SEQ 5. -/
def mirHead (x : Nat) : List Byte := leBytes 4 0x5252494D ++ leBytes 2 1 ++ leBytes 2 0 ++ leBytes 8 x ++ leBytes 4 5 ++ leBytes 232 0
def mirBytes (x : Nat) : List Byte := mirHead x ++ leBytes 4 (crc32c (mirHead x)).toNat ++ []
theorem mirBytes_dsn (x : Nat) : leAt (mirBytes x) 8 8 = x % 2 ^ 64 := by
  have h : mirBytes x = (leBytes 4 0x5252494D ++ leBytes 2 1 ++ leBytes 2 0) ++ (leBytes 8 x
      ++ (leBytes 4 5 ++ (leBytes 232 0 ++ leBytes 4 (crc32c (mirHead x)).toNat))) := by
    simp only [mirBytes, mirHead, List.append_assoc, List.append_nil]
  rw [h]
  refine (leAt_mid _ _ _ (by decide) (by simp [leBytes])).trans ?_
  simp [leBytes, leNat]
  omega
theorem test_hyp_WakesStartEclosions :
    let z : Dev := { up.wr AON_REG_LOW_POWER 1 with pwr := { up.pwr with mode := 2 } }
    let q : PReq := ⟨2, none, 7, false, 0, false, false, false, false, false, 0, none⟩
    let e : Dev := { up with pwr := { up.pwr with req := some q } }
    let armed := z.wrs [(AON_WAKE_ARM_FEED, 1), (AON_WAKE_ARM_AUX, 1), (AON_WAKE_ARM_ACT, 0xFF), (AON_WAKE_ARM_PAT, 0x80)]
    let spot : Dev := { z with pwr := { z.pwr with banks := [(5, { regs := [((EVC_SRC_CFG_EYESPOT 47).key, 1)] })] } }
    (armed.flag AON_WAKE_ARM_FEED = true ∧ armed.flag AON_WAKE_ARM_AUX = true ∧ bit (armed.rd AON_WAKE_ARM_ACT) 7 = true
        ∧ bit (armed.rd AON_WAKE_ARM_PAT) 7 = true ∧ bit (armed.rd AON_WAKE_ARM_PAT) 0 = false ∧ bit (armed.rd AON_WAKE_ARM_ACT) 0 = true)
      ∧ (armed.pwr.mode = 2 ∧ armed.pwr.blocked = false ∧ armed.rd AON_STATE_PHASE = 0)
      ∧ (up.pwr.mode ≠ 2 ∧ up.pwr.req = none ∧ e.pwr.req = some q ∧ q.target = 2 ∧ q.step = 7
        ∧ { q with step := 3 }.step ≠ 7 ∧ { q with target := 1 }.target ≠ 2
        ∧ ({ e with pwr := { e.pwr with req := some { q with target := 1 } } } : Dev).pwr.req = some { q with target := 1 })
      ∧ (let w := (z.wr AON_STATE_PHASE 2).wrs [(AON_WAKE_LAST_CODE, 4)]
         let near := fun (d : Dev) c => d.now ≤ d.rd64 AON_WAKE_TIME_LO_NS AON_WAKE_TIME_HI_NS + 10000 ∧ d.rd AON_WAKE_LAST_CODE ≠ c
         w.pwr.mode = 2 ∧ w.pwr.blocked = false ∧ w.rd AON_STATE_PHASE ≠ 0 ∧ near w 5 ∧ ¬near w 4
          ∧ Power.blocked { z.pwr with blocked := true } = true)
      ∧ ((up.wr AON_WAKE_ARM_FEED 0).flag AON_WAKE_ARM_FEED = false ∧ (z.wr AON_WAKE_ARM_AUX 0).flag AON_WAKE_ARM_AUX = false ∧ bit (z.rd AON_WAKE_ARM_ACT) 0 = false)
      ∧ (srcEligible 47 = true ∧ up.hubOff = false ∧ (up.wr (EVC_SRC_CFG_EYESPOT 47) 1).flag (EVC_SRC_CFG_EYESPOT 47) = true
        ∧ up.flag (EVC_SRC_CFG_EYESPOT 47) = false)
      ∧ ((spot.pwr.banks.get 5 {}).regs.get (EVC_SRC_CFG_EYESPOT 47).key (resetField (EVC_SRC_CFG_EYESPOT 47).key) = 1 ∧ 47 < 448
        ∧ spot.pwr.blocked = false ∧ spot.rd AON_STATE_PHASE = 0 ∧ srcEligible 511 = true
        ∧ (z.wr AON_WAKE_ARM_PRESENCE 1).flag AON_WAKE_ARM_PRESENCE = true
        ∧ (z.pwr.banks.get 5 {}).regs.get (EVC_SRC_CFG_EYESPOT 47).key (resetField (EVC_SRC_CFG_EYESPOT 47).key) ≠ 1)
      ∧ (z.flag AON_REG_LOW_POWER = true ∧ up.flag AON_REG_LOW_POWER = false) := by decide +kernel
theorem test_hyp_EclosionsRestoreTheDevice :
    let z : Dev := { up.wr AON_STATE_PHASE 2 with pwr := { up.pwr with mode := 2, banks := (List.range 6).map (fun i => (i, { no := i })) } }
    let lost := fun bad : Nat => listMask ((List.range 6).filter (fun i => !z.bankPasses bad i))
    let e3 : Dev := { upP with pwr := { upP.pwr with mode := 3, gddr := true, fw := true } }
    let m : Mirror := ⟨5, 0, 0, [], [], [], [], {}, [], [], [], [], [], [], [], none, 0, [], [], []⟩
    let p := hread 0 0 .mirror 0x1000 256
    let pull : Dev := { e3.wr AON_SEAL_COUNT_COUNT 6 with reads := [p], pwr := { e3.pwr with pulling := true, mirror := some m } }
    let wait : Dev := { up with pwr := { up.pwr with mode := 3, e5Since := some 0 } }
    let inc := up.wr AON_STATE_INCOMPLETE 1
    (z.pwr.mode = 2 ∧ z.rd AON_STATE_PHASE = 2 ∧ z.flag AON_REG_BROWNOUT_SEEN = false)
      ∧ (lost 0 = 0 ∧ lost 2 ≠ 0 ∧ bit (lost 2) 0 = false ∧ bit (lost 1) 0 = true)
      ∧ (e3.pwr.mode = 3 ∧ e3.flt.grave = false ∧ e3.flag GLB_GRAVE_DEVICE = false ∧ (e3.wr GLB_GRAVE_DEVICE 1).flag GLB_GRAVE_DEVICE = true)
      ∧ (e3.pwr.gddr = true ∧ e3.pwr.fw = true ∧ e3.pwr.pulling = false ∧ bit (e3.rd AON_CHRYSALIS_STATUS_BANK_LOST) 4 = false
        ∧ bit ((e3.wr AON_CHRYSALIS_STATUS_BANK_LOST 16).rd AON_CHRYSALIS_STATUS_BANK_LOST) 4 = true ∧ e3.canIssue e3.mgrPort = true
        ∧ e3.egressHeld e3.mgrPort = false ∧ (e3.setPort 0 { e3.port 0 with bme := false }).canIssue 0 = false)
      ∧ (let b := z.wr AON_REG_BROWNOUT_SEEN 1
         b.pwr.mode = 2 ∧ b.rd AON_STATE_PHASE = 2 ∧ b.flag AON_REG_BROWNOUT_SEEN = true)
      ∧ (pull.pwr.mode = 3 ∧ pull.pwr.pulling = true ∧ pull.pwr.mirror = some m ∧ m.seq = (pull.rd AON_SEAL_COUNT_COUNT + 2 ^ 32 - 1) % 2 ^ 32 ∧ 2 ≠ 1
        ∧ pull.reads.findIdx (fun r => r.why == .mirror) = 0 ∧ pull.reads[0]? = some p ∧ p.issued = true ∧ p.last = true ∧ pull.hubOff = false)
      ∧ (wait.pwr.e5Since = some 0 ∧ wait.pwr.pulling = false ∧ (wait.port wait.mgrPort).bme = false)
      ∧ (inc.setupOpen AON_ECLOSION_ACK = true ∧ (inc.opened AON_ECLOSION_ACK).flag AON_STATE_INCOMPLETE = true) := by decide +kernel
theorem test_hyp_EclosionsRestoreTheDevice_headers :
    (let b := mirBytes Config.dsn.toNat
     b.length = 256 ∧ leAt b 0 4 = 0x5252494D ∧ leAt b 4 2 = 1 ∧ leAt b 0xFC 4 = (crc32c (b.take 0xFC)).toNat ∧ leAt b 0x18 4 = (0#32).toNat
      ∧ (∀ i ∈ List.range 10, leAt b (0x28 + 16 * i) 4 = (([] : List (BitVec 32)).getD i 0).toNat) ∧ leAt b 0x10 4 = 5)
      ∧ leAt (mirBytes Config.dsn.toNat) 8 8 = Config.dsn.toNat ∧ leAt (mirBytes (Config.dsn.toNat + 1)) 8 8 ≠ Config.dsn.toNat
      ∧ ([] : List Byte).length ≠ 256 := by
  have n := Config.dsn.isLt
  have a := mirBytes_dsn Config.dsn.toNat
  have b := mirBytes_dsn (Config.dsn.toNat + 1)
  refine ⟨⟨by decide +kernel, by decide +kernel, by decide +kernel, crc_tail (mirHead _) [] (by decide +kernel), by decide +kernel, by decide +kernel,
    by decide +kernel⟩, by omega, by omega, by decide⟩
/-- A device that saved bank 4 and is restored from it. -/
def warm : Dev := up.wr GLB_THERM_CFG_WARN_C 0x55
def saved : Dev := { ({} : Dev) with pwr := { banks := [(4, warm.saveBank 4 false)] } }
theorem test_hyp_BanksReturnWhatTheySaved : 1 ≤ 4 ∧ 4 ≤ 5 ∧ saved.pwr.banks.get 4 {} = warm.saveBank 4 false
    ∧ (∀ g : Fld, g.lo < 32 → warm.inBank 4 g.addr = true → saved.rd g = resetField g.key)
    ∧ (GLB_THERM_CFG_WARN_C.lo < 32 ∧ warm.inBank 4 GLB_THERM_CFG_WARN_C.addr = true
      ∧ GLB_THERM_CFG_WARN_C.key ≠ BAY_GROUP_STARTING.key ∧ ∀ n ∈ List.range 8, GLB_THERM_CFG_WARN_C.key ∉
        [HP_STATUS_SPEED n, HP_STATUS_WIDTH n, HP_STATUS_FLIT n, HP_STATUS_DSTATE n, HP_STATUS_EGRESS_HOLD n].map Fld.key) :=
  ⟨by decide, by decide, rfl, fun _ _ _ => rfl, by decide +kernel⟩
theorem test_hyp_FaultEventsAreCaptured :
    let v := up.wr (FAULT_STATUS_VALID (.lane 511)) 1
    let t := up.wrs [(GLB_TEST_FACTORY, 1), (GLB_TEST_UNLOCKED, 1)]
    let half : Dev := { t with flt := { t.flt with unlockHalf := true } }
    let w : FWin := ⟨unitBase (.mem 15), 2, 3, 0, 1⟩
    (up.unpoweredUnit (.lane 511) = false ∧ faultSrc (.lane 511) 6 = some ⟨1, 1, 1, 0, 1⟩ ∧ up.flag (FAULT_STATUS_VALID (.lane 511)) = false
        ∧ v.flag (FAULT_STATUS_VALID (.lane 511)) = true)
      ∧ (faultSrc (.bay 63) 5 = some ⟨3, 0, 0, 0, 0⟩ ∧ up.flag (FAULT_STATUS_VALID (.bay 63)) = false)
      ∧ (faultSrc .sch 3 = some ⟨3, 0, 0, 0, 0⟩ ∧ (FUnit.sch, 2) ∈ [(FUnit.mgt, 1), (FUnit.sch, 2), (FUnit.aon, 3)])
      ∧ (unitFull .jnl = true ∧ unitFull (.lane 511) = false ∧ 15 < 16 ∧ 3 < 4)
      ∧ (up.setupOpen (FAULT_STATUS .jnl) = true ∧ bit (1#32).toNat 0 = true ∧ bit (1#32).toNat 7 = false ∧ bit (0x80#32).toNat 7 = true)
      ∧ (up.setupOpen (FAULT_INJECT .jnl) = true ∧ Dev.injectLive (up.opened (FAULT_INJECT .jnl)) = false
        ∧ t.setupOpen (FAULT_INJECT .jnl) = true ∧ Dev.injectLive (t.opened (FAULT_INJECT .jnl)) = true
        ∧ faultSrc .jnl ((0x12#32).toNat % 16) = some ⟨1, 8, 1, 1, 1⟩ ∧ bit (0x12#32).toNat 4 = true ∧ bit (2#32).toNat 4 = false)
      ∧ (half.pwr.por = false ∧ half.flag GLB_TEST_FACTORY = true ∧ half.flt.unlockHalf = true ∧ t.flt.unlockHalf = false)
      ∧ ({ up with flt := { wins := [w] } } : Dev).flt.wins.find? (fun w => w.unit == unitBase (.mem 15) && w.src == 2 && w.inst == 3) = some w := by
  decide +kernel
theorem test_hyp_TheNthEventInAWindowEscalates :
    2 < 16 ∧ 1 ≠ 2 ∧ 0 < up.winLen (unitBase .xbar) 2 ∧ up.flt.wins = [] ∧ 0 + 1 < up.rd (FAULT_CLASS_CFG_N .xbar 2) := by decide +kernel

/-! ## Hypotheses met: spares, tests, cold start and memory -/

/-- `upP` with a SWITCH-less image whose octant 0 designates backfill of kind 2 (engine test). -/
def tests : Dev := fed { img with octs := [⟨[0#64], []⟩], backfill := [⟨2, 0, 0, 0⟩] } upP
theorem test_hyp_SparesTestsAndCores_spares :
    let c := fun (d : Dev) (k u : Nat) => adm d 0xC0 [(4, k), (6, u)]
    let busy := upP.wr SLC_GLOBAL_INSTAR_BUSY 1
    let one : Dev := { upP with mgt := { upP.mgt with swaps := [⟨1, 63, 70, 71, [], none, none⟩] } }
    let none_ := (List.range 9).foldl (fun d i => Dev.wr d (ENG_STATUS_STATE (63 + i)) 1) upP
    let spare := none_.wr (ENG_STATUS_STATE 71) 2
    let planes := upP.wrs [(SPR_PLANE_IN_USE, 0xFF), (SPR_PLANE_RETIRED, 15)]
    let full := upP.wrs [(SPR_PLANE_IN_USE, 0x1FF), (SPR_PLANE_RETIRED, 15)]
    let wire : Dev := { upP with mgt := { upP.mgt with wires := [1023] } }
    let used := upP.wr (wireUsed 7 127) 2
    let four : Dev := { planes with mgt := { planes.mgt with swaps := [⟨4, 7, 7, 8, [], none, none⟩, ⟨5, 9, 9, 9, [], none, none⟩] } }
    ((c four 4 7).adminReady 0 0xC0 = true ∧ Dev.swapOf ((c four 4 7).started 0) 4 7 ≠ none ∧ Dev.swapOf ((c four 5 9).started 0) 5 9 ≠ none
        ∧ four.mgt.wires.contains 9 = false ∧ (c four 5 9).adminReady 0 0xC0 = true)
      ∧ ((c upP 2 3).adminReady 0 0xC0 = true ∧ ¬(2 = 1 ∧ 3 < 64) ∧ ¬(2 = 4 ∧ 3 < 9) ∧ ¬(2 = 5 ∧ 3 < 1024)
        ∧ (c upP 1 64).adminReady 0 0xC0 = true ∧ ¬(1 = 1 ∧ 64 < 64))
      ∧ ((c busy 1 63).adminReady 0 0xC0 = true ∧ ((c busy 1 63).started 0).flag SLC_GLOBAL_INSTAR_BUSY = true)
      ∧ ((c one 1 63).adminReady 0 0xC0 = true ∧ Dev.pendingSwap ((c one 1 63).started 0) 63 ≠ none)
      ∧ ((c spare 1 63).adminReady 0 0xC0 = true ∧ Dev.pendingSwap ((c spare 1 63).started 0) 63 = none
        ∧ Dev.octEng ((c spare 1 63).started 0) (63 / 8) 2 = some 71 ∧ Dev.octEng ((c none_ 1 63).started 0) (63 / 8) 2 = none)
      ∧ ((c planes 4 8).adminReady 0 0xC0 = true ∧ bit (planes.rd SPR_PLANE_IN_USE) 8 = false ∧ bit (planes.rd SPR_PLANE_IN_USE) 7 = true
        ∧ planes.rd SPR_PLANE_RETIRED ≠ 7 ∧ Dev.swapOf ((c planes 4 7).started 0) 4 7 = none ∧ Dev.sparePlane ((c planes 4 7).started 0) = some 8
        ∧ Dev.sparePlane ((c full 4 7).started 0) = none)
      ∧ ((c wire 5 1023).adminReady 0 0xC0 = true ∧ wire.mgt.wires.contains 1023 = true ∧ upP.mgt.wires.contains 1023 = false
        ∧ Dev.swapOf upP 5 1023 = none ∧ upP.wireSpare 1023 = true ∧ used.wireSpare 1023 = false) := by decide +kernel
theorem test_hyp_SparesTestsAndCores_tests :
    let c := fun (d : Dev) (k u t : Nat) => adm d 0xC1 [(4, k), (6, u), (8, t)]
    let e := tests.wr (ENG_STATUS_STATE 8) 2
    let lane := upP.wrs [(BAY_STATUS_PG 63, 1), (LNK_CTRL_ENABLE 511, 1)]
    let planes := upP.wrs [(SPR_PLANE_IN_USE, 0xFF), (SPR_PLANE_RETIRED, 15)]
    let ready := upP.wr MGT_STATUS_STANDBY_READY 1
    ((c upP 8 0 0).adminReady 0 0xC1 = true ∧ 7 < 8 ∧ ((c upP 8 0 0).started 0).flag SLC_GLOBAL_INSTAR_BUSY = false)
      ∧ ((c e 1 8 1).adminReady 0 0xC1 = true ∧ e.eng.tests.get 8 0 = 0 ∧ e.rd (ENG_STATUS_STATE 8) = 2 ∧ e.testRuns (8 / 9) = true)
      ∧ (let k := (upP.wrs [(ENG_STATUS_STATE 3, 1), (ENG_MAP_BOUND 3, 1), (ENG_MAP_PHYS 3, 3), (ENG_STATUS_STATE 8, 2)])
         let b := adm (upP.wr SLC_GLOBAL_INSTAR_BUSY 1) 0xC1 [(4, 1), (6, 3), (8, 1)]
         (c k 1 3 1).adminReady 0 0xC1 = true ∧ k.eng.tests.get 3 0 = 0 ∧ Dev.rd ((c k 1 3 1).started 0) (ENG_STATUS_STATE 3) = 1
          ∧ (List.range 64).find? (fun e => Dev.flag ((c k 1 3 1).started 0) (ENG_MAP_BOUND e) && Dev.rd ((c k 1 3 1).started 0) (ENG_MAP_PHYS e) == 3)
            = some 3
          ∧ Dev.pendingSwap ((c k 1 3 1).started 0) 3 = none ∧ (Dev.octEng ((c k 1 3 1).started 0) 0 2).isSome = true
          ∧ b.adminReady 0 0xC1 = true ∧ Dev.flag (b.started 0) SLC_GLOBAL_INSTAR_BUSY = true)
      ∧ ((c lane 2 511 2).adminReady 0 0xC1 = true ∧ lane.laneTestable 511 = true ∧ upP.laneTestable 511 = false)
      ∧ ((c upP 3 7 5).adminReady 0 0xC1 = true ∧ 3 ≤ 5)
      ∧ ((c planes 4 8 6).adminReady 0 0xC1 = true ∧ planes.sparePlane = some 8 ∧ planes.mgt.planeTest = none)
      ∧ ((c ready 7 1 7).adminReady 0 0xC1 = true ∧ 1 ≠ ready.rd MGT_STATUS_ACTIVE_CORE ∧ ready.flag MGT_STATUS_STANDBY_READY = true
        ∧ ready.mgt.selfTest = none) := by decide +kernel
theorem test_hyp_SparesTestsAndCores_ends :
    let t : Dev := { tests.wr (ENG_STATUS_STATE 8) 3 with eng := { tests.eng with tests := [(8, 1)], testCells := [(8, 65536)] } }
    let a : OctAct := ⟨7, 5, none, none, true, true⟩
    let m : Dev := { upP with mgt := { upP.mgt with planeTest := some 0, selfTest := some 1, octs := [a], recovering := some 0 } }
    let lost1 := upP.wr MGT_STATUS_MCB_LOST 1
    let f := fun (d : Dev) (c : Nat) => d.fault { unit := .mgt, src := 3, detail := c }
    let ready := upP.wrs [(MGT_STATUS_STANDBY_READY, 1), (MGT_STATUS_MCB_LOST, 0), (MGT_STATUS_MCA_LOST, 0)]
    let alone := ready.wr MGT_STATUS_STANDBY_READY 0
    (t.eng.tests.get 8 0 = 0 + 1 ∧ t.rd (ENG_STATUS_STATE 8) = 3 ∧ t.testRuns (8 / 9) = true ∧ 65536 ≤ t.eng.testCells.get 8 0)
      ∧ (m.mgt.planeTest = some 0 ∧ m.mgt.selfTest = some 1 ∧ m.mgt.recovering = some 0)
      ∧ (a.code = 5 ∧ a.cmd = none)
      ∧ (upP.hubOff = false ∧ upP.flag GLB_BOOT_FW_FAIL = false ∧ lost1.flag MGT_STATUS_MCA_LOST = false ∧ lost1.flag MGT_STATUS_MCB_LOST = true ∧ ready.flag MGT_STATUS_MCA_LOST = false
        ∧ ready.flag MGT_STATUS_MCB_LOST = false)
      ∧ ((ready.wr MGT_STATUS_MCA_LOST 1).flag MGT_STATUS_MCB_LOST = false ∧ (f (ready.wr MGT_STATUS_MCA_LOST 1) 0).rd MGT_STATUS_ACTIVE_CORE = 0
        ∧ (f (ready.wr MGT_STATUS_MCA_LOST 1) 0).flag MGT_STATUS_STANDBY_READY = true
        ∧ (f (alone.wr MGT_STATUS_MCA_LOST 1) 0).flag MGT_STATUS_STANDBY_READY = false
        ∧ (f (ready.wr MGT_STATUS_MCB_LOST 1) 1).rd MGT_STATUS_ACTIVE_CORE ≠ 1)
      ∧ (let c3 : Dev := { ready with pwr := { ready.pwr with mode := 4 } }
         c3.hubOff = false ∧ (f (c3.wr MGT_STATUS_MCA_LOST 1) 0).rd MGT_STATUS_ACTIVE_CORE = 0 ∧ (f (c3.wr MGT_STATUS_MCA_LOST 1) 0).pwr.mode = 4
          ∧ (f (ready.wr MGT_STATUS_MCA_LOST 1) 0).pwr.mode ≠ 4) := by decide +kernel
theorem test_hyp_AtMostOneSwapPerEngine :
    let d : Dev := { upP with mgt := { upP.mgt with swaps := [⟨1, 63, 70, 71, [], none, none⟩, ⟨4, 63, 0, 8, [], none, none⟩] } }
    (∀ u ∈ List.range 72, (d.mgt.swaps.filter (fun w => w.kind == 1 && w.unit == u)).length ≤ 1) ∧ d.pendingSwap 63 ≠ none := by decide +kernel
theorem test_hyp_ColdStartsAndTemperature :
    let off : Dev := { ({} : Dev) with pwr := { ({} : Power) with por := false } }
    let c3 : Dev := { up with pwr := { up.pwr with mode := 4 } }
    (({} : Dev).pwr.por = true ∧ off.pwr.mode = 5 ∧ off.pwr.por = false ∧ off.pwr.blocked = false)
      ∧ (c3.pwr.mode = 4 ∧ c3.flag GLB_BOOT_FW_FAIL = false ∧ c3.rd GLB_STRAP_TEST_MODE ≠ 1 ∧ c3.rd GLB_STRAP_TEST_MODE ≠ 3 ∧ c3.flag GLB_GRAVE_DEVICE = false
        ∧ c3.flag MGT_STATUS_MCA_LOST = false ∧ c3.flag MGT_STATUS_MCB_LOST = false)
      ∧ (up.pwr.por = false ∧ up.hubOff = false ∧ (0#12).toNat < 8 * up.rd GLB_THERM_CFG_WARN_BP_C ∧ 8 * up.rd GLB_THERM_CFG_WARN_C ≤ (0x7FF#12).toNat)
      ∧ (up.setupOpen (GLB_TEMP 10) = true ∧ bit (0x10000000#32).toNat 28 = true) := by decide +kernel
theorem test_hyp_MemoryAndFirmware :
    let raw : Dev := { up with pwr := { up.pwr with trained := false } }
    let w := fun (d : Dev) (a v : Nat) => (d.opened a).writeWord a v
    let lay := up.wr MEM_LAYOUT_SYS_BASE_MIB 14208
    let dorm : Dev := { up with pwr := { up.pwr with mode := 1 } }
    let tr := up.wr MEM_TRAIN_BUSY 1
    let fw := fun (x : Nat) => adm upP 0xD1 [(4, x), (0x10, 2 ^ 20)]
    let staged : Dev := { fw 1 with mgt := { upP.mgt with staged := some 1 } }
    let ing : Dev := { up with mgt := { up.mgt with staging := some 0 } }
    (raw.setupOpen MEM_TRAIN = true ∧ bit (1#32).toNat 0 = true ∧ (w raw MEM_TRAIN 1).flag MEM_TRAIN_BUSY = false ∧ (w raw MEM_TRAIN 1).pwr.trained = false)
      ∧ (lay.setupOpen MEM_STAGE = true ∧ (lay.opened MEM_STAGE).pwr.trained = true ∧ (lay.opened MEM_STAGE).liveSlices = [0]
        ∧ 256 + 13952 ≤ (lay.opened MEM_STAGE).rd MEM_LAYOUT_SYS_BASE_MIB
        ∧ ((256 + 13952) * 2 ^ 20 ≤ (lay.opened MEM_STAGE).jnlBase ∨ (lay.opened MEM_STAGE).jnlEnd ≤ 256 * 2 ^ 20))
      ∧ (dorm.setupOpen SPR_MEMTEST = true ∧ bit (0x10#32).toNat 4 = true ∧ (dorm.opened SPR_MEMTEST).flag SPR_MEMTEST_BUSY = false
        ∧ (w dorm SPR_MEMTEST 0x10).pwr.mode = 1 ∧ (dorm.wr SPR_MEMTEST_BUSY 1).flag SPR_MEMTEST_BUSY = true)
      ∧ (tr.hubOff = false ∧ tr.flag MEM_TRAIN_BUSY = true ∧ ¬(tr.flag MEM_GEOMETRY_VDDQ = true ∧ 16 < tr.rd MEM_GEOMETRY_RATE_GBPS) ∧ 1#16 ≠ 0#16
        ∧ (let b := tr.wrs [(MEM_GEOMETRY_VDDQ, 1), (MEM_GEOMETRY_RATE_GBPS, 18)]
           b.flag MEM_GEOMETRY_VDDQ = true ∧ 16 < b.rd MEM_GEOMETRY_RATE_GBPS ∧ b.flag MEM_TRAIN_BUSY = true))
      ∧ ((fw 0).adminReady 0 0xD1 = true ∧ (fw 0).flag GLB_POWER_STATUS_PENDING = false ∧ (fw 0).flag GLB_PROFILE_STATUS_PENDING = false
        ∧ (fw 0).mgt.staging = none ∧ (fw 0).pwr.mode = 0 ∧ darg ((fw 0).entry 0).desc 0x10 4 ≤ 2 ^ 20)
      ∧ (staged.adminReady 0 0xD1 = true ∧ staged.mgt.staged = some 1 ∧ (fw 1).mgt.staged = none ∧ darg ((fw 1).entry 0).desc 4 1 = 1
        ∧ 1 < darg ((fw 2).entry 0).desc 4 1 ∧ (fw 2).adminReady 0 0xD1 = true)
      ∧ ((Dev.hostRead ((fw 0).started 0) 0 (darg ((fw 0).entry 0).desc 8 8) (2 ^ 20) false (.firmware 0 0)).1 = true
        ∧ (let n := (fw 0).setPort 0 { (fw 0).port 0 with bme := false }
           n.adminReady 0 0xD1 = true ∧ (Dev.hostRead (n.started 0) 0 (darg (n.entry 0).desc 8 8) (2 ^ 20) false (.firmware 0 0)).1 = false))
      ∧ (let r := hread 0 0 (.firmware 0 0) 0 256
         let k : Dev := { fw 0 with reads := [r], mgt := { upP.mgt with staging := some 0, fwReading := true } }
         k.hubOff = false ∧ k.reads[0]? = some r ∧ r.issued = true ∧ r.last = true ∧ r.why = .firmware 0 (Dev.entry (k.endRead 0) 0).serial
          ∧ Dev.mgt (k.endRead 0) = k.mgt)
      ∧ (ing.mgt.staging = some 0 ∧ ing.mgt.fwReading = false) := by decide +kernel
theorem test_hyp_VstbyItemsSurvivePowerLoss :
    bit ((up.wr BAY_SHORTED_HI_BAY 0x80000000).rd BAY_SHORTED_LO_BAY + 2 ^ 32 * (up.wr BAY_SHORTED_HI_BAY 0x80000000).rd BAY_SHORTED_HI_BAY) 63 = true
      ∧ GLB_PROFILE_RATE.lo < 32 ∧ vstbyHeld GLB_PROFILE_RATE.addr = false ∧ GLB_PROFILE_RATE.addr / 4096 < 0x1400
      ∧ (∀ g ∈ [SCH_SIGN_ENFORCE, GLB_THERM_STATUS_TRIP, GLB_THERM_STATUS_TRIP_DIE, AON_CHRYSALIS_STATUS_B0_RUN,
        AON_REG_BROWNOUT_SEEN, AON_REG_TIME_SUSPECT, HP_STATUS_MGR up.mgrPort], g.key ≠ GLB_PROFILE_RATE.key) := by decide +kernel

/-! ## Values worked out from the manual -/

/-- An epoch is 65,536 units of 40 ps: epoch 1 begins in nanosecond 2,622, its first whole one (R12). -/
theorem test_epoch : ({ now := 2621 } : Dev).epoch = 0 ∧ ({ now := 2622 } : Dev).epoch = 1 ∧ epochStart 1 = 2622 := by decide
/-- 0x80 × 2 leaves the field's modulus, 0x11D less its top bit (R142). -/
theorem test_field : gfMul 0x80 2 = 0x1D ∧ gfMul 0x8E 2 = 1 ∧ gfInv 2 = 0x8E := by decide
/-- The check value of CRC-32C, of the digits 1 to 9. -/
theorem test_crc32c : crc32c [0x31#8, 0x32#8, 0x33#8, 0x34#8, 0x35#8, 0x36#8, 0x37#8, 0x38#8, 0x39#8] = 0xE3069283#32 := by decide +kernel
/-- SHA-384 of "abc" begins CB00753F 45A35E8B (FIPS 180-4). -/
theorem test_sha384 : (sha384 [0x61#8, 0x62#8, 0x63#8]).take 8 = [0xCB#8, 0x00#8, 0x75#8, 0x3F#8, 0x45#8, 0xA3#8, 0x5E#8, 0x8B#8] := by decide +kernel
/-- A read claim of target 7 gives the lowest of two sources of equal priority (R431). -/
theorem test_claim : (ev 7).best 7 = some 1 := by decide +kernel
/-- The second half of the key unlocks; the first half alone does not (R47). -/
theorem test_key : let d := (setupKeyWrite 0x5120 (up.wr GLB_SETUP_LOCK_LOCKED 1))
    d.keyHalf = true ∧ d.flag GLB_SETUP_LOCK_LOCKED = true ∧ (setupKeyWrite 0xFFFFAEDF d).flag GLB_SETUP_LOCK_LOCKED = false := by decide +kernel
/-- A W1C field is cleared by the bit written 1 and by no other (R3). -/
theorem test_w1c : let d := up.wr GLB_SETUP_LOCK_LOCKED_WRITE 1
    (d.writeWord GLB_SETUP_LOCK_LOCKED_WRITE.addr (2 ^ GLB_SETUP_LOCK_LOCKED_WRITE.lo)).rd GLB_SETUP_LOCK_LOCKED_WRITE = 0
      ∧ (d.writeWord GLB_SETUP_LOCK_LOCKED_WRITE.addr 0).rd GLB_SETUP_LOCK_LOCKED_WRITE = 1 := by decide +kernel
/-- POR_N released with the manager on port 5: stage 2, PWR_EN asserted, the manager's port marked (R494, R496). -/
theorem test_por_release : let d := porRelease 5 0 0 0 {}
    d.pwr.por = false ∧ d.rd GLB_BOOT_STAGE = 2 ∧ d.out = [.pwrEn true] ∧ d.mgrPort = 5 ∧ d.flag (HP_STATUS_MGR 5) = true := by decide +kernel
/-- After reset the set-up space is locked and the hub has no power (R17, R47). -/
theorem test_reset_is_locked : State.reset.dev.flag GLB_SETUP_LOCK_LOCKED = true ∧ State.reset.dev.hubOff = true := by decide

end Sys2Proof.Tests
end

section
/-! PROOFS. The epoch as a function of DEVICE_TIME alone: how long it is and when it starts (R12, R168). -/
namespace Sys2Proof.Machine

/-- The epoch reads the time and nothing else, so two devices at one time are in one epoch, whatever their profiles. -/
theorem Dev.epoch_eq_of_now_eq {d f : Dev} (h : d.now = f.now) : d.epoch = f.epoch :=
  congrArg (· * 25 / 65536) h

/-- A nanosecond is 25 units of 40 ps, an epoch 65,536 of them. -/
theorem Dev.le_epoch_iff (d : Dev) (e : Nat) : e ≤ d.epoch ↔ e * 65536 ≤ d.now * 25 :=
  Nat.le_div_iff_mul_le (by decide)

theorem Dev.epoch_lt_iff (d : Dev) (e : Nat) : d.epoch < e ↔ d.now * 25 < e * 65536 :=
  Nat.div_lt_iff_lt_mul (by decide)

theorem Dev.epoch_eq_iff (d : Dev) (e : Nat) :
    d.epoch = e ↔ e * 65536 ≤ d.now * 25 ∧ d.now * 25 < (e + 1) * 65536 := by
  rw [← d.le_epoch_iff, ← d.epoch_lt_iff]
  omega

/-- `epochStart` rounds up: it is the least whole nanosecond that has `e` epochs behind it. -/
theorem epochStart_le_iff (e t : Nat) : epochStart e ≤ t ↔ e * 65536 ≤ t * 25 := by
  unfold epochStart
  omega

theorem Dev.epochStart_le_now_iff (d : Dev) (e : Nat) : epochStart e ≤ d.now ↔ e ≤ d.epoch :=
  (epochStart_le_iff e d.now).trans (d.le_epoch_iff e).symm

/-- Settles O5: DEVICE_TIME alone gives the epoch, so its length and its start follow from the bounds of the division by
65,536, and another content of the registers leaves it as it is. -/
theorem epochLengthIsTheSameInEveryProfile : Obligations.EpochLengthIsTheSameInEveryProfile :=
  fun d e => ⟨d.epoch_eq_iff e, d.epochStart_le_now_iff e, fun _ => Dev.epoch_eq_of_now_eq rfl⟩

end Sys2Proof.Machine
end

section
/-! PROOFS. The code's field (R142). Shift-and-add sums the bytes a, x · a, x² · a, … that the other factor selects, so
every byte is built from 1 by exclusive OR and multiplication by x, and the laws of multiplication are proved by induction
on how a factor is built. -/
namespace Sys2Proof.Machine

theorem gfX_zero : gfX 0#8 = 0#8 := by decide

/-- Multiplication by x as one exclusive OR, whose second operand is the reduction by the top bit. -/
theorem gfX_eq_shift_xor (a : Byte) : gfX a = (a <<< 1) ^^^ (if a.getLsbD 7 then 0x1D#8 else 0#8) := by
  unfold gfX
  split <;> simp

/-- Choosing by a bit is additive, both in the bit and in what is chosen. -/
theorem ite_xor_bit (p q : Bool) (a : Byte) :
    (if (p ^^ q) then a else 0#8) = (if p then a else 0#8) ^^^ (if q then a else 0#8) := by
  cases p <;> cases q <;> simp

theorem ite_xor_byte (p : Bool) (a b : Byte) :
    (if p then a ^^^ b else 0#8) = (if p then a else 0#8) ^^^ (if p then b else 0#8) := by
  cases p <;> simp

theorem gfX_xor (a b : Byte) : gfX (a ^^^ b) = gfX a ^^^ gfX b := by
  simp only [gfX_eq_shift_xor, BitVec.shiftLeft_xor_distrib, BitVec.getLsbD_xor, ite_xor_bit]
  ac_rfl

theorem gfMulN_xor_right (n : Nat) (a b c : Byte) : gfMulN n a (b ^^^ c) = gfMulN n a b ^^^ gfMulN n a c := by
  induction n generalizing a b c with
  | zero => simp [gfMulN]
  | succ n ih =>
    simp only [gfMulN, BitVec.getLsbD_xor, BitVec.ushiftRight_xor_distrib, ite_xor_bit, ih]
    ac_rfl

theorem gfMulN_xor_left (n : Nat) (a b c : Byte) : gfMulN n (a ^^^ b) c = gfMulN n a c ^^^ gfMulN n b c := by
  induction n generalizing a b c with
  | zero => simp [gfMulN]
  | succ n ih =>
    simp only [gfMulN, gfX_xor, ite_xor_byte, ih]
    ac_rfl

theorem gfMulN_gfX_left (n : Nat) (a b : Byte) : gfMulN n (gfX a) b = gfX (gfMulN n a b) := by
  induction n generalizing a b with
  | zero => simp [gfMulN, gfX_zero]
  | succ n ih => simp only [gfMulN, gfX_xor, ih, apply_ite gfX, gfX_zero]

theorem gfMul_xor_right (a b c : Byte) : gfMul a (b ^^^ c) = gfMul a b ^^^ gfMul a c := gfMulN_xor_right 8 a b c

theorem gfMul_xor_left (a b c : Byte) : gfMul (a ^^^ b) c = gfMul a c ^^^ gfMul b c := gfMulN_xor_left 8 a b c

theorem gfMul_gfX_left (a b : Byte) : gfMul (gfX a) b = gfX (gfMul a b) := gfMulN_gfX_left 8 a b

theorem gfMul_one_left : ∀ b : Byte, gfMul 1 b = b := by decide

/-- What holds of `a` and is kept by exclusive OR and by multiplication by x holds of every product of `a`. -/
theorem gfMulN_induction {P : Byte → Prop} (zero : P 0#8) (xor : ∀ a b, P a → P b → P (a ^^^ b))
    (mulX : ∀ a, P a → P (gfX a)) (n : Nat) (a b : Byte) (ha : P a) : P (gfMulN n a b) := by
  induction n generalizing a b with
  | zero => exact zero
  | succ n ih =>
    refine xor _ _ ?_ (ih _ _ (mulX _ ha))
    split
    · exact ha
    · exact zero

/-- Every byte is a sum of the powers of x, so it is built from 1 by exclusive OR and multiplication by x. -/
theorem gf_induction {P : Byte → Prop} (one : P 1) (xor : ∀ a b, P a → P b → P (a ^^^ b))
    (mulX : ∀ a, P a → P (gfX a)) (a : Byte) : P a := by
  have zero : P 0#8 := xor 1 1 one one
  have product : P (gfMul 1 a) := gfMulN_induction zero xor mulX 8 1 a one
  rwa [gfMul_one_left] at product

theorem gfMul_gfX_right (a b : Byte) : gfMul a (gfX b) = gfX (gfMul a b) := by
  induction a using gf_induction with
  | one => simp only [gfMul_one_left]
  | xor a c iha ihc => simp only [gfMul_xor_left, gfX_xor, iha, ihc]
  | mulX a ih => simp only [gfMul_gfX_left, ih]

theorem gfMul_one_right (a : Byte) : gfMul a 1 = a := by
  induction a using gf_induction with
  | one => exact gfMul_one_left 1
  | xor a c iha ihc => rw [gfMul_xor_left, iha, ihc]
  | mulX a ih => rw [gfMul_gfX_left, ih]

theorem gfMul_comm (a b : Byte) : gfMul a b = gfMul b a := by
  induction a using gf_induction with
  | one => rw [gfMul_one_left, gfMul_one_right]
  | xor a c iha ihc => rw [gfMul_xor_left, gfMul_xor_right, iha, ihc]
  | mulX a ih => rw [gfMul_gfX_left, gfMul_gfX_right, ih]

theorem gfMul_assoc (a b c : Byte) : gfMul a (gfMul b c) = gfMul (gfMul a b) c := by
  induction a using gf_induction with
  | one => simp only [gfMul_one_left]
  | xor a d iha ihd => simp only [gfMul_xor_left, iha, ihd]
  | mulX a ih => simp only [gfMul_gfX_left, ih]

theorem gfMul_two (a : Byte) : gfMul a 2 = gfX a :=
  calc gfMul a 2 = gfX (gfMul a 1) := gfMul_gfX_right a 1
    _ = gfX a := by rw [gfMul_one_right]

theorem gfMul_left_comm (a b c : Byte) : gfMul a (gfMul b c) = gfMul b (gfMul a c) := by
  rw [gfMul_assoc, gfMul_comm a b, ← gfMul_assoc]

theorem gfMul_zero (a : Byte) : gfMul a 0 = 0 := by
  simpa using gfMul_xor_right a 0 0

/-- Squaring: additive, since twice a product is 0, and multiplicative. -/
def gfSquare (a : Byte) : Byte := gfMul a a

theorem gfSquare_xor (a b : Byte) : gfSquare (a ^^^ b) = gfSquare a ^^^ gfSquare b := by
  unfold gfSquare
  rw [gfMul_xor_left, gfMul_xor_right, gfMul_xor_right, gfMul_comm b a, BitVec.xor_assoc, ← BitVec.xor_assoc (gfMul a b),
    BitVec.xor_self, BitVec.zero_xor]

theorem gfSquare_gfMul (a b : Byte) : gfSquare (gfMul a b) = gfMul (gfSquare a) (gfSquare b) := by
  unfold gfSquare
  rw [← gfMul_assoc, gfMul_left_comm b, gfMul_assoc]

theorem gfSquare_iterate_xor (n : Nat) (a b : Byte) : gfSquare^[n] (a ^^^ b) = gfSquare^[n] a ^^^ gfSquare^[n] b := by
  induction n generalizing a b with
  | zero => rfl
  | succ n ih => simp only [Function.iterate_succ_apply, gfSquare_xor, ih]

theorem gfSquare_iterate_gfMul (n : Nat) (a b : Byte) :
    gfSquare^[n] (gfMul a b) = gfMul (gfSquare^[n] a) (gfSquare^[n] b) := by
  induction n generalizing a b with
  | zero => rfl
  | succ n ih => simp only [Function.iterate_succ_apply, gfSquare_gfMul, ih]

/-- The 256th power of every byte is the byte itself, because it is so for 1 and for x. -/
theorem gfSquare_iterate_eight (a : Byte) : gfSquare^[8] a = a := by
  have powerOfX : gfSquare^[8] 2 = 2 := by decide
  induction a using gf_induction with
  | one => decide
  | xor a b iha ihb => rw [gfSquare_iterate_xor, iha, ihb]
  | mulX a ih => rw [← gfMul_two, gfSquare_iterate_gfMul, ih, powerOfX]

/-- The product of the first `n + 1` repeated squares of `a`: of its powers 2, 4, 8, …, 2 ^ (n + 1). -/
def gfSquares (a : Byte) : Nat → Byte
  | 0 => gfSquare a
  | n + 1 => gfMul (gfSquare^[n + 2] a) (gfSquares a n)

theorem gfInv_eq_gfSquares (a : Byte) : gfInv a = gfSquares a 6 := rfl

theorem gfMul_gfSquare_gfSquares (a : Byte) (n : Nat) : gfMul (gfSquare a) (gfSquares a n) = gfSquare^[n + 2] a := by
  induction n with
  | zero => rfl
  | succ n ih => rw [gfSquares, gfMul_left_comm, ih, Function.iterate_succ_apply' _ (n + 2), gfSquare]

theorem gfMul_self_gfMul_gfInv (a : Byte) : gfMul a (gfMul a (gfInv a)) = a :=
  calc gfMul a (gfMul a (gfInv a)) = gfMul (gfSquare a) (gfSquares a 6) := gfMul_assoc a a _
    _ = gfSquare^[8] a := gfMul_gfSquare_gfSquares a 6
    _ = a := gfSquare_iterate_eight a

/-- The field polynomial does not split into two coprime factors, each of which would give a further byte that is its own
square. -/
theorem eq_zero_or_one_of_gfMul_self : ∀ e : Byte, gfMul e e = e → e = 0 ∨ e = 1 := by decide

/-- `a` times its 254th power is its own square, and is not 0 because `a` times it is `a`. -/
theorem gfMul_gfInv (a : Byte) (ha : a ≠ 0) : gfMul a (gfInv a) = 1 := by
  have idempotent : gfMul (gfMul a (gfInv a)) (gfMul a (gfInv a)) = gfMul a (gfInv a) := by
    rw [gfMul_assoc (gfMul a (gfInv a)), gfMul_comm (gfMul a (gfInv a)) a, gfMul_self_gfMul_gfInv]
  obtain product | product := eq_zero_or_one_of_gfMul_self _ idempotent
  · have := gfMul_self_gfMul_gfInv a
    rw [product, gfMul_zero] at this
    exact absurd this.symm ha
  · exact product

/-- Settles O22: the laws of multiplication follow from those of multiplication by x, by induction on a factor; that the
254th power inverts follows from the 256th power of a byte being the byte and 0 and 1 alone being their own squares. -/
theorem fieldMultiplicationIsModulo11D : Obligations.FieldMultiplicationIsModulo11D :=
  ⟨gfMul_xor_right, gfMul_comm, gfMul_assoc, gfMul_one_right, gfMul_two, gfMul_gfInv, by decide, by decide⟩

end Sys2Proof.Machine
end

section
/-! PROOFS. BRG_READ_LIMIT ends the port's read that arrived first (R345), which need not be the first in the order of the
bridge: a read that stalled for a sleeping octant keeps its arrival and joins the order when it is carried out (R401). -/
namespace Sys2Proof.Machine

theorem Dev.stalledRead_eq_none {d : Dev} (n : Nat) (stalls : d.pwr.stalls = []) : d.stalledRead n = none := by
  simp [Dev.stalledRead, stalls]

/-- The outcome of a host read without a tag of its own whose BRG_READ_LIMIT expires (R345). -/
def Dev.readTimesOut (d : Dev) (r : BRead) : Dev :=
  (((d.advance (r.since + 100000 * d.rd BRG_READ_LIMIT_LIMIT)).readAborts r 1).dropRead r).forward r.link

theorem readLimitExpire_eq_readTimesOut {d : Dev} {n : Nat} {r : BRead} (stalls : d.pwr.stalls = [])
    (oldest : d.oldestRead n = some r) (tag : r.tag = none) : readLimitExpire n d = d.readTimesOut r := by
  simp [readLimitExpire, Dev.readTimesOut, Dev.stalledRead_eq_none n stalls, oldest, tag]

theorem exec_readLimitExpire {s : State} {n : Fin 8} {r : BRead} (stalls : s.dev.pwr.stalls = [])
    (oldest : s.dev.oldestRead n.val = some r) (tag : r.tag = none) :
    exec (.readLimitExpire n) s = .next (s.settled (s.dev.readTimesOut r)) :=
  (State.run_eq (readLimitExpire n.val) s).trans (by rw [readLimitExpire_eq_readTimesOut stalls oldest tag])

/-- A read of window 0 that arrived at 1 ns and waits for its page from link 9. -/
def readQueuedFirst : BRead := ⟨0, 0, 9, 0, 4, 15, 1, 0, none, true, true⟩
/-- A read of window 1 that arrived at 0 ns, stalled for octant 1 until it was ready, and then waits for its page from link 73. -/
def readArrivedFirst : BRead := ⟨0, 1, 73, 0, 4, 15, 0, 1, none, true, true⟩

/-- The device back from DORMANT, where octant 0 was awake and octant 1 was not: both windows are open, both links ACTIVE, both
reads under way and the page each waits for in flight. -/
def replayedReadWaits : Dev :=
  Dev.wrs
    { ({} : Dev) with
      now := 1
      pwr := { mode := 0, por := false, trained := true }
      brg := {
        tags := [(9 * 256, some ⟨2, 0, 0, 0, 4096, 1⟩), (73 * 256, some ⟨2, 0, 1, 0, 4096, 1⟩)]
        reads := [readQueuedFirst, readArrivedFirst]
        pages := [⟨0, 0, 9, 0, some 0, false, 1, [], false, 1, false⟩, ⟨0, 1, 73, 0, some 0, false, 1, [], false, 1, false⟩]
        seq := 2 } }
    [(BRG_WIN_CTRL_LOG2SIZE 0 0, 12), (BRG_WIN_CTRL_LINK 0 0, 9), (BRG_WIN_CTRL_PREFETCHABLE 0 0, 1), (BRG_WIN_CTRL_ENABLE 0 0, 1),
      (BRG_WIN_BASE_LO_ADDR 0 1, 1), (BRG_WIN_CTRL_LOG2SIZE 0 1, 12), (BRG_WIN_CTRL_LINK 0 1, 73), (BRG_WIN_CTRL_PREFETCHABLE 0 1, 1),
      (BRG_WIN_CTRL_ENABLE 0 1, 1), (LNK_STATE_FIRST 9, 1), (LNK_STATE_STATE 9, 6), (LNK_STATE_FIRST 73, 1), (LNK_STATE_STATE 73, 6)]

/-- The read that arrived first is the second in the bridge's order. -/
theorem oldestRead_replayedReadWaits : replayedReadWaits.oldestRead 0 = some readArrivedFirst := by decide +kernel

theorem reads_after_readArrivedFirst_timesOut :
    (replayedReadWaits.readTimesOut readArrivedFirst).settleAll.brg.reads = [readQueuedFirst] := by decide +kernel

theorem reads_after_readQueuedFirst_timesOut :
    (replayedReadWaits.readTimesOut readQueuedFirst).settleAll.brg.reads = [readArrivedFirst] := by decide +kernel

/-- Refutes O42, by its clause on BRG_READ_LIMIT: it lets the limit end the port's first read in the bridge's order, but the
limit runs from a read's arrival (R345), so here the command ends the second, which stalled for a sleeping octant. -/
theorem not_hostRequestsCrossTheBridge : ¬ Obligations.HostRequestsCrossTheBridge := by
  unfold Obligations.HostRequestsCrossTheBridge
  intro h
  let s : State := { dev := replayedReadWaits, pending := [] }
  obtain ⟨-, -, -, -, -, readLimit, -⟩ := h s 0 0 (by decide +kernel) (by decide +kernel) (by decide +kernel)
  have claimed : exec (.readLimitExpire 0) s = .next (s.settled (replayedReadWaits.readTimesOut readQueuedFirst)) :=
    readLimit readQueuedFirst rfl rfl rfl
  have actual : exec (.readLimitExpire 0) s = .next (s.settled (replayedReadWaits.readTimesOut readArrivedFirst)) :=
    exec_readLimitExpire rfl oldestRead_replayedReadWaits rfl
  have same := Host.Outcome.next.inj (actual.symm.trans claimed)
  have sameReads : [readQueuedFirst] = [readArrivedFirst] :=
    calc [readQueuedFirst] = (s.settled (replayedReadWaits.readTimesOut readArrivedFirst)).dev.brg.reads := by
          rw [State.settled_dev, reads_after_readArrivedFirst_timesOut]
      _ = (s.settled (replayedReadWaits.readTimesOut readQueuedFirst)).dev.brg.reads := by rw [same]
      _ = [readArrivedFirst] := by rw [State.settled_dev, reads_after_readQueuedFirst_timesOut]
  exact absurd sameReads (by decide)

end Sys2Proof.Machine
end

section
/-! PROOFS. Settling leaves every enabled window bound (R338): the windows settle after everything that can free a slice, and what
settles behind them writes none of the registers that say which window is on, its slice, or that slice's state. -/
namespace Sys2Proof.Machine

/-! ### The Reset value of a window's ENABLE -/

/-- A row ends below every offset from its last stride on. -/
theorem Row.at_eq_none_of_end_le {r : Row} {a : Nat} (h : r.base + r.stride1 * r.count1 ≤ a) (pos : 0 < r.stride1) : r.at a = none := by
  have : r.count1 ≤ (a - r.base) / r.stride1 := (Nat.le_div_iff_mul_le pos).2 (by rw [Nat.mul_comm]; omega)
  exact if_neg fun holds => absurd holds.2.2.1 (by omega)

theorem findRow_append_of_end_le {l : List Row} {a : Nat} (h : ∀ r ∈ l, r.base + r.stride1 * r.count1 ≤ a ∧ 0 < r.stride1)
    (rest : List Row) : findRow (l ++ rest) a = findRow rest a := by
  induction l with
  | nil => rfl
  | cons r l ih =>
    obtain ⟨ends, pos⟩ := h r (List.mem_cons_self ..)
    rw [List.cons_append, findRow, Row.at_eq_none_of_end_le ends pos]
    exact ih fun x hx => h x (List.mem_cons_of_mem _ hx)

/-- The fields of BRG_WIN_CTRL, all of whose Reset values are 0 (R336). -/
def winCtrlFields : List RField :=
  [⟨0, 1, .rw, 0, 0, 1⟩, ⟨1, 1, .rw, 0, 0, 1⟩, ⟨2, 1, .rw, 0, 0, 1⟩, ⟨3, 1, .rw, 0, 0, 1⟩, ⟨8, 6, .rw, 0, 0, 63⟩, ⟨16, 9, .rw, 0, 0, 511⟩]

theorem unitAt_winCtrl {n w : Nat} (hn : n < 8) (hw : w < 256) : unitAt (BRG_WIN_CTRL n w) = none := by
  unfold unitAt BRG_WIN_CTRL
  by_cases h : (0x1010000 + 0x2000 * n + 0x20 * w) % 0x1000 < 0xF00
  · exact if_pos h
  · dsimp only
    rw [if_neg h]
    repeat rw [if_neg (by omega)]

theorem regFields_winCtrl {n w : Nat} (hn : n < 8) (hw : w < 256) : regFields (BRG_WIN_CTRL n w) = some winCtrlFields := by
  have block : rowsOf (BRG_WIN_CTRL n w) = rowsBRG.take 9 ++ rowsBRG.drop 9 := by
    unfold rowsOf BRG_WIN_CTRL
    repeat rw [if_neg (by omega)]
    rw [if_pos (by omega), List.take_append_drop]
  have below : ∀ r ∈ rowsBRG.take 9, r.base + r.stride1 * r.count1 ≤ BRG_WIN_CTRL 0 0 ∧ 0 < r.stride1 := by decide
  have row : Row.at ⟨0x1010000, 0x2000, 8, 0x20, 256, fun _ _ => winCtrlFields⟩ (BRG_WIN_CTRL n w) = some winCtrlFields := by
    unfold BRG_WIN_CTRL
    exact if_pos (by dsimp only; omega)
  rw [regFields, unitAt_winCtrl hn hw]
  dsimp only
  rw [block, findRow_append_of_end_le fun r hr => ⟨(below r hr).1.trans (by unfold BRG_WIN_CTRL; omega), (below r hr).2⟩]
  exact (by rw [findRow, row] : findRow (⟨0x1010000, 0x2000, 8, 0x20, 256, fun _ _ => winCtrlFields⟩ :: rowsBRG.drop 10) _ = _)

theorem resetField_winCtrl_enable {n w : Nat} (hn : n < 8) (hw : w < 256) : resetField (BRG_WIN_CTRL_ENABLE n w).key = 0 := by
  have register : (BRG_WIN_CTRL_ENABLE n w).key / 32 = BRG_WIN_CTRL n w := by
    simp only [BRG_WIN_CTRL_ENABLE, Fld.key]
    omega
  have bit : (BRG_WIN_CTRL_ENABLE n w).key % 32 = 0 := by
    simp only [BRG_WIN_CTRL_ENABLE, Fld.key]
    omega
  rw [resetField, register, regFields_winCtrl hn hw, bit]
  rfl

/-! ### The windows that settling looks at -/

/-- A table that reads other than its default at a key has an entry of that key. -/
theorem Tab.mem_of_get_ne {α : Type} {t : Tab α} {k : Nat} {z : α} (h : Tab.get t k z ≠ z) : (k, Tab.get t k z) ∈ t := by
  induction t with
  | nil => exact absurd rfl h
  | cons e t ih =>
    rw [Tab.get_cons] at h ⊢
    split at h
    · next same => rw [if_pos same, ← same]; exact List.mem_cons_self ..
    · next other => rw [if_neg other]; exact List.mem_cons_of_mem _ (ih h)

/-- The windows whose ENABLE the field store holds as 1. -/
def Dev.enabledWindows (d : Dev) : List (Nat × Nat) :=
  d.regs.filterMap (fun e =>
    let a := e.1 / 32
    let o := a - 0x1010000
    if 0x1010000 ≤ a ∧ a < 0x1020000 ∧ o % 0x20 = 0 ∧ e.1 % 32 = 0 ∧ e.2 = 1 then some (o / 0x2000, o % 0x2000 / 0x20) else none)

/-- One window under settling. -/
def Dev.settleWindow (d : Dev) (w : Nat × Nat) : Dev :=
  if d.sliceState (d.winSlice w.1 w.2) = 0 then d.winGone w.1 w.2 5 else d

theorem Dev.settleWindows_eq (d : Dev) : d.settleWindows = d.enabledWindows.foldl Dev.settleWindow d := rfl

theorem Dev.mem_enabledWindows {d : Dev} {n w : Nat} (hn : n < 8) (hw : w < 256) (on : d.winOn n w = true) : (n, w) ∈ d.enabledWindows := by
  have one : d.rd (BRG_WIN_CTRL_ENABLE n w) = 1 := by simpa [Dev.winOn, Dev.flag] using on
  have entry : ((BRG_WIN_CTRL_ENABLE n w).key, 1) ∈ d.regs := by
    rw [← one]
    exact Tab.mem_of_get_ne (one.trans_ne (by rw [resetField_winCtrl_enable hn hw]; exact Nat.one_ne_zero))
  refine List.mem_filterMap.2 ⟨_, entry, ?_⟩
  have key : (BRG_WIN_CTRL_ENABLE n w).key = 32 * (0x1010000 + 0x2000 * n + 0x20 * w) := by
    simp only [BRG_WIN_CTRL_ENABLE, Fld.key, BRG_WIN_CTRL]
    omega
  have register : 32 * (0x1010000 + 0x2000 * n + 0x20 * w) / 32 = 0x1010000 + 0x2000 * n + 0x20 * w := by omega
  have offset : 0x1010000 + 0x2000 * n + 0x20 * w - 0x1010000 = 0x2000 * n + 0x20 * w := by omega
  simp only [key, register, offset]
  rw [if_pos ⟨by omega, by omega, by omega, by omega, trivial⟩, (by omega : (0x2000 * n + 0x20 * w) / 0x2000 = n), (by omega : (0x2000 * n + 0x20 * w) % 0x2000 / 0x20 = w)]

/-! ### What bounds a window is left alone -/

/-- Two blocks in which the same windows are on, with the same slices in the same states. -/
def Dev.sameWindows (d e : Dev) : Prop :=
  ∀ n w, n < 8 → w < 256 → e.winOn n w = d.winOn n w ∧ e.sliceState (e.winSlice n w) = d.sliceState (d.winSlice n w)

theorem Dev.windowsBound_of_sameWindows {d e : Dev} (h : d.sameWindows e) (bound : d.windowsBound) : e.windowsBound := by
  intro n w hn hw on
  obtain ⟨sameOn, sameState⟩ := h n w hn hw
  rw [sameState]
  exact bound n w hn hw (sameOn ▸ on)

theorem Dev.sameWindows_refl (d : Dev) : d.sameWindows d := fun _ _ _ _ => ⟨rfl, rfl⟩

theorem Dev.sameWindows.trans {d e f : Dev} (h : d.sameWindows e) (h' : e.sameWindows f) : d.sameWindows f := fun n w hn hw =>
  ⟨(h' n w hn hw).1.trans (h n w hn hw).1, (h' n w hn hw).2.trans (h n w hn hw).2⟩

theorem Dev.sameWindows_of_regs {d e : Dev} (h : e.regs = d.regs) : d.sameWindows e := fun n w _ _ => by
  simp only [Dev.winOn, Dev.sliceState, Dev.winSlice, Dev.flag_congr h, Dev.rd_congr h, and_self]

/-- A field that begins above bit 0 of its register is neither an ENABLE, nor a window's SLICE, nor a slice's STATE. -/
theorem Dev.sameWindows_wr {d : Dev} {f : Fld} (v : Nat) (h : f.key % 32 ≠ 0) : d.sameWindows (d.wr f v) := fun n w _ _ => by
  have other (g : Fld) (hg : g.lo = 0) : (d.wr f v).rd g = d.rd g :=
    Dev.rd_wr_ne _ _ _ _ fun same => h (by rw [← same, Fld.key, hg]; omega)
  simp only [Dev.winOn, Dev.sliceState, Dev.winSlice, Dev.flag, other (BRG_WIN_CTRL_ENABLE n w) rfl, other (BRG_WIN_SLICE_SLICE n w) rfl,
    other (SLC_STATE_STATE _) rfl, and_self]

/-- Steps each of which leaves the windows as they are do so one after the other. -/
theorem Dev.sameWindows_foldl {α : Type} {f : Dev → α → Dev} (h : ∀ (d : Dev) (x : α), d.sameWindows (f d x)) (l : List α) (d : Dev) :
    d.sameWindows (l.foldl f d) := by
  induction l generalizing d with
  | nil => exact d.sameWindows_refl
  | cons x l ih => exact (h d x).trans (ih (f d x))

/-! ### The windows settle -/

/-- A window that goes leaves the registers other than its BRG_WIN_CTRL and BRG_WIN_STATE alone. -/
theorem Dev.rd_winGone_ne {d : Dev} {n w : Nat} {f : Fld} (lo : f.lo = 0) (ctrl : f.addr ≠ BRG_WIN_CTRL n w)
    (state : f.addr ≠ BRG_WIN_STATE n w) : (d.winGone n w 5).rd f = d.rd f := by
  rw [Dev.winGone, Dev.rd_wrs_ne]
  · rfl
  · simp only [List.mem_cons, List.not_mem_nil, or_false, forall_eq_or_imp, forall_eq, BRG_WIN_CTRL_ENABLE, BRG_WIN_STATE_STATE,
      BRG_WIN_STATE_REASON, Fld.key]
    omega

theorem Dev.rd_winGone_enable (d : Dev) (n w : Nat) : (d.winGone n w 5).rd (BRG_WIN_CTRL_ENABLE n w) = 0 := by
  simp only [Dev.winGone, Dev.wrs_cons, Dev.wrs_nil]
  rw [Dev.rd_wr_ne, Dev.rd_wr_ne, Dev.rd_wr_eq]
  · rfl
  · simp only [BRG_WIN_CTRL_ENABLE, BRG_WIN_STATE_STATE, BRG_WIN_CTRL, BRG_WIN_STATE, Fld.key]
    omega
  · simp only [BRG_WIN_CTRL_ENABLE, BRG_WIN_STATE_REASON, BRG_WIN_CTRL, BRG_WIN_STATE, Fld.key]
    omega

/-- The window is off, or its slice is not FREE. -/
def Dev.windowBound (d : Dev) (x : Nat × Nat) : Prop := d.winOn x.1 x.2 = true → d.sliceState (d.winSlice x.1 x.2) ≠ 0

theorem Dev.sliceState_winGone (d : Dev) (x y : Nat × Nat) :
    (d.winGone x.1 x.2 5).sliceState ((d.winGone x.1 x.2 5).winSlice y.1 y.2) = d.sliceState (d.winSlice y.1 y.2) := by
  have slice : (d.winGone x.1 x.2 5).winSlice y.1 y.2 = d.winSlice y.1 y.2 := by
    rw [Dev.winSlice, Dev.rd_winGone_ne rfl, Dev.winSlice]
    all_goals
      simp only [BRG_WIN_SLICE_SLICE, BRG_WIN_SLICE, BRG_WIN_CTRL, BRG_WIN_STATE]
      omega
  have small : d.winSlice y.1 y.2 < 1024 := Nat.mod_lt _ (by decide)
  rw [slice, Dev.sliceState, Dev.rd_winGone_ne rfl, Dev.sliceState]
  all_goals
    simp only [SLC_STATE_STATE, SLC_STATE, BRG_WIN_CTRL, BRG_WIN_STATE]
    omega

theorem Dev.windowBound_winGone (d : Dev) (x : Nat × Nat) : (d.winGone x.1 x.2 5).windowBound x := fun on => by
  simp [Dev.winOn, Dev.flag, Dev.rd_winGone_enable] at on

/-- A window that goes leaves a window of another register on or off, and one of its own register off. -/
theorem Dev.windowBound_winGone_of {d : Dev} (x : Nat × Nat) {y : Nat × Nat} (h : d.windowBound y) : (d.winGone x.1 x.2 5).windowBound y := by
  by_cases same : BRG_WIN_CTRL y.1 y.2 = BRG_WIN_CTRL x.1 x.2
  · have off := Dev.rd_winGone_enable d x.1 x.2
    rw [BRG_WIN_CTRL_ENABLE, ← same] at off
    intro on
    simp [Dev.winOn, Dev.flag, BRG_WIN_CTRL_ENABLE, off] at on
  · have kept : (d.winGone x.1 x.2 5).rd (BRG_WIN_CTRL_ENABLE y.1 y.2) = d.rd (BRG_WIN_CTRL_ENABLE y.1 y.2) :=
      Dev.rd_winGone_ne rfl same (by simp only [BRG_WIN_CTRL_ENABLE, BRG_WIN_CTRL, BRG_WIN_STATE]; omega)
    rw [Dev.windowBound, Dev.sliceState_winGone, Dev.winOn, Dev.flag, kept]
    exact h

theorem Dev.windowBound_settleWindow (d : Dev) (x : Nat × Nat) : (d.settleWindow x).windowBound x := by
  unfold Dev.settleWindow
  split
  · exact d.windowBound_winGone x
  · next bound => exact fun _ => bound

theorem Dev.windowBound_settleWindow_of {d : Dev} (x : Nat × Nat) {y : Nat × Nat} (h : d.windowBound y) : (d.settleWindow x).windowBound y := by
  unfold Dev.settleWindow
  split
  · exact Dev.windowBound_winGone_of x h
  · exact h

/-- Settling one window after the other binds every window of the list, and keeps every other one bound. -/
theorem Dev.windowBound_foldl_settleWindow (l : List (Nat × Nat)) {y : Nat × Nat} {d : Dev} (h : y ∉ l → d.windowBound y) :
    (l.foldl Dev.settleWindow d).windowBound y := by
  induction l generalizing d with
  | nil => exact h List.not_mem_nil
  | cons x l ih =>
    refine ih fun later => ?_
    by_cases same : y = x
    · exact same ▸ d.windowBound_settleWindow x
    · exact Dev.windowBound_settleWindow_of x (h (by simp [same, later]))

theorem Dev.windowsBound_settleWindows (d : Dev) : d.settleWindows.windowsBound := fun n w hn hw => by
  rw [Dev.settleWindows_eq]
  exact Dev.windowBound_foldl_settleWindow _ (y := (n, w)) fun out on => absurd (Dev.mem_enabledWindows hn hw on) out

/-! ### What settles behind the windows -/

theorem Dev.txMsg_regs (d : Dev) (l vc : Nat) (m : List Byte) : (d.txMsg l vc m).regs = d.regs := by
  unfold Dev.txMsg
  split <;> rfl

theorem Dev.setStream_regs (d : Dev) (l : Nat) (x : Stream) : (d.setStream l x).regs = d.regs := rfl

theorem Dev.sameWindows_settleStreams (d : Dev) : d.sameWindows d.settleStreams := by
  unfold Dev.settleStreams
  refine Dev.sameWindows_foldl (fun e l => Dev.sameWindows_foldl (fun f x => ?_) _ _) _ _
  exact Dev.sameWindows_of_regs (by rw [Dev.setStream_regs, Dev.txMsg_regs])

theorem Dev.sameWindows_testRest (d : Dev) : d.sameWindows d.testRest := by
  refine Dev.sameWindows_foldl (fun e s => ?_) _ _
  split
  · exact e.sameWindows_refl
  · refine Dev.sameWindows_wr _ ?_
    simp only [SLC_STATE_TEST_BUSY, Fld.key]
    omega

theorem Dev.sendLtr_regs (d : Dev) (n : Nat) : (d.sendLtr n).regs = d.regs := by
  simp only [Dev.sendLtr]
  split
  · rfl
  · split <;> rfl

theorem Dev.sameWindows_settleLtr (d : Dev) : d.sameWindows d.settleLtr :=
  Dev.sameWindows_foldl (fun e n => Dev.sameWindows_of_regs (e.sendLtr_regs n)) _ _

theorem Dev.windowsBound_settleAll (d : Dev) : d.settleAll.windowsBound :=
  Dev.windowsBound_of_sameWindows
    (((Dev.sameWindows_settleStreams _).trans (Dev.sameWindows_testRest _)).trans (Dev.sameWindows_settleLtr _))
    (Dev.windowsBound_settleWindows _)

/-- Settles O4: a step ends by settling, whatever it was, and settling leaves every enabled window bound. -/
theorem everyStepLeavesWindowsBound : Obligations.EveryStepLeavesWindowsBound := by
  intro s t h
  have settled : ∃ (r : State) (d : Dev), t = r.settled d := by
    unfold step at h
    split at h
    · exact ⟨s, _, (Host.Outcome.next.inj h).symm⟩
    · next c rest _ =>
      obtain ⟨d, answer⟩ := exec_settled c { s with pending := rest }
      exact ⟨_, d, Host.Outcome.next.inj (h.symm.trans answer)⟩
  obtain ⟨r, d, rfl⟩ := settled
  rw [State.settled_dev]
  exact d.windowsBound_settleAll

end Sys2Proof.Machine
end

section
/-! PROOFS. The ledger as a sum (R388): a charge adds its energy to one slice's total, counter and remainder together, so an
attribution adds the sum of what it charges, and the shares that rounding leaves are charged to slice 0. -/
namespace Sys2Proof.Machine

/-! ### Sums -/

theorem foldl_add_eq_sum {α : Type} (f : α → Nat) (l : List α) : l.foldl (fun a x => a + f x) 0 = (l.map f).sum := by
  rw [List.sum_eq_foldl, List.foldl_map]

theorem foldl_range_add_eq_sum (f : Nat → Nat) (n : Nat) : (List.range n).foldl (fun a i => a + f i) 0 = ∑ i ∈ Finset.range n, f i := by
  induction n with
  | zero => rfl
  | succ n ih => rw [List.range_succ, List.foldl_append, ih, Finset.sum_range_succ, List.foldl_cons, List.foldl_nil]

/-- Shares in proportion, each rounded down, are together no more than the whole. -/
theorem sum_shares_le {α : Type} (pot c : Nat) (f : α → Nat) (l : List α) (hc : c = (l.map f).sum) (pos : c ≠ 0) :
    (l.map (fun x => pot * f x / c)).sum ≤ pot := by
  have scaled (l : List α) : (l.map (fun x => pot * f x / c)).sum * c ≤ pot * (l.map f).sum := by
    induction l with
    | nil => simp
    | cons x l ih =>
      have := Nat.div_mul_le_self (pot * f x) c
      simp only [List.map_cons, List.sum_cons, Nat.add_mul, Nat.mul_add]
      omega
  exact Nat.le_of_mul_le_mul_right (hc ▸ scaled l) (Nat.pos_of_ne_zero pos)

/-! ### A slice's energy under a charge -/

/-- A slice's energy in nanojoules: its counter in millijoules, and the remainder carried. -/
def Dev.energy (d : Dev) (s : Nat) : Nat := 1000000 * d.rd64 (SLC_ENERGY_LO_MJ s) (SLC_ENERGY_HI_MJ s) + d.bay.remainder.get s 0

/-- The nanojoules at which a slice's 48-bit counter wraps. -/
def energyWrap : Nat := 1000000 * 2 ^ 48

theorem Dev.wr64_bay (d : Dev) (lo hi : Fld) (v : Nat) : (d.wr64 lo hi v).bay = d.bay := rfl

/-- A pair of registers of 32 and 16 bits reads as the 48-bit number written to it. -/
theorem Dev.rd64_wr64 (d : Dev) {lo hi : Fld} {v : Nat} (low : lo.width = 32) (high : hi.width = 16) (other : lo.key ≠ hi.key)
    (fits : v < 2 ^ 48) : (d.wr64 lo hi v).rd64 lo hi = v := by
  rw [Dev.rd64, Dev.wr64, Dev.rd_wr_eq, Dev.rd_wr_ne _ _ _ _ other, Dev.rd_wr_eq, low, high]
  omega

theorem Dev.rd_wr64_ne (d : Dev) {lo hi f : Fld} (v : Nat) (low : f.key ≠ lo.key) (high : f.key ≠ hi.key) : (d.wr64 lo hi v).rd f = d.rd f := by
  rw [Dev.wr64, Dev.rd_wr_ne _ _ _ _ high, Dev.rd_wr_ne _ _ _ _ low]

theorem Dev.charge_remainder (d : Dev) (s nj : Nat) :
    (d.charge s nj).bay.remainder = d.bay.remainder.set s ((d.bay.remainder.get s 0 + nj) % 1000000) 0 := rfl

theorem Dev.charge_cells (d : Dev) (s nj : Nat) : (d.charge s nj).bay.cells = d.bay.cells := rfl

/-- What a charge leaves: the slice's counter has moved on by the whole millijoules, modulo its width. -/
theorem Dev.rd64_charge_eq (d : Dev) (s nj : Nat) :
    (d.charge s nj).rd64 (SLC_ENERGY_LO_MJ s) (SLC_ENERGY_HI_MJ s)
      = (d.rd64 (SLC_ENERGY_LO_MJ s) (SLC_ENERGY_HI_MJ s) + (d.bay.remainder.get s 0 + nj) / 1000000) % 2 ^ 48 := by
  refine Dev.rd64_wr64 _ rfl rfl ?_ (Nat.mod_lt _ (by decide))
  simp only [SLC_ENERGY_LO_MJ, SLC_ENERGY_HI_MJ, SLC_ENERGY_LO, SLC_ENERGY_HI, Fld.key]
  omega

theorem Dev.rd64_charge_ne (d : Dev) {s t : Nat} (nj : Nat) (h : t ≠ s) :
    (d.charge s nj).rd64 (SLC_ENERGY_LO_MJ t) (SLC_ENERGY_HI_MJ t) = d.rd64 (SLC_ENERGY_LO_MJ t) (SLC_ENERGY_HI_MJ t) := by
  unfold Dev.charge Dev.addEnergy
  rw [Dev.rd64, Dev.rd_wr64_ne, Dev.rd_wr64_ne]
  · rfl
  all_goals
    simp only [SLC_ENERGY_LO_MJ, SLC_ENERGY_HI_MJ, SLC_ENERGY_LO, SLC_ENERGY_HI, Fld.key]
    omega

/-- A charge adds its nanojoules to the slice's energy, modulo the counter's width, and to no other's. -/
theorem Dev.energy_charge (d : Dev) (s nj t : Nat) :
    (d.charge s nj).energy t ≡ d.energy t + (if t = s then nj else 0) [MOD energyWrap] := by
  by_cases h : t = s
  · subst h
    rw [if_pos rfl]
    unfold Dev.energy
    rw [Dev.rd64_charge_eq, Dev.charge_remainder, Tab.get_set_eq]
    unfold Nat.ModEq energyWrap
    omega
  · rw [if_neg h, Dev.energy, Dev.rd64_charge_ne d nj h, Dev.charge_remainder, Tab.get_set_ne _ _ _ _ h]
    exact Nat.ModEq.rfl

/-! ### The energy of all slices -/

/-- The energy of all slices together. -/
def Dev.energySum (d : Dev) : Nat := ∑ t ∈ Finset.range 1024, d.energy t

theorem Dev.energySum_charge (d : Dev) {s : Nat} (nj : Nat) (hs : s < 1024) : (d.charge s nj).energySum ≡ d.energySum + nj [MOD energyWrap] := by
  have one : ∑ t ∈ Finset.range 1024, (if t = s then nj else 0) = nj := by
    rw [Finset.sum_ite_eq', if_pos (Finset.mem_range.2 hs)]
  calc (d.charge s nj).energySum ≡ ∑ t ∈ Finset.range 1024, (d.energy t + if t = s then nj else 0) [MOD energyWrap] :=
        Nat.ModEq.sum fun t _ => d.energy_charge s nj t
    _ = d.energySum + nj := by rw [Finset.sum_add_distrib, one, Dev.energySum]

theorem Dev.energySum_foldl_charge (l : List (Nat × Nat)) (h : ∀ e ∈ l, e.1 < 1024) (d : Dev) :
    (l.foldl (fun d e => d.charge e.1 e.2) d).energySum ≡ d.energySum + (l.map (·.2)).sum [MOD energyWrap] := by
  induction l generalizing d with
  | nil => rw [List.map_nil, List.sum_nil, Nat.add_zero, List.foldl_nil]
  | cons e l ih =>
    calc (l.foldl (fun d e => d.charge e.1 e.2) (d.charge e.1 e.2)).energySum
        ≡ (d.charge e.1 e.2).energySum + (l.map (·.2)).sum [MOD energyWrap] := ih (fun x hx => h x (List.mem_cons_of_mem _ hx)) _
      _ ≡ d.energySum + e.2 + (l.map (·.2)).sum [MOD energyWrap] := (d.energySum_charge e.2 (h e (List.mem_cons_self ..))).add_right _
      _ = d.energySum + ((e :: l).map (·.2)).sum := by rw [List.map_cons, List.sum_cons, Nat.add_assoc]

/-! ### A unit's charge -/

/-- The cells moved in a unit in the interval, by slice. -/
def Dev.cellsOf (d : Dev) (u : Nat) : List (Nat × Nat) := d.bay.cells.filter (fun e => e.1 / 1024 == u)

theorem Dev.unitCells_eq (d : Dev) (u : Nat) : d.unitCells u = ((d.cellsOf u).map (·.2)).sum := foldl_add_eq_sum _ _

theorem Dev.foldl_charge_cells (l : List (Nat × Nat)) (d : Dev) : (l.foldl (fun d e => d.charge e.1 e.2) d).bay.cells = d.bay.cells := by
  induction l generalizing d with
  | nil => rfl
  | cons e l ih => rw [List.foldl_cons, ih, Dev.charge_cells]

theorem Dev.chargeUnit_cells (d : Dev) (u pot : Nat) : (d.chargeUnit u pot).bay.cells = d.bay.cells := by
  simp only [Dev.chargeUnit]
  split
  · rfl
  · rw [Dev.charge_cells, Dev.foldl_charge_cells]

/-- A unit's energy is charged whole: what the shares leave goes to slice 0. -/
theorem Dev.energySum_chargeUnit (d : Dev) (u pot : Nat) : (d.chargeUnit u pot).energySum ≡ d.energySum + pot [MOD energyWrap] := by
  simp only [Dev.chargeUnit]
  split
  · exact d.energySum_charge pot (by omega)
  · next moved =>
    let l := (d.cellsOf u).map (fun e => (e.1 % 1024, pot * e.2 / d.unitCells u))
    have small : ∀ e ∈ l, e.1 < 1024 := List.forall_mem_map.2 fun e _ => Nat.mod_lt _ (by omega)
    have shares : (l.map (·.2)).sum ≤ pot := by
      rw [List.map_map]
      exact sum_shares_le pot _ _ _ (d.unitCells_eq u) moved
    rw [foldl_add_eq_sum]
    calc ((l.foldl (fun d e => d.charge e.1 e.2) d).charge 0 (pot - (l.map (·.2)).sum)).energySum
        ≡ (l.foldl (fun d e => d.charge e.1 e.2) d).energySum + (pot - (l.map (·.2)).sum) [MOD energyWrap] := Dev.energySum_charge _ _ (by omega)
      _ ≡ d.energySum + (l.map (·.2)).sum + (pot - (l.map (·.2)).sum) [MOD energyWrap] := (Dev.energySum_foldl_charge l small d).add_right _
      _ = d.energySum + pot := by omega

theorem Dev.energySum_chargeUnits (f : Nat → Nat) (n : Nat) (d : Dev) :
    ((List.range n).foldl (fun e u => e.chargeUnit u (f u)) d).energySum ≡ d.energySum + ∑ u ∈ Finset.range n, f u [MOD energyWrap] := by
  induction n with
  | zero => rw [Finset.range_zero, Finset.sum_empty, Nat.add_zero, List.range_zero, List.foldl_nil]
  | succ n ih =>
    rw [List.range_succ, List.foldl_append, List.foldl_cons, List.foldl_nil, Finset.sum_range_succ, ← Nat.add_assoc]
    exact (Dev.energySum_chargeUnit ..).trans (ih.add_right _)

/-! ### The attribution -/

theorem Dev.energySum_eq (d : Dev) : (List.range 1024).foldl (fun a t =>
    a + 1000000 * d.rd64 (SLC_ENERGY_LO_MJ t) (SLC_ENERGY_HI_MJ t) + d.bay.remainder.get t 0) 0 = d.energySum := by
  simp only [Nat.add_assoc, foldl_range_add_eq_sum, Dev.energySum, Dev.energy]

/-- The rails' energy by units and the rest, and the bays' by octants: all of it is charged. -/
theorem Dev.energySum_attribute (d : Dev) (rail : Nat) :
    (d.attribute rail).energySum ≡ d.energySum + rail + ∑ o ∈ Finset.range 8, d.octBayEnergy o [MOD energyWrap] := by
  simp only [Dev.attribute, foldl_range_add_eq_sum]
  split
  · rw [Nat.add_assoc]
    exact d.energySum_charge _ (by omega)
  · next moved =>
    let c := ∑ u ∈ Finset.range 9, d.unitCells u
    let share := fun u => rail * d.unitCells u / c
    have used : ∑ u ∈ Finset.range 9, share u ≤ rail := by
      simp only [← foldl_range_add_eq_sum, foldl_add_eq_sum]
      exact sum_shares_le rail c d.unitCells _ (by rw [← foldl_add_eq_sum, foldl_range_add_eq_sum]) moved
    let e := (List.range 8).foldl (fun e o => Dev.chargeUnit e o (d.octBayEnergy o + share o)) d
    calc ((e.chargeUnit 8 (share 8)).charge 0 (rail - ∑ u ∈ Finset.range 9, share u)).energySum
        ≡ (e.chargeUnit 8 (share 8)).energySum + (rail - ∑ u ∈ Finset.range 9, share u) [MOD energyWrap] := Dev.energySum_charge _ _ (by omega)
      _ ≡ e.energySum + share 8 + (rail - ∑ u ∈ Finset.range 9, share u) [MOD energyWrap] := (Dev.energySum_chargeUnit ..).add_right _
      _ ≡ d.energySum + ∑ o ∈ Finset.range 8, (d.octBayEnergy o + share o) + share 8 + (rail - ∑ u ∈ Finset.range 9, share u) [MOD energyWrap] :=
        ((Dev.energySum_chargeUnits _ 8 d).add_right _).add_right _
      _ = d.energySum + rail + ∑ o ∈ Finset.range 8, d.octBayEnergy o := by
        have last : ∑ u ∈ Finset.range 9, share u = ∑ u ∈ Finset.range 8, share u + share 8 := Finset.sum_range_succ ..
        rw [Finset.sum_add_distrib]
        omega

/-- Settles O47: a charge adds its energy to the sum of the slices' energies, and what an interval charges is the rails' energy
and the bays', since what rounding leaves of a share is charged to slice 0. -/
theorem theLedgerLosesNoEnergy : Obligations.TheLedgerLosesNoEnergy := by
  intro d rail
  simp only [Dev.energySum_eq, foldl_range_add_eq_sum]
  exact d.energySum_attribute rail

end Sys2Proof.Machine
end

section
/-! PROOFS. A patch's replacement is idle or moves no more cells between the same endpoints (R190), so a calendar with patches
applied lowers the base calendar run by run, and every endpoint's sums with it (R208). -/
namespace Sys2Proof.Machine

/-- A run that moves nothing, or no more than `b` moves between the same endpoints. -/
def runLowers (r b : BitVec 64) : Prop := runCells r = 0 ∨ runSrc r = runSrc b ∧ runDst r = runDst b ∧ runCells r ≤ runCells b

theorem runLowers_refl (b : BitVec 64) : runLowers b b := .inr ⟨rfl, rfl, Nat.le_refl _⟩

/-- A calendar that lowers another, run by run. -/
abbrev calendarLowers (c base : List (BitVec 64)) : Prop := List.Forall₂ runLowers c base

theorem calendarLowers_refl (base : List (BitVec 64)) : calendarLowers base base :=
  List.forall₂_same.2 fun b _ => runLowers_refl b

/-! ### Sums over a calendar -/

theorem cellsFrom_eq_sum (c : List (BitVec 64)) (p : Nat → Bool) :
    cellsFrom c p = (c.map (fun w => if p (runSrc w) then runCells w else 0)).sum := by
  rw [cellsFrom, foldl_add_eq_sum, List.sum_map_ite]
  simp

theorem cellsTo_eq_sum (c : List (BitVec 64)) (p : Nat → Bool) :
    cellsTo c p = (c.map (fun w => if p (runDst w) then runCells w else 0)).sum := by
  rw [cellsTo, foldl_add_eq_sum, List.sum_map_ite]
  simp

/-- A sum that no run of a lower calendar raises is lowered with it. -/
theorem sum_le_of_calendarLowers {f : BitVec 64 → Nat} (hf : ∀ r b, runLowers r b → f r ≤ f b) {c base : List (BitVec 64)}
    (h : calendarLowers c base) : (c.map f).sum ≤ (base.map f).sum := by
  induction h with
  | nil => exact Nat.le_refl _
  | cons lower _ ih => simpa using Nat.add_le_add (hf _ _ lower) ih

theorem cellsFrom_le_of_calendarLowers {c base : List (BitVec 64)} (h : calendarLowers c base) (p : Nat → Bool) :
    cellsFrom c p ≤ cellsFrom base p := by
  rw [cellsFrom_eq_sum, cellsFrom_eq_sum]
  refine sum_le_of_calendarLowers (fun r b lower => ?_) h
  obtain idle | ⟨src, -, cells⟩ := lower
  · simp [idle]
  · rw [src]
    split <;> omega

theorem cellsTo_le_of_calendarLowers {c base : List (BitVec 64)} (h : calendarLowers c base) (p : Nat → Bool) :
    cellsTo c p ≤ cellsTo base p := by
  rw [cellsTo_eq_sum, cellsTo_eq_sum]
  refine sum_le_of_calendarLowers (fun r b lower => ?_) h
  obtain idle | ⟨-, dst, cells⟩ := lower
  · simp [idle]
  · rw [dst]
    split <;> omega

/-! ### Patches -/

/-- Every replacement of the patch lowers the run it replaces. -/
def patchLowers (p : Patch) (base : List (BitVec 64)) : Prop := ∀ e ∈ p, ∀ b, base[e.1]? = some b → runLowers e.2 b

theorem calendarLowers_applyPatch {c base : List (BitVec 64)} {p : Patch} (h : calendarLowers c base) (hp : patchLowers p base) :
    calendarLowers (applyPatch c p) base := by
  obtain ⟨same, lower⟩ := List.forall₂_iff_get.1 h
  refine List.forall₂_iff_get.2 ⟨by rw [applyPatch, List.length_mapIdx, same], fun i hc hb => ?_⟩
  have hi : i < c.length := same ▸ hb
  simp only [List.get_eq_getElem, applyPatch, List.getElem_mapIdx]
  split
  · next e found =>
    obtain rfl : e.1 = i := by simpa using List.find?_some found
    exact hp e (List.mem_of_find?_eq_some found) _ (List.getElem?_eq_getElem hb)
  · exact lower i hi hb

/-- A replacement that the octant-calendars check passes lowers the run it replaces (R190). -/
theorem runLowers_of_patchEntryBad {o bay slot : Nat} {c : OctCal} {r b : BitVec 64} (good : patchEntryBad o bay c slot r = false)
    (hb : c.base[slot]? = some b) : runLowers r b := by
  have base : c.base.getD slot 0 = b := by rw [List.getD_eq_getElem?_getD, hb, Option.getD_some]
  simp only [patchEntryBad, base, Bool.or_eq_false_iff, Bool.not_eq_false', Bool.or_eq_true, Bool.and_eq_true, beq_iff_eq,
    decide_eq_true_eq] at good
  obtain ⟨-, ⟨⟨-, cells⟩, -⟩ | ⟨⟨⟨src, dst⟩, -⟩, cells⟩⟩ := good
  · exact .inl cells
  · exact .inr ⟨src, dst, cells⟩

theorem octs_length (l : List Byte) {o : Nat} (ho : o < 8) : ((imageOf l).octs.getD o ⟨[], []⟩).patches.length = 16 := by
  have : (imageOf l).octs.getD o ⟨[], []⟩ = octOf (sec l 6) o := by
    simp [imageOf, List.getD_eq_getElem?_getD, ho]
  rw [this]
  rfl

/-- Every patch of an image whose octant calendars pass the check lowers its base calendar; there are none beyond the sixteenth. -/
theorem patchLowers_of_octsBad {l : List Byte} (good : octsBad l (imageOf l) = false) {o : Nat} (ho : o < 8) (v : Nat) :
    patchLowers (((imageOf l).octs.getD o ⟨[], []⟩).patches.getD v []) ((imageOf l).octs.getD o ⟨[], []⟩).base := by
  by_cases hv : v < 16
  · intro e he b hb
    simp only [octsBad, Bool.or_eq_false_iff, List.any_eq_false, List.mem_range] at good
    have entries := (good.2 o ho)
    simp only [Bool.not_eq_true, Bool.or_eq_false_iff, List.any_eq_false, List.mem_range] at entries
    obtain ⟨-, patches⟩ := entries
    obtain ⟨⟨-, replaced⟩, -⟩ := patches v hv
    exact runLowers_of_patchEntryBad (by simpa using replaced e he) hb
  · rw [List.getD_eq_default _ _ (by rw [octs_length l ho]; omega)]
    exact fun e he => absurd he List.not_mem_nil

theorem calendarLowers_calendar {l : List Byte} {d : Dev} {o : Nat} (good : octsBad l (imageOf l) = false)
    (hd : (d.era o).image = some (imageOf l)) (ho : o < 8) :
    calendarLowers (d.calendar o) ((imageOf l).octs.getD o ⟨[], []⟩).base := by
  rw [Dev.calendar, Era.calendar, hd]
  simp only [if_neg (by omega : o ≠ 8)]
  refine List.foldlRecOn (motive := fun c => calendarLowers c _) _ _ (calendarLowers_refl _) fun c lower j _ => ?_
  split
  · exact lower
  · exact calendarLowers_applyPatch lower (patchLowers_of_octsBad good ho _)

/-- Settles O25: every run of the patched calendar is the base calendar's or a replacement that the check holds to no more cells
between the same endpoints. -/
theorem patchesOnlyLowerTheLoad : Obligations.PatchesOnlyLowerTheLoad := by
  intro l d o p good hd ho
  have lower := calendarLowers_calendar good hd ho
  exact ⟨cellsFrom_le_of_calendarLowers lower p, cellsTo_le_of_calendarLowers lower p, lower.length_eq⟩

end Sys2Proof.Machine
end

section
/-! PROOFS. One write and the fields of its register (R3): no two fields of a register begin at one bit, so each field sees the
write once and a field of another register not at all. -/
namespace Sys2Proof.Machine

/-! ### The fields of a register begin at different bits -/

/-- No two fields begin at one bit, and each begins within its register. -/
def startsApart (l : List RField) : Prop := (l.map (·.lo)).Nodup ∧ ∀ x ∈ l.map (·.lo), x < 32

theorem startsApart_congr {l m : List RField} (h : l.map (·.lo) = m.map (·.lo)) (hm : startsApart m) : startsApart l := by
  unfold startsApart
  rw [h]
  exact hm

/-- Where the fields of a row's registers begin does not depend on the register's indices. -/
def Row.uniform (r : Row) : Prop := ∀ i j, (r.fields i j).map (·.lo) = (r.fields 0 0).map (·.lo)

/-- The rows of every block (R44). -/
def blocks : List (List Row) :=
  [rowsGLB, rowsHP, rowsSLC, rowsPERM, rowsSCH, rowsENG, rowsJNL, rowsMEM, rowsLNK, rowsBRG, rowsBAY, rowsAON, rowsEVC, rowsSPR, rowsMGT]

theorem rowsOf_mem_blocks (a : Nat) : rowsOf a ∈ blocks := by
  have choice {c : Prop} [Decidable c] {x y : List Row} (hx : x ∈ blocks) (hy : y ∈ blocks) : (if c then x else y) ∈ blocks := by
    split
    · exact hx
    · exact hy
  unfold rowsOf
  repeat' apply choice
  all_goals simp [blocks]

theorem uniform_of_mem_blocks : ∀ rows ∈ blocks, ∀ r ∈ rows, r.uniform := by
  simp only [blocks, List.forall_mem_cons, rowsGLB, rowsHP, rowsSLC, rowsPERM, rowsSCH, rowsENG, rowsJNL, rowsMEM, rowsLNK, rowsBRG,
    rowsBAY, rowsAON, rowsEVC, rowsSPR, rowsMGT, List.not_mem_nil, false_imp_iff, implies_true, and_true]
  and_intros
  all_goals exact fun _ _ => rfl

theorem startsApart_first_of_mem_blocks : ∀ rows ∈ blocks, ∀ r ∈ rows, startsApart (r.fields 0 0) := by
  unfold startsApart
  decide

theorem fields_of_findRow {rows : List Row} {a : Nat} {l : List RField} (h : findRow rows a = some l) : ∃ r ∈ rows, ∃ i j, l = r.fields i j := by
  induction rows with
  | nil => exact absurd h (by simp [findRow])
  | cons r rows ih =>
    rw [findRow] at h
    split at h
    · next found =>
      obtain rfl := Option.some.inj h
      refine ⟨r, List.mem_cons_self .., (a - r.base) / r.stride1, (a - r.base) % r.stride1 / r.stride2, ?_⟩
      exact (Option.some.inj (Option.ite_none_right_eq_some.1 found).2).symm
    · obtain ⟨x, hx, i, j, e⟩ := ih h
      exact ⟨x, List.mem_cons_of_mem _ hx, i, j, e⟩

theorem startsApart_of_faultFields (u : FUnit) (o : Nat) : ∀ l ∈ faultFields u o, startsApart l := by
  have choice {c : Prop} [Decidable c] {x y : Option (List RField)} (hx : ∀ l ∈ x, startsApart l) (hy : ∀ l ∈ y, startsApart l) :
      ∀ l ∈ (if c then x else y), startsApart l := by
    split
    · exact hx
    · exact hy
  unfold faultFields
  repeat' apply choice
  all_goals simp [startsApart]

/-- Every register's fields begin at different bits. -/
theorem startsApart_of_regFields {a : Nat} {l : List RField} (h : regFields a = some l) : startsApart l := by
  unfold regFields at h
  split at h
  · exact startsApart_of_faultFields _ _ l h
  · obtain ⟨r, hr, i, j, rfl⟩ := fields_of_findRow h
    exact startsApart_congr (uniform_of_mem_blocks _ (rowsOf_mem_blocks a) r hr i j)
      (startsApart_first_of_mem_blocks _ (rowsOf_mem_blocks a) r hr)

/-! ### One field under a write -/

/-- What a field's write by its access type leaves in it (R3, R6). -/
def RField.after (f : RField) (old x : Nat) : Nat :=
  match f.acc with
  | .rw => if f.min ≤ x ∧ x ≤ f.max then x else old
  | .w1c => Nat.xor old (Nat.land old x) % 2 ^ f.width
  | .w1s => Nat.lor old x % 2 ^ f.width
  | .ro => old
  | .wo => old

theorem Dev.rd_writeField_eq (d : Dev) (a v : Nat) (f : RField) :
    (d.writeField a v f).rd ⟨a, f.lo, f.width⟩ = f.after (d.rd ⟨a, f.lo, f.width⟩) (bits v f.lo f.width) := by
  unfold Dev.writeField RField.after
  cases f.acc with
  | rw =>
    dsimp only
    split
    · rw [Dev.rd_wr_eq]
      exact Nat.mod_eq_of_lt (Nat.mod_lt _ (Nat.two_pow_pos _))
    · rfl
  | w1c => exact Dev.rd_wr_eq ..
  | w1s => exact Dev.rd_wr_eq ..
  | ro => rfl
  | wo => rfl

theorem Dev.rd_writeField_ne (d : Dev) (a v : Nat) (f : RField) {b : Fld} (h : b.key ≠ a * 32 + f.lo) :
    (d.writeField a v f).rd b = d.rd b := by
  have other (x : Nat) : (d.wr ⟨a, f.lo, f.width⟩ x).rd b = d.rd b := Dev.rd_wr_ne _ _ _ _ h
  unfold Dev.writeField
  cases f.acc with
  | rw =>
    dsimp only
    split
    · exact other _
    · rfl
  | w1c => exact other _
  | w1s => exact other _
  | ro => rfl
  | wo => rfl

/-! ### All fields of the register -/

theorem Dev.rd_writeFields_ne (l : List RField) (a v : Nat) {b : Fld} (h : ∀ f ∈ l, b.key ≠ a * 32 + f.lo) (d : Dev) :
    (l.foldl (fun d f => d.writeField a v f) d).rd b = d.rd b := by
  induction l generalizing d with
  | nil => rfl
  | cons f l ih =>
    rw [List.foldl_cons, ih fun g hg => h g (List.mem_cons_of_mem _ hg), Dev.rd_writeField_ne d a v f (h f (List.mem_cons_self ..))]

/-- Each field of a register is written once, on what it held. -/
theorem Dev.rd_writeFields_eq {l : List RField} (apart : (l.map (·.lo)).Nodup) (a v : Nat) {f : RField} (hf : f ∈ l) (d : Dev) :
    (l.foldl (fun d f => d.writeField a v f) d).rd ⟨a, f.lo, f.width⟩ = f.after (d.rd ⟨a, f.lo, f.width⟩) (bits v f.lo f.width) := by
  induction l generalizing d with
  | nil => exact absurd hf List.not_mem_nil
  | cons g l ih =>
    obtain ⟨first, rest⟩ := List.nodup_cons.1 apart
    rw [List.foldl_cons]
    obtain rfl | later := List.mem_cons.1 hf
    · rw [Dev.rd_writeFields_ne l a v fun x hx same => first (List.mem_map.2 ⟨x, hx, ?_⟩), Dev.rd_writeField_eq]
      simp only [Fld.key] at same ⊢
      omega
    · rw [ih rest later, Dev.rd_writeField_ne]
      intro same
      exact first (List.mem_map.2 ⟨f, later, by simp only [Fld.key] at same ⊢; omega⟩)

theorem Dev.writeWord_eq {d : Dev} {a v : Nat} {l : List RField} (h : regFields a = some l) :
    d.writeWord a v = l.foldl (fun d f => d.writeField a v f) d := by rw [Dev.writeWord, h]

/-- Settles O7: the fields of a register begin at different bits within it, so a write of the register is one write of each field,
and of no field of another register. -/
theorem fieldsTakeTheirAccessType : Obligations.FieldsTakeTheirAccessType := by
  intro d a v l h
  obtain ⟨apart, within⟩ := startsApart_of_regFields h
  refine ⟨fun f hf => ?_, fun b other small => ?_⟩
  · rw [Dev.writeWord_eq h, Dev.rd_writeFields_eq apart a v hf]
    rfl
  · rw [Dev.writeWord_eq h]
    refine Dev.rd_writeFields_ne l a v (fun f hf same => ?_) d
    have := within f.lo (List.mem_map_of_mem hf)
    simp only [Fld.key] at same
    omega

end Sys2Proof.Machine
end

section
/-! PROOFS. A fold that holds the best element so far ends with one that no other beats. The event controller's best candidate
(R430), the group a link trains (R283) and the bay a start slot goes to (R369) are such folds. -/
namespace Sys2Proof.Machine

section Selection

variable {α : Type} {R beats : α → α → Prop} [DecidableRel beats] {step : Option α → α → Option α}
  (pick : ∀ b x, R b x → step (some b) x = some (if beats x b then x else b))
  (asymm : ∀ x b, beats x b → ¬beats b x) (trans : ∀ x b c, ¬beats x b → ¬beats b c → ¬beats x c)

include pick asymm trans

/-- From a first element on, the fold ends with an element that none beats. -/
theorem foldl_pick_some (l : List α) (b : α) (order : (b :: l).Pairwise R) :
    ∃ c ∈ b :: l, l.foldl step (some b) = some c ∧ ∀ x ∈ b :: l, ¬beats x c := by
  induction l generalizing b with
  | nil => exact ⟨b, List.mem_cons_self .., rfl, fun x hx => by rw [List.mem_singleton.1 hx]; exact fun h => asymm b b h h⟩
  | cons y l ih =>
    obtain ⟨before, rest⟩ := List.pairwise_cons.1 order
    rw [List.foldl_cons, pick b y (before y (List.mem_cons_self ..))]
    split
    · next better =>
      obtain ⟨c, hc, result, best⟩ := ih y rest
      refine ⟨c, List.mem_cons_of_mem _ hc, result, List.forall_mem_cons.2 ⟨?_, best⟩⟩
      exact trans b y c (asymm y b better) (best y (List.mem_cons_self ..))
    · next worse =>
      obtain ⟨c, hc, result, best⟩ := ih b (order.sublist ((List.sublist_cons_self y l).cons_cons b))
      obtain ⟨first, others⟩ := List.forall_mem_cons.1 best
      refine ⟨c, ?_, result, List.forall_mem_cons.2 ⟨first, List.forall_mem_cons.2 ⟨trans y b c worse first, others⟩⟩⟩
      exact List.mem_cons.2 ((List.mem_cons.1 hc).imp_right (List.mem_cons_of_mem _))

variable (first : ∀ x, step none x = some x)

include first

theorem foldl_pick_eq_none_iff {l : List α} (order : l.Pairwise R) : l = [] ↔ l.foldl step none = none := by
  cases l with
  | nil => exact iff_of_true rfl rfl
  | cons b l =>
    obtain ⟨c, -, result, -⟩ := foldl_pick_some pick asymm trans l b order
    rw [List.foldl_cons, first, result]
    exact iff_of_false (by simp) (by simp)

/-- The element that the fold ends with is one of the list, and none of the list beats it. -/
theorem foldl_pick_best {l : List α} (order : l.Pairwise R) {c : α} (h : l.foldl step none = some c) : c ∈ l ∧ ∀ x ∈ l, ¬beats x c := by
  cases l with
  | nil => exact absurd h (by simp)
  | cons b l =>
    obtain ⟨c', member, result, best⟩ := foldl_pick_some pick asymm trans l b order
    rw [List.foldl_cons, first, result] at h
    obtain rfl := Option.some.inj h
    exact ⟨member, best⟩

end Selection

/-! ### The event controller's best candidate -/

theorem Dev.candidate_iff (d : Dev) (t s : Nat) : d.candidate t s = true ↔
    d.isPending s = true ∧ (∀ u, u < 8 → d.activeAt u s = false) ∧ d.rd (EVC_SRC_CFG_PRIORITY s) ≠ 0
      ∧ d.rd (EVC_SRC_CFG_TMASK s) / 2 ^ t % 2 = 1 ∧ d.rd (EVC_THRESHOLD_THRESHOLD t) < d.rd (EVC_SRC_CFG_PRIORITY s)
      ∧ d.running t < d.rd (EVC_SRC_CFG_PRIORITY s) := by
  simp only [Dev.candidate, Dev.active, bit, Bool.and_eq_true, Bool.not_eq_true', List.any_eq_false, List.mem_range, decide_eq_true_eq,
    beq_iff_eq, Bool.not_eq_true, Nat.pos_iff_ne_zero, and_assoc]

/-- `x` is the better of two candidates (R431). -/
def Dev.outranks (d : Dev) (x y : Nat) : Prop :=
  d.rd (EVC_SRC_CFG_PRIORITY y) < d.rd (EVC_SRC_CFG_PRIORITY x)
    ∨ (d.rd (EVC_SRC_CFG_PRIORITY y) = d.rd (EVC_SRC_CFG_PRIORITY x) ∧ x < y)

theorem Dev.outranks_asymm (d : Dev) (x y : Nat) (h : d.outranks x y) : ¬d.outranks y x := by
  unfold Dev.outranks at *
  omega

theorem Dev.not_outranks_trans (d : Dev) (x y z : Nat) (h : ¬d.outranks x y) (h' : ¬d.outranks y z) : ¬d.outranks x z := by
  unfold Dev.outranks at *
  omega

theorem Dev.better_some (d : Dev) (b x : Nat) [Decidable (d.outranks x b)] : d.better (some b) x = some (if d.outranks x b then x else b) := by
  by_cases h : d.outranks x b
  · rw [if_pos h]
    exact if_pos h
  · rw [if_neg h]
    exact if_neg h

theorem Dev.mem_candidates_iff (d : Dev) (t y : Nat) :
    y ∈ (d.evc.pend ++ d.evc.level).filter (d.candidate t) ↔ (y ∈ d.evc.pend ∨ y ∈ d.evc.level) ∧ d.candidate t y = true := by
  rw [List.mem_filter, List.mem_append]

/-- Settles O12: the candidates' fold ends with one that none outranks, or finds none. -/
theorem bestCandidateIsHighestThenLowest : Obligations.BestCandidateIsHighestThenLowest := by
  classical
  refine ⟨Dev.candidate_iff, fun d t => ?_⟩
  have all (l : List Nat) : l.Pairwise (fun _ _ => True) := List.pairwise_of_forall fun _ _ => trivial
  refine ⟨fun x hx => ?_, fun none y hy => ?_⟩
  · obtain ⟨member, best⟩ := foldl_pick_best (fun b x _ => d.better_some b x) d.outranks_asymm d.not_outranks_trans (fun _ => rfl) (all _) hx
    refine ⟨((d.mem_candidates_iff t x).1 member).2, fun y hy candidate => ?_⟩
    have := best y ((d.mem_candidates_iff t y).2 ⟨hy, candidate⟩)
    unfold Dev.outranks at this
    omega
  · have empty := (foldl_pick_eq_none_iff (fun b x _ => d.better_some b x) d.outranks_asymm d.not_outranks_trans (fun _ => rfl) (all _)).2 none
    refine Bool.eq_false_iff.2 fun candidate => ?_
    have := (d.mem_candidates_iff t y).2 ⟨hy, candidate⟩
    rw [empty] at this
    exact absurd this List.not_mem_nil

end Sys2Proof.Machine
end

section
/-! PROOFS. The group a link trains (R283) and the bay a start slot goes to (R369). -/
namespace Sys2Proof.Machine

/-! ### The trained group -/

theorem mem_groups_iff (f w : Nat) (g : Nat × Nat) : g ∈ groups f w ↔ g.2 ≤ w ∧ ∃ i, i < 2 ^ (w - g.2) ∧ g.1 = f + i * 2 ^ g.2 := by
  simp only [groups, List.mem_flatMap, List.mem_map, List.mem_range, Nat.lt_succ_iff]
  constructor
  · rintro ⟨v, hv, i, hi, rfl⟩
    exact ⟨hv, i, hi, rfl⟩
  · rintro ⟨hv, i, hi, e⟩
    exact ⟨g.2, hv, i, hi, Prod.ext e.symm rfl⟩

theorem linkLanes_all_iff (l w : Nat) (p : Nat → Bool) : (linkLanes l w).all p = true ↔ ∀ j, l ≤ j → j < l + 2 ^ w → p j = true := by
  simp only [linkLanes, lanesOf, List.all_map, List.all_eq_true, List.mem_range, Function.comp_apply]
  constructor
  · intro h j low high
    have := h (j - l) (by omega)
    rwa [Nat.add_sub_cancel' low] at this
  · intro h j hj
    exact h (l + j) (by omega) (by omega)

theorem mem_choicesAt_iff (f w r clean : Nat) (c : Nat × Nat × Nat) : c ∈ choicesAt f w r clean ↔
    c.1 = r ∧ c.2.2 ≤ w ∧ (∃ i, i < 2 ^ (w - c.2.2) ∧ c.2.1 = f + i * 2 ^ c.2.2)
      ∧ ∀ j, c.2.1 ≤ j → j < c.2.1 + 2 ^ c.2.2 → bit clean j = true := by
  simp only [choicesAt, List.mem_filterMap, mem_groups_iff, Option.ite_none_right_eq_some, linkLanes_all_iff, Option.some.injEq]
  constructor
  · rintro ⟨g, ⟨width, aligned⟩, lanes, rfl⟩
    exact ⟨rfl, width, aligned, lanes⟩
  · rintro ⟨rate, width, aligned, lanes⟩
    exact ⟨c.2, ⟨width, aligned⟩, lanes, Prod.ext rate.symm rfl⟩

/-- `c` is the better of two choices: lanes × rate, the higher rate, the lower first lane (R283). -/
def choiceBeats (c b : Nat × Nat × Nat) : Prop :=
  2 ^ b.2.2 * lineRate b.1 < 2 ^ c.2.2 * lineRate c.1
    ∨ (2 ^ b.2.2 * lineRate b.1 = 2 ^ c.2.2 * lineRate c.1 ∧ c.1 < b.1)
    ∨ (2 ^ b.2.2 * lineRate b.1 = 2 ^ c.2.2 * lineRate c.1 ∧ c.1 = b.1 ∧ c.2.1 < b.2.1)

theorem choiceBeats_asymm (x y : Nat × Nat × Nat) (h : choiceBeats x y) : ¬choiceBeats y x := by
  unfold choiceBeats at *
  omega

theorem not_choiceBeats_trans (x y z : Nat × Nat × Nat) (h : ¬choiceBeats x y) (h' : ¬choiceBeats y z) : ¬choiceBeats x z := by
  unfold choiceBeats at *
  omega

theorem betterChoice_some (b c : Nat × Nat × Nat) [Decidable (choiceBeats c b)] :
    betterChoice (some b) c = some (if choiceBeats c b then c else b) := by
  by_cases h : choiceBeats c b
  · rw [if_pos h]
    exact if_pos h
  · rw [if_neg h]
    exact if_neg h

/-- Settles O35: the choices are the clean groups of the geometry, and their fold ends with one that none of them beats. -/
theorem trainedGroupIsTheBestCleanOne : Obligations.TrainedGroupIsTheBestCleanOne := by
  classical
  have pick (b c : Nat × Nat × Nat) (_ : True) := betterChoice_some b c
  refine ⟨mem_choicesAt_iff, fun l => ?_⟩
  have all : l.Pairwise (fun _ _ => True) := List.pairwise_of_forall fun _ _ => trivial
  refine ⟨foldl_pick_eq_none_iff pick choiceBeats_asymm not_choiceBeats_trans (fun _ => rfl) all, fun c hc => ?_⟩
  obtain ⟨member, best⟩ := foldl_pick_best pick choiceBeats_asymm not_choiceBeats_trans (fun _ => rfl) all hc
  refine ⟨member, fun b hb => ?_⟩
  have := best b hb
  unfold choiceBeats at this
  dsimp only
  omega

/-! ### The bay a start slot goes to -/

/-- Bay `x` is served before bay `y` (R369). -/
def Dev.waitsLonger (d : Dev) (x y : Nat) : Prop :=
  (d.bayT x).waitSince < (d.bayT y).waitSince ∨ ((d.bayT x).waitSince = (d.bayT y).waitSince ∧ x < y)

theorem Dev.waitsLonger_asymm (d : Dev) (x y : Nat) (h : d.waitsLonger x y) : ¬d.waitsLonger y x := by
  unfold Dev.waitsLonger at *
  omega

theorem Dev.not_waitsLonger_trans (d : Dev) (x y z : Nat) (h : ¬d.waitsLonger x y) (h' : ¬d.waitsLonger y z) : ¬d.waitsLonger x z := by
  unfold Dev.waitsLonger at *
  omega

/-- The better of the bay held so far and the next one. -/
def Dev.sooner (d : Dev) (a : Option Nat) (b : Nat) : Option Nat :=
  match a with
  | none => some b
  | some c => if (d.bayT b).waitSince < (d.bayT c).waitSince then some b else a

theorem Dev.nextBay_eq (d : Dev) : d.nextBay = ((List.range 64).filter d.canStart).foldl d.sooner none := rfl

/-- Bays are looked at in rising number, so the bay held so far goes first among those that have waited as long. -/
theorem Dev.sooner_some (d : Dev) (b x : Nat) (h : b < x) [Decidable (d.waitsLonger x b)] :
    d.sooner (some b) x = some (if d.waitsLonger x b then x else b) := by
  by_cases longer : (d.bayT x).waitSince < (d.bayT b).waitSince
  · rw [if_pos (.inl longer)]
    exact if_pos longer
  · rw [if_neg (by unfold Dev.waitsLonger; omega)]
    exact if_neg longer

theorem Dev.mem_startable_iff (d : Dev) (c : Nat) : c ∈ (List.range 64).filter d.canStart ↔ c < 64 ∧ d.canStart c = true := by
  rw [List.mem_filter, List.mem_range]

theorem Dev.startable_rising (d : Dev) : ((List.range 64).filter d.canStart).Pairwise (· < ·) := List.pairwise_lt_range.filter _

theorem Dev.nextBay_first {d : Dev} {b : Nat} (h : d.nextBay = some b) : b < 64 ∧ d.canStart b = true ∧ ∀ c, c < 64 → d.canStart c = true →
    (d.bayT b).waitSince < (d.bayT c).waitSince ∨ ((d.bayT b).waitSince = (d.bayT c).waitSince ∧ b ≤ c) := by
  classical
  rw [Dev.nextBay_eq] at h
  obtain ⟨member, best⟩ := foldl_pick_best (fun b x rises => d.sooner_some b x rises) d.waitsLonger_asymm d.not_waitsLonger_trans (fun _ => rfl) d.startable_rising h
  obtain ⟨hb, starts⟩ := (d.mem_startable_iff b).1 member
  refine ⟨hb, starts, fun c hc startsToo => ?_⟩
  have := best c ((d.mem_startable_iff c).2 ⟨hc, startsToo⟩)
  unfold Dev.waitsLonger at this
  omega

theorem Dev.nextBay_eq_none_iff (d : Dev) : d.nextBay = none ↔ ∀ c, c < 64 → d.canStart c = false := by
  classical
  rw [Dev.nextBay_eq,
    ← foldl_pick_eq_none_iff (fun b x rises => d.sooner_some b x rises) d.waitsLonger_asymm d.not_waitsLonger_trans (fun _ => rfl) d.startable_rising,
    List.filter_eq_nil_iff]
  simp only [List.mem_range, Bool.not_eq_true]

/-! ### The bays that start -/

theorem Dev.setBay_regs (d : Dev) (b : Nat) (t : BayT) : (d.setBay b t).regs = d.regs := rfl

theorem Dev.bayState_bayEnter_ne (d : Dev) {b c : Nat} (s : Nat) (h : c ≠ b) : (d.bayEnter b s).bayState c = d.bayState c := by
  rw [Dev.bayState, Dev.bayEnter, Dev.rd_wr_ne, Dev.rd_wr_ne, Dev.bayState]
  all_goals
    simp only [BAY_STATUS_STATE, BAY_STATUS, BAY_GROUP_STARTING, BAY_GROUP, Fld.key]
    omega

theorem countP_or_le {α : Type} (p q : α → Bool) (l : List α) : l.countP (fun x => p x || q x) ≤ l.countP p + l.countP q := by
  induction l with
  | nil => exact Nat.zero_le _
  | cons x l ih =>
    simp only [List.countP_cons]
    grind

/-- When one bay's state alone changes, at most one more bay starts. -/
theorem Dev.starting_le_of_bayState_eq {d e : Dev} {b : Nat} (h : ∀ c, c ≠ b → e.bayState c = d.bayState c) : e.starting ≤ d.starting + 1 := by
  unfold Dev.starting
  rw [← List.countP_eq_length_filter, ← List.countP_eq_length_filter]
  let p (x : Dev) (c : Nat) : Bool := x.bayState c == bsRamp || x.bayState c == bsPgWait
  calc (List.range 64).countP (p e) ≤ (List.range 64).countP (fun c => p d c || c == b) := by
        refine List.countP_mono_left fun c _ starts => ?_
        by_cases same : c = b
        · simp [same]
        · have kept : p d c = p e c := by simp only [p, h c same]
          simp [kept, starts]
    _ ≤ (List.range 64).countP (p d) + (List.range 64).count b := countP_or_le _ _ _
    _ ≤ (List.range 64).countP (p d) + 1 := Nat.add_le_add_left (List.nodup_iff_count_le_one.1 List.nodup_range b) _

/-- Settles O46: a start slot is given only below BAY_GROUP.SIZE, to one bay, which is the first of those that wait. -/
theorem noMoreBaysStartThanTheGroupAllows : Obligations.NoMoreBaysStartThanTheGroupAllows := by
  refine fun d => ⟨?_, fun b => Dev.nextBay_first, d.nextBay_eq_none_iff⟩
  unfold bayStartSlot
  split
  · exact Nat.le_max_left ..
  · next b _ =>
    split
    · exact Nat.le_max_left ..
    · next free =>
      simp only [Bool.or_eq_true, decide_eq_true_eq, not_or, Nat.not_le] at free
      refine (Dev.starting_le_of_bayState_eq (d := d) (b := b) fun c other => ?_).trans (Nat.le_trans free.2 (Nat.le_max_right ..))
      rw [Dev.bayState_bayEnter_ne _ _ other, Dev.bayState, Dev.rd_congr (Dev.setBay_regs ..), Dev.rd_wrs_ne, Dev.bayState]
      simp only [List.forall_mem_cons, BAY_STATUS_STATE, BAY_STATUS_GATE_A_ON, BAY_STATUS_GATE_B_ON, BAY_STATUS_DISCHARGING, Fld.key,
        List.not_mem_nil, false_imp_iff, implies_true, and_true]
      omega

end Sys2Proof.Machine
end

section
/-! PROOFS. Coded blocks byte by byte (R143), and the single-loss row of a data shard (R151): the lost term is what the check
shard and the other terms leave, since a byte added twice is 0. -/
namespace Sys2Proof.Machine

/-! ### Rows of products -/

theorem getD_map_gfMul (c : Byte) (b : List Byte) (j : Nat) : (b.map (gfMul c)).getD j 0#8 = gfMul c (b.getD j 0#8) := by
  have zero : gfMul c 0#8 = 0#8 := gfMul_zero c
  have product := List.getD_map (gfMul c) (l := b) (n := j) (d := 0#8)
  rwa [zero] at product

theorem getD_xorBlk (a b : List Byte) (j : Nat) : (xorBlk a b).getD j 0#8 = a.getD j 0#8 ^^^ b.getD j 0#8 := by
  induction a, b using xorBlk.induct generalizing j with
  | case1 r => simp [xorBlk]
  | case2 l => cases l <;> simp [xorBlk]
  | case3 a l b r ih =>
    cases j with
    | zero => simp [xorBlk]
    | succ j => simpa [xorBlk] using ih j

theorem getD_dotBlk (row : List Byte) (blks : List (List Byte)) (j : Nat) :
    (dotBlk row blks).getD j 0#8 = dotRow row (blks.map (fun b => b.getD j 0#8)) := by
  induction row generalizing blks with
  | nil => simp [dotBlk, dotRow]
  | cons c cs ih =>
    cases blks with
    | nil => simp [dotBlk, dotRow]
    | cons b bs => rw [dotBlk, getD_xorBlk, getD_map_gfMul, ih, List.map_cons, dotRow]

theorem dotRow_append (a b : List Byte) (x y : List Byte) (h : a.length = x.length) :
    dotRow (a ++ b) (x ++ y) = dotRow a x ^^^ dotRow b y := by
  induction a generalizing x with
  | nil =>
    obtain rfl := List.length_eq_zero_iff.1 h.symm
    simp [dotRow]
  | cons c a ih =>
    cases x with
    | nil => simp at h
    | cons z x =>
      rw [List.cons_append, List.cons_append, dotRow, dotRow, ih x (by simpa using h), BitVec.xor_assoc]

theorem dotRow_singleton (a x : Byte) : dotRow [a] [x] = gfMul a x := by simp [dotRow]

theorem dotRow_map_gfMul (s : Byte) (a x : List Byte) : dotRow (a.map (gfMul s)) x = gfMul s (dotRow a x) := by
  induction a generalizing x with
  | nil => exact (gfMul_zero s).symm
  | cons c a ih =>
    cases x with
    | nil => exact (gfMul_zero s).symm
    | cons z x => rw [List.map_cons, dotRow, dotRow, ih, gfMul_xor_right, gfMul_assoc]

/-! ### A row without one of its terms -/

theorem map_dropIdx {α β : Type} (f : α → β) (l : List α) (i : Nat) : (dropIdx l i).map f = dropIdx (l.map f) i := by
  simp [dropIdx]

theorem length_dropIdx_eq {α β : Type} {l : List α} {m : List β} (h : l.length = m.length) (i : Nat) :
    (dropIdx l i).length = (dropIdx m i).length := by
  simp [dropIdx, h]

/-- A sum of products is its term `i` and the sum of the others. -/
theorem dotRow_eq_dropIdx {a x : List Byte} (h : a.length = x.length) {i : Nat} (hi : i < x.length) :
    dotRow a x = gfMul (a.getD i 0#8) (x.getD i 0#8) ^^^ dotRow (dropIdx a i) (dropIdx x i) := by
  have ha : i < a.length := h ▸ hi
  have split {l : List Byte} (hl : i < l.length) : l = l.take i ++ ([l.getD i 0#8] ++ l.drop (i + 1)) := by
    rw [List.getD_eq_getElem _ _ hl, List.singleton_append, ← List.drop_eq_getElem_cons hl, List.take_append_drop]
  have front : (a.take i).length = (x.take i).length := by simp [h]
  conv_lhs => rw [split ha, split hi]
  rw [dotRow_append _ _ _ _ front, dotRow_append [a.getD i 0#8] _ [x.getD i 0#8] _ rfl, dotRow_singleton, dropIdx, dropIdx,
    dotRow_append _ _ _ _ front]
  ac_rfl

/-- The single-loss row on one byte of each shard (R151). -/
theorem dotRow_singleLoss {e x : List Byte} (h : e.length = x.length) {i : Nat} (hi : i < x.length) (unit : e.getD i 0#8 ≠ 0#8) :
    dotRow ((dropIdx e i).map (gfMul (gfInv (e.getD i 0#8))) ++ [gfInv (e.getD i 0#8)]) (dropIdx x i ++ [dotRow e x]) = x.getD i 0#8 := by
  let s := gfInv (e.getD i 0#8)
  let others := dotRow (dropIdx e i) (dropIdx x i)
  have inverse : gfMul s (e.getD i 0#8) = 1 := by rw [gfMul_comm, gfMul_gfInv _ unit]
  calc dotRow ((dropIdx e i).map (gfMul s) ++ [s]) (dropIdx x i ++ [dotRow e x])
      = gfMul s others ^^^ gfMul s (dotRow e x) := by
        rw [dotRow_append _ _ _ _ (by rw [List.length_map, length_dropIdx_eq h]), dotRow_map_gfMul, dotRow_singleton]
    _ = gfMul s others ^^^ (gfMul s (gfMul (e.getD i 0#8) (x.getD i 0#8)) ^^^ gfMul s others) := by
        rw [dotRow_eq_dropIdx h hi, gfMul_xor_right]
    _ = gfMul s (gfMul (e.getD i 0#8) (x.getD i 0#8)) := by
        rw [BitVec.xor_comm, BitVec.xor_assoc, BitVec.xor_self, BitVec.xor_zero]
    _ = x.getD i 0#8 := by rw [gfMul_assoc, inverse, gfMul_comm, gfMul_one_right]

/-! ### Blocks of one length -/

theorem length_xorBlk {a b : List Byte} {n : Nat} (ha : a.length = n) (hb : b.length = n ∨ b = []) : (xorBlk a b).length = n := by
  subst ha
  induction a, b using xorBlk.induct with
  | case1 r => simpa [xorBlk] using hb
  | case2 l => cases l <;> simp [xorBlk]
  | case3 a l b r ih => simpa [xorBlk] using ih (.inl (by simpa using hb))

/-- A coded block is as long as its inputs, or empty where there is none. -/
theorem length_dotBlk {blks : List (List Byte)} {n : Nat} (h : ∀ b ∈ blks, b.length = n) (row : List Byte) :
    (dotBlk row blks).length = n ∨ dotBlk row blks = [] := by
  induction row generalizing blks with
  | nil => exact .inr (by simp [dotBlk])
  | cons c cs ih =>
    cases blks with
    | nil => exact .inr (by simp [dotBlk])
    | cons b bs =>
      obtain ⟨hb, hbs⟩ := List.forall_mem_cons.1 h
      exact .inl (length_xorBlk (by simpa using hb) (ih hbs))

theorem length_dotBlk_of_ne_nil {blks : List (List Byte)} {n : Nat} (h : ∀ b ∈ blks, b.length = n) {row : List Byte} (hr : row ≠ [])
    (hb : blks ≠ []) : (dotBlk row blks).length = n := by
  obtain ⟨c, cs, rfl⟩ := List.exists_cons_of_ne_nil hr
  obtain ⟨b, bs, rfl⟩ := List.exists_cons_of_ne_nil hb
  obtain ⟨first, rest⟩ := List.forall_mem_cons.1 h
  exact length_xorBlk (by simpa using first) (length_dotBlk rest cs)

theorem mem_of_mem_dropIdx {α : Type} {l : List α} {i : Nat} {x : α} (h : x ∈ dropIdx l i) : x ∈ l :=
  (List.mem_append.1 h).elim List.mem_of_mem_take List.mem_of_mem_drop

theorem dotBlk_singleLoss {e : List Byte} {blks : List (List Byte)} {i n : Nat} (same : e.length = blks.length) (hi : i < blks.length)
    (long : ∀ b ∈ blks, b.length = n) (unit : e.getD i 0#8 ≠ 0#8) :
    dotBlk ((dropIdx e i).map (gfMul (gfInv (e.getD i 0#8))) ++ [gfInv (e.getD i 0#8)]) (dropIdx blks i ++ [dotBlk e blks])
      = blks.getD i [] := by
  have check : (dotBlk e blks).length = n :=
    length_dotBlk_of_ne_nil long (List.ne_nil_of_length_pos (by omega)) (List.ne_nil_of_length_pos (by omega))
  have inputs : ∀ b ∈ dropIdx blks i ++ [dotBlk e blks], b.length = n :=
    List.forall_mem_append.2 ⟨fun b hb => long b (mem_of_mem_dropIdx hb), List.forall_mem_singleton.2 check⟩
  have lost : blks.getD i [] ∈ blks := by
    rw [List.getD_eq_getElem _ _ hi]
    exact List.getElem_mem hi
  refine List.ext_getElem ((length_dotBlk_of_ne_nil inputs (by simp) (by simp)).trans (long _ lost).symm) fun j hj hj' => ?_
  rw [← List.getD_eq_getElem _ 0#8 hj, ← List.getD_eq_getElem _ 0#8 hj', getD_dotBlk, List.map_append, map_dropIdx (fun b : List Byte => b.getD j 0#8), List.map_singleton,
    getD_dotBlk, dotRow_singleLoss (by simpa using same) (by simpa using hi) unit]
  exact List.getD_map (fun b : List Byte => b.getD j 0#8) (l := blks) (d := [])

/-- Settles O23: both clauses byte by byte, where a coded block is a row of products. -/
theorem codedBlocksAndSingleLoss : Obligations.CodedBlocksAndSingleLoss :=
  ⟨getD_dotBlk, fun _ _ _ _ same hi long unit => dotBlk_singleLoss same hi long unit⟩

end Sys2Proof.Machine
end

section
/-! PROOFS. What the debt log covers, entry by entry: an extension covers one stripe more (R223), a cut with room for a split one
stripe less, and a cut without that room no stripe less than is paid (R225). -/
namespace Sys2Proof.Machine

/-- The entry covers stripe `s` of position `i` of plan `p`. -/
def Debt.covers (e : Debt) (p i s : Nat) : Bool :=
  e.plan == p && e.pos == i && decide (e.stripe ≤ s) && decide (s < e.stripe + e.count)

theorem Debt.covers_iff (e : Debt) (p i s : Nat) :
    e.covers p i s = true ↔ e.plan = p ∧ e.pos = i ∧ e.stripe ≤ s ∧ s < e.stripe + e.count := by
  simp only [Debt.covers, Bool.and_eq_true, beq_iff_eq, decide_eq_true_eq, and_assoc]

/-- The log covers a stripe of a position of a plan. -/
def debtOwes (l : List Debt) (p i s : Nat) : Prop := ∃ e ∈ l, e.covers p i s = true

theorem debtOwes_iff (l : List Debt) (p i s : Nat) :
    l.any (fun e => e.plan == p && e.pos == i && decide (e.stripe ≤ s) && decide (s < e.stripe + e.count)) = true ↔ debtOwes l p i s :=
  List.any_eq_true

theorem debtOwes_cons (e : Debt) (l : List Debt) (p i s : Nat) : debtOwes (e :: l) p i s ↔ e.covers p i s = true ∨ debtOwes l p i s := by
  simp [debtOwes]

theorem debtOwes_append (l m : List Debt) (p i s : Nat) : debtOwes (l ++ m) p i s ↔ debtOwes l p i s ∨ debtOwes m p i s := by
  simp [debtOwes, or_and_right, exists_or]

theorem not_debtOwes_nil (p i s : Nat) : ¬debtOwes [] p i s := by simp [debtOwes]

/-! ### Recording -/

theorem length_of_debtExtend {p i s : Nat} {l m : List Debt} (h : debtExtend p i s l = some m) : m.length = l.length := by
  induction l generalizing m with
  | nil => exact absurd h (by simp [debtExtend])
  | cons e l ih =>
    simp only [debtExtend] at h
    split at h
    · rw [← Option.some.inj h]; rfl
    · split at h
      · rw [← Option.some.inj h]; rfl
      · obtain ⟨n, hn, rfl⟩ := Option.map_eq_some_iff.1 h
        rw [List.length_cons, List.length_cons, ih hn]

/-- An extension covers the recorded stripe and what was covered. -/
theorem debtOwes_of_debtExtend {p i s : Nat} {l m : List Debt} (h : debtExtend p i s l = some m) (p' i' s' : Nat) :
    debtOwes m p' i' s' ↔ debtOwes l p' i' s' ∨ (p' = p ∧ i' = i ∧ s' = s) := by
  induction l generalizing m with
  | nil => exact absurd h (by simp [debtExtend])
  | cons e l ih =>
    simp only [debtExtend] at h
    split at h
    · next behind =>
      obtain rfl := Option.some.inj h
      simp only [debtOwes_cons, Debt.covers_iff]
      grind
    · split at h
      · next before =>
        obtain rfl := Option.some.inj h
        simp only [debtOwes_cons, Debt.covers_iff]
        grind
      · obtain ⟨n, hn, rfl⟩ := Option.map_eq_some_iff.1 h
        rw [debtOwes_cons, debtOwes_cons, ih hn, or_assoc]

theorem debtExtend_eq_none {p i s : Nat} {l : List Debt} (h : debtExtend p i s l = none) :
    l.any (fun e => e.plan == p && e.pos == i && (e.stripe + e.count == s || e.stripe == s + 1)) = false := by
  induction l with
  | nil => rfl
  | cons e l ih =>
    simp only [debtExtend] at h
    split at h
    · exact absurd h (by simp)
    · split at h
      · exact absurd h (by simp)
      · rw [List.any_cons, ih (Option.map_eq_none_iff.1 h)]
        simp only [Bool.or_false, Bool.and_eq_false_iff, Bool.or_eq_false_iff, beq_eq_false_iff_ne]
        grind

theorem Dev.raise_debt (d : Dev) (x : Nat) : (d.raise x).debt = d.debt := by rw [Dev.raise_frame]

/-- Recording extends an entry, appends one where there is room, or leaves the log as it is. -/
theorem Dev.debtRecord_cases (d : Dev) (p i s bay : Nat) :
    (∃ l, debtExtend p i s d.debt = some l ∧ (d.debtRecord p i s bay).debt = l)
    ∨ (debtExtend p i s d.debt = none ∧ d.debt.length < 65536 ∧ (d.debtRecord p i s bay).debt = d.debt ++ [⟨d.now, s, 1, p, i, bay⟩])
    ∨ (debtExtend p i s d.debt = none ∧ 65536 ≤ d.debt.length ∧ (d.debtRecord p i s bay).debt = d.debt) := by
  unfold Dev.debtRecord
  split
  · next l extended => exact .inl ⟨l, extended, rfl⟩
  · next new =>
    split
    · next room =>
      refine .inr (.inl ⟨new, room, ?_⟩)
      dsimp only
      split
      · rw [Dev.raise_debt, Dev.raise_debt]
      · rw [Dev.raise_debt]
    · next full => exact .inr (.inr ⟨new, Nat.not_lt.1 full, rfl⟩)

theorem Dev.debtOwes_debtRecord {d : Dev} {p i s : Nat} (bay : Nat) (room : d.debtRoom p i s = true) (p' i' s' : Nat) :
    debtOwes (d.debtRecord p i s bay).debt p' i' s' ↔ debtOwes d.debt p' i' s' ∨ (p' = p ∧ i' = i ∧ s' = s) := by
  obtain ⟨l, extended, result⟩ | ⟨-, -, result⟩ | ⟨new, full, -⟩ := d.debtRecord_cases p i s bay
  · rw [result, debtOwes_of_debtExtend extended]
  · rw [result, debtOwes_append, debtOwes_cons, Debt.covers_iff]
    have := not_debtOwes_nil p' i' s'
    grind
  · rw [Dev.debtRoom, debtExtend_eq_none new, Bool.false_or, decide_eq_true_eq] at room
    omega

theorem Dev.length_debtRecord {d : Dev} (p i s bay : Nat) (h : d.debt.length ≤ 65536) : (d.debtRecord p i s bay).debt.length ≤ 65536 := by
  obtain ⟨l, extended, result⟩ | ⟨-, room, result⟩ | ⟨-, -, result⟩ := d.debtRecord_cases p i s bay
  · rw [result, length_of_debtExtend extended]
    exact h
  · rw [result, List.length_append]
    exact room
  · rw [result]
    exact h

/-! ### Paying down -/

theorem length_debtCut_le (room : Bool) (s : Nat) (e : Debt) : (debtCut room s e).length ≤ 1 + b2n room := by
  unfold debtCut
  repeat' split
  all_goals simp_all [b2n]

/-- A cut with room for a split takes exactly the paid stripe out of the entry. -/
theorem debtOwes_debtCut {e : Debt} {p i s : Nat} (h : e.covers p i s = true) (p' i' s' : Nat) :
    debtOwes (debtCut true s e) p' i' s' ↔ e.covers p' i' s' = true ∧ ¬(p' = p ∧ i' = i ∧ s' = s) := by
  rw [Debt.covers_iff] at h
  unfold debtCut
  repeat' split
  all_goals grind [debtOwes_cons, not_debtOwes_nil, Debt.covers_iff]

/-- A cut keeps every other stripe, whether or not there is room for a split. -/
theorem debtOwes_debtCut_of_ne {e : Debt} {p i s : Nat} (h : e.covers p i s = true) (room : Bool) {p' i' s' : Nat}
    (owed : e.covers p' i' s' = true) (other : ¬(p' = p ∧ i' = i ∧ s' = s)) : debtOwes (debtCut room s e) p' i' s' := by
  rw [Debt.covers_iff] at h owed
  unfold debtCut
  repeat' split
  all_goals grind [debtOwes_cons, not_debtOwes_nil, Debt.covers_iff]

/-- One entry under paying down: cut where it covers the stripe, or kept. -/
theorem debtPaid_cons (p i s room : Nat) (e : Debt) (l : List Debt) : debtPaid p i s room (e :: l) =
    if e.covers p i s = true then debtCut (decide (0 < room)) s e ++ debtPaid p i s (room + 1 - (debtCut (decide (0 < room)) s e).length) l
    else e :: debtPaid p i s room l := by
  simp only [debtPaid, Debt.covers_iff]

theorem length_debtPaid_le (p i s room : Nat) (l : List Debt) : (debtPaid p i s room l).length ≤ l.length + room := by
  induction l generalizing room with
  | nil => exact Nat.zero_le _
  | cons e l ih =>
    rw [debtPaid_cons]
    split
    · have cut := length_debtCut_le (decide (0 < room)) s e
      have rest := ih (room + 1 - (debtCut (decide (0 < room)) s e).length)
      have spare : b2n (decide (0 < room)) ≤ room := by unfold b2n; split <;> simp_all; omega
      rw [List.length_append, List.length_cons]
      omega
    · have rest := ih room
      rw [List.length_cons, List.length_cons]
      omega

/-- With room for a split of every entry that covers the stripe, paying down takes out that stripe and nothing else. -/
theorem debtOwes_debtPaid {p i s room : Nat} {l : List Debt} (h : (l.filter (·.covers p i s)).length ≤ room) (p' i' s' : Nat) :
    debtOwes (debtPaid p i s room l) p' i' s' ↔ debtOwes l p' i' s' ∧ ¬(p' = p ∧ i' = i ∧ s' = s) := by
  induction l generalizing room with
  | nil => simp [debtPaid, not_debtOwes_nil]
  | cons e l ih =>
    rw [debtPaid_cons, debtOwes_cons]
    by_cases covered : e.covers p i s = true
    · rw [List.filter_cons, if_pos covered, List.length_cons] at h
      have space : decide (0 < room) = true := decide_eq_true (by omega)
      have cut := length_debtCut_le true s e
      rw [if_pos covered, space, debtOwes_append, debtOwes_debtCut covered, ih (by rw [b2n, if_pos rfl] at cut; omega), or_and_right]
    · rw [List.filter_cons, if_neg covered] at h
      rw [if_neg covered, debtOwes_cons, ih h, or_and_right]
      have : e.covers p' i' s' = true → ¬(p' = p ∧ i' = i ∧ s' = s) := fun owed same => covered (by rwa [same.1, same.2.1, same.2.2] at owed)
      rw [and_iff_left_of_imp this]

theorem debtOwes_debtPaid_of_ne {p i s : Nat} (room : Nat) {l : List Debt} {p' i' s' : Nat} (owed : debtOwes l p' i' s')
    (other : ¬(p' = p ∧ i' = i ∧ s' = s)) : debtOwes (debtPaid p i s room l) p' i' s' := by
  induction l generalizing room with
  | nil => exact absurd owed (not_debtOwes_nil _ _ _)
  | cons e l ih =>
    rw [debtPaid_cons]
    split
    · next covered =>
      exact (debtOwes_append ..).2 (((debtOwes_cons ..).1 owed).imp (fun own => debtOwes_debtCut_of_ne covered _ own other) (ih _))
    · exact (debtOwes_cons ..).2 (((debtOwes_cons ..).1 owed).imp_right (ih _))

/-- Settles O32: what the log covers after recording and after paying down, entry by entry. -/
theorem debtsAreRecordedAndPaidExactly : Obligations.DebtsAreRecordedAndPaidExactly := by
  intro d p i s bay
  simp only [debtOwes_iff]
  refine ⟨fun room p' i' s' => Dev.debtOwes_debtRecord bay room p' i' s', fun room p' i' s' => ?_,
    fun p' i' s' owed other => debtOwes_debtPaid_of_ne _ owed other, fun fits => ⟨?_, Dev.length_debtRecord p i s bay fits⟩⟩
  · exact debtOwes_debtPaid (Nat.le_sub_of_add_le' room) p' i' s'
  · exact (length_debtPaid_le ..).trans (by omega)

end Sys2Proof.Machine
end

section
/-! PROOFS. Delivery and the window of a link's session (R303–R305, R315). -/
namespace Sys2Proof.Machine

/-! ### Messages cut from a channel's bytes -/

/-- A number read within the first `n` bytes does not depend on what follows them. -/
theorem leAt_take {b : List Byte} {n o k : Nat} (h : o + k ≤ n) : leAt (b.take n) o k = leAt b o k := by
  rw [leAt, leAt, List.drop_take, List.take_take, Nat.min_eq_left (by omega)]

theorem le_length_of_msgOk {vc t len : Nat} (h : msgOk vc t len = true) : 4 ≤ len := by
  unfold msgOk at h
  grind

/-- A message as a channel allows it: as long as its length field says, of a type and a length of that channel (R315, R316). -/
def wholeMsg (vc : Nat) (x : List Byte) : Prop := x.length = leAt x 2 2 ∧ msgOk vc (leAt x 0 1) x.length = true

theorem wholeMsg_take {vc : Nat} {b : List Byte} (ok : msgOk vc (leAt b 0 1) (leAt b 2 2) = true) (long : leAt b 2 2 ≤ b.length) :
    wholeMsg vc (b.take (leAt b 2 2)) := by
  have size := le_length_of_msgOk ok
  have length : (b.take (leAt b 2 2)).length = leAt b 2 2 := List.length_take_of_le long
  rw [wholeMsg, length, leAt_take size, leAt_take (by omega)]
  exact ⟨rfl, ok⟩

/-- Cutting messages off the front splits the bytes, and each piece cut is a whole message. -/
theorem cutMsgs_spec (n vc : Nat) (b : List Byte) :
    (cutMsgs n vc b).1.flatten ++ (cutMsgs n vc b).2.1 = b ∧ ∀ x ∈ (cutMsgs n vc b).1, wholeMsg vc x := by
  induction n generalizing b with
  | zero => exact ⟨rfl, fun x hx => absurd hx List.not_mem_nil⟩
  | succ n ih =>
    rw [cutMsgs]
    split
    · exact ⟨rfl, fun x hx => absurd hx List.not_mem_nil⟩
    · dsimp only
      split
      · exact ⟨rfl, fun x hx => absurd hx List.not_mem_nil⟩
      · next noError =>
        split
        · exact ⟨rfl, fun x hx => absurd hx List.not_mem_nil⟩
        · next long =>
          simp only [Bool.or_eq_true, Bool.not_eq_true', not_or, Bool.not_eq_false] at noError
          obtain ⟨whole, messages⟩ := ih (b.drop (leAt b 2 2))
          refine ⟨?_, List.forall_mem_cons.2 ⟨wholeMsg_take noError.1 (Nat.not_lt.1 long), messages⟩⟩
          rw [List.flatten_cons, List.append_assoc, whole, List.take_append_drop]

/-! ### Delivery -/

/-- What one delivery does: the flit numbered NEXT leaves the reorder buffer, and its channel alone moves (R305). -/
theorem Session.deliver1_spec {s t : Session} {m : List (List Byte)} {ok : Bool} (h : s.deliver1 = some (m, t, ok)) :
    ∃ vc p, (s.next, vc, p) ∈ s.reorder
      ∧ m.flatten ++ t.rx.get vc [] = s.rx.get vc [] ++ p
      ∧ (∀ x, x ∈ m → x.length = leAt x 2 2 ∧ msgOk vc (leAt x 0 1) x.length = true)
      ∧ (∀ v, v ≠ vc → t.rx.get v [] = s.rx.get v [] ∧ t.granted.get v 0 = s.granted.get v 0)
      ∧ t.next = (s.next + 1) % 4096 ∧ (∀ r, r ∈ t.reorder ↔ r ∈ s.reorder ∧ r.1 ≠ s.next) := by
  obtain ⟨⟨q, vc, p⟩, found, result⟩ := Option.map_eq_some_iff.1 h
  have number : q = s.next := by simpa using List.find?_some found
  subst number
  simp only [Prod.mk.injEq] at result
  obtain ⟨rfl, rfl, -⟩ := result
  obtain ⟨whole, messages⟩ := cutMsgs_spec 62 vc (s.rx.get vc [] ++ p)
  refine ⟨vc, p, List.mem_of_find?_eq_some found, ?_, messages, fun v other => ⟨?_, ?_⟩, rfl, fun r => ?_⟩
  · rw [Tab.get_set_eq, whole]
  · exact Tab.get_set_ne _ _ _ _ other
  · exact Tab.get_set_ne _ _ _ _ other
  · rw [List.mem_filter, bne_iff_ne]

theorem Session.deliver1_eq_none {s : Session} (h : s.deliver1 = none) : ∀ r ∈ s.reorder, r.1 ≠ s.next := by
  simpa using List.find?_eq_none.1 (Option.map_eq_none_iff.1 h)

/-- A run of deliveries without a framing error takes every flit up to the first gap, or as many as it may. -/
theorem Session.deliver_spec (n : Nat) {s t : Session} {l m : List (List Byte)} (small : s.next < 4096)
    (h : Session.deliver n s l = (m, t, true)) :
    ∃ k, k ≤ n ∧ t.next = (s.next + k) % 4096
      ∧ (∀ i, i < k → i < 4096 → ∃ r ∈ s.reorder, r.1 = (s.next + i) % 4096) ∧ (k < n → ∀ r ∈ t.reorder, r.1 ≠ t.next) := by
  have here {s t : Session} {l m : List (List Byte)} (small : s.next < 4096) (h : (l, s, true) = (m, t, true)) :
      t = s ∧ t.next = (s.next + 0) % 4096 := by
    obtain ⟨-, rfl, -⟩ := Prod.mk.injEq .. ▸ h
    exact ⟨rfl, (Nat.mod_eq_of_lt small).symm⟩
  induction n generalizing s l with
  | zero =>
    obtain ⟨-, next⟩ := here small h
    exact ⟨0, Nat.le_refl _, next, fun i hi => absurd hi (Nat.not_lt_zero i), fun more => absurd more (Nat.not_lt_zero 0)⟩
  | succ n ih =>
    rw [Session.deliver] at h
    split at h
    · next gap =>
      obtain ⟨rfl, next⟩ := here small h
      exact ⟨0, Nat.zero_le _, next, fun i hi => absurd hi (Nat.not_lt_zero i), fun _ => Session.deliver1_eq_none gap⟩
    · exact absurd h (by simp)
    · next m' s' first =>
      obtain ⟨vc, p, member, -, -, -, next, left⟩ := Session.deliver1_spec first
      obtain ⟨k, hk, last, run, stop⟩ := ih (by rw [next]; exact Nat.mod_lt _ (by decide)) h
      refine ⟨k + 1, Nat.succ_le_succ hk, by omega, fun i hi hi' => ?_, fun more => stop (by omega)⟩
      obtain _ | i := i
      · exact ⟨_, member, (Nat.mod_eq_of_lt small).symm⟩
      · obtain ⟨r, hr, number⟩ := run i (by omega) (by omega)
        exact ⟨r, ((left r).1 hr).1, by omega⟩

/-- Settles O39: one delivery takes the flit numbered NEXT and cuts whole messages off its channel's bytes, and a run of them is
an induction on its length. -/
theorem deliveryKeepsEveryByteInOrder : Obligations.DeliveryKeepsEveryByteInOrder :=
  ⟨fun _ _ _ _ h => Session.deliver1_spec h, fun n _ _ _ small h => Session.deliver_spec n small h⟩

/-! ### The window -/

/-- Two sessions with the same numbers sent and acknowledged, and the same window. -/
def Session.sameWindow (s t : Session) : Prop := t.snd = s.snd ∧ t.una = s.una ∧ t.width = s.width

/-- At most a window's flits between UNA and SND (R303). -/
def Session.withinWindow (s : Session) : Prop := s.snd < 4096 ∧ s.una < 4096 ∧ seqDist s.snd s.una ≤ s.window

theorem Session.withinWindow_of_sameWindow {s t : Session} (h : s.sameWindow t) (hs : s.withinWindow) : t.withinWindow := by
  obtain ⟨snd, una, width⟩ := h
  rw [Session.withinWindow, Session.window, snd, una, width]
  exact hs

/-- One number more sent while fewer than the window are unacknowledged. -/
theorem Session.withinWindow_succ {s t : Session} (hs : s.withinWindow) (window : s.window ≤ 1024) (room : seqDist s.snd s.una < s.window)
    (h : t.snd = (s.snd + 1) % 4096 ∧ t.una = s.una ∧ t.width = s.width) : t.withinWindow := by
  obtain ⟨snd, una, -⟩ := hs
  obtain ⟨snd', una', width⟩ := h
  simp only [Session.withinWindow, Session.window, snd', una', width, seqDist] at *
  omega

theorem Session.room_of_ready {s : Session} {vc : Nat} (h : s.ready vc = true) : seqDist s.snd s.una < s.window := by
  simp only [Session.ready, Bool.and_eq_true, decide_eq_true_eq] at h
  exact h.2

theorem Session.ready_of_control {s : Session} {active : Bool} {vc : Nat} (h : s.control active = some vc) : s.ready vc = true := by
  simp only [Session.control] at h
  split at h
  · exact absurd h (by simp)
  · split at h
    · next two => obtain rfl := Option.some.inj h; exact two
    · split at h
      · next one => obtain rfl := Option.some.inj h; exact (Bool.and_eq_true_iff.1 one).2
      · exact absurd h (by simp)

/-! ### What a slot does to its link's session -/

theorem Dev.sess_setSess (d : Dev) (l : Nat) (s : Session) : ((d.setSess l s).link l).sess = s := by
  rw [Dev.setSess, Dev.link_setLink]

theorem Dev.sess_congr {d e : Dev} (h : e.lnk = d.lnk) (l : Nat) : (e.link l).sess = (d.link l).sess := by
  rw [Dev.link, Dev.link, h]

theorem Dev.sess_setStream (d : Dev) (l : Nat) (x : Stream) : ((d.setStream l x).link l).sess = (d.link l).sess := by
  simp only [Dev.setStream, Dev.link_setLink]

theorem Dev.sess_showSess (d : Dev) (l k : Nat) : ((d.showSess l).link k).sess = (d.link k).sess :=
  Dev.sess_congr (Dev.wrs_lnk ..) k

theorem Dev.sess_emitFlit (d : Dev) (l : Nat) (f : List Byte) :
    ((d.emitFlit l f).link l).sess = { (d.link l).sess with txLane := ((d.link l).sess.txLane + 1) % (d.link l).sess.width } :=
  (Dev.sess_congr rfl l).trans (Dev.sess_setSess ..)

theorem Dev.sess_msgSent (d : Dev) (l : Nat) (tail : List Byte) : ((d.msgSent l tail).link l).sess = (d.link l).sess := by
  simp only [Dev.msgSent]
  split
  · exact Dev.sess_setStream ..
  · rfl

theorem Dev.sess_foldl_msgSent (l : Nat) (ms : List (List Byte)) (d : Dev) :
    ((ms.foldl (fun d m => if leAt m 0 1 < 0x20 then d.msgSent l (msgTail m) else d) d).link l).sess = (d.link l).sess := by
  induction ms generalizing d with
  | nil => rfl
  | cons m ms ih =>
    rw [List.foldl_cons, ih]
    split
    · exact Dev.sess_msgSent ..
    · rfl

theorem Dev.sameWindow_sendCtrl (d : Dev) (l : Nat) : (d.link l).sess.sameWindow ((d.sendCtrl l).link l).sess := by
  rw [Dev.sendCtrl, Dev.sess_emitFlit, Dev.sess_setSess]
  exact ⟨rfl, rfl, rfl⟩

theorem Dev.sameWindow_sendIdle (d : Dev) (l : Nat) : (d.link l).sess.sameWindow ((d.sendIdle l).link l).sess := by
  rw [Dev.sendIdle, Dev.sess_emitFlit, Dev.sess_setSess]
  exact ⟨rfl, rfl, rfl⟩

theorem Dev.sameWindow_sendAgain (d : Dev) (l : Nat) {t : TxFlit} (h : t.rexmits < 8) :
    (d.link l).sess.sameWindow ((d.sendAgain l t).link l).sess := by
  rw [Dev.sendAgain, if_neg (Nat.not_le.2 h), Dev.sess_emitFlit, Dev.inc, Dev.sess_congr (Dev.wr_lnk ..), Dev.sess_congr (Dev.wr_lnk ..), Dev.sess_setSess]
  exact ⟨rfl, rfl, rfl⟩

/-- A new flit takes the next number; nothing is acknowledged by it. -/
theorem Dev.sess_sendData (d : Dev) (l vc : Nat) : ((d.sendData l vc).link l).sess.snd = ((d.link l).sess.snd + 1) % 4096
    ∧ ((d.sendData l vc).link l).sess.una = (d.link l).sess.una ∧ ((d.sendData l vc).link l).sess.width = (d.link l).sess.width := by
  rw [Dev.sendData, Dev.sess_foldl_msgSent, Dev.sess_emitFlit, Dev.sess_setSess]
  exact ⟨rfl, rfl, rfl⟩

theorem Dev.withinWindow_sendData {d : Dev} {l vc : Nat} (hd : (d.link l).sess.withinWindow) (window : (d.link l).sess.window ≤ 1024)
    (ready : (d.link l).sess.ready vc = true) : ((d.sendData l vc).link l).sess.withinWindow :=
  Session.withinWindow_succ hd window (Session.room_of_ready ready) (d.sess_sendData l vc)

/-- Settles O40: a slot either leaves SND and UNA, or sends one new flit on a channel that is ready, which it is only within the
window. -/
theorem sendersStayWithinTheirWindow : Obligations.SendersStayWithinTheirWindow := by
  intro d l within window hd retry
  have kept {e : Dev} (h : (d.link l).sess.sameWindow (e.link l).sess) : (e.link l).sess.withinWindow := Session.withinWindow_of_sameWindow h hd
  have counted (s : Session) (hs : s.withinWindow) (n : Nat) : Session.withinWindow { s with since12 := n } := hs
  have finish (e : Dev) (n : Nat) (he : (e.link l).sess.withinWindow) :
      ((if !e.flitting l then e else (e.setSess l { (e.link l).sess with since12 := n }).showSess l).link l).sess.withinWindow := by
    split
    · exact he
    · rw [Dev.sess_showSess, Dev.sess_setSess]
      exact counted _ he n
  show ((txSlot l d).link l).sess.withinWindow
  unfold txSlot
  split
  · exact hd
  · refine finish _ _ ?_
    split
    · next t due => exact kept (d.sameWindow_sendAgain l (retry t (List.mem_of_find?_eq_some due) (by simpa using List.find?_some due)))
    · split
      · exact kept (d.sameWindow_sendCtrl l)
      · split
        · next vc chosen => exact Dev.withinWindow_sendData hd window (Session.ready_of_control chosen)
        · split
          · next ready => exact Dev.withinWindow_sendData hd window (Bool.and_eq_true_iff.1 ready).2
          · exact kept (d.sameWindow_sendIdle l)

end Sys2Proof.Machine
end

section
/-! PROOFS. Read tags of a link: what forwarding, serving pages and the discard timers leave of a tag in use. -/
namespace Sys2Proof.Machine

set_option Elab.async false

/-! ### Time -/

/-- Windows that close change the registers and the windows alone. -/
theorem Dev.closeWindows_frame (d : Dev) :
    d.closeWindows = { d with regs := d.closeWindows.regs, flt := d.closeWindows.flt } := by
  simp only [Dev.closeWindows]
  exact List.foldlRecOn (motive := fun e : Dev => e = { d with regs := e.regs, flt := e.flt }) _ _ rfl
    (fun e he w _ => by rw [he]; rfl)

theorem Dev.heartbeats_frame (d : Dev) (n : Nat) : d.heartbeats n = { d with regs := (d.heartbeats n).regs } :=
  List.foldlRecOn (motive := fun e : Dev => e = { d with regs := e.regs }) _ _ rfl (fun e he c _ => by
    show (if e.coreRuns c then _ else e) = _
    split
    · rw [he]; rfl
    · exact he)

/-- Time that passes changes DEVICE_TIME, the registers and the fault windows alone. -/
theorem Dev.advance_frame (d : Dev) (t : Nat) :
    d.advance t = { d with now := (d.advance t).now, regs := (d.advance t).regs, flt := (d.advance t).flt } := by
  simp only [Dev.advance]
  split
  · split
    · rw [Dev.closeWindows_frame]
    · rw [Dev.heartbeats_frame, Dev.closeWindows_frame]
  · rfl

/-! ### Tags -/

theorem Dev.btag_congr {d e : Dev} (h : e.brg.tags = d.brg.tags) (l t : Nat) : e.btag l t = d.btag l t := by rw [Dev.btag, h, Dev.btag]

theorem Dev.btag_setTag_ne (d : Dev) {l t k u : Nat} (x : Option RTag) (ht : t < 256) (hu : u < 256) (h : k ≠ l ∨ u ≠ t) :
    (d.setTag k u x).btag l t = d.btag l t := Tab.get_set_ne _ _ _ _ (by omega)

theorem Dev.isNone_btag_of_freeTag {d : Dev} {l t : Nat} (h : d.freeTag l = some t) : d.btag l t = none := by
  simpa using List.find?_some h

theorem Dev.lt_of_freeTag {d : Dev} {l t : Nat} (h : d.freeTag l = some t) : t < 256 := List.mem_range.1 (List.mem_of_find?_eq_some h)

/-- Every tag below the free one that is taken is in use. -/
theorem Dev.isSome_btag_of_lt_freeTag {d : Dev} {l u v : Nat} (h : d.freeTag l = some u) (lt : v < u) : (d.btag l v).isSome = true := by
  simp only [Dev.freeTag, List.find?_range_eq_some] at h
  obtain ⟨-, -, below⟩ := h
  simpa [Option.isSome_iff_ne_none] using below v lt

theorem Dev.btag_raise (d : Dev) (x l t : Nat) : (d.raise x).btag l t = d.btag l t := Dev.btag_congr (by rw [Dev.raise_frame]) l t

theorem Dev.btag_logRead (d : Dev) (n w k a z u r l t : Nat) : (d.logRead n w k a z u r).btag l t = d.btag l t :=
  Dev.btag_raise ..

theorem Dev.btag_advance (d : Dev) (x l t : Nat) : (d.advance x).btag l t = d.btag l t := Dev.btag_congr (by rw [Dev.advance_frame]) l t

theorem Dev.btag_countTags (d : Dev) (k l t : Nat) : (d.countTags k).btag l t = d.btag l t := Dev.btag_congr (by simp [Dev.countTags]) l t

theorem Dev.btag_txMsg (d : Dev) (k vc l t : Nat) (m : List Byte) : (d.txMsg k vc m).btag l t = d.btag l t := by
  unfold Dev.txMsg
  split <;> rfl

theorem Dev.btag_pageOut (d : Dev) (p : BPage) (r l t : Nat) : (d.pageOut p r).btag l t = d.btag l t := by
  simp only [Dev.pageOut]
  split
  · rfl
  · exact Dev.btag_logRead ..

theorem Dev.btag_evict (d : Dev) (n l t : Nat) : (d.evict n).btag l t = d.btag l t := by
  simp only [Dev.evict]
  split
  · rfl
  · split
    · exact Dev.btag_pageOut ..
    · rfl

theorem Dev.btag_invalidate (d : Dev) (k a z l t : Nat) : (d.invalidate k a z).btag l t = d.btag l t :=
  List.foldlRecOn (motive := fun e : Dev => e.btag l t = d.btag l t) _ _ rfl (fun e he p _ => by
    dsimp only
    split
    · exact he
    · split
      · exact he
      · rw [Dev.btag_pageOut, he])

section
variable {l t : Nat} {g : RTag} (lt : t < 256)
include lt

/-- A tag that a request takes is not one in use. -/
theorem Dev.btag_setTag_free {d : Dev} {k u : Nat} (x : Option RTag) (used : d.btag l t = some g) (free : d.freeTag k = some u) :
    (d.setTag k u x).btag l t = d.btag l t := by
  refine d.btag_setTag_ne x lt (Dev.lt_of_freeTag free) ?_
  by_contra same
  obtain ⟨rfl, rfl⟩ : k = l ∧ u = t := by omega
  rw [Dev.isNone_btag_of_freeTag free] at used
  cases used

theorem Dev.btag_readPage {d e : Dev} {n w k a : Nat} {pre : Bool} (used : d.btag l t = some g) (read : d.readPage n w k a pre = some e) :
    e.btag l t = some g := by
  simp only [Dev.readPage, Option.map_eq_some_iff] at read
  obtain ⟨u, free, rfl⟩ := read
  have evicted : (d.evict n).btag l t = some g := (Dev.btag_evict ..).trans used
  have still : (d.evict n).freeTag k = some u := by
    rw [← free]
    simp only [Dev.freeTag, Dev.btag_evict]
  rw [Dev.btag_txMsg]
  exact (Dev.btag_countTags ..).trans ((Dev.btag_setTag_free lt _ evicted still).trans evicted)

theorem Dev.btag_readPage_getD {d : Dev} (n w k a : Nat) (pre : Bool) (used : d.btag l t = some g) :
    ((d.readPage n w k a pre).getD d).btag l t = some g := by
  cases read : d.readPage n w k a pre with
  | none => exact used
  | some e => exact Dev.btag_readPage lt used read

theorem Dev.btag_readAhead {d : Dev} (r : BRead) (used : d.btag l t = some g) : (d.readAhead r).btag l t = some g := by
  simp only [Dev.readAhead]
  split
  · exact used
  · split
    · exact Dev.btag_readPage_getD lt _ _ _ _ _ used
    · exact used

theorem Dev.btag_readPages {d : Dev} (r : BRead) (used : d.btag l t = some g) : (d.readPages r).btag l t = some g := by
  have asked := List.foldlRecOn (motive := fun e : Dev => e.btag l t = some g) (d.missing r)
    (fun d a => (d.readPage r.port r.win r.link a false).getD d) used (fun e he a _ => Dev.btag_readPage_getD lt _ _ _ _ _ he)
  simp only [Dev.readPages]
  split
  · exact Dev.btag_readAhead lt r asked
  · exact asked

theorem Dev.btag_sendRead {d : Dev} (r : BRead) (used : d.btag l t = some g) : (d.sendRead r).btag l t = some g := by
  simp only [Dev.sendRead]
  split
  · exact used
  · next u free =>
    rw [Dev.btag_txMsg]
    exact (Dev.btag_countTags ..).trans ((Dev.btag_setTag_free lt _ used free).trans used)

omit lt in
theorem Dev.btag_sendWrite (d : Dev) (x : BWrite) : (d.sendWrite x).btag l t = d.btag l t := by
  simp only [Dev.sendWrite]
  split
  · rfl
  · rw [Dev.btag_invalidate, Dev.btag_txMsg]
    rfl

theorem Dev.btag_forward1 {d : Dev} (k : Nat) (used : d.btag l t = some g) : (d.forward1 k).btag l t = some g := by
  simp only [Dev.forward1]
  split
  · split
    · split
      · exact used
      · split
        · exact Dev.btag_readPages lt _ used
        · exact Dev.btag_sendRead lt _ used
    · exact used
  · split
    · split
      · exact (Dev.btag_sendWrite ..).trans used
      · exact used
    · exact used

theorem Dev.btag_forward {d : Dev} (k : Nat) (used : d.btag l t = some g) : (d.forward k).btag l t = some g :=
  List.foldlRecOn (motive := fun e : Dev => e.btag l t = some g) _ _ used (fun _ he _ _ => Dev.btag_forward1 lt k he)

theorem Dev.btag_servePages {d : Dev} (used : d.btag l t = some g) : d.servePages.btag l t = some g :=
  List.foldlRecOn (motive := fun e : Dev => e.btag l t = some g) _ _ used (fun e he r _ => by
    dsimp only
    split
    · exact he
    · exact Dev.btag_readAhead (d := e.emit _) lt r he)

theorem Dev.btag_tagExpires {d : Dev} {k u : Nat} (other : k ≠ l ∨ u ≠ t) (lu : u < 256) (used : d.btag l t = some g) :
    (d.tagExpires k u).btag l t = some g := by
  simp only [Dev.tagExpires]
  split
  · exact used
  · split
    · refine Dev.btag_forward lt k ?_
      rw [Dev.btag_countTags, Dev.btag_setTag_ne _ _ lt lu other]
      exact (Dev.btag_logRead ..).trans ((Dev.btag_advance ..).trans used)
    · exact used

end

/-- Settles O43: a request takes a tag that no request holds, and no other step of the bridge touches one. -/
theorem tagsInUseAreNotReused : Obligations.TagsInUseAreNotReused := by
  intro d l t g used lt
  refine ⟨Dev.btag_forward lt l used, Dev.btag_servePages lt used, fun k u other lu => Dev.btag_tagExpires lt other lu used, ?_,
    fun u free v below => Dev.isSome_btag_of_lt_freeTag free below⟩
  intro free
  rw [Dev.isNone_btag_of_freeTag free] at used
  cases used

end Sys2Proof.Machine
end

section
/-! PROOFS. The swaps of the logical engines: what adds one and what joins the pending one. -/
namespace Sys2Proof.Machine

set_option Elab.async false

/-! ### What leaves the swaps as they are -/

theorem Dev.swaps_testRest (d : Dev) : d.testRest.mgt.swaps = d.mgt.swaps :=
  List.foldlRecOn (motive := fun e : Dev => e.mgt.swaps = d.mgt.swaps) _ _ rfl (fun e he s _ => by
    show (if e.flag (SLC_STATE_TEST_BUSY s) = e.inTest s then e else _).mgt.swaps = _
    split
    · exact he
    · exact he)

theorem Dev.swaps_showTest (d : Dev) (k c u : Nat) : (d.showTest k c u).mgt.swaps = d.mgt.swaps := rfl

theorem Dev.swaps_finish (d : Dev) (n s r : Nat) : (d.finish n s r).mgt.swaps = d.mgt.swaps := by rw [Dev.finish_frame]

theorem Dev.swaps_endTest (d : Dev) (n k c u o : Nat) : (d.endTest n k c u o).mgt.swaps = d.mgt.swaps := by
  rw [Dev.endTest, Dev.swaps_finish, Dev.raise_mgt, Dev.swaps_testRest]
  rfl

theorem Dev.swaps_actionDone (d : Dev) (a : FAct) : (d.actionDone a).mgt.swaps = d.mgt.swaps := by
  simp only [Dev.actionDone, Dev.actionEntry]
  rw [Dev.history_frame]
  rfl

theorem Dev.swaps_actionBare (d : Dev) (a : FAct) : (d.actionBare a).mgt.swaps = d.mgt.swaps := by
  simp only [Dev.actionBare, Dev.actionEntry]
  rw [Dev.history_frame]
  rfl

theorem Dev.swaps_abortEngTest (d : Dev) (p : Nat) : (d.abortEngTest p).mgt.swaps = d.mgt.swaps := by
  simp only [Dev.abortEngTest]
  split
  · rfl
  · exact Dev.swaps_endTest ..

theorem Dev.swaps_addSwap (d : Dev) (w : Swap) : (d.addSwap w).mgt.swaps = d.mgt.swaps ++ [w] := by
  simp only [Dev.addSwap]
  split <;> rfl

/-! ### At most one swap of an engine -/

/-- Does the swap belong to logical engine `u`? -/
def Swap.ofEngine (w : Swap) (u : Nat) : Bool := w.kind == 1 && w.unit == u

/-- No logical engine has two pending swaps (R476). -/
def swapsOnce (l : List Swap) : Prop := ∀ u, (l.filter (·.ofEngine u)).length ≤ 1

theorem Dev.not_ofEngine_of_pendingSwap {d : Dev} {e : Nat} (h : d.pendingSwap e = none) : ∀ w ∈ d.mgt.swaps, ¬ w.ofEngine e = true :=
  List.find?_eq_none.1 h

/-- A swap of an engine that has none keeps the rule. -/
theorem swapsOnce_append {d : Dev} {w : Swap} (once : swapsOnce d.mgt.swaps) (kind : w.kind = 1) (none : d.pendingSwap w.unit = none) :
    swapsOnce (d.mgt.swaps ++ [w]) := by
  intro u
  rw [List.filter_append, List.length_append]
  by_cases h : w.ofEngine u = true
  · obtain rfl : w.unit = u := by simpa [Swap.ofEngine, kind] using h
    rw [List.filter_eq_nil_iff.2 (Dev.not_ofEngine_of_pendingSwap none)]
    exact (Nat.zero_add _).trans_le (List.length_filter_le ..)
  · simpa [List.filter_cons, h] using once u

/-- A swap that takes on another asker stays the swap of its engine. -/
theorem swapsOnce_joinSwap {d : Dev} {e : Nat} {f : Swap → Swap} (once : swapsOnce d.mgt.swaps)
    (same : ∀ w, (f w).kind = w.kind ∧ (f w).unit = w.unit) : swapsOnce (d.joinSwap e f).mgt.swaps := by
  intro u
  have kept (w : Swap) : (if w.kind = 1 ∧ w.unit = e then f w else w).ofEngine u = w.ofEngine u := by
    split
    · rw [Swap.ofEngine, (same w).1, (same w).2, Swap.ofEngine]
    · rfl
  show ((d.mgt.swaps.map (fun w => if w.kind = 1 ∧ w.unit = e then f w else w)).filter (·.ofEngine u)).length ≤ 1
  rw [List.filter_map, List.length_map]
  simpa [Function.comp_def, kept] using once u

theorem swapsOnce_addSwap {d x : Dev} {w : Swap} (once : swapsOnce d.mgt.swaps) (kind : w.kind = 1) (none : d.pendingSwap w.unit = none)
    (same : x.mgt.swaps = d.mgt.swaps) : swapsOnce (x.addSwap w).mgt.swaps := by
  rw [Dev.swaps_addSwap, same]
  exact swapsOnce_append once kind none

theorem swapsOnce_engAction {d : Dev} (a : FAct) (p : Nat) (once : swapsOnce d.mgt.swaps) : swapsOnce (d.engAction a p).mgt.swaps := by
  simp only [Dev.engAction]
  split
  · split
    · rw [Dev.swaps_actionDone]
      exact once
    · rw [Dev.swaps_endTest]
      exact (Dev.swaps_actionDone ..).symm ▸ once
  · split
    · exact swapsOnce_joinSwap once (fun _ => ⟨rfl, rfl⟩)
    · next free =>
      have none := Option.not_isSome_iff_eq_none.1 free
      split
      · exact swapsOnce_addSwap once rfl none rfl
      · split
        · exact swapsOnce_addSwap once rfl none (Dev.swaps_abortEngTest ..)
        · exact swapsOnce_addSwap once rfl none (Dev.swaps_actionBare ..)

theorem swapsOnce_bringEngine {d : Dev} (n e : Nat) (once : swapsOnce d.mgt.swaps) : swapsOnce (d.bringEngine n e).mgt.swaps := by
  simp only [Dev.bringEngine]
  split
  · exact swapsOnce_joinSwap once (fun _ => ⟨rfl, rfl⟩)
  · next free =>
    split
    · rw [Dev.swaps_finish]
      exact once
    · exact swapsOnce_addSwap once rfl (Option.not_isSome_iff_eq_none.1 free) rfl

theorem swapsOnce_testEngine {d : Dev} (n p : Nat) (once : swapsOnce d.mgt.swaps) : swapsOnce (d.testEngine n p).mgt.swaps := by
  have refused (s : Nat) : swapsOnce (d.finish n s).mgt.swaps := (Dev.swaps_finish ..).symm ▸ once
  simp only [Dev.testEngine]
  split
  · exact refused _
  · split
    · split
      · exact once
      · rw [Dev.swaps_endTest]
        exact once
    · split
      · exact refused _
      · split
        · split
          · exact refused _
          · rw [Dev.swaps_testRest]
            exact swapsOnce_joinSwap (d := d.showTest 1 1 p) once (fun _ => ⟨rfl, rfl⟩)
        · next none =>
          split
          · exact refused _
          · rw [Dev.swaps_testRest]
            exact swapsOnce_addSwap once rfl none (Dev.swaps_showTest ..)

/-- BRING_IN_SPARE of an engine with a pending swap joins it (R476). -/
theorem bringEngine_pending {d : Dev} {n e : Nat} {w : Swap} (pending : d.pendingSwap e = some w) :
    d.bringEngine n e = d.joinSwap e (fun w => { w with cmds := w.cmds ++ [n] }) := by
  rw [Dev.bringEngine, if_pos (by rw [pending]; rfl)]

theorem Dev.pendingSwap_joinSwap {d : Dev} {e : Nat} {f : Swap → Swap} {w : Swap} (pending : d.pendingSwap e = some w)
    (same : ∀ w, (f w).kind = w.kind ∧ (f w).unit = w.unit) : (d.joinSwap e f).pendingSwap e = some (f w) := by
  have kept (w : Swap) : (if w.kind = 1 ∧ w.unit = e then f w else w).ofEngine e = w.ofEngine e := by
    split
    · rw [Swap.ofEngine, (same w).1, (same w).2, Swap.ofEngine]
    · rfl
  have found : d.mgt.swaps.find? (·.ofEngine e) = some w := pending
  have own : w.kind = 1 ∧ w.unit = e := by simpa [Swap.ofEngine] using List.find?_some found
  show (d.mgt.swaps.map (fun w => if w.kind = 1 ∧ w.unit = e then f w else w)).find? (·.ofEngine e) = some (f w)
  rw [List.find?_map]
  simp only [Function.comp_def, kept, found, Option.map_some, own, and_self, if_true]

/-- Settles O57: a swap is added only where the engine has none; every other asker joins the pending one. -/
theorem atMostOneSwapPerEngine : Obligations.AtMostOneSwapPerEngine := by
  intro d once hd
  refine ⟨fun a p => swapsOnce_engAction a p hd, fun n e => swapsOnce_bringEngine n e hd, fun n p => swapsOnce_testEngine n p hd, ?_⟩
  intro n e pending
  obtain ⟨w, found⟩ := Option.ne_none_iff_exists'.1 pending
  rw [bringEngine_pending found]
  exact ⟨List.length_map .., _, Dev.pendingSwap_joinSwap found (fun _ => ⟨rfl, rfl⟩), List.mem_append_right _ (List.mem_singleton_self n)⟩

end Sys2Proof.Machine
end

section
/-! PROOFS. The fault windows: what one event of a source counts, and when it escalates. -/
namespace Sys2Proof.Machine

set_option Elab.async false

/-- The instance a source's events are counted for (R456). -/
def countedInst (u : FUnit) (src inst : Nat) : Nat := if perInstance u src then inst else 0

/-- Is the window the one in which the event counts? -/
def FWin.counts (u : FUnit) (src inst : Nat) (w : FWin) : Bool := w.unit == unitBase u && w.src == src && w.inst == countedInst u src inst

/-- The windows of a source's instance that are open (R455). -/
def Dev.openWins (d : Dev) (u : FUnit) (src inst : Nat) : List FWin :=
  d.flt.wins.filter (fun w => w.counts u src inst && decide (d.now < w.start + d.winLen (unitBase u) src))

/-- Those windows and every other source's: what is left once the instance's closed windows are gone. -/
def Dev.winsLeft (d : Dev) (u : FUnit) (src inst : Nat) : List FWin :=
  d.flt.wins.filter (fun w => !w.counts u src inst || (d.openWins u src inst).contains w)

/-- The count an event reaches. -/
def Dev.reached (d : Dev) (u : FUnit) (src inst : Nat) : Nat :=
  match d.openWins u src inst with
  | [] => 1
  | w :: _ => w.count + 1

/-- The windows after an event that does not escalate. -/
def Dev.winsCounted (d : Dev) (u : FUnit) (src inst : Nat) : List FWin :=
  match d.openWins u src inst with
  | [] => Dev.openWindow { d with flt := { d.flt with wins := d.winsLeft u src inst } } u src (countedInst u src inst)
  | _ => (d.winsLeft u src inst).map (fun w => if w.counts u src inst then { w with count := d.reached u src inst } else w)

section
variable (d : Dev) (u : FUnit) (src inst cls : Nat)

theorem Dev.countWindow_eq : d.countWindow u src inst cls =
    if cls = 2 ∨ d.rd (FAULT_CLASS_CFG_N u src) ≤ d.reached u src inst then
      (true, Dev.showWin { d with flt := { d.flt with wins := (d.winsLeft u src inst).filter (fun w => !w.counts u src inst) } } (unitBase u) src)
    else (false, Dev.showWin { d with flt := { d.flt with wins := d.winsCounted u src inst } } (unitBase u) src) := by
  rfl

theorem Dev.countWindow_now : (d.countWindow u src inst cls).2.now = d.now := by rw [Dev.countWindow_frame]

/-- What the window's length and the source's N are read from does not move. -/
theorem Dev.rd_countWindow {f : Fld} (h : f.key ≠ Fld.key ⟨unitBase u + 0xF80 + 4 * src, 0, 8⟩) :
    (d.countWindow u src inst cls).2.rd f = d.rd f := by
  rw [Dev.countWindow_eq]
  split
  · exact Dev.rd_wr_ne _ _ _ _ h
  · exact Dev.rd_wr_ne _ _ _ _ h

theorem Dev.winLen_countWindow : (d.countWindow u src inst cls).2.winLen (unitBase u) src = d.winLen (unitBase u) src := by
  simp only [Dev.winLen]
  rw [Dev.rd_countWindow, Dev.rd_countWindow] <;> simp only [Fld.key] <;> omega

theorem Dev.classCfgN_countWindow :
    (d.countWindow u src inst cls).2.rd (FAULT_CLASS_CFG_N u src) = d.rd (FAULT_CLASS_CFG_N u src) := by
  rw [Dev.rd_countWindow]
  simp only [FAULT_CLASS_CFG_N, FAULT_CLASS_CFG, Fld.key]
  omega

theorem Dev.filter_winsLeft : (d.winsLeft u src inst).filter (·.counts u src inst) = d.openWins u src inst := by
  rw [Dev.winsLeft, List.filter_filter]
  refine List.filter_congr (fun w hw => ?_)
  have mem : (d.openWins u src inst).contains w = (w.counts u src inst && decide (d.now < w.start + d.winLen (unitBase u) src)) := by
    rw [Bool.eq_iff_iff, List.contains_iff_mem, Dev.openWins, List.mem_filter]
    exact and_iff_right hw
  rw [mem]
  cases w.counts u src inst <;> simp

/-- The windows of a full tracker that gives up the oldest are among those it had. -/
theorem Dev.openWindow_eq (k : Nat) : ∃ l, l.Sublist d.flt.wins ∧ d.openWindow u src k = l ++ [⟨unitBase u, src, k, d.now, 1⟩] := by
  refine ⟨_, ?_, rfl⟩
  have dropped (l : List FWin) (i : Nat) : (l.take i ++ l.drop (i + 1)).Sublist l := by
    rw [← List.eraseIdx_eq_take_drop_succ]
    exact List.eraseIdx_sublist ..
  dsimp only
  split
  · split
    · exact dropped ..
    · exact List.Sublist.refl _
  · exact List.Sublist.refl _

end

section
variable {d e : Dev} {u : FUnit} {src inst cls : Nat}

/-- After the `k`th event of a source since time `t` its open windows are one, of count `k`; before the first there is none. -/
def openAfter (u : FUnit) (src inst t : Nat) : Nat → List FWin
  | 0 => []
  | k + 1 => [⟨unitBase u, src, countedInst u src inst, t, k + 1⟩]

theorem Dev.reached_of_openAfter {k : Nat} (h : d.openWins u src inst = openAfter u src inst d.now k) : d.reached u src inst = k + 1 := by
  rw [Dev.reached, h]
  cases k <;> rfl

theorem FWin.counts_mk (t c : Nat) : FWin.counts u src inst ⟨unitBase u, src, countedInst u src inst, t, c⟩ = true := by
  simp [FWin.counts]

/-- An event that does not escalate leaves one open window, which has counted it. -/
theorem Dev.filter_winsCounted {k : Nat} (h : d.openWins u src inst = openAfter u src inst d.now k) :
    (d.winsCounted u src inst).filter (·.counts u src inst) = openAfter u src inst d.now (k + 1) := by
  have left := d.filter_winsLeft u src inst
  rw [h] at left
  rw [Dev.winsCounted, h]
  cases k with
  | zero =>
    obtain ⟨l, sub, eq⟩ := Dev.openWindow_eq { d with flt := { d.flt with wins := d.winsLeft u src inst } } u src (countedInst u src inst)
    have none : l.filter (·.counts u src inst) = [] := List.sublist_nil.1 ((sub.filter _).trans (left ▸ List.Sublist.refl _))
    show (Dev.openWindow _ u src (countedInst u src inst)).filter _ = _
    rw [eq, List.filter_append, none, List.nil_append, List.filter_cons, if_pos (FWin.counts_mk ..)]
    rfl
  | succ k =>
    rw [Dev.reached_of_openAfter h]
    show ((d.winsLeft u src inst).map _).filter _ = _
    rw [List.filter_map]
    have same : ((·.counts u src inst) ∘ fun w : FWin => if w.counts u src inst then { w with count := k + 1 + 1 } else w)
        = (·.counts u src inst) := by
      funext w
      dsimp only [Function.comp_apply]
      split <;> rfl
    rw [same, left, openAfter, List.map_singleton, if_pos (FWin.counts_mk ..)]
    rfl

theorem Dev.countWindow_escalates (h : d.rd (FAULT_CLASS_CFG_N u src) ≤ d.reached u src inst) : (d.countWindow u src inst cls).1 = true := by
  rw [Dev.countWindow_eq, if_pos (.inr h)]

theorem Dev.countWindow_counts (grave : cls ≠ 2) (h : d.reached u src inst < d.rd (FAULT_CLASS_CFG_N u src)) :
    (d.countWindow u src inst cls).1 = false ∧ (d.countWindow u src inst cls).2.flt.wins = d.winsCounted u src inst := by
  rw [Dev.countWindow_eq, if_neg (not_or.2 ⟨grave, Nat.not_le.2 h⟩)]
  exact ⟨rfl, rfl⟩

theorem Dev.not_counts_of_escalates (h : d.rd (FAULT_CLASS_CFG_N u src) ≤ d.reached u src inst) :
    ∀ w ∈ (d.countWindow u src inst cls).2.flt.wins, w.counts u src inst = false := by
  rw [Dev.countWindow_eq, if_pos (.inr h)]
  intro w hw
  simpa using (List.mem_filter.1 hw).2

/-- What stays true from one event of a source to the next, `k` events after device `d`. -/
structure Dev.Counted (d : Dev) (u : FUnit) (src inst k : Nat) (e : Dev) : Prop where
  now : e.now = d.now
  len : e.winLen (unitBase u) src = d.winLen (unitBase u) src
  n : e.rd (FAULT_CLASS_CFG_N u src) = d.rd (FAULT_CLASS_CFG_N u src)
  wins : e.openWins u src inst = openAfter u src inst d.now k

theorem Dev.Counted.reached {k : Nat} (h : d.Counted u src inst k e) : e.reached u src inst = k + 1 :=
  Dev.reached_of_openAfter (by rw [h.now, h.wins])

theorem Dev.Counted.succ {k : Nat} (h : d.Counted u src inst k e) (grave : cls ≠ 2)
    (len : 0 < d.winLen (unitBase u) src) (lt : k + 1 < d.rd (FAULT_CLASS_CFG_N u src)) :
    d.Counted u src inst (k + 1) (e.countWindow u src inst cls).2 := by
  obtain ⟨-, wins⟩ := Dev.countWindow_counts (inst := inst) (d := e) grave (by rw [h.reached, h.n]; exact lt)
  have now : (e.countWindow u src inst cls).2.now = d.now := (Dev.countWindow_now ..).trans h.now
  have len' : (e.countWindow u src inst cls).2.winLen (unitBase u) src = d.winLen (unitBase u) src :=
    (Dev.winLen_countWindow e u src inst cls).trans h.len
  refine ⟨now, len', (Dev.classCfgN_countWindow e u src inst cls).trans h.n, ?_⟩
  have counted : (e.winsCounted u src inst).filter (·.counts u src inst) = openAfter u src inst d.now (k + 1) := by
    rw [Dev.filter_winsCounted (h.now ▸ h.wins), h.now]
  rw [Dev.openWins, wins, now, len', ← List.filter_filter, List.filter_comm, counted]
  exact List.filter_eq_self.2 (by simp [openAfter, len])

end

/-- Settles O55: while fewer than N have come the open window's count is the number of events, and the Nth reaches N. -/
theorem theNthEventInAWindowEscalates : Obligations.TheNthEventInAWindowEscalates := by
  intro d u src inst cls _ grave len closed n after
  have start : d.Counted u src inst 0 d := by
    refine ⟨rfl, rfl, rfl, List.filter_eq_nil_iff.2 (fun w hw open_ => ?_)⟩
    simp only [FWin.counts, Bool.and_eq_true, beq_iff_eq, decide_eq_true_eq] at open_
    obtain ⟨⟨⟨unit, source⟩, -⟩, lt⟩ := open_
    have le := closed w hw unit source
    rw [unit, source] at le
    omega
  have after_succ (k : Nat) : after (k + 1) = ((after k).countWindow u src inst cls).2 := by
    simp only [after, List.range_succ, List.foldl_append, List.foldl_cons, List.foldl_nil]
  have counted (k : Nat) (lt : k = 0 ∨ k < n) : d.Counted u src inst k (after k) := by
    induction k with
    | zero => exact start
    | succ k ih =>
      rw [after_succ]
      exact (ih (by omega)).succ grave len (by omega)
  have last := counted (n - 1) (by omega)
  have full : (after (n - 1)).rd (FAULT_CLASS_CFG_N u src) ≤ (after (n - 1)).reached u src inst := by
    rw [last.reached, last.n]
    omega
  refine ⟨fun k lt => ?_, Dev.countWindow_escalates full, fun w hw unit source same => ?_⟩
  · have now := counted k (by omega)
    exact (Dev.countWindow_counts grave (by rw [now.reached, now.n]; exact lt)).1
  · rw [show Nat.max n 1 = n - 1 + 1 from by show max n 1 = _; omega, after_succ] at hw
    have other := Dev.not_counts_of_escalates full w hw
    simp [FWin.counts, countedInst, unit, source, same] at other

end Sys2Proof.Machine
end

section
/-! PROOFS. A loss of core power: what the fields of VSTBY read after it. -/
namespace Sys2Proof.Machine

set_option Elab.async false

/-- Of writes of fields that are all different, each field reads what its own write gave it. -/
theorem Dev.rd_wrs_of_mem {l : List (Fld × Nat)} (distinct : l.Pairwise (fun p q => p.1.key ≠ q.1.key)) :
    ∀ (d : Dev) {p : Fld × Nat}, p ∈ l → (d.wrs l).rd p.1 = p.2 % 2 ^ p.1.width := by
  induction l with
  | nil => intro d p hp; cases hp
  | cons q l ih =>
    intro d p hp
    obtain ⟨head, tail⟩ := List.pairwise_cons.1 distinct
    rw [Dev.wrs_cons]
    rcases List.mem_cons.1 hp with rfl | hp
    · rw [Dev.rd_wrs_ne _ _ _ (fun r hr => head r hr), Dev.rd_wr_eq]
    · exact ih tail _ hp

/-- The fields whose values the power controller carries over a loss of core power. -/
def Dev.carried (d : Dev) : List Fld :=
  [SCH_SIGN_ENFORCE, GLB_THERM_STATUS_TRIP, GLB_THERM_STATUS_TRIP_DIE, AON_CHRYSALIS_STATUS_B0_RUN, AON_REG_BROWNOUT_SEEN,
    AON_REG_TIME_SUSPECT, HP_STATUS_MGR d.mgrPort]

theorem Dev.carried_distinct (d : Dev) : (d.carried.map (fun f => (f, d.rd f))).Pairwise (fun p q => p.1.key ≠ q.1.key) := by
  simp only [Dev.carried, List.map_cons, List.map_nil, List.pairwise_cons, List.mem_cons, List.not_mem_nil, or_false, forall_eq_or_imp,
    forall_eq, SCH_SIGN_ENFORCE, SCH_SIGN, GLB_THERM_STATUS_TRIP, GLB_THERM_STATUS_TRIP_DIE, GLB_THERM_STATUS, AON_CHRYSALIS_STATUS_B0_RUN,
    AON_CHRYSALIS_STATUS, AON_REG_BROWNOUT_SEEN, AON_REG_TIME_SUSPECT, AON_REG, HP_STATUS_MGR, HP_STATUS, Fld.key, List.Pairwise.nil,
    IsEmpty.forall_iff, implies_true, and_true]
  omega

/-- A field that is not carried over reads what it read before those fields are written. -/
theorem Dev.rd_wrs_carried {d : Dev} {f : Fld} (own : ∀ g ∈ d.carried, f.key ≠ g.key) (x : Dev) :
    (x.wrs (d.carried.map (fun f => (f, d.rd f)))).rd f = x.rd f := by
  refine Dev.rd_wrs_ne _ _ _ (fun p hp => ?_)
  obtain ⟨g, hg, rfl⟩ := List.mem_map.1 hp
  exact own g hg

/-- The bays whose bit of BAY_SHORTED is set are shown SHORTED (R381). -/
def Dev.shownShorted (e : Dev) (shorted : Nat → Bool) : Dev :=
  (List.range 64).foldl (fun e b => if shorted b then e.wr (BAY_STATUS_STATE b) bsShorted else e) e

/-- Is the bay's bit of BAY_SHORTED set? -/
def Dev.shortedBit (d : Dev) (b : Nat) : Bool := bit (d.rd BAY_SHORTED_LO_BAY + 2 ^ 32 * d.rd BAY_SHORTED_HI_BAY) b

theorem Dev.shownShorted_now (e : Dev) (s : Nat → Bool) : (e.shownShorted s).now = e.now ∧ (e.shownShorted s).out = e.out :=
  List.foldlRecOn (motive := fun x : Dev => x.now = e.now ∧ x.out = e.out) _ _ ⟨rfl, rfl⟩ (fun x hx b _ => by
    split <;> exact hx)

theorem Dev.rd_shownShorted {f : Fld} (h : ∀ b, b < 64 → f.key ≠ (BAY_STATUS_STATE b).key) (e : Dev) (s : Nat → Bool) :
    (e.shownShorted s).rd f = e.rd f :=
  List.foldlRecOn (motive := fun x : Dev => x.rd f = e.rd f) _ _ rfl (fun x hx b hb => by
    split
    · rw [Dev.rd_wr_ne _ _ _ _ (h b (List.mem_range.1 hb)), hx]
    · exact hx)

theorem BAY_STATUS_STATE_key_ne {b c : Nat} (h : b ≠ c) : (BAY_STATUS_STATE b).key ≠ (BAY_STATUS_STATE c).key := by
  simp only [BAY_STATUS_STATE, BAY_STATUS, Fld.key]
  omega

/-- A bay that is shown SHORTED stays so while the others are shown. -/
theorem Dev.bayState_shownShorted {s : Nat → Bool} {b : Nat} (hb : b < 64) (set : s b = true) (e : Dev) : (e.shownShorted s).bayState b = bsShorted := by
  obtain ⟨before, after, split⟩ := List.append_of_mem (List.mem_range.2 hb)
  rw [Dev.shownShorted, split, List.foldl_append, List.foldl_cons, if_pos set]
  refine List.foldlRecOn (motive := fun x : Dev => x.bayState b = bsShorted) _ _ (Dev.rd_wr_eq ..) (fun x hx c _ => ?_)
  split
  · by_cases same : b = c
    · subst same
      exact Dev.rd_wr_eq ..
    · exact (Dev.rd_wr_ne _ _ _ _ (BAY_STATUS_STATE_key_ne same)).trans hx
  · exact hx

/-- Does the register store keep a field over a loss of core power? -/
def keptAtLoss (aon : Bool) (k : Nat) : Bool := vstbyHeld (k / 32) || (aon && (aonBlock (k / 32) || octPeak k))

/-- A loss of core power: a store of the kept fields, the fields carried over, and the bays shown SHORTED. -/
theorem Dev.powerLoss_eq (d : Dev) (aon : Bool) : ∃ x : Dev, x.regs = d.regs.filter (fun e => keptAtLoss aon e.1) ∧ x.now = d.now ∧ x.out = d.out
    ∧ d.powerLoss aon = (x.wrs (d.carried.map (fun f => (f, d.rd f)))).shownShorted (x.wrs (d.carried.map (fun f => (f, d.rd f)))).shortedBit :=
  by refine ⟨_, ?_, ?_, ?_, rfl⟩ <;> rfl

section
variable {d : Dev} {aon : Bool}

/-- A field that VSTBY holds is not carried over: it stays where it is. -/
theorem Dev.rd_powerLoss_kept {x : Dev} {f : Fld} (hx : x.regs = d.regs.filter (fun e => keptAtLoss aon e.1)) (kept : keptAtLoss aon f.key = true)
    (own : ∀ g ∈ d.carried, f.key ≠ g.key) : (x.wrs (d.carried.map (fun f => (f, d.rd f)))).rd f = d.rd f := by
  rw [Dev.rd_wrs_carried own, Dev.rd, hx]
  exact Tab.get_filter _ (keptAtLoss aon) _ _ kept

/-- One that is neither held nor carried over reads its Reset value. -/
theorem Dev.rd_powerLoss_gone {x : Dev} {f : Fld} (hx : x.regs = d.regs.filter (fun e => keptAtLoss aon e.1)) (gone : keptAtLoss aon f.key = false)
    (own : ∀ g ∈ d.carried, f.key ≠ g.key) : (x.wrs (d.carried.map (fun f => (f, d.rd f)))).rd f = resetField f.key := by
  rw [Dev.rd_wrs_carried own, Dev.rd, hx]
  exact Tab.get_filter_gone _ (keptAtLoss aon) _ _ gone

/-- A field whose register VSTBY holds is none of those carried over, nor a bay's state. -/
theorem keptAtLoss_of_vstbyHeld {f : Fld} (lo : f.lo < 32) (held : vstbyHeld f.addr = true) :
    keptAtLoss aon f.key = true ∧ (∀ g ∈ d.carried, f.key ≠ g.key) ∧ ∀ b, b < 64 → f.key ≠ (BAY_STATUS_STATE b).key := by
  have addr : f.key / 32 = f.addr := by simp only [Fld.key]; omega
  refine ⟨by rw [keptAtLoss, addr, held, Bool.true_or], ?_⟩
  simp only [vstbyHeld, Bool.or_eq_true, beq_iff_eq, GLB_GRAVE, BAY_SHORTED_LO, BAY_SHORTED_HI, AON_SEAL_COUNT, GLB_STRAP, GLB_TEST] at held
  constructor
  · simp only [Dev.carried, List.mem_cons, List.not_mem_nil, or_false, forall_eq_or_imp, forall_eq, SCH_SIGN_ENFORCE, SCH_SIGN,
      GLB_THERM_STATUS_TRIP, GLB_THERM_STATUS_TRIP_DIE, GLB_THERM_STATUS, AON_CHRYSALIS_STATUS_B0_RUN, AON_CHRYSALIS_STATUS,
      AON_REG_BROWNOUT_SEEN, AON_REG_TIME_SUSPECT, AON_REG, HP_STATUS_MGR, HP_STATUS, Fld.key]
    omega
  · intro b hb
    simp only [BAY_STATUS_STATE, BAY_STATUS, Fld.key]
    omega

/-- No field carried over is a bay's state. -/
theorem Dev.carried_ne_bayStatus {f : Fld} (h : f ∈ d.carried) (b : Nat) : f.key ≠ (BAY_STATUS_STATE b).key := by
  revert f
  simp only [Dev.carried, List.mem_cons, List.not_mem_nil, or_false, forall_eq_or_imp, forall_eq, SCH_SIGN_ENFORCE, SCH_SIGN,
    GLB_THERM_STATUS_TRIP, GLB_THERM_STATUS_TRIP_DIE, GLB_THERM_STATUS, AON_CHRYSALIS_STATUS_B0_RUN, AON_CHRYSALIS_STATUS,
    AON_REG_BROWNOUT_SEEN, AON_REG_TIME_SUSPECT, AON_REG, HP_STATUS_MGR, HP_STATUS, BAY_STATUS_STATE, BAY_STATUS, Fld.key]
  omega

theorem Dev.rd_powerLoss_of_vstbyHeld {f : Fld} (lo : f.lo < 32) (held : vstbyHeld f.addr = true) : (d.powerLoss aon).rd f = d.rd f := by
  obtain ⟨x, regs, -, -, eq⟩ := d.powerLoss_eq aon
  obtain ⟨kept, own, bay⟩ := keptAtLoss_of_vstbyHeld (d := d) (aon := aon) lo held
  rw [eq, Dev.rd_shownShorted bay, Dev.rd_powerLoss_kept regs kept own]

theorem Dev.rd_powerLoss_of_carried {f : Fld} (h : f ∈ d.carried) : (d.powerLoss aon).rd f = d.rd f % 2 ^ f.width := by
  obtain ⟨x, -, -, -, eq⟩ := d.powerLoss_eq aon
  rw [eq, Dev.rd_shownShorted (fun b _ => Dev.carried_ne_bayStatus h b)]
  exact Dev.rd_wrs_of_mem d.carried_distinct x (p := (f, d.rd f)) (List.mem_map.2 ⟨f, h, rfl⟩)

theorem Dev.bayState_powerLoss {b : Nat} (hb : b < 64) (shorted : d.shortedBit b = true) : (d.powerLoss aon).bayState b = 7 := by
  obtain ⟨x, regs, -, -, eq⟩ := d.powerLoss_eq aon
  have same {f : Fld} (lo : f.lo < 32) (held : vstbyHeld f.addr = true) : (x.wrs (d.carried.map (fun f => (f, d.rd f)))).rd f = d.rd f := by
    obtain ⟨kept, own, -⟩ := keptAtLoss_of_vstbyHeld (d := d) (aon := aon) lo held
    exact Dev.rd_powerLoss_kept regs kept own
  rw [eq]
  refine Dev.bayState_shownShorted hb ?_ _
  rw [Dev.shortedBit, same (by decide) (by decide), same (by decide) (by decide)]
  exact shorted

end

/-- Settles O60: the store keeps what VSTBY holds, and the other held fields are written back. -/
theorem vstbyItemsSurvivePowerLoss : Obligations.VstbyItemsSurvivePowerLoss := by
  intro d aon
  obtain ⟨x, regs, now, out, eq⟩ := d.powerLoss_eq aon
  refine ⟨?_, fun f hf => Dev.rd_powerLoss_of_carried hf, ?_, ?_, fun b hb shorted => Dev.bayState_powerLoss hb shorted, ?_⟩
  · have held : ∀ f ∈ [GLB_GRAVE_DEVICE, GLB_GRAVE_BAY, GLB_GRAVE_CAUSE, BAY_SHORTED_LO_BAY, BAY_SHORTED_HI_BAY, AON_SEAL_COUNT_COUNT,
        GLB_STRAP_MGR_PORT, GLB_TEST_FACTORY], f.lo < 32 ∧ vstbyHeld f.addr = true := by decide
    intro f hf
    obtain ⟨lo, reg⟩ := held f hf
    exact Dev.rd_powerLoss_of_vstbyHeld lo reg
  · rw [eq, (Dev.shownShorted_now ..).1, Dev.wrs_now, now]
  · rw [eq, (Dev.shownShorted_now ..).2, Dev.wrs_out, out]
  · rintro rfl f lo gone page own
    have addr : f.key / 32 = f.addr := by simp only [Fld.key]; omega
    rw [eq, Dev.rd_shownShorted]
    · exact Dev.rd_powerLoss_gone regs (by rw [keptAtLoss, addr, gone]; rfl) (fun g hg => (own g hg).symm)
    · intro b hb
      simp only [BAY_STATUS_STATE, BAY_STATUS, Fld.key]
      omega

end Sys2Proof.Machine
end

section
/-! PROOFS. The banks of the chrysalis: EVC_EYESPOT lies in bank B5, but its REFUSED is not among what the bank saves. -/
namespace Sys2Proof.Machine

set_option Elab.async false

/-- A device whose eyespot has refused a mark. -/
def refusedMark : Dev := Dev.wr {} EVC_EYESPOT_REFUSED 1

/-- A device at its Reset values that holds bank B5 as `refusedMark` saved it. -/
def holdsRefusedMark : Dev := { pwr := { banks := [(5, refusedMark.saveBank 5 false)] } }

theorem refusedMark_inBank : refusedMark.inBank 5 EVC_EYESPOT_REFUSED.addr = true := by decide +kernel

/-- The restored bank leaves EVC_EYESPOT.REFUSED at its Reset value. -/
theorem refusedMark_restored : (holdsRefusedMark.restoreBank 5).rd EVC_EYESPOT_REFUSED = 0 ∧ refusedMark.rd EVC_EYESPOT_REFUSED = 1 := by
  decide +kernel

/-- Refutes O53: EVC_EYESPOT.REFUSED, set when B5 is saved, reads 0 once B5 is restored. -/
theorem not_banksReturnWhatTheySaved : ¬ Obligations.BanksReturnWhatTheySaved := by
  intro h
  have returned := h refusedMark holdsRefusedMark 5 false (by decide) (by decide) rfl (fun _ _ _ => rfl) EVC_EYESPOT_REFUSED (by decide)
    refusedMark_inBank (by decide) (by decide)
  obtain ⟨restored, saved⟩ := refusedMark_restored
  rw [restored, saved] at returned
  exact absurd returned (by decide)

end Sys2Proof.Machine
end

section
/-! PROOFS. The queue of commands, time on an empty queue, and reset. -/
namespace Sys2Proof.Machine

set_option Elab.async false

/-- Settles O1: a step is `exec` by definition, and every command answers a settled block. -/
theorem stepIsExecOfTheFrontCommand : Obligations.StepIsExecOfTheFrontCommand := by
  refine ⟨fun s c rest h => by rw [step, h], fun c s => ?_⟩
  obtain ⟨d, eq⟩ := exec_settled c s
  exact ⟨d.settleAll, eq⟩

/-! ### A quiet block has nothing left to settle -/

section
variable {d : Dev}

theorem foldl_eq_self {α : Type} {f : Dev → α → Dev} {l : List α} (h : ∀ x ∈ l, f d x = d) : l.foldl f d = d :=
  List.foldlRecOn (motive := (· = d)) l f rfl (fun e he x hx => by rw [he, h x hx])

theorem Dev.failDead_eq_self (h : d.reads.all (fun r => !r.dead) = true) (fuel : Nat) : Dev.failDead fuel d = d := by
  have none : d.reads.findIdx? (·.dead) = none := List.findIdx?_eq_none_iff.2 (by simpa using h)
  cases fuel with
  | zero => rfl
  | succ fuel => rw [Dev.failDead, none]

theorem Dev.profResume_eq_self (h : (!d.sch.profWait || d.mgt.staging.isSome || d.profBusy) = true) : d.profResume = d := if_pos h

theorem Dev.settleDefer_eq_self (h : (List.range 8).all (fun n => !d.flag (HP_FLR_MOULT_DEFERRED n) || d.deferring n) = true) :
    d.settleDefer = d :=
  foldl_eq_self (fun n hn => if_pos (List.all_eq_true.1 h n hn))

theorem Dev.settle_eq_self (h : d.flt.acts.isEmpty = true) : d.settle = d := by
  have none := List.isEmpty_iff.1 h
  rw [Dev.settle, none, List.foldl_nil, ← none]

theorem Dev.settleFraming_eq_self (h : d.lnk.links.keys.all (fun l => !((d.link l).sess.dead && (d.link l).inbox.isEmpty)) = true) :
    d.settleFraming = d := by
  have none : d.lnk.links.keys.filter (fun l => (d.link l).sess.dead && (d.link l).inbox.isEmpty) = [] :=
    List.filter_eq_nil_iff.2 (fun l hl => Bool.not_eq_true _ ▸ Bool.not_eq_true' _ ▸ List.all_eq_true.1 h l hl)
  rw [Dev.settleFraming, none]
  rfl

theorem Dev.settleTests_eq_self (h : d.lnk.ended.isEmpty = true) : d.settleTests = d := by
  have none := List.isEmpty_iff.1 h
  rw [Dev.settleTests, none, List.foldl_nil, ← none]

theorem Dev.settleRetire_eq_self (h : d.lnk.retiring.isEmpty = true) : d.settleRetire = d := by
  rw [Dev.settleRetire, List.isEmpty_iff.1 h]
  rfl

/-- No window of a FREE slice is on in the register store. -/
theorem Dev.settleWindows_eq_self (h : d.regs.all (fun e =>
      let a := e.1 / 32
      let o := a - 0x1010000
      !(decide (0x1010000 ≤ a ∧ a < 0x1020000 ∧ o % 0x20 = 0 ∧ e.1 % 32 = 0 ∧ e.2 = 1)
        && d.sliceState (d.winSlice (o / 0x2000) (o % 0x2000 / 0x20)) == 0)) = true) : d.settleWindows = d := by
  refine foldl_eq_self (fun w hw => if_neg ?_)
  obtain ⟨e, he, window⟩ := List.mem_filterMap.1 hw
  have bound := List.all_eq_true.1 h e he
  simp only [Option.ite_none_right_eq_some, Option.some.injEq] at window
  obtain ⟨on, rfl⟩ := window
  simpa [on] using bound

theorem Dev.settleStreams_eq_self (h : d.activeLinks.all (fun l => (d.link l).streams.all (fun x =>
      !(x.kind == 1 && !x.cancelled && !x.timedOut && decide (x.slot < 2 ^ 20) && !d.streamCurrent x))) = true) : d.settleStreams = d := by
  refine foldl_eq_self (fun l hl => ?_)
  have none : (d.link l).streams.filter (fun x => x.kind == 1 && !x.cancelled && !x.timedOut && decide (x.slot < 2 ^ 20) && !d.streamCurrent x) = [] :=
    List.filter_eq_nil_iff.2 (fun x hx => Bool.not_eq_true _ ▸ Bool.not_eq_true' _ ▸ List.all_eq_true.1 (List.all_eq_true.1 h l hl) x hx)
  rw [none]
  rfl

theorem Dev.testRest_eq_self (h : d.liveSlices.all (fun s => d.flag (SLC_STATE_TEST_BUSY s) == d.inTest s) = true) : d.testRest = d :=
  foldl_eq_self (fun s hs => if_pos (beq_iff_eq.1 (List.all_eq_true.1 h s hs)))

theorem Dev.sendLtr_eq_self {n : Nat} (h : d.ltrTold n = true) : d.sendLtr n = d := by
  simp only [Dev.sendLtr]
  split
  · rfl
  · next told =>
    refine if_pos ?_
    rw [Dev.ltrTold, Bool.or_eq_true] at h
    exact beq_iff_eq.1 (h.resolve_left told)

theorem Dev.settleLtr_eq_self (h : (List.range 8).all (fun n => d.ltrTold n) = true) : d.settleLtr = d :=
  foldl_eq_self (fun n hn => Dev.sendLtr_eq_self (List.all_eq_true.1 h n hn))

/-- A quiet block is as it was once it has settled. -/
theorem Dev.settleAll_eq_self (h : d.quiet = true) : d.settleAll = d := by
  simp only [Dev.quiet, Bool.and_eq_true] at h
  obtain ⟨⟨⟨⟨⟨⟨⟨⟨⟨⟨reads, prof⟩, defer⟩, framing⟩, tests⟩, ltr⟩, acts⟩, ended⟩, retiring⟩, windows⟩, streams⟩ := h
  rw [Dev.settleAll, Dev.failDead_eq_self reads, Dev.profResume_eq_self (by simpa using prof), Dev.settleDefer_eq_self defer, Dev.settleUnits,
    Dev.settle_eq_self acts, Dev.settleFraming_eq_self framing, Dev.settleTests_eq_self ended, Dev.settleRetire_eq_self retiring,
    Dev.settleWindows_eq_self windows, Dev.settleStreams_eq_self streams, Dev.testRest_eq_self tests, Dev.settleLtr_eq_self ltr]

/-- Without an open window and within 100 µs time alone moves. -/
theorem Dev.advance_quiet {t : Nat} (wins : d.flt.wins = []) (later : d.now < t) (same : d.now / 100000 = t / 100000) :
    d.advance t = { d with now := t } := by
  rw [Dev.advance, if_pos later]
  dsimp only
  rw [if_pos (by omega), Dev.closeWindows]
  dsimp only
  rw [wins, List.filter_nil, List.filter_nil, List.foldl_nil, ← wins]

end

/-- Settles O2. -/
theorem timePassesOnAnEmptyQueue : Obligations.TimePassesOnAnEmptyQueue := by
  refine ⟨fun s empty => ?_, fun d => Dev.settleAll_eq_self⟩
  have ticks : step s = .next (s.settled (s.dev.advance (s.dev.now + 1))) := by rw [step, empty, State.tick, State.settled]
  refine ⟨ticks, fun wins same quiet => ?_⟩
  rw [ticks, Dev.advance_quiet wins (Nat.lt_succ_self _) same, State.settled, Dev.settleAll_eq_self quiet]

/-- Settles O3: nothing is stored at reset, so every field reads its Reset value. -/
theorem resetHoldsTheResetValues : Obligations.ResetHoldsTheResetValues := by
  refine ⟨⟨fun _ => rfl, rfl, rfl, rfl, rfl, rfl, rfl, rfl, rfl, rfl, rfl, rfl, rfl, rfl, by decide +kernel, by decide +kernel, by decide +kernel,
    by decide +kernel, by decide +kernel⟩, fun n w hn hw on => ?_⟩
  have off : State.reset.dev.rd (BRG_WIN_CTRL_ENABLE n w) = 0 := resetField_winCtrl_enable hn hw
  rw [Dev.winOn, Dev.flag, off] at on
  exact absurd on (by decide)

end Sys2Proof.Machine
end

section
/-! PROOFS. Register accesses: what a write of a register without an effect of its own does, what any write does while the set-up
space is locked or the unit is off, and reads of the time. -/
namespace Sys2Proof.Machine

set_option Elab.async false

/-- A command ends in the settled state of what its operation gives. -/
theorem next_settled {s : State} {f : Dev → Dev} {d : Dev} (h : f s.dev = d) : s.run f = .next (s.settled d) := by rw [State.run_eq, h]

/-! ### Where a register lies -/

theorem regIdx_eq_some {base stride n a i : Nat} (h : regIdx base stride n a = some i) : base + stride * i = a := by
  rw [regIdx, Option.ite_none_right_eq_some, Option.some.injEq] at h
  obtain ⟨⟨le, aligned, -⟩, rfl⟩ := h
  have := Nat.mul_div_cancel' (Nat.dvd_of_mod_eq_zero aligned)
  omega

/-- A choice that gives something takes the first branch, or gives it in the second. -/
theorem of_ite_eq_some {α : Type} {c P : Prop} [Decidable c] {x z : α} {y : Option α} (h : (if c then some x else y) = some z)
    (yes : c → x = z → P) (no : y = some z → P) : P := by
  split at h
  · next holds => exact yes holds (Option.some.inj h)
  · exact no h

/-- A unit's fault block stands at offset 0xF00 of its page. -/
theorem unitBase_of_unitAt {a : Nat} {u : FUnit} (h : unitAt a = some u) : unitBase u = a - a % 0x1000 := by
  unfold unitAt at h
  by_cases low : a % 0x1000 < 0xF00
  · cases (if_pos low).symm.trans h
  · replace h := (if_neg low).symm.trans h
    repeat'
      refine of_ite_eq_some h (fun place unit => ?_) (fun h => ?_)
      · rw [← unit]
        simp only [unitBase, Fin.ofNat]
        omega
    cases h

section
variable (d : Dev) (a v : Nat)

/-- A write of a fault block's register is a write of the set-up space at its place. -/
theorem Dev.faultWrite_eq_setup {u : FUnit} (h : unitAt a = some u) : ∃ w f, d.faultWrite u a (a % 0x1000) v = d.setup a w f := by
  have base := unitBase_of_unitAt h
  simp only [Dev.faultWrite]
  split
  · next status =>
    rw [show a = FAULT_STATUS u by simp only [FAULT_STATUS]; omega]
    exact ⟨_, _, rfl⟩
  · split
    · next inject =>
      rw [show a = FAULT_INJECT u by simp only [FAULT_INJECT]; omega]
      exact ⟨_, _, rfl⟩
    · split <;> exact ⟨_, _, rfl⟩

theorem Dev.writeMany_eq_setup {e : Dev} (h : d.writeMany a v = some e) : ∃ w f, e = d.setup a w f := by
  simp only [Dev.writeMany] at h
  split at h <;> cases h
  · next i at_ =>
    obtain rfl := regIdx_eq_some at_
    dsimp only [jnlRegionWrite]
    exact ⟨_, _, rfl⟩
  · next i at_ _ =>
    obtain rfl := regIdx_eq_some at_
    exact ⟨_, _, rfl⟩
  · next i at_ _ _ =>
    obtain rfl := regIdx_eq_some at_
    rw [show SLC_PERM 0 0 + 4 * i = SLC_PERM (i / 256) (i % 256) by simp only [SLC_PERM]; omega]
    exact ⟨_, _, rfl⟩
  · split <;> exact ⟨_, _, rfl⟩
  · exact ⟨_, _, rfl⟩
  · next i at_ _ _ _ _ _ =>
    obtain rfl := regIdx_eq_some at_
    exact ⟨_, _, rfl⟩
  · next i at_ _ _ _ _ _ _ =>
    obtain rfl := regIdx_eq_some at_
    exact ⟨_, _, rfl⟩
  · exact ⟨_, _, rfl⟩

theorem Dev.writeEvc_eq_setup {e : Dev} (h : d.writeEvc a v = some e) (on : d.hubOff = false) : ∃ w f, e = d.setup a w f := by
  simp only [Dev.writeEvc] at h
  split at h <;> cases h
  · next i at_ =>
    obtain rfl := regIdx_eq_some at_
    exact ⟨_, _, rfl⟩
  · next i at_ _ =>
    obtain rfl := regIdx_eq_some at_
    exact ⟨_, _, rfl⟩
  · exact ⟨_, _, rfl⟩
  · next i at_ _ _ _ =>
    obtain rfl := regIdx_eq_some at_
    refine ⟨v, fun d => if i < 2 then d else d.endClaim i (v % 1024), ?_⟩
    rw [evcEoi, on, if_neg Bool.false_ne_true, if_pos rfl]
    rfl

theorem Dev.writeOne_eq_setup (other : a ≠ GLB_SETUP_KEY) : ∃ w f, d.writeOne a v = d.setup a w f := by
  simp only [Dev.writeOne]
  rw [if_neg other]
  split
  · next at_ =>
    subst at_
    exact ⟨_, _, rfl⟩
  · split
    · next at_ =>
      subst at_
      split <;> exact ⟨_, _, rfl⟩
    · repeat'
        split
        · next at_ =>
          subst at_
          exact ⟨_, _, rfl⟩
      exact ⟨_, _, rfl⟩

/-- Every write of the manager but that of GLB_SETUP_KEY is a write of the set-up space at its place (R45–R47). -/
theorem Dev.regWrite_eq_setup (other : a ≠ GLB_SETUP_KEY) (on : d.hubOff = false) : ∃ w f, d.regWrite a v = d.setup a w f := by
  simp only [Dev.regWrite]
  split
  · next u unit => exact d.faultWrite_eq_setup a v unit
  · split
    · next e many => exact d.writeMany_eq_setup a v many
    · split
      · next e evc => exact d.writeEvc_eq_setup a v evc on
      · exact d.writeOne_eq_setup a v other

/-- A write of a register without an effect of its own takes its fields' access types. -/
theorem Dev.regWrite_plain (plain : plainReg a = true) : d.regWrite a v = d.setup a v (fun d => d.writeWord a v) := by
  simp only [plainReg, Bool.and_eq_true, Option.isNone_iff_eq_none, Bool.not_eq_true', List.contains_eq_mem, decide_eq_false_iff_not, List.mem_cons,
    List.not_mem_nil, or_false, not_or] at plain
  obtain ⟨⟨⟨⟨⟨⟨⟨⟨⟨⟨⟨⟨⟨unit, jnl⟩, sign⟩, perm⟩, win⟩, lnk⟩, bay⟩, temp⟩, off⟩, cfg⟩, pending⟩, threshold⟩, eoi⟩, key, prof, power, ledger, wake,
    ack, stage, train, geometry, memtest, model⟩ := plain
  simp only [Dev.regWrite, unit, Dev.writeMany, jnl, sign, perm, win, lnk, bay, temp, off, Dev.writeEvc, cfg, pending, threshold, eoi, Dev.writeOne,
    key, prof, power, ledger, wake, ack, stage, train, geometry, memtest, model, if_false]

end

/-! ### One access of the manager -/

section
variable {d : Dev} {a : Nat}

/-- In a locked space every write but that of the key sets LOCKED_WRITE alone, whatever bytes it enables. -/
theorem Dev.setup_locked (on : d.hubOff = false) (grave : d.flt.grave = false) (locked : d.flag GLB_SETUP_LOCK_LOCKED = true) (v : Nat) (f : Dev → Dev) :
    d.setup a v f = Dev.wr { d with keyHalf := false } GLB_SETUP_LOCK_LOCKED_WRITE 1 := by
  have locked' : Dev.flag { d with keyHalf := false } GLB_SETUP_LOCK_LOCKED = true := locked
  simp [Dev.setup, on, grave, locked']

theorem Dev.setupPart_locked (on : d.hubOff = false) (grave : d.flt.grave = false) (locked : d.flag GLB_SETUP_LOCK_LOCKED = true)
    (other : a ≠ GLB_SETUP_KEY) : d.setupPart a = Dev.wr { d with keyHalf := false } GLB_SETUP_LOCK_LOCKED_WRITE 1 := by
  have locked' : Dev.flag { d with keyHalf := false } GLB_SETUP_LOCK_LOCKED = true := locked
  simp [Dev.setupPart, on, grave, locked', other]

theorem Dev.setup_off (on : d.hubOff = false) (grave : d.flt.grave = false) (unlocked : d.flag GLB_SETUP_LOCK_LOCKED = false)
    (off : d.addrOff a = true) (v : Nat) (f : Dev → Dev) : d.setup a v f = Dev.offAccess { d with keyHalf := false } d.mgrPort a true := by
  have unlocked' : Dev.flag { d with keyHalf := false } GLB_SETUP_LOCK_LOCKED = false := unlocked
  have off' : Dev.addrOff { d with keyHalf := false } a = true := off
  simp only [Dev.setup, on, Bool.false_eq_true, if_false]
  rw [if_neg (by simp [grave]), if_neg (by simp [unlocked']), if_pos off']
  rfl

theorem Dev.setupPart_off (on : d.hubOff = false) (grave : d.flt.grave = false) (unlocked : d.flag GLB_SETUP_LOCK_LOCKED = false)
    (off : d.addrOff a = true) (other : a ≠ GLB_SETUP_KEY) : d.setupPart a = Dev.offAccess { d with keyHalf := false } d.mgrPort a true := by
  have unlocked' : Dev.flag { d with keyHalf := false } GLB_SETUP_LOCK_LOCKED = false := unlocked
  have off' : Dev.addrOff { d with keyHalf := false } a = true := off
  simp only [Dev.setupPart, on, Bool.false_eq_true, if_false]
  rw [if_neg (by simp [grave, other]), if_neg (by simp [unlocked']), if_pos off']
  rfl

/-- Part of an unlocked register that is on: the unlock sequence starts again, nothing else. -/
theorem Dev.setupPart_open (opened : d.setupOpen a = true) : d.setupPart a = { d with keyHalf := false } := by
  simp only [Dev.setupOpen, Bool.and_eq_true, Bool.not_eq_true'] at opened
  obtain ⟨⟨⟨⟨on, grave⟩, unlocked⟩, powered⟩, -⟩ := opened
  have unlocked' : Dev.flag { d with keyHalf := false } GLB_SETUP_LOCK_LOCKED = false := unlocked
  have powered' : Dev.addrOff { d with keyHalf := false } a = false := powered
  simp only [Dev.setupPart, on, Bool.false_eq_true, if_false]
  split
  · rfl
  · rw [if_neg (by simp [unlocked']), if_neg (by simp [powered'])]

end

/-! ### Byte enables -/

theorem toNat_zero_append (be : BitVec 4) : (0#4 ++ be).toNat = be.toNat := by
  rw [BitVec.toNat_append]
  simp

/-- A write of no more than one register is one access of it, or none. -/
theorem registerWrite_low (d : Dev) (n : Nat) (bar2 : Bool) (a v : Nat) {be : Nat} (low : be < 16) :
    registerWrite n bar2 a v be d = if be = 0 then d else d.barWrite n bar2 a (v % 2 ^ 32) (be == 15) := by
  simp only [registerWrite]
  rw [if_pos (show be / 16 = 0 by omega), show be % 16 = be by omega]

theorem registerRead_low (d : Dev) (n : Nat) (bar2 : Bool) (a : Nat) {be : Nat} (low : be < 16) (some : be ≠ 0) :
    d.registerRead n bar2 a be = d.barRead n bar2 a be := by
  simp only [Dev.registerRead]
  rw [if_pos (show be / 16 = 0 by omega), show be % 16 = be by omega, if_neg some]

theorem enabledBytes_all (v : Nat) : enabledBytes 15 v = v % 2 ^ 32 := by
  simp only [enabledBytes, show bit 15 0 = true from rfl, show bit 15 1 = true from rfl, show bit 15 2 = true from rfl,
    show bit 15 3 = true from rfl, if_true]
  omega

theorem Dev.barWrite_mgr {d : Dev} {n : Nat} (mgr : n = d.mgrPort) (a v : Nat) (full : Bool) :
    d.barWrite n false a v full = if full then d.regWrite a v else d.setupPart a := by
  rw [Dev.barWrite, if_neg Bool.false_ne_true, if_pos mgr]

theorem Dev.barWrite_other {d : Dev} {n : Nat} (other : n ≠ d.mgrPort) (a v : Nat) (full : Bool) :
    d.barWrite n false a v full =
      if !d.hubOff && !d.flt.grave && decide (a < 0x1000) && d.addrOff (HP_STATUS n + a) then d.offAccess n (HP_STATUS n + a) true else d := by
  rw [Dev.barWrite, if_neg Bool.false_ne_true, if_neg other]

/-- Settles O6. -/
theorem registerWritesFollowTheirAccess : Obligations.RegisterWritesFollowTheirAccess := by
  intro s p a v
  have whole (h : p.val = s.dev.mgrPort) (plain : plainReg a.toNat = true) (opened : s.dev.setupOpen a.toNat = true) :
      registerWrite p.val false a.toNat v.toNat (0#4 ++ 0xF#4).toNat s.dev
        = (s.dev.opened a.toNat).writeWord a.toNat (v.toNat % 2 ^ 32) := by
    rw [toNat_zero_append, registerWrite_low _ _ _ _ _ (by decide), if_neg (by decide), Dev.barWrite_mgr h, if_pos (by decide),
      Dev.regWrite_plain _ _ _ plain, Dev.setup_open _ _ opened]
  refine ⟨fun h plain opened => next_settled (whole h plain opened), fun h plain opened absent => next_settled ?_, next_settled ?_,
    fun be h opened some part => next_settled ?_, fun be h off => next_settled ?_, next_settled ?_⟩
  · rw [whole h plain opened, Dev.writeWord, absent]
  · rfl
  · have some' : be.toNat ≠ 0 := fun h => some (BitVec.eq_of_toNat_eq h)
    have part' : be.toNat ≠ 15 := fun h => part (BitVec.eq_of_toNat_eq h)
    rw [toNat_zero_append, registerWrite_low _ _ _ _ _ be.isLt, if_neg some', Dev.barWrite_mgr h, if_neg (by simpa using part'),
      Dev.setupPart_open opened]
  · rw [toNat_zero_append, registerWrite_low _ _ _ _ _ be.isLt]
    split
    · rfl
    · rw [Dev.barWrite_other h, if_neg]
      rcases off with outside | on
      · simp [Nat.not_lt.2 outside]
      · simp [on]
  · rw [toNat_zero_append, registerWrite_low _ _ _ _ _ (by decide), if_pos (by rfl)]

/-! ### The unlock sequence, the time, and units that are off -/

theorem hubBlock_low {a : Nat} (low : a < 0x100000) : hubBlock a = true := by simp [hubBlock, low]

/-- The GLB block is on whenever the hub is. -/
theorem Dev.addrOff_low (d : Dev) {a : Nat} (low : a < 0x100000) : d.addrOff a = false := by
  have eng : engAt a = none := if_neg (by omega)
  have lane : laneAt a = none := if_neg (by omega)
  have oct : octAt a = none := if_neg (by omega)
  simp only [Dev.addrOff, hubBlock_low low, isEngStatus, eng, lane, oct, Bool.not_true, Bool.and_false, Bool.false_eq_true, if_false, decide_eq_true_eq,
    Bool.and_eq_true, Nat.not_le.2 low, and_false]

theorem domainOf_low {a : Nat} (low : a < 0x100000) : domainOf a = none := by
  have eng : engAt a = none := if_neg (by omega)
  have lane : laneAt a = none := if_neg (by omega)
  have oct : octAt a = none := if_neg (by omega)
  simp only [domainOf, isEngStatus, eng, lane, oct, Bool.false_eq_true, if_false]
  exact if_neg (by omega)

/-- A read of the GLB block's registers by the manager is carried out. -/
theorem Dev.mgrRead_low (d : Dev) {a : Nat} (low : a < 0x100000) (be : Nat) :
    d.mgrRead a be = (Dev.readEffect { d with keyHalf := false } a).2.emit
      (.readReturn d.mgrPort (enabledBytes be (Dev.readEffect { d with keyHalf := false } a).1)) := by
  have awake : Dev.asleep { d with keyHalf := false } a = none := by
    rw [Dev.asleep, domainOf_low low]
    split <;> rfl
  have touched : Dev.touch { d with keyHalf := false } a = { d with keyHalf := false } := by rw [Dev.touch, domainOf_low low]
  simp only [Dev.mgrRead]
  rw [if_neg (by rw [Dev.addrOff_low _ low]; exact Bool.false_ne_true), awake]
  dsimp only
  rw [touched]
  rfl

/-- GLB_TIME_HI reads the latched high half. -/
theorem Dev.readReg_timeHi (d : Dev) : d.readReg GLB_TIME_HI = d.rd GLB_TIME_HI_NS := by
  have shown : d.shownLow GLB_TIME_HI = [] := rfl
  have fields : regFields GLB_TIME_HI = some [⟨0, 32, .ro, 0, 0, 4294967295⟩] := by rfl
  rw [Dev.readReg, if_neg (by rw [Dev.addrOff_low _ (by decide)]; exact Bool.false_ne_true), if_pos (by decide), shown, List.foldl_nil, Dev.word, fields]
  simp [Dev.fieldVal, GLB_TIME_HI_NS]

/-- The device once GLB_TIME_LO is read. -/
def Dev.timeRead (d : Dev) : Dev := Dev.wrs { d with keyHalf := false } [(GLB_TIME_LO_NS, d.now), (GLB_TIME_HI_NS, d.now / 2 ^ 32)]

theorem Dev.mgrPort_timeRead (d : Dev) : d.timeRead.mgrPort = d.mgrPort :=
  (Dev.rd_wr_ne _ GLB_TIME_HI_NS _ _ (by decide)).trans (Dev.rd_wr_ne _ GLB_TIME_LO_NS _ _ (by decide))

theorem Dev.mgrRead_timeLo (d : Dev) : d.mgrRead GLB_TIME_LO 15 = d.timeRead.emit (.readReturn d.mgrPort (d.now % 2 ^ 32)) := by
  rw [Dev.mgrRead_low _ (by decide), enabledBytes_all]
  simp only [Dev.readEffect, if_true, Nat.mod_mod]
  rfl

theorem Dev.mgrRead_timeHi (d : Dev) : d.mgrRead GLB_TIME_HI 15 =
    Dev.emit { d with keyHalf := false } (.readReturn d.mgrPort (d.rd GLB_TIME_HI_NS % 2 ^ 32)) := by
  have plain : Dev.readEffect { d with keyHalf := false } GLB_TIME_HI = (Dev.rd d GLB_TIME_HI_NS, { d with keyHalf := false }) := by
    have claim : regIdx (EVC_CLAIM 0) 0x1000 8 GLB_TIME_HI = none := by decide
    rw [Dev.readEffect, if_neg (by decide), if_neg (by decide), claim, Dev.readReg_timeHi]
    rfl
  rw [Dev.mgrRead_low _ (by decide), enabledBytes_all, plain]

theorem Dev.barRead_mgr {d : Dev} (on : d.hubOff = false) (a be : Nat) : d.barRead d.mgrPort false a be = d.mgrRead a be := by
  simp [Dev.barRead, on]

/-- The first access of a unit that is off, from port `n` at offset `off`. -/
theorem Dev.offAccess_first {d : Dev} {n : Nat} (free : d.flag (HP_OFF_ACCESS_VALID n) = false) (off : Nat) (w : Bool) :
    d.offAccess n off w = (d.wrs [(HP_OFF_ACCESS_VALID n, 1), (HP_OFF_ACCESS_WRITE n, b2n w), (HP_OFF_ADDR_OFFSET n, off)]).sample (8 + n) := by
  rw [Dev.offAccess, if_neg (by rw [free]; exact Bool.false_ne_true)]

/-- A write that a unit which is off takes, be it of a whole register or of part of one. -/
theorem Dev.barWrite_off {d : Dev} {n a off v : Nat} {full : Bool} {h : Bool} (on : d.hubOff = false) (grave : d.flt.grave = false)
    (place : (n = d.mgrPort ∧ off = a ∧ h = false) ∨ (n ≠ d.mgrPort ∧ a < 0x1000 ∧ off = HP_STATUS n + a ∧ h = d.keyHalf))
    (isOff : d.addrOff off = true) (other : off ≠ GLB_SETUP_KEY) (unlocked : d.flag GLB_SETUP_LOCK_LOCKED = false ∨ n ≠ d.mgrPort) :
    d.barWrite n false a v full = Dev.offAccess { d with keyHalf := h } n off true := by
  rcases place with ⟨mgr, rfl, rfl⟩ | ⟨guest, page, rfl, rfl⟩
  · have unlocked := unlocked.resolve_right (not_not_intro mgr)
    rw [Dev.barWrite_mgr mgr]
    split
    · obtain ⟨w, f, eq⟩ := d.regWrite_eq_setup off v other on
      rw [eq, Dev.setup_off on grave unlocked isOff, ← mgr]
    · rw [Dev.setupPart_off on grave unlocked isOff other, ← mgr]
  · rw [Dev.barWrite_other guest, if_pos (by simp [on, grave, page, isOff])]

theorem Dev.barRead_off {d : Dev} {n a off : Nat} {h : Bool} (on : d.hubOff = false)
    (place : (n = d.mgrPort ∧ off = a ∧ h = false) ∨ (n ≠ d.mgrPort ∧ a < 0x1000 ∧ off = HP_STATUS n + a ∧ h = d.keyHalf))
    (isOff : d.addrOff off = true) (be : Nat) : d.barRead n false a be = Dev.offRead { d with keyHalf := h } n off be := by
  rcases place with ⟨rfl, rfl, rfl⟩ | ⟨guest, page, rfl, rfl⟩
  · have isOff' : Dev.addrOff { d with keyHalf := false } off = true := isOff
    rw [Dev.barRead_mgr on]
    exact if_pos isOff'
  · simp only [Dev.barRead, on, Bool.false_eq_true, if_false, if_neg guest, if_neg (Nat.not_le.2 page), isOff, if_true]

/-- Settles O8. -/
theorem lockedOffAndTimeAccesses : Obligations.LockedOffAndTimeAccesses := by
  refine ⟨fun s p a v be mgr other on grave locked some => next_settled ?_, fun s on => ⟨fun grave _ => next_settled ?_,
    fun grave half => next_settled ?_, fun v grave first second => next_settled ?_, fun _ => ⟨next_settled ?_, fun p mgr => next_settled ?_⟩,
    fun p a v off h free place isOff other => ⟨fun be low some grave unlocked => next_settled ?_, next_settled ?_⟩⟩⟩
  · rw [toNat_zero_append, registerWrite_low _ _ _ _ _ be.isLt, if_neg (fun h : be.toNat = 0 => some (BitVec.eq_of_toNat_eq h)), Dev.barWrite_mgr mgr]
    split
    · obtain ⟨w, f, eq⟩ := s.dev.regWrite_eq_setup a.toNat (v.toNat % 2 ^ 32) other on
      rw [eq, Dev.setup_locked on grave locked]
    · exact Dev.setupPart_locked on grave locked other
  · simp [setupKeyWrite, on, grave]
  · simp [setupKeyWrite, on, grave, half]
  · have first' : v.toNat ≠ 0x5120 := fun h => first (BitVec.eq_of_toNat_eq h)
    have second' : v.toNat ≠ 0xFFFFAEDF := fun h => second (BitVec.eq_of_toNat_eq h)
    simp [setupKeyWrite, on, grave, first', second']
  · rw [glbTimeRead, registerRead_low _ _ _ _ (by decide) (by decide), Dev.barRead_mgr on, Dev.mgrRead_timeLo]
    rfl
  · have on' : (s.dev.timeRead.emit (.readReturn s.dev.mgrPort (s.dev.now % 2 ^ 32))).hubOff = false := on
    have port : p.val = (s.dev.timeRead.emit (.readReturn s.dev.mgrPort (s.dev.now % 2 ^ 32))).mgrPort := mgr.trans s.dev.mgrPort_timeRead.symm
    have low : (0xFF#8).toNat % 16 = 15 ∧ (0xFF#8).toNat / 16 = 15 := by decide
    have hi : (s.dev.timeRead.emit (.readReturn s.dev.mgrPort (s.dev.now % 2 ^ 32))).rd GLB_TIME_HI_NS = s.dev.now / 2 ^ 32 % 2 ^ 32 :=
      Dev.rd_wr_eq ..
    have at_ : (BitVec.ofNat 26 GLB_TIME_LO).toNat = GLB_TIME_LO := by decide
    simp only [offUnitAccess, Dev.registerRead, low, if_neg (show ¬15 = 0 by decide), at_]
    rw [mgr, Dev.barRead_mgr on, Dev.mgrRead_timeLo, show GLB_TIME_LO + 4 = GLB_TIME_HI from rfl]
    refine (congrArg (fun n => Dev.barRead _ n false GLB_TIME_HI 15) (mgr.symm.trans port)).trans ?_
    rw [Dev.barRead_mgr on', Dev.mgrRead_timeHi, ← port, hi, Nat.mod_mod, mgr]
    rfl
  · have low' : be.toNat < 16 := by omega
    simp only [offUnitAccess]
    rw [registerWrite_low _ _ _ _ _ low', if_neg some, Dev.barWrite_off on grave place isOff other unlocked]
    exact Dev.offAccess_first (d := { s.dev with keyHalf := h }) free off true
  · simp only [offUnitAccess]
    rw [show (0x0F#8).toNat = 15 from rfl, registerRead_low _ _ _ _ (by decide) (by decide), Dev.barRead_off on place isOff, Dev.offRead,
      Dev.offAccess_first (d := { s.dev with keyHalf := h }) free off false, enabledBytes_all]
    rfl

end Sys2Proof.Machine
end

section
/-! PROOFS. The event controller: ends of interrupt, pending bits, marks and the sources; and a claim of a source whose number does
not fit the word that returns it. -/
namespace Sys2Proof.Machine

set_option Elab.async false

/-! ### The claim of a source beyond the claim word -/

/-- A pending source of number 2^32, of priority 1 and shown to target 2. -/
def farSource : Dev :=
  Dev.wrs { pwr := { mode := 0 }, evc := { pend := [2 ^ 32] } } [(EVC_SRC_CFG_PRIORITY (2 ^ 32), 1), (EVC_SRC_CFG_TMASK (2 ^ 32), 4)]

theorem farSource_best : farSource.hubOff = false ∧ farSource.addrOff (EVC_CLAIM 2) = false ∧ Dev.best { farSource with keyHalf := false } 2 = some (2 ^ 32) := by
  decide +kernel

/-- The claim's word is cut to the 32 bits of the register that is read. -/
theorem farSource_claimed : (evcClaim 2 (some 0xF0) farSource).settleAll.out = [.readReturn 0 (2 ^ 12 + 2 ^ 16)] := by decide +kernel

/-- The word the statement asks for is not. -/
theorem farSource_asked : (Dev.settleAll ((Dev.renotify { farSource with keyHalf := false } (Dev.push { farSource with keyHalf := false } 2 (2 ^ 32)) 2).emit
    (.readReturn (Dev.mgrPort { farSource with keyHalf := false })
      (2 ^ 32 + 2 ^ 12 + ((Dev.stack { farSource with keyHalf := false } 2).length + 1) * 2 ^ 16)))).out
    = [.readReturn 0 (2 ^ 32 + 2 ^ 12 + 2 ^ 16)] := by decide +kernel

/-- Refutes O13: a claim of source 2^32 returns its word modulo 2^32, not the word of the statement. -/
theorem not_claimsReturnAndPushTheBest : ¬ Obligations.ClaimsReturnAndPushTheBest := by
  rintro ⟨claims, -⟩
  obtain ⟨on, powered, best⟩ := farSource_best
  obtain ⟨host, -⟩ := claims { dev := farSource } 2 on
  obtain ⟨returned, -⟩ := host (by decide) powered
  have eq := congrArg (fun s : State => s.dev.out) (Host.Outcome.next.inj (returned _ best))
  exact absurd (farSource_claimed.symm.trans (eq.trans farSource_asked)) (by decide)

/-! ### Ends of interrupt -/

section
variable {d : Dev}

/-- An end of interrupt that names the source at the top of the stack ends its claim. -/
theorem Dev.endClaim_top {t x p : Nat} {l : List (Nat × Nat)} (top : d.stack t = (x, p) :: l) :
    d.endClaim t x = Dev.renotify d (Dev.sample { d with evc := { d.evc with stk := d.evc.stk.set t l [] } } x) t := by
  simp only [Dev.endClaim, Dev.pop, top, if_true]

/-- Any other is dropped with EOI_MISMATCH. -/
theorem Dev.endClaim_mismatch {t x : Nat} (other : (d.stack t).head?.map (·.1) ≠ some x) :
    d.endClaim t x = d.wr (EVC_TSTATUS_EOI_MISMATCH t) 1 := by
  simp only [Dev.endClaim]
  split
  · next e l top =>
    rw [top] at other
    exact if_neg (fun h => other (congrArg some h))
  · rfl

theorem Dev.hubOff_of_setupOpen {a : Nat} (opened : d.setupOpen a = true) : d.hubOff = false := by
  simp only [Dev.setupOpen, Bool.and_eq_true, Bool.not_eq_true'] at opened
  obtain ⟨⟨⟨⟨on, -⟩, -⟩, -⟩, -⟩ := opened
  exact on

theorem evcEoi_host {t v : Nat} (opened : d.setupOpen (EVC_EOI t) = true) :
    evcEoi t v true d = if t < 2 then d.opened (EVC_EOI t) else (d.opened (EVC_EOI t)).endClaim t (v % 1024) := by
  rw [evcEoi, if_neg (by rw [Dev.hubOff_of_setupOpen opened]; exact Bool.false_ne_true), if_pos rfl, Dev.setup_open _ _ opened]

theorem evcEoi_core {t v : Nat} (on : d.hubOff = false) (low : t < 2) (own : t = d.rd MGT_STATUS_ACTIVE_CORE) :
    evcEoi t v false d = d.endClaim t (v % 1024) := by
  rw [evcEoi, if_neg (by rw [on]; exact Bool.false_ne_true), if_neg Bool.false_ne_true, if_pos ⟨low, by rw [Dev.coreTarget, ← own]; exact beq_self_eq_true t⟩]

/-! ### Marks -/

theorem bit_iff (x i : Nat) : bit x i = true ↔ x / 2 ^ i % 2 = 1 := by rw [bit, beq_iff_eq]

theorem eyespotMark_open {x v : Nat} (opened : d.setupOpen (EVC_SRC_CFG x) = true) (known : srcExists x = true) :
    eyespotMark x v d =
      let d := d.opened (EVC_SRC_CFG x)
      if bit v 16 && !d.flag (EVC_SRC_CFG_EYESPOT x) && (!srcEligible x || decide (32 ≤ d.rd EVC_EYESPOT_MARKED)) then d.wr EVC_EYESPOT_REFUSED 1
      else
        let e := d.writeWord (EVC_SRC_CFG x) v
        Dev.masked d (e.wr EVC_EYESPOT_MARKED e.markedCount) := by
  rw [eyespotMark, Dev.setup_open _ _ opened, if_neg (by rw [known]; exact Bool.false_ne_true)]

/-! ### Sources -/

/-- An event of an edge source that is not pending is counted, and makes it pending when COUNT is reached. -/
theorem Dev.raise_edge {x : Nat} (on : d.hubOff = false) (known : srcExists x = true) (edge : srcLevel x = false) (new : d.evc.pend.contains x = false) :
    d.raise x =
      let c := d.evc.coal.get x (0, 0)
      let e := { d.evc with coal := d.evc.coal.set x (c.1 + 1, if c.1 = 0 then d.now else c.2) (0, 0) }
      if d.rd (EVC_SRC_COAL_COUNT x) ≤ c.1 + 1 then Dev.becomesPending { d with evc := e } x else { d with evc := e } := by
  simp only [Dev.raise, on, known, edge, new, Bool.not_true, Bool.or_self, Bool.false_eq_true, if_false]

theorem Dev.raise_pending {x : Nat} (on : d.hubOff = false) (known : srcExists x = true) (edge : srcLevel x = false) (held : d.evc.pend.contains x = true) :
    d.raise x = d := by
  simp only [Dev.raise, on, known, edge, held, Bool.not_true, Bool.or_self, Bool.false_eq_true, if_false, if_true]

theorem Dev.sample_level {x : Nat} (on : d.hubOff = false) (known : srcExists x = true) (level : srcLevel x = true) :
    d.sample x =
      if d.levelCond x = d.evc.level.contains x then d
      else if d.levelCond x then Dev.notifyRise d { d with evc := { d.evc with level := setAdd x d.evc.level } }
      else { d with evc := { d.evc with level := setDel x d.evc.level,
                                        notified := if d.active x then d.evc.notified else markWithdrawn d.evc.notified x } } := by
  simp only [Dev.sample, Dev.setLevel, on, known, level, Bool.not_true, Bool.false_or, beq_iff_eq]

end

/-- Settles O14. -/
theorem sourcesEndAndBecomePending : Obligations.SourcesEndAndBecomePending := by
  refine ⟨fun s t v => ⟨fun high opened => ⟨fun p l top => next_settled ?_, fun other => next_settled ?_⟩, fun low opened => next_settled ?_,
    fun low on own => ⟨fun p l top => next_settled ?_, fun other => next_settled ?_⟩, fun w opened => next_settled ?_,
    fun x opened known => ⟨fun mark new refused => next_settled ?_, fun stored => next_settled ?_⟩⟩,
    fun s x on known => ⟨fun edge new => ⟨fun reached => next_settled ?_, fun below => next_settled ?_, fun begun timed => next_settled ?_⟩,
      fun edge held => next_settled ?_,
      fun level => ⟨fun rises new => next_settled ?_, fun falls held free => next_settled ?_, fun same => next_settled ?_, fun falls held busy => next_settled ?_⟩⟩⟩
  · rw [evcEoi_host opened, if_neg (Nat.not_lt.2 high), Dev.endClaim_top top]
  · rw [evcEoi_host opened, if_neg (Nat.not_lt.2 high), Dev.endClaim_mismatch other]
  · rw [evcEoi_host opened, if_pos low]
  · rw [evcEoi_core on low own, Dev.endClaim_top top]
  · rw [evcEoi_core on low own, Dev.endClaim_mismatch other]
  · rw [evcPendingClear, Dev.setup_open _ _ opened]
  · rw [eyespotMark_open opened known]
    refine if_pos ?_
    simpa [(bit_iff _ _).2 mark, new] using refused
  · rw [eyespotMark_open opened known]
    refine if_neg ?_
    simp only [Bool.and_eq_true, bit_iff, Bool.not_eq_true', Bool.or_eq_true, decide_eq_true_eq]
    rintro ⟨⟨mark, new⟩, refused⟩
    rcases stored with clear | old | ⟨eligible, room⟩
    · omega
    · simp [new] at old
    · rcases refused with ineligible | full
      · simp [eligible] at ineligible
      · omega
  · rw [eventSourceEdge, Dev.raise_edge on known edge new]
    exact if_pos reached
  · rw [eventSourceEdge, Dev.raise_edge on known edge new]
    exact if_neg (Nat.not_le.2 below)
  · simp only [evcCoalesceExpire]
    rw [if_neg (by simp only [on, new, beq_eq_false_iff_ne.2 begun, beq_eq_false_iff_ne.2 timed]; decide)]
    rfl
  · exact Dev.raise_pending on known edge held
  · rw [levelSourceChange, Dev.sample_level on known level, if_neg (by rw [rises, new]; decide), if_pos rises]
  · rw [levelSourceChange, Dev.sample_level on known level, if_neg (by rw [falls, held]; decide), if_neg (by rw [falls]; decide),
      if_neg (by rw [free]; decide)]
  · rw [levelSourceChange, Dev.sample_level on known level, if_pos same]
  · rw [levelSourceChange, Dev.sample_level on known level, if_neg (by rw [falls, held]; decide), if_neg (by rw [falls]; decide), if_pos busy]

end Sys2Proof.Machine
end

section
/-! PROOFS. What an event that a unit reports can change: the registers, the event controller, the fault blocks, the host ports, the
schedule's and the power controller's own state, swaps, messages and free values; nothing else. -/
namespace Sys2Proof.Machine

set_option Elab.async false

/-- `e` differs from `d` only in what reporting an event can change. -/
structure Dev.Reports (d e : Dev) : Prop where
  eq : e = { d with regs := e.regs, out := e.out, evc := e.evc, flt := e.flt, ports := e.ports, sch := e.sch, pwr := e.pwr, mgt := e.mgt, fresh := e.fresh }
  /-- A state request may end, or take a cause, but its step stays. -/
  step : ∀ r, e.pwr.req = some r → ∃ q, d.pwr.req = some q ∧ r.step = q.step

/-- What leaves the power controller alone reports when nothing else changes than what a report can change. -/
theorem Dev.Reports.of_pwr {d e : Dev}
    (eq : e = { d with regs := e.regs, out := e.out, evc := e.evc, flt := e.flt, ports := e.ports, sch := e.sch, pwr := e.pwr, mgt := e.mgt, fresh := e.fresh })
    (pwr : e.pwr = d.pwr) : d.Reports e := ⟨eq, fun r h => ⟨r, by rwa [pwr] at h, rfl⟩⟩

theorem Dev.Reports.refl (d : Dev) : d.Reports d := .of_pwr rfl rfl

theorem Dev.Reports.trans {d e f : Dev} (h : d.Reports e) (h' : e.Reports f) : d.Reports f :=
  ⟨h'.eq.trans (by rw [h.eq]), fun r hr =>
    let ⟨q, hq, same⟩ := h'.step r hr
    let ⟨p, hp, same'⟩ := h.step q hq
    ⟨p, hp, same.trans same'⟩⟩

/-- A wake during an entry leaves the entry at its step. -/
theorem Dev.wake_step (d : Dev) (c x : Nat) (r : PReq) (h : (d.wake c x).pwr.req = some r) : ∃ q, d.pwr.req = some q ∧ r.step = q.step := by
  have spot (e : Dev) : (e.noteSpot c x).pwr.req = e.pwr.req := by
    simp only [Dev.noteSpot]
    split <;> rfl
  have record (e : Dev) (t : Bool) : (e.recordWake c x t).pwr = e.pwr := by rw [Dev.recordWake_frame]
  have same (keep : (d.wake c x).pwr.req = d.pwr.req) : ∃ q, d.pwr.req = some q ∧ r.step = q.step := ⟨r, by rwa [keep] at h, rfl⟩
  by_cases mode : d.pwr.mode = 2
  · refine same ?_
    rw [Dev.wake, if_pos mode]
    dsimp only
    split
    · rfl
    · split
      · split
        · rw [spot, record]
        · rfl
      · exact (spot _).trans (by rw [record])
  · rw [Dev.wake, if_neg mode] at h
    split at h
    · next q req =>
      refine ⟨q, req, ?_⟩
      split at h
      · rw [req] at h
        rw [Option.some.inj h]
      · split at h
        · rw [spot, record, req] at h
          rw [Option.some.inj h]
        · rw [← Option.some.inj h]
    · next req =>
      rw [req] at h
      cases h

theorem Dev.raise_step (d : Dev) (x : Nat) (r : PReq) (h : (d.raise x).pwr.req = some r) : ∃ q, d.pwr.req = some q ∧ r.step = q.step := by
  have spot (e : Dev) (keep : e.pwr.req = d.pwr.req) (h : (e.spotWake x).pwr.req = some r) : ∃ q, d.pwr.req = some q ∧ r.step = q.step := by
    rw [← keep]
    rw [Dev.spotWake] at h
    split at h
    · exact e.wake_step 3 x r h
    · exact ⟨r, h, rfl⟩
  simp only [Dev.raise] at h
  split at h
  · exact ⟨r, h, rfl⟩
  · split at h
    · exact spot d rfl h
    · split at h
      · exact ⟨r, h, rfl⟩
      · split at h
        · exact spot _ (by rw [Dev.notifyRise_frame]) h
        · exact ⟨r, h, rfl⟩

namespace Dev.Reports

section
variable {d e : Dev} (h : d.Reports e)
include h

theorem foldl {α : Type} {f : Dev → α → Dev} (l : List α) (step : ∀ (e : Dev) a, d.Reports e → d.Reports (f e a)) : d.Reports (l.foldl f e) :=
  List.foldlRecOn (motive := d.Reports) l f h (fun e he a _ => step e a he)

theorem wr (f : Fld) (v : Nat) : d.Reports (e.wr f v) := h.trans (.of_pwr rfl rfl)

theorem wrs (l : List (Fld × Nat)) : d.Reports (e.wrs l) := h.trans (.of_pwr (by rw [Dev.wrs_regs_only]) (by rw [Dev.wrs_regs_only]))

theorem emit (m : OutMsg) : d.Reports (e.emit m) := h.trans (.of_pwr rfl rfl)

theorem setFlt (f : Flt) : d.Reports { e with flt := f } := h.trans (.of_pwr rfl rfl)

theorem setMgt (m : Mgmt) : d.Reports { e with mgt := m } := h.trans (.of_pwr rfl rfl)

theorem setPort (n : Nat) (p : Port) : d.Reports (e.setPort n p) := h.trans (.of_pwr rfl rfl)

theorem free : d.Reports e.free.2 := h.trans (.of_pwr rfl rfl)

theorem history (u : FUnit) (s w c g x a : Nat) : d.Reports (e.history u s w c g x a) := h.trans (.of_pwr (by rw [Dev.history_frame]) (by rw [Dev.history_frame]))

theorem raise (x : Nat) : d.Reports (e.raise x) := h.trans ⟨by rw [Dev.raise_frame], e.raise_step x⟩

theorem sample (x : Nat) : d.Reports (e.sample x) := h.trans (.of_pwr (by rw [Dev.sample_frame]) (by rw [Dev.sample_frame]))

theorem msix (n v : Nat) : d.Reports (e.msix n v) := h.trans (.of_pwr (by rw [Dev.msix_frame]) (by rw [Dev.msix_frame]))

/-! ### Captures, counts and escalation -/

theorem captured (v : FEv) (c : Nat) : d.Reports (if e.flag (FAULT_STATUS_VALID v.unit) then e.captureMerge v c else e.captureOpen v c) := by
  split
  · exact h.trans (.of_pwr (by rw [Dev.captureMerge_frame]) (by rw [Dev.captureMerge_frame]))
  · exact h.trans (.of_pwr (by rw [Dev.captureOpen_frame]) (by rw [Dev.captureOpen_frame]))

theorem capture (v : FEv) (c : Nat) : d.Reports (e.capture v c) := by
  simp only [Dev.capture, Dev.incSat]
  exact ((h.wr _ _).captured v c).sample _

theorem countWindow (u : FUnit) (s i c : Nat) : d.Reports (e.countWindow u s i c).2 := h.trans (.of_pwr (by rw [Dev.countWindow_frame]) (by rw [Dev.countWindow_frame]))

theorem escalated (u : FUnit) (s g x a : Nat) : d.Reports (e.escalated u s g x a) := by
  simp only [Dev.escalated, Dev.raiseClass]
  exact ((h.wr _ _).wr _ _).history ..

theorem recordAction (u : FUnit) (c x n s : Nat) : d.Reports (e.recordAction u c x n s) := by
  simp only [Dev.recordAction]
  exact h.wrs _

theorem actionDone (a : FAct) : d.Reports (e.actionDone a) := by
  simp only [Dev.actionDone, Dev.actionEntry]
  exact (h.wr _ _).history ..

theorem actionBare (a : FAct) : d.Reports (e.actionBare a) := by
  simp only [Dev.actionBare, Dev.actionEntry]
  exact (h.wr _ _).history ..

theorem rowRemap (c : Fin 16) (a : FAct) : d.Reports (e.rowRemap c a) := by
  simp only [Dev.rowRemap, Dev.inc, Dev.dec]
  split
  · exact (((h.wr _ _).wr _ _).recordAction ..).actionDone a
  · have counted := (((h.recordAction (.mem c) 4 0 0 a.src).actionBare a).capture
      { unit := .mem c, src := 4, inst := a.inst, detail := a.inst } 1).countWindow (.mem c) 4 0 1
    split
    · next f eq =>
      rw [eq] at counted
      exact counted.escalated ..
    · next f eq => rwa [eq] at counted

theorem lowerSource (u : FUnit) (s : Nat) : d.Reports (e.lowerSource u s) := h.trans (.of_pwr rfl rfl)

theorem escalate (v : FEv) : d.Reports (e.escalate v) := by
  simp only [Dev.escalate]
  generalize (if unitFull v.unit then v.addr else 0) = addr
  replace h := h.escalated v.unit v.src (16 * b2n v.inj) v.detail addr
  revert h
  generalize e.escalated v.unit v.src (16 * b2n v.inj) v.detail addr = e
  intro h
  split
  · split
    · exact h.lowerSource ..
    · split
      · exact h
      · split
        · exact (h.setFlt _).rowRemap ..
        · exact ((h.setFlt _).setFlt _).recordAction ..
  · exact h

theorem countEvent (v : FEv) (c : Nat) : d.Reports (e.countEvent v c) := by
  have counted := h.countWindow v.unit v.src v.inst c
  simp only [Dev.countEvent]
  split
  · next f eq =>
    rw [eq] at counted
    exact counted.escalate v
  · next f eq => rwa [eq] at counted

/-! ### Grave conditions and AER -/

theorem aerHdr (n : Nat) (a : Aer) (t : Option TlpHdr) : d.Reports (e.aerHdr n a t) := by
  simp only [Dev.aerHdr]
  split
  · exact (h.setPort ..).emit _
  · exact h.setPort ..

theorem aerReq (n : Nat) (a : Aer) (k x l : Option Nat) : d.Reports (e.aerReq n a k x l) := by
  simp only [Dev.aerReq, Dev.reqHdr]
  exact (h.free.free.free.free.free).aerHdr ..

theorem enterGrave : d.Reports e.enterGrave := by
  simp only [Dev.enterGrave, Dev.aer]
  exact foldl (h.trans ⟨rfl, fun _ (ended : none = some _) => nomatch ended⟩) _ (fun e n he => he.aerHdr ..)

theorem graveRecord (u : FUnit) (s : Nat) (g : Bool) : d.Reports (e.graveRecord u s g) := by
  refine h.trans ⟨?_, fun r kept => ⟨r, ?_, rfl⟩⟩
  · simp only [Dev.graveRecord]
    split <;> rfl
  · simp only [Dev.graveRecord] at kept
    split at kept <;> exact kept

theorem graveDevice (c : Nat) (u : FUnit) (s x : Nat) : d.Reports (e.graveDevice c u s x) := by
  simp only [Dev.graveDevice, Dev.assertFaultN]
  refine ((Dev.Reports.history ?_ ..).enterGrave).emit _
  split
  · exact h.graveRecord ..
  · exact (h.graveRecord ..).wrs _

theorem graveBay (b x : Nat) : d.Reports (e.graveBay b x) := by
  simp only [Dev.graveBay, Dev.assertFaultN]
  exact ((((h.graveRecord ..).wr _ _).wr _ _).history ..).emit _

/-- An error of a fault source changes what reporting an event can change (R450–R459, R463). -/
theorem fault (v : FEv) : d.Reports (e.fault v) := by
  simp only [Dev.fault]
  split
  · exact h
  · split
    · have taken := (h.captured v 3).sample (unitSource v.unit)
      split
      · exact taken.graveBay ..
      · exact taken.graveDevice ..
      · exact taken.graveDevice ..
      · exact taken.graveDevice ..
    · split
      · exact h.capture ..
      · exact (h.capture ..).countEvent ..

theorem faultFree (v : FEv) (a : Bool) (k : Nat) : d.Reports (e.faultFree v a k) := by
  simp only [Dev.faultFree]
  exact (h.free.free).fault _

theorem dmaFail (n s a k : Nat) : d.Reports (e.dmaFail n s a k) := by
  simp only [Dev.dmaFail]
  exact h.faultFree ..

/-! ### What no report changes -/

theorem now : e.now = d.now := by rw [h.eq]
theorem jnl : e.jnl = d.jnl := by rw [h.eq]
theorem work : e.work = d.work := by rw [h.eq]
theorem seqQ : e.seqQ = d.seqQ := by rw [h.eq]
theorem reads : e.reads = d.reads := by rw [h.eq]
theorem queues : e.queues = d.queues := by rw [h.eq]
theorem slices : e.slices = d.slices := by rw [h.eq]
theorem lnk : e.lnk = d.lnk := by rw [h.eq]
theorem brg : e.brg = d.brg := by rw [h.eq]
theorem entry (n : Nat) : e.entry n = d.entry n := by rw [Dev.entry, h.jnl, Dev.entry]
theorem wk (n : Nat) : e.wk n = d.wk n := by rw [Dev.wk, h.work, Dev.wk]

end

end Dev.Reports

end Sys2Proof.Machine
end

section
/-! PROOFS. The statuses an operation meets, the journal region's registers, and the replay of an entry. -/
namespace Sys2Proof.Machine

set_option Elab.async false

/-! ### Statuses -/

/-- The statuses of R216, first to last. -/
def statusOrder : List Nat :=
  [stInternal, stJournalLost, stHostDma, stCheckFail, stUnrecoverable, stBayUnreachable, stBayAbsent, stDegradedWrite, stRecovered, stSuccess]

theorem firstStatus_of_order : ∀ j < 10, ∀ i < j, firstStatus (statusOrder.getD i 0) (statusOrder.getD j 0) = statusOrder.getD i 0
    ∧ firstStatus (statusOrder.getD j 0) (statusOrder.getD i 0) = statusOrder.getD i 0 := by decide

/-- The order in which two outcomes are met does not matter. -/
theorem firstStatus_right_comm : ∀ e ∈ statusOrder, ∀ a ∈ statusOrder, ∀ b ∈ statusOrder,
    firstStatus (firstStatus e a) b = firstStatus (firstStatus e b) a := by decide +kernel

theorem Dev.entry_meet (d : Dev) (n s : Nat) : (d.meet n s).entry n = { d.entry n with status := firstStatus (d.entry n).status s } :=
  Dev.entry_setEntry ..

theorem Dev.entry_meet_ne (d : Dev) {n x : Nat} (s : Nat) (h : x ≠ n) : (d.meet n s).entry x = d.entry x := Dev.entry_setEntry_ne _ _ h

/-- Settles O31. -/
theorem statusesCombineInTheirOrder : Obligations.StatusesCombineInTheirOrder := by
  refine ⟨fun i j lt hj => firstStatus_of_order j hj i lt, fun d n a b ha hb he => ⟨?_, fun x hx => d.entry_meet_ne a hx⟩⟩
  simp only [Dev.entry_meet]
  exact firstStatus_right_comm _ he _ ha _ hb

/-! ### The journal region -/

theorem jnlRegionWrite_open {d : Dev} {r : Nat} (opened : d.setupOpen (JNL_REGION_LO + 4 * r) = true) (v : Nat) :
    jnlRegionWrite r v d =
      let d := d.opened (JNL_REGION_LO + 4 * r)
      let size := bits v 0 4
      if !d.liveSlots.isEmpty || (r == 2 && decide (0 < size ∧ size < d.rd JNL_REGION_SIZE_SIZE) && !d.jnlFits size) then
        d.wr JNL_STATUS_CFG_REFUSED 1
      else d.writeWord (JNL_REGION_LO + 4 * r) v := by
  simp only [jnlRegionWrite]
  rw [Dev.setup_open _ _ opened]

/-! ### Replays -/

theorem Dev.entry_inc (d : Dev) (f : Fld) (n : Nat) : (d.inc f).entry n = d.entry n := rfl

theorem Dev.wk_inc (d : Dev) (f : Fld) (n : Nat) : (d.inc f).wk n = d.wk n := rfl

theorem Dev.entry_setWk (d : Dev) (m n : Nat) (w : Work) : (d.setWk m w).entry n = d.entry n := rfl

theorem Dev.wk_setEntry (d : Dev) (m n : Nat) (e : JEntry) : (d.setEntry m e).wk n = d.wk n := rfl

/-- A restart leaves no cell in transit and no replay asked for (R260). -/
theorem Work.restart_cells (w : Work) (p : Option Plan) (e : JEntry) : (w.restart p e).cells = [] ∧ (w.restart p e).replay = none := by
  simp only [Work.restart]
  split
  · exact ⟨rfl, rfl⟩
  · split
    · exact ⟨rfl, rfl⟩
    · split
      · exact ⟨rfl, rfl⟩
      · split
        · exact ⟨rfl, rfl⟩
        · split <;> exact ⟨rfl, rfl⟩

theorem Dev.finding_jnl (d : Dev) (p s r i o t x : Nat) : (d.finding p s r i o t x).jnl = d.jnl := by
  simp only [Dev.finding]
  split
  · rfl
  · split
    · rw [((Dev.Reports.refl _).raise 21).jnl]
      rfl
    · rfl

theorem Dev.logPartial_jnl (d : Dev) (n : Nat) : (d.logPartial n).jnl = d.jnl := by
  simp only [Dev.logPartial]
  split
  · exact Dev.finding_jnl ..
  · rfl

/-- An entry completes with the status it has met. -/
theorem Dev.entry_complete {d : Dev} {n : Nat} (live : (d.entry n).state ≠ 0) (live' : (d.entry n).state ≠ 7) (s r hi : Nat) :
    (d.complete n s r hi).entry n = { d.entry n with state := 7, status := s, result := r % 2 ^ 32, resultHi := hi % 2 ^ 16 } := by
  simp only [Dev.complete]
  rw [if_neg (by omega)]
  exact Dev.entry_setEntry ..

/-- An operation with no block unacknowledged completes at once with the status decided. -/
theorem Dev.entry_conclude {d : Dev} {n : Nat} (live : (d.entry n).state ≠ 0) (live' : (d.entry n).state ≠ 7) (settled : (d.wk n).opens = 0) (s : Nat) :
    ∃ r hi, (d.conclude n s).entry n =
      { d.entry n with state := 7, status := firstStatus (d.entry n).status s, result := r, resultHi := hi } := by
  have met (w : Work) : Dev.entry (Dev.logPartial ((d.meet n s).setWk n w) n) n = { d.entry n with status := firstStatus (d.entry n).status s } := by
    rw [Dev.entry, Dev.logPartial_jnl]
    exact d.entry_meet n s
  have opens : (Dev.wk ((d.meet n s).setWk n { d.wk n with replay := none }) n).opens = 0 := by
    rw [Dev.wk_setWk]
    exact settled
  simp only [Dev.conclude]
  rw [if_pos opens, Dev.entry_complete (by rw [met]; exact live) (by rw [met]; exact live'), met]
  exact ⟨_, _, by rw [Dev.entry_setWk, Dev.entry_meet]⟩

section
variable {d : Dev} {n t : Nat}

/-- May the entry be replayed (R265)? -/
def Dev.replayable (d : Dev) (n : Nat) : Prop :=
  1 ≤ (d.entry n).state ∧ (d.entry n).state ≤ 4 ∧ (d.entry n).abortReq = false ∧ (d.entry n).instar = d.sliceInstar (d.entry n).slice

theorem Dev.replay_none (h : (d.wk n).replay = none) : d.replay n = d := by rw [Dev.replay, h]

theorem Dev.replay_barred (h : (d.wk n).replay = some t) (barred : ¬d.replayable n) : d.replay n = d.setWk n { d.wk n with replay := none } := by
  rw [Dev.replay, h]
  refine if_pos ?_
  simp only [Dev.replayable, ← Bool.not_eq_true] at barred
  grind

theorem Dev.replay_resumes (h : (d.wk n).replay = some t) (may : d.replayable n) (below : (d.entry n).replays + 1 ≤ d.rd JNL_CFG_REPLAY_MAX) :
    d.replay n = ((d.setWk n ((d.wk n).restart (d.plan (dPlan (d.entry n).desc)) (d.entry n))).setEntry n
      { d.entry n with state := if (d.entry n).state ≠ 4 then (d.entry n).state else if (d.entry n).held then 3 else 2,
                       replays := Nat.min 255 ((d.entry n).replays + 1), trigger := t, sgl := (d.entry n).sgl.take 56 }).inc (JNL_REPLAY_COUNT (t - 1)) := by
  obtain ⟨lo, hi, abort, instar⟩ := may
  rw [Dev.replay, h]
  dsimp only
  rw [if_neg (by rw [abort]; simp only [instar, ne_eq, not_true_eq_false, or_false, Bool.false_eq_true]; omega), if_neg (by omega)]

theorem Dev.replay_ends (h : (d.wk n).replay = some t) (may : d.replayable n) (above : d.rd JNL_CFG_REPLAY_MAX < (d.entry n).replays + 1) :
    d.replay n = (d.setWk n { d.wk n with replay := none }).replayLimit n := by
  obtain ⟨lo, hi, abort, instar⟩ := may
  rw [Dev.replay, h]
  dsimp only
  rw [if_neg (by rw [abort]; simp only [instar, ne_eq, not_true_eq_false, or_false, Bool.false_eq_true]; omega), if_pos above]

theorem Dev.reports_jnlFault (d : Dev) (c a n s : Nat) : d.Reports (d.jnlFault c a n s) := (Dev.Reports.refl d).fault _

/-- At REPLAY_MAX an entry with no block unacknowledged ends with INTERNAL_FAULT (R266). -/
theorem Dev.entry_replayLimit (live : (d.entry n).state ≠ 0) (live' : (d.entry n).state ≠ 7) (settled : (d.wk n).opens = 0) (status : (d.entry n).status = 0) :
    ∃ r hi, (d.replayLimit n).entry n = { d.entry n with state := 7, status := 0xFF, result := r, resultHi := hi } := by
  have reported := d.reports_jnlFault 4 0 n (d.entry n).slice
  simp only [Dev.replayLimit]
  generalize d.jnlFault 4 0 n (d.entry n).slice = f at reported
  have same : ((f.inc JNL_REPLAY_LIMIT_COUNT).markPartial n 1).entry n = d.entry n := by
    rw [Dev.markPartial, Dev.entry_setWk, Dev.entry_inc, reported.entry]
  have work : (((f.inc JNL_REPLAY_LIMIT_COUNT).markPartial n 1).wk n).opens = 0 := by
    rw [Dev.markPartial, Dev.wk_setWk, Dev.wk_inc, reported.wk]
    exact settled
  obtain ⟨r, hi, eq⟩ := Dev.entry_conclude (by rw [same]; exact live) (by rw [same]; exact live') work stInternal
  exact ⟨r, hi, by rw [eq, same, status]; rfl⟩

/-- The trigger an entry is asked with stands if it is the lower one (R262), and the entry may still be replayed. -/
theorem Dev.askReplay_replay (may : d.replayable n) (t : Nat) :
    ((d.askReplay n t).wk n).replay = some (match (d.wk n).replay with | none => t | some x => Nat.min x t) ∧ (d.askReplay n t).replayable n := by
  obtain ⟨lo, hi, abort, instar⟩ := may
  simp only [Dev.askReplay]
  rw [if_neg (by rw [abort]; simp only [instar, ne_eq, not_true_eq_false, or_false, Bool.false_eq_true]; omega), Dev.wk_setWk]
  refine ⟨rfl, ?_⟩
  simp only [Dev.replayable, Dev.entry_setWk]
  split
  · rw [Dev.entry_setEntry]
    exact ⟨Nat.le_add_left 1 3, Nat.le_refl 4, abort, instar⟩
  · exact ⟨lo, hi, abort, instar⟩

end

/-- Settles O34. -/
theorem journalRegionAndReplays : Obligations.JournalRegionAndReplays := by
  refine ⟨fun s r v opened => ⟨fun live => next_settled ?_, fun none other => next_settled ?_, fun none size pos less full => next_settled ?_,
    fun none size fits => next_settled ?_⟩, fun d n t _ _ => ⟨Dev.replay_none, fun asked barred => ?_, fun asked may below => ?_, fun asked may above status settled => ?_,
    fun u _ _ lo hi instar abort => ?_⟩⟩
  · rw [jnlRegionWrite_open opened]
    exact if_pos (by simp [live])
  · rw [jnlRegionWrite_open opened]
    exact if_neg (by simp [none, other])
  · rw [jnlRegionWrite_open opened]
    rw [size] at less full
    refine if_pos ?_
    simp only [bits, Nat.pow_zero, Nat.div_one, size, Dev.jnlFits]
    simp [pos, less, full]
  · rw [jnlRegionWrite_open opened]
    refine if_neg ?_
    simp only [bits, Nat.pow_zero, Nat.div_one, Dev.jnlFits]
    simp [none, fits]
  · exact Dev.replay_barred asked (fun ⟨a, b, c, e⟩ => barred ⟨a, b, c, e⟩)
  · obtain ⟨a, b, c, e⟩ := may
    rw [Dev.replay_resumes asked ⟨a, b, c, e⟩ below]
    obtain ⟨cells, replay⟩ := Work.restart_cells (d.wk n) (d.plan (dPlan (d.entry n).desc)) (d.entry n)
    simp only [Dev.entry_inc, Dev.wk_inc, Dev.entry_setEntry, Dev.wk_setEntry, Dev.wk_setWk]
    refine ⟨trivial, trivial, trivial, trivial, trivial, trivial, trivial, trivial, trivial, trivial, replay, cells, Dev.rd_wr_eq .., fun x hx => ?_⟩
    rw [Dev.entry_setEntry_ne _ _ hx, Dev.entry_setWk]
  · obtain ⟨a, b, c, e⟩ := may
    rw [Dev.replay_ends asked ⟨a, b, c, e⟩ above]
    obtain ⟨r, hi, eq⟩ := Dev.entry_replayLimit (d := d.setWk n { d.wk n with replay := none }) (n := n)
      (by rw [Dev.entry_setWk]; omega) (by rw [Dev.entry_setWk]; omega) (by rw [Dev.wk_setWk]; exact settled) (by rw [Dev.entry_setWk]; exact status)
    rw [eq, Dev.entry_setWk]
    exact ⟨rfl, rfl, rfl⟩
  · obtain ⟨first, may⟩ := Dev.askReplay_replay ⟨lo, hi, abort, instar⟩ t
    rw [(Dev.askReplay_replay may u).1, first]
    cases (d.wk n).replay with
    | none => rfl
    | some x => exact congrArg (fun y => some (Nat.min y u)) (Nat.min_comm x t)

end Sys2Proof.Machine
end

section
/-! PROOFS. BRG_WIN_CTRL: the checks of R336 in their order, and what a write to a window that is on or off does. -/
namespace Sys2Proof.Machine

set_option Elab.async false

/-! ### A chain of checks -/

/-- `r` is the number of the first of the checks that fails, counted from `k`, or 0 when none does. -/
inductive FirstFailing : List Prop → Nat → Nat → Prop
  | none (k : Nat) : FirstFailing [] k 0
  | here {p : Prop} {l : List Prop} {k : Nat} (fails : p) : FirstFailing (p :: l) k k
  | later {p : Prop} {l : List Prop} {k r : Nat} (passes : ¬p) (rest : FirstFailing l (k + 1) r) : FirstFailing (p :: l) k r

/-- A choice by a check gives its number, or goes on with the rest. -/
theorem FirstFailing.ite {p c : Prop} [Decidable c] {l : List Prop} {k r : Nat} (same : c ↔ p) (rest : FirstFailing l (k + 1) r) :
    FirstFailing (p :: l) k (if c then k else r) := by
  split
  · next fails => exact .here (same.1 fails)
  · next passes => exact .later (fun h => passes (same.2 h)) rest

theorem FirstFailing.eq_zero {l : List Prop} {k r : Nat} (h : FirstFailing l k r) (pass : ∀ i < l.length, ¬l.getD i False) : r = 0 := by
  induction h with
  | none k => rfl
  | here fails => exact absurd fails (pass 0 (Nat.zero_lt_succ _))
  | later passes rest ih => exact ih (fun i hi => pass (i + 1) (Nat.succ_lt_succ hi))

theorem FirstFailing.eq_first {l : List Prop} {k r i : Nat} (h : FirstFailing l k r) (fails : l.getD i False) (before : ∀ j < i, ¬l.getD j False) :
    r = k + i := by
  induction h generalizing i with
  | none k => exact fails.elim
  | here fails' =>
    cases i with
    | zero => rfl
    | succ i => exact absurd fails' (before 0 (Nat.zero_lt_succ i))
  | later passes rest ih =>
    cases i with
    | zero => exact absurd fails passes
    | succ i =>
      have := ih (i := i) fails (fun j hj => before (j + 1) (Nat.succ_lt_succ hj))
      omega

/-! ### The checks of a window -/

/-- The checks of R336, in their order, each as the condition under which it fails. -/
def Dev.winFails (e : Dev) (n w : Nat) : List Prop :=
  let k := e.rd (BRG_WIN_CTRL_LOG2SIZE n w)
  let b := e.winBase n w
  let l := e.winLink n w
  let c := e.winSlice n w
  [k < 12 ∨ 32 < k, b % 2 ^ k ≠ 0, 2 ^ (e.port n).bar4 < b + 2 ^ k,
    (∃ x, x < 256 ∧ x ≠ w ∧ e.winOn n x = true ∧ e.winBase n x < b + 2 ^ k ∧ b < e.winBase n x + e.winSize n x),
    (e.link l).admitted = none, bit (e.identCaps l) 0 = false, e.identCtrlSize l < e.winTarget n w + 2 ^ k,
    e.sliceState c = 0 ∨ e.slicePort c ≠ n,
    e.flag (BRG_WIN_CTRL_PREFETCHABLE n w) = true ∧ e.flag (BRG_WIN_CTRL_STRICT_ORDER n w) = true,
    c ≠ 0 ∧ e.rd (SLC_VECTORS_LAST c) < e.rd (SLC_VECTORS_BASE c) + e.rd (BRG_WIN_SLICE_VEC_OFFSET n w)]

theorem Dev.winCheck_first (e : Dev) (n w : Nat) : FirstFailing (e.winFails n w) 1 (e.winCheck n w) := by
  refine .ite Iff.rfl (.ite Iff.rfl (.ite Iff.rfl (.ite ?_ (.ite ?_ (.ite ?_ (.ite Iff.rfl (.ite Iff.rfl (.ite ?_ (.ite Iff.rfl (.none _))))))))))
  · simp [List.any_eq_true, and_assoc]
  · simp
  · simp
  · simp

section
variable {d : Dev} {n w v : Nat}

/-- The device once a write to a window that is off has stored its other fields. -/
def Dev.winStored (d : Dev) (n w v : Nat) : Dev := (d.writeWord (BRG_WIN_CTRL n w) v).wr (BRG_WIN_CTRL_ENABLE n w) 0

theorem Dev.winCtrl_opens (off : d.winOn n w = false) (enable : bit v 0 = true) :
    d.winCtrl n w v =
      let e := d.winStored n w v
      if e.winCheck n w = 0 then
        Dev.wrs { e with brg := { e.brg with gone := setDel (n * 256 + w) e.brg.gone } }
          [(BRG_WIN_CTRL_ENABLE n w, 1), (BRG_WIN_STATE_STATE n w, 1), (BRG_WIN_STATE_REASON n w, 0)]
      else e.wrs [(BRG_WIN_STATE_STATE n w, 2), (BRG_WIN_STATE_REASON n w, e.winCheck n w)] := by
  simp only [Dev.winCtrl]
  rw [if_neg (by rw [off]; exact Bool.false_ne_true), if_pos enable]
  rfl

theorem Dev.winCtrl_closes (on : d.winOn n w = true) (same : d.word (BRG_WIN_CTRL n w) = Nat.lor v 1) (disable : bit v 0 = false) :
    d.winCtrl n w v = d.wrs [(BRG_WIN_CTRL_ENABLE n w, 0), (BRG_WIN_STATE_STATE n w, 0), (BRG_WIN_STATE_REASON n w, 0)] := by
  simp only [Dev.winCtrl, on, disable, same, if_true, Bool.false_eq_true, not_false_eq_true, and_self]

/-- While a window is on, a write that would change another field changes nothing. -/
theorem Dev.winCtrl_kept (on : d.winOn n w = true) (other : d.word (BRG_WIN_CTRL n w) ≠ Nat.lor v 1) : d.winCtrl n w v = d := by
  simp only [Dev.winCtrl, on, if_true]
  exact if_neg (fun h => other h.1)

end

/-- Settles O41: a window opens when no check fails; otherwise the first one that fails is its REASON. -/
theorem windowsOpenWhenEveryCheckPasses : Obligations.WindowsOpenWhenEveryCheckPasses := by
  intro s n w v opened
  have control : windowEnable n.val w.val v.toNat s.dev = (s.dev.opened (BRG_WIN_CTRL n.val w.val)).winCtrl n.val w.val v.toNat :=
    Dev.setup_open _ _ opened
  refine ⟨fun off enable => ⟨fun pass => next_settled ?_, fun i hi fails before => next_settled ?_⟩,
    fun on => ⟨fun same disable => next_settled ?_, fun other => ⟨next_settled ?_, next_settled ?_⟩⟩⟩
  · rw [control, Dev.winCtrl_opens off enable]
    exact if_pos ((Dev.winCheck_first _ _ _).eq_zero pass)
  · rw [control, Dev.winCtrl_opens off enable]
    have first : ((s.dev.opened (BRG_WIN_CTRL n.val w.val)).winStored n.val w.val v.toNat).winCheck n.val w.val = 1 + i :=
      (Dev.winCheck_first _ _ _).eq_first fails before
    dsimp only
    rw [first, if_neg (by omega), Nat.add_comm]
    rfl
  · exact control.trans (Dev.winCtrl_closes on same disable)
  · exact control.trans (Dev.winCtrl_kept on other)
  · exact control.trans (Dev.winCtrl_kept on other)

end Sys2Proof.Machine
end

section
/-! PROOFS. Profile requests, SWITCH_IMAGE and SET_PROFILE, and state requests: how each is evaluated. -/
namespace Sys2Proof.Machine

set_option Elab.async false

/-! ### Profile requests -/

section
variable {d : Dev}

/-- The request leaves RATE and CHECK as they are. -/
def Dev.profSame (d : Dev) : Prop :=
  d.rd GLB_PROFILE_RATE = d.rd GLB_PROFILE_STATUS_CUR_RATE ∧ d.rd GLB_PROFILE_CHECK = d.rd GLB_PROFILE_STATUS_CUR_CHECK

/-- Does the request change RATE or CHECK? -/
def Dev.profChanges (d : Dev) : Bool :=
  d.rd GLB_PROFILE_RATE != d.rd GLB_PROFILE_STATUS_CUR_RATE || d.rd GLB_PROFILE_CHECK != d.rd GLB_PROFILE_STATUS_CUR_CHECK

theorem Dev.profChanges_iff : d.profChanges = true ↔ ¬d.profSame := by
  simp only [Dev.profChanges, Dev.profSame, Bool.or_eq_true, bne_iff_ne, not_and_or]

/-- The first reason that refuses the request written (R23–R27). -/
def Dev.profReason (d : Dev) : Option Nat :=
  if d.pwr.mode = 1 then some 5
  else if d.inRecovery then some 4
  else if d.profChanges && !d.fits (d.rd GLB_PROFILE_SLOT) (d.rd GLB_PROFILE_RATE) (d.rd GLB_PROFILE_CHECK) then some 2
  else if d.rd GLB_PROFILE_REACH != d.rd GLB_PROFILE_STATUS_CUR_REACH && d.reachBusy then some 3
  else none

theorem Dev.profRefuse_eq : d.profRefuse (d.rd GLB_PROFILE_RATE) (d.rd GLB_PROFILE_CHECK) (d.rd GLB_PROFILE_REACH) (d.rd GLB_PROFILE_SLOT) = d.profReason := rfl

/-- A request that is refused ends with its reason. -/
theorem Dev.profRequest_refused {r : Nat} (cmd : Option Nat) (h : d.profReason = some r) : d.profRequest cmd = d.profEnd cmd r := by
  rw [← Dev.profRefuse_eq] at h
  simp only [Dev.profRequest, h]

/-- One that leaves RATE and CHECK is done at once. -/
theorem Dev.profRequest_same (cmd : Option Nat) (h : d.profReason = none) (same : d.profSame) :
    d.profRequest cmd = if d.rd GLB_PROFILE_REACH = d.rd GLB_PROFILE_STATUS_CUR_REACH then d.profEnd cmd 1
      else ((d.wr GLB_PROFILE_STATUS_CUR_REACH (d.rd GLB_PROFILE_REACH)).profEpoch).profEnd cmd 1 := by
  rw [← Dev.profRefuse_eq] at h
  simp only [Dev.profRequest, h]
  exact if_pos same

theorem Dev.image_setVdd (d : Dev) (r t : Nat) : (d.setVdd r).image t = d.image t := by
  simp only [Dev.setVdd]
  split
  · rfl
  · split <;> rfl

/-- The device once a change of RATE or CHECK is pending: the core's set point commanded first where the voltage rises (R29, R533). -/
def Dev.profBegun (d : Dev) (cmd : Option Nat) : Dev :=
  let rate := d.rd GLB_PROFILE_RATE
  let cur := d.rd GLB_PROFILE_STATUS_CUR_RATE
  let late := (cur == 1 && rate != 1) || (cur == 2 && rate != 2)
  let f := if late then d.setVdd rate else d
  Dev.wr { f with sch := { f.sch with prof := some ⟨rate, d.rd GLB_PROFILE_CHECK, d.rd GLB_PROFILE_REACH, d.rd GLB_PROFILE_SLOT, cmd, !late⟩ } }
    GLB_PROFILE_STATUS_PENDING 1

theorem Dev.image_profBegun (d : Dev) (cmd : Option Nat) (t : Nat) : (d.profBegun cmd).image t = d.image t := by
  have risen (late : Bool) : (if late then d.setVdd (d.rd GLB_PROFILE_RATE) else d).image t = d.image t := by
    cases late with
    | false => rfl
    | true => exact d.image_setVdd _ t
  exact risen _

/-- One that changes RATE or CHECK begins, and the engines of its image are powered. -/
theorem Dev.profRequest_begins (cmd : Option Nat) {g : Image} (h : d.profReason = none) (change : ¬d.profSame) (image : d.image (d.rd GLB_PROFILE_SLOT) = some g) :
    d.profRequest cmd = (d.profBegun cmd).powerNamed g := by
  rw [← Dev.profRefuse_eq] at h
  rw [Dev.profRequest, h]
  refine (if_neg change).trans ?_
  show (match (d.profBegun cmd).image (d.rd GLB_PROFILE_SLOT) with
    | some g => (d.profBegun cmd).powerNamed g
    | none => d.profBegun cmd) = _
  rw [Dev.image_profBegun, image]

/-- Nothing refuses a request of a device that is neither in DORMANT nor recovering, when the image fits a change and the lanes are idle. -/
theorem Dev.profReason_none (awake : d.pwr.mode ≠ 1) (calm : d.inRecovery = false)
    (fits : d.profSame ∨ d.fits (d.rd GLB_PROFILE_SLOT) (d.rd GLB_PROFILE_RATE) (d.rd GLB_PROFILE_CHECK) = true)
    (reach : d.rd GLB_PROFILE_REACH = d.rd GLB_PROFILE_STATUS_CUR_REACH ∨ d.reachBusy = false) : d.profReason = none := by
  rw [Dev.profReason, if_neg awake, calm, if_neg Bool.false_ne_true, if_neg, if_neg]
  · rw [Bool.and_eq_true, bne_iff_ne]
    rintro ⟨moved, busy⟩
    rcases reach with same | idle
    · exact moved same
    · exact absurd (busy.symm.trans idle) (by decide)
  · rw [Bool.and_eq_true, Dev.profChanges_iff, Bool.not_eq_true']
    rintro ⟨change, unfit⟩
    rcases fits with same | fit
    · exact change same
    · exact absurd (fit.symm.trans unfit) (by decide)

theorem glbProfileWrite_open {v : Nat} (opened : d.setupOpen GLB_PROFILE = true) :
    glbProfileWrite v d =
      let d := d.opened GLB_PROFILE
      if d.profBusy then d.wr GLB_PROFILE_STATUS_COLLIDE 1
      else
        let e := d.writeWord GLB_PROFILE v
        if e.mgt.staging.isSome then { e with sch := { e.sch with profWait := true } } else e.profRequest none := Dev.setup_open _ _ opened

theorem Dev.writeWord_mgt (d : Dev) (a v : Nat) : (d.writeWord a v).mgt = d.mgt := by rw [Dev.writeWord_regs_only]

theorem Dev.writeWord_pwr (d : Dev) (a v : Nat) : (d.writeWord a v).pwr = d.pwr := by rw [Dev.writeWord_regs_only]

/-- A write that neither collides nor waits is evaluated. -/
theorem glbProfileWrite_evaluated {v : Nat} (opened : d.setupOpen GLB_PROFILE = true) (free : (d.opened GLB_PROFILE).profBusy = false)
    (idle : (d.opened GLB_PROFILE).mgt.staging = none) :
    glbProfileWrite v d = ((d.opened GLB_PROFILE).writeWord GLB_PROFILE v).profRequest none := by
  rw [glbProfileWrite_open opened]
  dsimp only
  rw [if_neg (by rw [free]; exact Bool.false_ne_true), if_neg (by rw [Dev.writeWord_mgt, idle]; exact Bool.false_ne_true)]

end

/-- Settles O9. -/
theorem profileRequestsAreEvaluatedAndGoOn : Obligations.ProfileRequestsAreEvaluatedAndGoOn := by
  refine ⟨fun s v opened => ⟨fun busy => next_settled ?_, fun free staging => next_settled ?_, fun free idle => ⟨fun dormant => next_settled ?_,
      fun awake recovery => next_settled ?_, fun awake calm change unfit => next_settled ?_, fun awake calm same reach busy => next_settled ?_,
      fun awake calm same reach => next_settled ?_, fun awake calm same reach idle' => next_settled ?_⟩⟩,
    fun s => ⟨fun r pending => next_settled ?_, rfl, fun v g opened free idle awake calm change fits reach image => next_settled ?_⟩⟩
  · rw [glbProfileWrite_open opened]
    exact if_pos busy
  · rw [glbProfileWrite_open opened]
    dsimp only
    rw [if_neg (by rw [free]; exact Bool.false_ne_true), if_pos (by rw [Dev.writeWord_mgt]; exact Option.isSome_iff_ne_none.2 staging)]
  · rw [glbProfileWrite_evaluated opened free idle, Dev.profRequest_refused none (r := 5)]
    · rfl
    · rw [Dev.profReason, if_pos (by rw [Dev.writeWord_pwr]; exact dormant)]
  · rw [glbProfileWrite_evaluated opened free idle, Dev.profRequest_refused none (r := 4)]
    · rfl
    · rw [Dev.profReason, if_neg (by rw [Dev.writeWord_pwr]; exact awake), if_pos recovery]
  · rw [glbProfileWrite_evaluated opened free idle, Dev.profRequest_refused none (r := 2)]
    · rfl
    · rw [Dev.profReason, if_neg (by rw [Dev.writeWord_pwr]; exact awake), calm, if_neg Bool.false_ne_true, if_pos]
      rw [Dev.profChanges_iff.2 change, unfit]
      rfl
  · rw [glbProfileWrite_evaluated opened free idle, Dev.profRequest_refused none (r := 3)]
    · rfl
    · have unchanged : Dev.profChanges ((s.dev.opened GLB_PROFILE).writeWord GLB_PROFILE v.toNat) = false :=
        Bool.eq_false_iff.2 (fun h => Dev.profChanges_iff.1 h same)
      rw [Dev.profReason, if_neg (by rw [Dev.writeWord_pwr]; exact awake), calm, if_neg Bool.false_ne_true, unchanged, Bool.false_and,
        if_neg Bool.false_ne_true, busy, Bool.and_true, if_pos (bne_iff_ne.2 reach)]
  · rw [glbProfileWrite_evaluated opened free idle, Dev.profRequest_same none
      (Dev.profReason_none (by rw [Dev.writeWord_pwr]; exact awake) calm (.inl same) (.inl reach)) same, if_pos reach]
    rfl
  · rw [glbProfileWrite_evaluated opened free idle, Dev.profRequest_same none
      (Dev.profReason_none (by rw [Dev.writeWord_pwr]; exact awake) calm (.inl same) (.inr idle')) same, if_neg reach]
    rfl
  · simp only [profileSettled, pending]
  · rw [glbProfileWrite_evaluated opened free idle, Dev.profRequest_begins none
      (Dev.profReason_none (by rw [Dev.writeWord_pwr]; exact awake) calm (.inr fits) (.inl reach)) (fun same => change same.1) image]
    rfl

/-! ### SWITCH_IMAGE and SET_PROFILE -/

section
variable {d : Dev} {n : Nat}

theorem switchImage_busy (busy : d.profBusy = true) : switchImage n d = d := if_pos busy

/-- The command once it may start: the image of a VALID slot, or none. -/
theorem switchImage_ready (free : d.profBusy = false) (ready : d.adminReady n 0x91 = true) :
    switchImage n d =
      let x := (d.entry n).desc
      let d := d.started n
      let t := darg x 4 1
      let e := darg x 8 8
      match (if t ≤ 1 ∧ d.rd (SCH_SLOT_STATUS_STATE t) = 2 then d.image t else none) with
      | none => d.finish n stNotLoaded
      | some g =>
        if g.rate ≠ d.rd GLB_PROFILE_STATUS_CUR_RATE ∨ g.check ≠ d.rd GLB_PROFILE_STATUS_CUR_CHECK then d.finish n stNotLoaded
        else if (List.range 8).any (fun p => decide ((g.pool p).length < d.runsAssigned p + d.runsComing 1024 p)) then d.finish n stQuota
        else if e ≠ 0 ∧ e ≤ d.epoch + 1 then d.finish n stInvalid
        else
          let e := if e = 0 then d.epoch + 1 else e
          let d := d.wrs [(SCH_SLOT_STATUS_STATE t, 5), (SCH_SWITCH_PENDING, 1), (SCH_SWITCH_PENDING_SLOT, t), (SCH_SWITCH_DRAIN_WAIT, 0),
            (SCH_SWITCH_EPOCH_LO_EPOCH, e), (SCH_SWITCH_EPOCH_HI_EPOCH, e / 2 ^ 32)]
          Dev.powerNamed { d with sch := { d.sch with switch := some ⟨t, e, some n, false⟩ } } g := by
  refine (if_neg (by rw [free]; exact Bool.false_ne_true)).trans ?_
  rewrite [Dev.admin_ready _ ready]
  rfl

end

/-- Settles O27. -/
theorem switchesAndProfileCommands : Obligations.SwitchesAndProfileCommands := by
  intro s n
  refine ⟨fun busy => ⟨next_settled (switchImage_busy busy), next_settled ?_⟩, fun staging => next_settled ?_, fun free => ⟨fun ready => ⟨fun unloaded => next_settled ?_,
    fun g low valid image => ?_⟩, fun ready idle => next_settled ?_⟩⟩
  · rw [setProfile, busy, Bool.true_or, if_pos rfl]
  · rw [setProfile, Option.isSome_iff_ne_none.2 staging, Bool.or_true, if_pos rfl]
  · rw [switchImage_ready free ready]
    dsimp only
    rw [if_neg (by rintro ⟨low, valid⟩; rcases unloaded with high | other; exacts [absurd low (Nat.not_le.2 high), other valid])]
    rfl
  · have chosen := switchImage_ready free ready
    dsimp only at chosen
    rw [if_pos ⟨low, valid⟩, image] at chosen
    refine ⟨fun other => next_settled ?_, fun rate check => ⟨fun ⟨p, hp, short⟩ => next_settled ?_, fun room => ⟨fun named past => next_settled ?_, fun due => next_settled ?_⟩⟩⟩
    · exact chosen.trans (if_pos other)
    all_goals
      refine chosen.trans ?_
      dsimp only
      rw [if_neg (not_or.2 ⟨not_not_intro rate, not_not_intro check⟩)]
    · exact if_pos (List.any_eq_true.2 ⟨p, List.mem_range.2 hp, decide_eq_true short⟩)
    all_goals
      rw [if_neg (fun h => by
        obtain ⟨p, hp, short⟩ := List.any_eq_true.1 h
        exact absurd (of_decide_eq_true short) (Nat.not_lt.2 (room p (List.mem_range.1 hp))))]
    · exact if_pos ⟨named, past⟩
    · exact if_neg (by rintro ⟨named, past⟩; omega)
  · rw [setProfile, free, idle, Option.isSome_none, Bool.or_self, if_neg Bool.false_ne_true, Dev.admin_ready _ ready]

/-! ### State requests -/

section
variable {d : Dev} {t : Nat}

theorem powerCmd_open (opened : d.setupOpen GLB_POWER_CMD = true) (t : Nat) :
    d.powerCmd t = if (d.opened GLB_POWER_CMD).stateBusy then (d.opened GLB_POWER_CMD).wr GLB_POWER_STATUS_COLLIDE 1
      else (d.opened GLB_POWER_CMD).evalRequest t none := Dev.setup_open _ _ opened

end

section
variable {d : Dev} {t : Nat} (cmd : Option Nat)

/-- The state the device is in, as a request names it. -/
abbrev Dev.currentState (d : Dev) : Nat := if d.pwr.mode = 1 then 1 else 0

theorem Dev.evalRequest_current (current : t = d.currentState) : d.evalRequest t cmd = d.endRequest cmd 1 := if_pos current

theorem Dev.evalRequest_budget (other : t ≠ d.currentState) (power : t = 2) (high : 9500 < d.budget) : d.evalRequest t cmd = d.endRequest cmd 5 :=
  (if_neg other).trans (if_pos ⟨power, high⟩)

theorem Dev.evalRequest_mirror (other : t ≠ d.currentState) (power : t = 2) (under : d.budget ≤ 9500)
    (short : d.rd AON_MIRROR_LEN_VALUE = 0 ∨ d.rd AON_MIRROR_LEN_VALUE < d.mirrorNeed) : d.evalRequest t cmd = d.endRequest cmd 6 :=
  (if_neg other).trans ((if_neg (fun h => Nat.not_lt.2 under h.2)).trans (if_pos ⟨power, short⟩))

/-- An entry begins: intake stops, the request is pending, and for DORMANT every enabled queue's position is written (R400). -/
def Dev.requestBegun (d : Dev) (t : Nat) (cmd : Option Nat) (dormant : Bool) : Dev :=
  let q : PReq := ⟨t, cmd, 1, dormant, d.now, false, false, false, false, false, d.now, none⟩
  let e := Dev.wrs { d with pwr := { d.pwr with noIntake := true, req := some q } }
    [(GLB_POWER_STATUS_PENDING, 1), (GLB_POWER_STATUS_PHASE, if t = 2 then 1 else 0)]
  if t = 1 then e.queues.keys.foldl (fun d q => if (d.queue q).state = 1 then d.writeEvent q (d.queue q).sqHead true else d) e else e

/-- A request that the budget and the mirror allow: refused while the device recovers, a return from DORMANT, or an entry. -/
theorem Dev.evalRequest_allowed (other : t ≠ d.currentState)
    (allowed : t = 2 → d.budget ≤ 9500 ∧ ¬(d.rd AON_MIRROR_LEN_VALUE = 0 ∨ d.rd AON_MIRROR_LEN_VALUE < d.mirrorNeed)) :
    d.evalRequest t cmd =
      if d.flag SLC_GLOBAL_INSTAR_BUSY = true ∨ 1 < d.pwr.mode then d.endRequest cmd 7
      else if t = 0 then d.dormantExit.endRequest cmd 1
      else d.requestBegun t cmd (d.currentState == 1) := by
  refine (if_neg other).trans ((if_neg ?_).trans ((if_neg ?_).trans rfl))
  · exact fun ⟨power, high⟩ => Nat.not_lt.2 (allowed power).1 high
  · exact fun ⟨power, short⟩ => (allowed power).2 short

end

/-- Settles O49: the branches of `evalRequest` in their order, behind the two ways a request arrives. -/
theorem stateRequestsAreEvaluated : Obligations.StateRequestsAreEvaluated := by
  refine ⟨fun d t cmd le => ?_, fun s opened => ⟨fun busy c hc => ?_, fun free => ⟨next_settled ?_, next_settled ?_, next_settled ?_⟩⟩, fun s n => ⟨fun busy => next_settled ?_,
    fun free ready => ⟨fun high => next_settled ?_, fun low => next_settled ?_⟩, fun ready => ⟨fun bad => next_settled ?_, fun good => next_settled ?_⟩⟩⟩
  · refine ⟨Dev.evalRequest_current cmd, fun power high => ?_, fun power under short => ?_, fun other allowed => ?_⟩
    · exact Dev.evalRequest_budget cmd (by unfold Dev.currentState; split <;> omega) power high
    · exact Dev.evalRequest_mirror cmd (by unfold Dev.currentState; split <;> omega) power under short
    · have passed := Dev.evalRequest_allowed cmd other allowed
      refine ⟨fun busy => passed.trans (if_pos busy), fun idle zero => ?_, fun idle two => ?_, fun idle one => ?_⟩
      all_goals
        refine passed.trans ((if_neg idle).trans ?_)
        subst t
      · rfl
      · rfl
      · have awake : d.currentState = 0 := if_neg fun mode => other (if_pos mode).symm
        rw [awake]
        rfl
  · have collides (t : Nat) : s.run (fun d => d.powerCmd t) = .next (s.settled ((s.dev.opened GLB_POWER_CMD).wr GLB_POWER_STATUS_COLLIDE 1)) :=
      next_settled ((powerCmd_open opened t).trans (if_pos busy))
    simp only [List.mem_cons, List.not_mem_nil, or_false] at hc
    rcases hc with rfl | rfl | rfl
    · exact collides 0
    · exact collides 1
    · exact collides 2
  · exact (powerCmd_open opened 0).trans (if_neg (by rw [free]; exact Bool.false_ne_true))
  · exact (powerCmd_open opened 1).trans (if_neg (by rw [free]; exact Bool.false_ne_true))
  · exact (powerCmd_open opened 2).trans (if_neg (by rw [free]; exact Bool.false_ne_true))
  · exact if_pos busy
  · rw [enterState, free, if_neg Bool.false_ne_true, Dev.admin_ready _ ready]
    exact if_pos high
  · rw [enterState, free, if_neg Bool.false_ne_true, Dev.admin_ready _ ready]
    exact if_neg (Nat.not_lt.2 low)
  · rw [setMirror, Dev.admin_ready _ ready]
    exact if_pos (by simpa [Option.isSome_iff_ne_none] using bad)
  · rw [setMirror, Dev.admin_ready _ ready]
    exact if_neg (by simpa [Option.isSome_iff_ne_none] using good)

end Sys2Proof.Machine
end

section

/-! PROOFS. Moults and destructions (R82–R90), the waits of the start, and what step 1 of a moult leaves (R84). -/

namespace Sys2Proof.Machine
set_option Elab.async false

/-! ### What a moult's discards leave -/

/-- A step of a moult's discards: queues, the SLC_STATE registers and the moults under way are as they were. -/
structure Dev.KeepsMoults (d e : Dev) : Prop where
  queues : e.queues = d.queues
  state : ∀ u lo w, lo < 32 → e.rd ⟨SLC_STATE u, lo, w⟩ = d.rd ⟨SLC_STATE u, lo, w⟩
  moult : ∀ u, (e.slice u).moult = (d.slice u).moult

namespace Dev.KeepsMoults
variable {d e f : Dev}

theorem refl (d : Dev) : d.KeepsMoults d := ⟨rfl, fun _ _ _ _ => rfl, fun _ => rfl⟩

theorem trans (h : d.KeepsMoults e) (k : e.KeepsMoults f) : d.KeepsMoults f :=
  ⟨k.queues.trans h.queues, fun u lo w low => (k.state u lo w low).trans (h.state u lo w low), fun u => (k.moult u).trans (h.moult u)⟩

theorem foldl {α : Type} {g : Dev → α → Dev} (step : ∀ (d : Dev) x, d.KeepsMoults (g d x)) (l : List α) (d : Dev) : d.KeepsMoults (l.foldl g d) :=
  List.foldlRecOn l g (refl d) (fun e h x _ => h.trans (step e x))

/-- What changes neither registers, queues nor slices. -/
theorem of_eq (regs : e.regs = d.regs) (queues : e.queues = d.queues) (slices : e.slices = d.slices) : d.KeepsMoults e :=
  ⟨queues, fun u lo w _ => by rw [Dev.rd, Dev.rd, regs], fun u => by rw [Dev.slice, Dev.slice, slices]⟩

end Dev.KeepsMoults

theorem Dev.freeStage_keepsMoults (d : Dev) (n : Nat) : d.KeepsMoults (d.freeStage n) := by
  simp only [Dev.freeStage]
  split
  · exact .refl d
  · refine ⟨rfl, fun _ _ _ _ => rfl, fun u => ?_⟩
    by_cases h : u = (d.entry n).slice
    · subst h
      rw [Dev.slice_setSlice]
    · rw [Dev.slice_setSlice_ne _ _ h]

theorem Dev.release_keepsMoults (d : Dev) (n : Nat) : d.KeepsMoults (d.release n) :=
  (d.freeStage_keepsMoults n).trans (.of_eq rfl rfl rfl)

theorem Dev.wr_stale_keepsMoults (d : Dev) (t lo w v : Nat) : lo < 32 → d.KeepsMoults (d.wr ⟨SLC_STALE t, lo, w⟩ v) := fun low =>
  ⟨rfl, fun u k x below => Dev.rd_wr_ne _ _ _ _ (by simp only [Fld.key, SLC_STATE, SLC_STALE]; omega), fun _ => rfl⟩

theorem Dev.discardHeld_keepsMoults (d : Dev) (h : Held) : d.KeepsMoults (d.discardHeld h) := by
  simp only [Dev.discardHeld]
  split
  · next x _ =>
    split
    · simp only [Dev.discard]
      split
      · exact (d.release_keepsMoults x.1).trans (Dev.wr_stale_keepsMoults _ _ _ _ _ (by decide))
      · exact d.release_keepsMoults x.1
    · exact .refl d
  · exact .refl d

/-- A read that is made changes its port's held messages or what is put out. -/
theorem Dev.readGo_frame (d : Dev) (r : HRead) : (d.readGo r).2 = { d with ports := (d.readGo r).2.ports, out := (d.readGo r).2.out } := by
  simp only [Dev.readGo]
  split
  · rfl
  · split
    · rw [Dev.emitAll_frame]
    · rfl

/-- The reads that take freed tags change the reads, the ports and what is put out. -/
theorem Dev.nextReads_frame (n : Nat) : ∀ (fuel : Nat) (d : Dev), Dev.nextReads n fuel d =
    { d with reads := (Dev.nextReads n fuel d).reads, ports := (Dev.nextReads n fuel d).ports, out := (Dev.nextReads n fuel d).out } := by
  intro fuel
  induction fuel with
  | zero => exact fun _ => rfl
  | succ fuel ih =>
    intro d
    simp only [Dev.nextReads]
    split
    · rfl
    · split
      · rfl
      · rw [ih, Dev.readGo_frame]

theorem Dev.endRead_frame (d : Dev) (i : Nat) :
    d.endRead i = { d with reads := (d.endRead i).reads, ports := (d.endRead i).ports, out := (d.endRead i).out } := by
  simp only [Dev.endRead]
  split
  · rfl
  · rw [Dev.nextReads_frame]

theorem Dev.nextReads_keepsMoults (n fuel : Nat) (d : Dev) : d.KeepsMoults (Dev.nextReads n fuel d) :=
  .of_eq (by rw [Dev.nextReads_frame]) (by rw [Dev.nextReads_frame]) (by rw [Dev.nextReads_frame])

theorem Dev.dropHeld_keepsMoults (d : Dev) (t : Nat) : d.KeepsMoults (d.dropHeld t) := by
  have port (p : Port) : d.KeepsMoults (d.setPort (d.slicePort t) p) := .of_eq rfl rfl rfl
  have discards : d.KeepsMoults (((d.port (d.slicePort t)).held.filter (d.staleHeld t)).foldl (fun d h => d.discardHeld h)
      (d.setPort (d.slicePort t) { d.port (d.slicePort t) with held := (d.port (d.slicePort t)).held.filter (fun h => !d.staleHeld t h) })) :=
    (port _).trans (.foldl Dev.discardHeld_keepsMoults _ _)
  simp only [Dev.dropHeld]
  refine .trans (discards.trans ?_) (Dev.nextReads_keepsMoults _ _ _)
  exact .of_eq rfl rfl rfl

theorem Dev.dropReports_keepsMoults (d : Dev) (t : Nat) : d.KeepsMoults (d.dropReports t) := .of_eq rfl rfl rfl

/-- The queues of a slice lose what they fetched and nothing else changes. -/
theorem Dev.forgetFetched_spec (l : List Nat) : ∀ d : Dev,
    let e := l.foldl (fun d q => d.setQueue q { d.queue q with fetched := [], sgl := none, sglBusy := false }) d
    e.regs = d.regs ∧ e.slices = d.slices ∧ e.jnl = d.jnl ∧ (∀ q, q ∈ l ∨ (d.queue q).fetched = [] → (e.queue q).fetched = []) := by
  induction l with
  | nil => exact fun d => ⟨rfl, rfl, rfl, fun q h => h.elim (fun h => absurd h List.not_mem_nil) id⟩
  | cons x l ih =>
    intro d
    obtain ⟨regs, slices, jnl, empty⟩ := ih (d.setQueue x { d.queue x with fetched := [], sgl := none, sglBusy := false })
    refine ⟨regs, slices, jnl, fun q h => empty q ?_⟩
    by_cases own : q = x
    · subst own
      exact .inr (by rw [Dev.queue_setQueue])
    · rw [Dev.queue_setQueue_ne _ _ own]
      exact h.imp_left fun h => (List.mem_cons.1 h).resolve_left own

/-! ### Step 1 of a moult -/

/-- The registers that step 1 of a moult writes (R84). -/
def Dev.moultRegs (d : Dev) (t : Nat) : Dev :=
  let e := d.wrs [(SLC_STATE_INSTAR t, d.sliceInstar t + 1), (SLC_STATE_MOULT_DEFERRED t, 0), (SLC_STATE_NUDGE_HELD t, 0),
    (SLC_STALE_DISCARDED t, 0), (SLC_STALE_INDETERMINATE t, 0)]
  e.wr (SLC_STALE_DISCARDED t) (Nat.min 65535 ((e.sliceQueues t).foldl (fun a q => a + (e.queue q).fetched.length) 0))

section
variable {d : Dev} {t : Nat}

theorem Dev.moultRegs_instar : (d.moultRegs t).sliceInstar t = (d.sliceInstar t + 1) % 256 := by
  refine (Dev.rd_wr_ne _ _ _ _ ?_).trans (Dev.rd_wrs_of_mem (p := (SLC_STATE_INSTAR t, d.sliceInstar t + 1)) ?_ d (List.mem_cons_self ..))
  · simp only [Fld.key, SLC_STATE_INSTAR, SLC_STALE_DISCARDED, SLC_STATE, SLC_STALE]
    omega
  · simp only [List.pairwise_cons, List.mem_cons, List.not_mem_nil, or_false, forall_eq_or_imp, forall_eq, List.Pairwise.nil, IsEmpty.forall_iff,
      implies_true, and_true, Fld.key, SLC_STATE_INSTAR, SLC_STATE_MOULT_DEFERRED, SLC_STATE_NUDGE_HELD, SLC_STALE_DISCARDED,
      SLC_STALE_INDETERMINATE, SLC_STATE, SLC_STALE]
    omega

/-- A field at another place than those that step 1 writes. -/
theorem Dev.moultRegs_rd {f : Fld} (other : f.addr ≠ SLC_STATE t) (stale : f.addr ≠ SLC_STALE t) (low : f.lo < 32) : (d.moultRegs t).rd f = d.rd f := by
  have key (g : Fld) (ne : f.addr ≠ g.addr) (low' : g.lo < 32) : f.key ≠ g.key := by
    simp only [Fld.key]
    omega
  refine (Dev.rd_wr_ne _ _ _ _ (key _ stale (by decide : 0 < 32))).trans (Dev.rd_wrs_ne _ _ _ ?_)
  simp only [List.mem_cons, List.not_mem_nil, or_false, forall_eq_or_imp, forall_eq]
  exact ⟨key _ other (by decide : 16 < 32), key _ other (by simp [SLC_STATE_MOULT_DEFERRED]), key _ other (by simp [SLC_STATE_NUDGE_HELD]),
    key _ stale (by simp [SLC_STALE_DISCARDED]), key _ stale (by simp [SLC_STALE_INDETERMINATE])⟩

theorem Dev.moultRegs_queues : (d.moultRegs t).sliceQueues t = d.sliceQueues t := by
  have base : (d.moultRegs t).rd (SLC_QUEUES_BASE t) = d.rd (SLC_QUEUES_BASE t) :=
    Dev.moultRegs_rd (by simp [SLC_QUEUES_BASE, SLC_QUEUES, SLC_STATE]) (by simp [SLC_QUEUES_BASE, SLC_QUEUES, SLC_STALE]) (by simp [SLC_QUEUES_BASE])
  have last : (d.moultRegs t).rd (SLC_QUEUES_LAST t) = d.rd (SLC_QUEUES_LAST t) :=
    Dev.moultRegs_rd (by simp [SLC_QUEUES_LAST, SLC_QUEUES, SLC_STATE]) (by simp [SLC_QUEUES_LAST, SLC_QUEUES, SLC_STALE]) (by simp [SLC_QUEUES_LAST])
  rw [Dev.sliceQueues, Dev.sliceQueues, base, last]
  rfl

/-- The queues of the slice have forgotten what they fetched (R84). -/
def Dev.forgetFetched (d : Dev) (t : Nat) : Dev :=
  (d.sliceQueues t).foldl (fun d q => d.setQueue q { d.queue q with fetched := [], sgl := none, sglBusy := false }) d

theorem Dev.sliceSlots_congr {e : Dev} (h : e.jnl = d.jnl) : e.sliceSlots t = d.sliceSlots t := by
  have entry (n : Nat) : e.entry n = d.entry n := by rw [Dev.entry, Dev.entry, h]
  have serial : insSerial e = insSerial d := by
    funext n l
    induction l with
    | nil => rfl
    | cons m l ih => rw [insSerial, insSerial, ih, entry, entry]
  simp only [Dev.sliceSlots, Dev.byAge, Dev.liveSlots, h, entry, serial]

/-- Step 1 of a moult of a slice without live items (R84). -/
theorem Dev.moultStart_idle {m : Moult} (under : (d.slice t).moult = some m) (idle : d.sliceSlots t = []) :
    d.moultStart t =
      let e := (d.moultRegs t).forgetFetched t
      ((e.setSlice t { e.slice t with moult := some { m with step := 4 } }).dropHeld t).dropReports t := by
  obtain ⟨_, _, jnl, _⟩ := Dev.forgetFetched_spec ((d.moultRegs t).sliceQueues t) (d.moultRegs t)
  have regs : (d.moultRegs t).sliceSlots t = d.sliceSlots t := Dev.sliceSlots_congr rfl
  have slots : ((d.moultRegs t).forgetFetched t).sliceSlots t = [] := (Dev.sliceSlots_congr jnl).trans (regs.trans idle)
  have start : d.moultStart t =
      let e := (d.moultRegs t).forgetFetched t
      let g := (e.sliceSlots t).foldl (fun d n => Dev.moultEntry d t n) e
      ((g.setSlice t { g.slice t with moult := some { m with step := 4 } }).dropHeld t).dropReports t := by
    unfold Dev.moultStart
    extract_lets c
    rw [show c.moult = some m from under]
    rfl
  rw [start]
  dsimp only
  rw [slots]
  rfl

/-- What step 1 of a moult of a slice without live items leaves (R84). -/
theorem Dev.moultStart_leaves {m : Moult} (under : (d.slice t).moult = some m) (idle : d.sliceSlots t = []) :
    (d.moultStart t).sliceInstar t = (d.sliceInstar t + 1) % 256
    ∧ (∀ q, q ∈ d.sliceQueues t → ((d.moultStart t).queue q).fetched = [])
    ∧ ((d.moultStart t).slice t).moult = some { m with step := 4 }
    ∧ (∀ u, u ≠ t → (d.moultStart t).sliceInstar u = d.sliceInstar u ∧ (d.moultStart t).sliceState u = d.sliceState u) := by
  obtain ⟨regs, slices, _, empty⟩ := Dev.forgetFetched_spec ((d.moultRegs t).sliceQueues t) (d.moultRegs t)
  have rd (f : Fld) : ((d.moultRegs t).forgetFetched t).rd f = (d.moultRegs t).rd f := by
    rw [Dev.rd, Dev.rd]
    exact congrArg (fun r : Tab Nat => r.get f.key (resetField f.key)) regs
  have kept : (((d.moultRegs t).forgetFetched t).setSlice t { ((d.moultRegs t).forgetFetched t).slice t with
      moult := some { m with step := 4 } }).KeepsMoults (d.moultStart t) := by
    rw [Dev.moultStart_idle under idle]
    exact (Dev.dropHeld_keepsMoults _ t).trans (Dev.dropReports_keepsMoults _ t)
  obtain ⟨queues, state, moult⟩ := kept
  refine ⟨(state t 16 8 (by decide)).trans ((rd _).trans Dev.moultRegs_instar), fun q hq => ?_, ?_, fun u other => ?_⟩
  · rw [Dev.queue, queues]
    exact empty q (.inl (by rwa [Dev.moultRegs_queues]))
  · rw [moult, Dev.slice_setSlice]
  · have apart (lo w : Nat) (low : lo < 32) : (d.moultRegs t).rd ⟨SLC_STATE u, lo, w⟩ = d.rd ⟨SLC_STATE u, lo, w⟩ :=
      Dev.moultRegs_rd (by simp only [SLC_STATE]; omega) (by simp only [SLC_STATE, SLC_STALE]; omega) low
    exact ⟨(state u 16 8 (by decide)).trans ((rd _).trans (apart 16 8 (by decide))), (state u 0 3 (by decide)).trans ((rd _).trans (apart 0 3 (by decide)))⟩

end

/-! ### The commands -/

/-- Settles O16: the branches of the two commands, what begins and ends a moult, and what its first step leaves. -/
theorem moultsRaiseTheInstarAndDestroy : Obligations.MoultsRaiseTheInstarAndDestroy := by
  have destroyable {t st : Nat} (nz : t ≠ 0) (le : t ≤ 1023) (used : st ≠ 0) : ¬(t = 0 ∨ 1023 < t ∨ st = 0) := by omega
  refine ⟨fun s n => ⟨fun ready nz le used => ⟨fun busy => next_settled ?_, fun free => next_settled ?_⟩,
      fun ready nz le => ⟨fun active busy => next_settled ?_, fun may => next_settled ?_, fun rest => next_settled ?_⟩,
      fun u m under => ⟨fun first old reset => next_settled ?_, fun last => next_settled ?_⟩⟩,
    fun d t m _ under idle => ?_⟩
  · rw [moultSlice, Dev.admin_ready _ ready]
    exact (if_neg (destroyable nz le used)).trans (if_pos busy)
  · rw [moultSlice, Dev.admin_ready _ ready]
    exact (if_neg (destroyable nz le used)).trans (if_neg (by rw [free]; exact Bool.false_ne_true))
  · rw [destroySlice, Dev.admin_ready _ ready]
    exact (if_neg (destroyable nz le (by omega))).trans (if_pos ⟨active, busy⟩)
  · rw [destroySlice, Dev.admin_ready _ ready]
    refine (if_neg (destroyable nz le (by omega))).trans ((if_neg ?_).trans (if_pos (may.elim .inr fun h => .inl h.1)))
    rintro ⟨active, busy⟩
    rcases may with h | ⟨_, free⟩
    · exact absurd (h.symm.trans active) (by decide)
    · exact Bool.false_ne_true (free.symm.trans busy)
  · rw [destroySlice, Dev.admin_ready _ ready]
    exact (if_neg (destroyable nz le (by omega))).trans ((if_neg (by omega)).trans (if_neg (by omega)))
  · simp only [moultBegin, under]
    exact if_neg (by simp [first, old, reset])
  · have rests : s.dev.moultTry u.val = s.dev := by
      simp only [Dev.moultTry, under]
      exact if_pos (.inl (by omega))
    simp only [moultComplete, rests, under]
    exact if_pos last
  · obtain ⟨instar, fetched, moult, others⟩ := Dev.moultStart_leaves under idle
    exact ⟨instar, fetched, moult, fun u _ => others u⟩

end Sys2Proof.Machine
end

section

/-! PROOFS. Quiesce, cocoon, save and restore of a slice, SET_SHARE, shrinks and the permission bitmap (R79–R101). -/

namespace Sys2Proof.Machine
set_option Elab.async false

/-! ### Device reads that end -/

section
variable {d : Dev} {i : Nat} {r : HRead}

/-- The last requests of a read bring its data. -/
theorem hostReadCompletion_data {l : List Byte} (live : d.hubOff = false) (at_ : d.reads[i]? = some r) (issued : r.issued = true)
    (ordinary : r.why ≠ .mirror) (last : r.last = true) : hostReadCompletion i 0 l d = d.readEnds i (some (r.got ++ l)) := by
  simp only [hostReadCompletion, at_, live, issued, Bool.not_true, Bool.or_false, Bool.false_eq_true, if_false, if_true, if_neg ordinary,
    Dev.readBrings, last]

/-- A read that a request of another status than Successful Completion or a poisoned one fails. -/
theorem hostReadCompletion_failed {status : Nat} {l : List Byte} (live : d.hubOff = false) (at_ : d.reads[i]? = some r) (issued : r.issued = true)
    (failed : status ≠ 0) (clean : status ≠ 3) : hostReadCompletion i status l d = d.readEnds i none := by
  simp only [hostReadCompletion, at_, live, issued, Bool.not_true, Bool.or_false, Bool.false_eq_true, if_false, if_neg failed, if_neg clean]

theorem Dev.readEnds_sliceImage {n serial : Nat} {data : Option (List Byte)} (at_ : d.reads[i]? = some r) (issued : r.issued = true)
    (why : r.why = .sliceImage n serial) : d.readEnds i data = ((d.endRead i).failedRead r data.isNone).restoreRead n serial data := by
  simp only [Dev.readEnds, at_, issued, why, Bool.not_true, Bool.false_and, Bool.false_eq_true, if_false]

/-- The image of a slice within the bytes read, as its header gives its length (R98). -/
def imageWithin (l : List Byte) : List Byte := l.take (0x108 + 0x40 * leAt l 0x20 4 + 0x80 * leAt l 0x28 4)

section
variable {n serial : Nat} {l : List Byte} (state : (d.entry n).state = 2) (own : (d.entry n).serial = serial)
  (target : d.restorable (darg (d.entry n).desc 4 2) = true)
include state own target

/-- A restore whose command still waits and whose target still is one, of an image that fails a check. -/
theorem Dev.restoreRead_bad {st : Nat} (bad : d.restoreBad (darg (d.entry n).desc 4 2) (imageWithin l) = some st) :
    d.restoreRead n serial (some l) = d.finish n st := by
  rw [imageWithin] at bad
  simp only [Dev.restoreRead, target, bad, Bool.not_true, Bool.false_eq_true, if_false]
  exact if_neg (by simp [state, own])

/-- One of an image that passes them. -/
theorem Dev.restoreRead_good (good : d.restoreBad (darg (d.entry n).desc 4 2) (imageWithin l) = none) :
    d.restoreRead n serial (some l) =
      (d.restoreFrom (darg (d.entry n).desc 4 2) (imageWithin l)).finish n stSuccess (imageParked (imageWithin l)).length := by
  rw [imageWithin] at good
  simp only [Dev.restoreRead, target, good, Bool.not_true, Bool.false_eq_true, if_false]
  exact if_neg (by simp [state, own])

end

end

/-! ### The commands -/

section
variable {d : Dev} {n : Nat}

/-- The slice an admin command names. -/
abbrev Dev.namedSlice (d : Dev) (n : Nat) : Nat := darg (d.entry n).desc 4 2

theorem setShare_ready (ready : d.adminReady n 0x87 = true) (settled : d.flag (SLC_STATE_SHRINK_PENDING (d.namedSlice n)) = false) :
    setShare n d =
      let x := (d.entry n).desc
      let s := d.namedSlice n
      let d := d.started n
      let m := darg x 6 2
      if 1023 < s ∨ d.sliceState s = 0 ∨ d.sliceState s = 4 ∨ d.flag (SLC_STATE_EXPORTED s) ∨ (s = 0 ∧ (bit m 0 ∨ bit m 2 ∨ bit m 3)) then d.finish n stInvalid
      else if d.shareBad s x then d.finish n stInvalid
      else if d.shareOver s x || d.shareOverLast s x then d.finish n stQuota
      else d.setSlice s { d.slice s with share := some ⟨n, m, darg x 8 2, darg x 0xC 2, darg x 0xE 2, darg x 0x10 2⟩ } := by
  have waits : ¬(d.namedSlice n ≤ 1023 ∧ d.flag (SLC_STATE_SHRINK_PENDING (d.namedSlice n)) = true) := fun h => Bool.false_ne_true (settled.symm.trans h.2)
  refine (if_neg waits).trans ?_
  rw [Dev.admin_ready _ ready]

end

/-- Settles O18: the checks of SET_SHARE in their order, and the two writes it leads to. -/
theorem sharesShrinksAndPermissions : Obligations.SharesShrinksAndPermissions := by
  intro s
  have more_iff (m : Nat) : (bit m 0 = true ∨ bit m 2 = true ∨ bit m 3 = true) ↔ (m % 2 = 1 ∨ m / 4 % 2 = 1 ∨ m / 8 % 2 = 1) := by
    simp [bit_iff]
  have may {d : Dev} {t m : Nat} (fits : t ≠ 0 ∨ ¬(m % 2 = 1 ∨ m / 4 % 2 = 1 ∨ m / 8 % 2 = 1)) (le : t ≤ 1023)
      (state : d.sliceState t = 1 ∨ d.sliceState t = 2 ∨ d.sliceState t = 3) (kept : d.flag (SLC_STATE_EXPORTED t) = false) :
      ¬(1023 < t ∨ d.sliceState t = 0 ∨ d.sliceState t = 4 ∨ d.flag (SLC_STATE_EXPORTED t) = true
        ∨ (t = 0 ∧ (bit m 0 = true ∨ bit m 2 = true ∨ bit m 3 = true))) := by
    rw [more_iff, kept]
    rintro (h | h | h | h | ⟨h, more⟩)
    · omega
    · omega
    · omega
    · exact Bool.false_ne_true h
    · exact fits.elim (absurd h) (absurd more)
  refine ⟨fun n ready settled => ⟨fun zero more => next_settled ?_, fun bad => next_settled ?_,
      fun fits le state kept good => ⟨fun over_ => next_settled ?_, fun room last => next_settled ?_⟩⟩,
    fun n t ht le pending => next_settled ?_, fun u pending idle => next_settled ?_,
    fun u w v opened => ⟨fun bad => next_settled ?_, fun nz used => next_settled ?_⟩⟩
  · rw [setShare_ready ready settled]
    exact if_pos (.inr (.inr (.inr (.inr ⟨zero, (more_iff _).2 more⟩))))
  · rw [setShare_ready ready settled]
    dsimp only
    split
    · rfl
    · next may =>
      rw [if_pos]
      rcases bad with h | h | h | h | h
      · exact absurd (.inl h) may
      · exact absurd (.inr (.inl h)) may
      · exact absurd (.inr (.inr (.inl h))) may
      · exact absurd (.inr (.inr (.inr (.inl h)))) may
      · exact h
  · rw [setShare_ready ready settled]
    refine (if_neg (may fits le state kept)).trans ((if_neg (by rw [good]; exact Bool.false_ne_true)).trans (if_pos ?_))
    rw [Bool.or_eq_true]
    exact over_
  · rw [setShare_ready ready settled]
    refine (if_neg (may fits le state kept)).trans ((if_neg (by rw [good]; exact Bool.false_ne_true)).trans (if_neg ?_))
    rw [room, last]
    exact Bool.false_ne_true
  · exact if_pos (by subst ht; exact ⟨le, pending⟩)
  · refine if_pos ⟨pending, ?_⟩
    refine List.all_eq_true.2 (fun q hq => ?_)
    obtain ⟨own, above⟩ := List.mem_filter.1 hq
    obtain ⟨owed, fetched, ended⟩ := idle q own (of_decide_eq_true above)
    simp only [Dev.queueIdle, owed, fetched, beq_self_eq_true, List.isEmpty_nil, Bool.and_self, Bool.true_and, Bool.or_eq_true, bne_iff_ne, ne_eq,
      beq_iff_eq]
    exact ended
  · rw [slcPermWrite, Dev.setup_open _ _ opened]
    exact if_pos bad
  · rw [slcPermWrite, Dev.setup_open _ _ opened]
    exact if_neg (not_or.2 ⟨nz, used⟩)

section
variable {d : Dev} {n : Nat}

theorem quiesceSlice_named (ready : d.adminReady n 0x83 = true) (nz : d.namedSlice n ≠ 0) (le : d.namedSlice n ≤ 1023) :
    quiesceSlice n d =
      let s := d.namedSlice n
      let r := darg (d.entry n).desc 6 2
      let d := d.started n
      if bit r 0 then (if d.sliceState s = 3 then (d.resume s).finish n stSuccess else d.finish n stInvalid)
      else if d.sliceState s ≠ 1 then d.finish n stInvalid
      else (d.wr (SLC_STATE_DRAINING s) 1).setSlice s { d.slice s with drainCmd := some (n, false) } := by
  rw [quiesceSlice, Dev.admin_ready _ ready]
  exact if_neg (by rintro (h | h); exacts [nz h, Nat.not_lt.2 le h])

theorem cocoonSlice_named (ready : d.adminReady n 0x84 = true) (nz : d.namedSlice n ≠ 0) (le : d.namedSlice n ≤ 1023) :
    cocoonSlice n d =
      let s := d.namedSlice n
      let r := darg (d.entry n).desc 6 2
      let d := d.started n
      if bit r 0 then
        if d.sliceState s = 2 ∧ ¬d.flag (SLC_STATE_EXPORTED s) then ((d.unpark s).resume s).finish n stSuccess (d.parkedOf s).length
        else d.finish n stInvalid
      else if d.sliceState s ≠ 1 then d.finish n stInvalid
      else ((d.park s).wr (SLC_STATE_DRAINING s) 1).setSlice s { d.slice s with drainCmd := some (n, true) } := by
  rw [cocoonSlice, Dev.admin_ready _ ready]
  exact if_neg (by rintro (h | h); exacts [nz h, Nat.not_lt.2 le h])

/-- SAVE_SLICE of a COCOONED slice that is not EXPORTED. -/
theorem saveSlice_may (ready : d.adminReady n 0x85 = true) (le : d.namedSlice n ≤ 1023) (cocooned : (d.started n).sliceState (d.namedSlice n) = 2)
    (kept : (d.started n).flag (SLC_STATE_EXPORTED (d.namedSlice n)) = false) :
    saveSlice n d =
      let s := d.namedSlice n
      let x := (d.entry n).desc
      let d := d.started n
      let len := d.imageLen s
      if darg x 0x10 4 < len then d.finish n stInvalid len
      else
        let h := d.hostWrite 0 (d.entry n).instar true false (darg x 8 8) (d.sliceImage s)
        if h.1 then (h.2.wr (SLC_STATE_EXPORTED s) 1).finish n stSuccess len else h.2.finish n stHostDma := by
  rw [saveSlice, Dev.admin_ready _ ready]
  refine (if_neg (by rintro (h | h | h); exacts [Nat.not_lt.2 le h, h cocooned, Bool.false_ne_true (kept.symm.trans h)])).trans ?_
  dsimp only
  split
  · rfl
  · split <;> rename_i written
    · rw [written, if_pos rfl]
    · rw [written, if_neg Bool.false_ne_true]

/-- A write of a slice that meets nothing in its way is put out. -/
theorem Dev.hostWrite_issued {s instar addr : Nat} {ro ns : Bool} {l : List Byte} (own : instar = d.sliceInstar s) (free : d.egressBarred s = false)
    (open_ : d.egressWaits s = false) (may : d.canIssue (d.slicePort s) = true) :
    d.hostWrite s instar ro ns addr l = (true, d.emitAll (d.writeMsgs s ro ns addr l)) := by
  simp only [Dev.hostWrite, own, free, open_, may, bne_self_eq_false, Bool.or_self, Bool.false_eq_true, if_false, if_true]

theorem restoreSlice_target (ready : d.adminReady n 0x86 = true) (target : (d.started n).restorable (d.namedSlice n) = true) :
    restoreSlice n d =
      let x := (d.entry n).desc
      let d := d.started n
      let h := d.hostRead 0 (darg x 8 8) (darg x 0x10 4) false (.sliceImage n (d.entry n).serial)
      if h.1 then h.2 else h.2.finish n stHostDma := by
  rw [restoreSlice, Dev.admin_ready _ ready]
  refine (if_neg (by rw [target]; decide)).trans ?_
  dsimp only
  split <;> rename_i read
  · rw [read, if_pos rfl]
  · rw [read, if_neg Bool.false_ne_true]

theorem Dev.restorable_iff {s : Nat} : d.restorable s = true ↔ s ≤ 1023 ∧ d.sliceState s = 2 ∧ d.flag (SLC_STATE_RESTORE_TARGET s) = true
    ∧ d.flag (SLC_STATE_EXPORTED s) = false ∧ d.rd (SLC_BIND_REQ_ID s) = (d.port (d.slicePort s)).reqId := by
  simp [Dev.restorable, and_assoc]

/-- The checks of an image, in the order of R82. -/
theorem Dev.restoreBad_eq (s : Nat) (l : List Byte) : d.restoreBad s l =
    if d.imageGood s l = false then some stInvalid
    else if leAt l 8 8 ≠ (d.inForce.map (·.sig)).getD 0 then some stNotLoaded
    else if (imageParked l).any (fun e => !d.permitted s e.desc) = true then some stNotPermitted
    else if d.rd (SLC_QUOTA_JNL_UNITS s) * 16 < (imageParked l).length then some stQuota
    else none := by
  simp only [Dev.restoreBad, Bool.not_eq_true', bne_iff_ne, ne_eq]

end

/-- Settles O17: the branches of each command, and the checks of a restored image in their order. -/
theorem slicesDrainSaveAndRestore : Obligations.SlicesDrainSaveAndRestore := by
  have resume_iff (x : Nat) : bit x 0 = true ↔ x % 2 = 1 := by simp [bit_iff]
  refine ⟨fun s n => ⟨fun ready nz le => ⟨fun resume quiet => next_settled ?_, fun drain active => next_settled ?_, fun drain other => next_settled ?_⟩,
      fun ready nz le => ⟨fun resume cocooned kept => next_settled ?_, fun drain active => next_settled ?_, fun drain other => next_settled ?_⟩,
      fun u k => ⟨fun draining empty => next_settled ?_, fun parking parked => next_settled ?_⟩⟩,
    fun s n => ⟨fun ready le cocooned kept => ⟨fun short => next_settled ?_, fun long => ⟨next_settled ?_, fun own free open_ may => next_settled ?_⟩⟩,
      fun ready => ⟨fun none_ o => next_settled ?_, fun target => ⟨next_settled ?_, fun l => next_settled ?_⟩⟩⟩,
    fun s n i r l live at_ issued why state => ⟨fun last target => ?_, fun clean => next_settled ?_⟩⟩
  · rw [quiesceSlice_named ready nz le]
    exact (if_pos ((resume_iff _).2 resume)).trans (if_pos quiet)
  · rw [quiesceSlice_named ready nz le]
    exact (if_neg (mt (resume_iff _).1 drain)).trans (if_neg (not_not.2 active))
  · rw [quiesceSlice_named ready nz le]
    exact (if_neg (mt (resume_iff _).1 drain)).trans (if_pos other)
  · rw [cocoonSlice_named ready nz le]
    exact (if_pos ((resume_iff _).2 resume)).trans (if_pos ⟨cocooned, by rw [kept]; exact Bool.false_ne_true⟩)
  · rw [cocoonSlice_named ready nz le]
    exact (if_neg (mt (resume_iff _).1 drain)).trans (if_neg (not_not.2 active))
  · rw [cocoonSlice_named ready nz le]
    exact (if_neg (mt (resume_iff _).1 drain)).trans (if_pos other)
  · simp only [quiesceComplete, draining]
    exact if_pos (by rw [empty]; rfl)
  · simp only [cocoonComplete, parking]
    exact if_pos parked
  · rw [saveSlice_may ready le cocooned kept]
    exact if_pos short
  · rw [saveSlice_may ready le cocooned kept]
    exact if_neg (Nat.not_lt.2 long)
  · rw [saveSlice_may ready le cocooned kept]
    refine (if_neg (Nat.not_lt.2 long)).trans ?_
    dsimp only
    rw [Dev.hostWrite_issued own free open_ may, if_pos rfl]
  · rw [restoreSliceAnswered, restoreSlice, Dev.admin_ready _ ready]
    exact congrArg (fun e : Dev => e.answered n.val _ o) (if_pos (by rw [Bool.eq_false_iff.2 (mt Dev.restorable_iff.1 none_)]; rfl))
  · rw [restoreSliceAnswered, restoreSlice_target ready (Dev.restorable_iff.2 target)]
    rfl
  · rw [restoreSliceAnswered, restoreSlice_target ready (Dev.restorable_iff.2 target)]
    rfl
  · have read : hostReadCompletion i 0 l s.dev = Dev.restoreRead (s.dev.endRead i) n ((s.dev.endRead i).entry n).serial (some (r.got ++ l)) := by
      rw [hostReadCompletion_data live at_ issued (by rw [why]; exact ReadFor.noConfusion) last, Dev.readEnds_sliceImage at_ issued why]
      rfl
    have fails {st : Nat} (bad : Dev.restoreBad (s.dev.endRead i) (darg ((s.dev.endRead i).entry n).desc 4 2) (imageWithin (r.got ++ l)) = some st) :
        exec (.hostReadCompletion i .success l) s = .next (s.settled ((s.dev.endRead i).finish n st)) :=
      next_settled (read.trans (Dev.restoreRead_bad state rfl target bad))
    have passed {g : Bool} (good : g = true) : ¬g = false := by rw [good]; exact Bool.noConfusion
    refine ⟨fun bad => fails ?_, fun good other => fails ?_, fun good same => ⟨fun barred => fails ?_, fun free => ⟨fun over_ => fails ?_,
      fun fits => next_settled (read.trans (Dev.restoreRead_good state rfl target ?_))⟩⟩⟩
    · rw [Dev.restoreBad_eq]
      exact if_pos bad
    · rw [Dev.restoreBad_eq]
      exact (if_neg (passed good)).trans (if_pos other)
    · rw [Dev.restoreBad_eq]
      exact (if_neg (passed good)).trans ((if_neg (not_not.2 same)).trans (if_pos barred))
    · rw [Dev.restoreBad_eq]
      exact (if_neg (passed good)).trans ((if_neg (not_not.2 same)).trans ((if_neg (Bool.eq_false_iff.1 free)).trans (if_pos over_)))
    · rw [Dev.restoreBad_eq]
      exact (if_neg (passed good)).trans ((if_neg (not_not.2 same)).trans ((if_neg (Bool.eq_false_iff.1 free)).trans (if_neg (Nat.not_lt.2 fits))))
  · refine (hostReadCompletion_failed (status := 1) live at_ issued (by decide) (by decide)).trans ?_
    rw [Dev.readEnds_sliceImage at_ issued why]
    have captured : (s.dev.endRead i).failedRead r true = (s.dev.endRead i).dmaFail r.port r.slice r.addr 3 := by
      rw [Dev.failedRead, if_pos rfl, Dev.readFail, if_neg (by rw [clean]; exact Bool.false_ne_true)]
    rw [show (none : Option (List Byte)).isNone = true from rfl, captured]

end Sys2Proof.Machine
end

section

/-! PROOFS. Wakes, the alarm and brown-outs (R403–R412, R419, R444). -/

namespace Sys2Proof.Machine
set_option Elab.async false

section
variable {d : Dev}

/-- A wake that is no eyespot's notes no source. -/
theorem Dev.noteSpot_other {code : Nat} (other : code ≠ 3) (d : Dev) (detail : Nat) : d.noteSpot code detail = d := if_neg fun h => other h.1

section
variable {code detail : Nat} (mode : d.pwr.mode = 2)
include mode

theorem Dev.wake_barred (barred : d.pwr.blocked = true) : d.wake code detail = d := (if_pos mode).trans (if_pos barred)

theorem Dev.wake_starts (free : d.pwr.blocked = false) (rest : d.rd AON_STATE_PHASE = 0) :
    d.wake code detail = ((d.recordWake code detail false).noteSpot code detail).eclosionBegin :=
  (if_pos mode).trans ((if_neg (by rw [free]; exact Bool.false_ne_true)).trans (if_neg (not_not.2 rest)))

theorem Dev.wake_again (free : d.pwr.blocked = false) (begun : d.rd AON_STATE_PHASE ≠ 0) :
    d.wake code detail =
      if d.now ≤ d.rd64 AON_WAKE_TIME_LO_NS AON_WAKE_TIME_HI_NS + 10000 ∧ d.rd AON_WAKE_LAST_CODE ≠ code then
        (d.recordWake code detail false).noteSpot code detail
      else d :=
  (if_pos mode).trans ((if_neg (by rw [free]; exact Bool.false_ne_true)).trans (if_pos begun))

end

section
variable {code detail : Nat} (mode : d.pwr.mode ≠ 2)
include mode

theorem Dev.wake_awake (none_ : d.pwr.req = none) : d.wake code detail = d := by
  rw [Dev.wake, if_neg mode, none_]

theorem Dev.wake_entry {q : PReq} (req : d.pwr.req = some q) :
    d.wake code detail =
      if q.target ≠ 2 then d
      else
        let d := d.recordWake code detail true
        if q.step = 7 then Dev.noteSpot { d with pwr := { d.pwr with wakeHeld := true } } code detail
        else { d with pwr := { d.pwr with req := some { q with wake := true } } } := by
  rw [Dev.wake, if_neg mode, req]

end

/-- The eyespot's mark of a source as bank 5 holds it. -/
abbrev Dev.savedMark (d : Dev) (x : Nat) : Nat :=
  (d.pwr.banks.get 5 {}).regs.get (EVC_SRC_CFG_EYESPOT x).key (resetField (EVC_SRC_CFG_EYESPOT x).key)

theorem Dev.hubOff_of_diapause (mode : d.pwr.mode = 2) : d.hubOff = true := by rw [Dev.hubOff, mode]; rfl

theorem Dev.watched_on {x : Nat} (eligible : srcEligible x = true) (on : d.hubOff = false) : d.watched x = d.flag (EVC_SRC_CFG_EYESPOT x) := by
  simp [Dev.watched, eligible, on]

theorem Dev.watched_off {x : Nat} (eligible : srcEligible x = true) (off : d.hubOff = true) :
    d.watched x = (d.savedMark x == 1 && !(decide (448 ≤ x) && !d.flag AON_WAKE_ARM_PRESENCE)) := by
  simp [Dev.watched, eligible, off]

/-- The eyespot while the hub runs: only an entry into DIAPAUSE is woken. -/
theorem wakeEyespot_on {x : Nat} (on : d.hubOff = false) (eligible : srcEligible x = true) :
    wakeEyespot x d = if (d.flag (EVC_SRC_CFG_EYESPOT x) && (d.pwr.req.map (·.target)) == some 2 && !d.evc.pend.contains x) = true then d.becomesPending x else d := by
  rw [wakeEyespot, on, if_neg Bool.false_ne_true, Dev.watched_on eligible on]

end

/-- Settles O51: the branches of `wake`, and which of them each source takes. -/
theorem wakesStartEclosions : Obligations.WakesStartEclosions := by
  intro s
  refine ⟨fun mode free rest => ⟨fun armed => next_settled ?_, fun armed => next_settled ?_, fun n armed => next_settled ?_, fun n armed => next_settled ?_⟩,
    fun armed => next_settled (if_pos armed), fun off => next_settled (if_neg (Bool.eq_false_iff.1 off)),
    fun armed => next_settled (if_pos armed), fun off => next_settled (if_neg (Bool.eq_false_iff.1 off)),
    fun n => ⟨fun armed => next_settled (if_pos armed), fun off => next_settled (if_neg (Bool.eq_false_iff.1 off)),
      fun armed => next_settled (if_pos armed), fun off => next_settled (if_neg (Bool.eq_false_iff.1 off))⟩,
    fun code detail => ⟨Dev.wake_barred, fun mode free begun => ⟨fun near => ?_, fun far => ?_⟩, Dev.wake_awake, fun q mode req => ⟨fun other => ?_, fun own step => ?_, fun own step => ?_⟩⟩,
    fun e x => ?_,
    fun x eligible => ⟨fun on marked fresh => ⟨fun q req entry => next_settled ?_, fun other => next_settled ?_⟩, fun on unmarked => next_settled ?_,
      fun mode free rest first armed marked => next_settled ?_, fun mode unmarked => next_settled ?_⟩,
    rfl, fun mode low => next_settled (if_pos ⟨mode, low⟩), fun other => next_settled (if_neg ?_)⟩
  · exact (if_pos armed).trans ((Dev.wake_starts mode free rest).trans (congrArg Dev.eclosionBegin (Dev.noteSpot_other (by decide) _ _)))
  · exact (if_pos armed).trans ((Dev.wake_starts mode free rest).trans (congrArg Dev.eclosionBegin (Dev.noteSpot_other (by decide) _ _)))
  · exact (if_pos armed).trans ((Dev.wake_starts mode free rest).trans (congrArg Dev.eclosionBegin (Dev.noteSpot_other (by decide) _ _)))
  · exact (if_pos armed).trans ((Dev.wake_starts mode free rest).trans (congrArg Dev.eclosionBegin (Dev.noteSpot_other (by decide) _ _)))
  · exact (Dev.wake_again mode free begun).trans (if_pos near)
  · exact (Dev.wake_again mode free begun).trans (if_neg far)
  · exact (Dev.wake_entry mode req).trans (if_pos other)
  · exact (Dev.wake_entry mode req).trans ((if_neg (not_not.2 own)).trans (if_neg step))
  · exact (Dev.wake_entry mode req).trans ((if_neg (not_not.2 own)).trans (if_pos step))
  · rw [Dev.noteSpot]
    simp only [true_and]
  · rw [wakeEyespot_on on eligible, marked, req, fresh]
    exact if_pos (by simp [entry])
  · rw [wakeEyespot_on on eligible]
    refine if_neg ?_
    rcases h : s.dev.pwr.req with _ | q
    · simp
    · simp [other q h]
  · rw [wakeEyespot_on on eligible, unmarked]
    rfl
  · have watched : s.dev.watched x.val = true := by
      rw [Dev.watched_off eligible (Dev.hubOff_of_diapause mode), Dev.savedMark, marked]
      rcases armed with low | armed
      · simp; omega
      · simp [armed]
    rw [wakeEyespot, Dev.hubOff_of_diapause mode, if_pos rfl, Dev.spotWake, if_pos watched]
    exact Dev.wake_starts mode free rest
  · have blind : s.dev.watched x.val = false := by
      rw [Dev.watched_off eligible (Dev.hubOff_of_diapause mode), Dev.savedMark, beq_false_of_ne unmarked]
      rfl
    rw [wakeEyespot, Dev.hubOff_of_diapause mode, if_pos rfl, Dev.spotWake, if_neg (by rw [blind]; exact Bool.false_ne_true)]
  · rintro ⟨mode, low⟩
    exact other.elim (absurd mode) fun h => Bool.false_ne_true (h.symm.trans low)

end Sys2Proof.Machine
end

section

/-! PROOFS. The steps of an entry into a power state, its abort points, unwinds and commit (R259, R400, R410–R413). -/

namespace Sys2Proof.Machine
set_option Elab.async false

/-! ### What the ledger and the mirror leave of a request -/

/-- A fold of steps that leave the power controller alone leaves it alone. -/
theorem foldl_pwr {α : Type} {f : Dev → α → Dev} (step : ∀ e x, (f e x).pwr = e.pwr) (l : List α) (d : Dev) : (l.foldl f d).pwr = d.pwr :=
  List.foldlRecOn (motive := fun e => e.pwr = d.pwr) l f rfl (fun e h x _ => (step e x).trans h)

theorem Dev.charge_pwr (d : Dev) (s nj : Nat) : (d.charge s nj).pwr = d.pwr := rfl

theorem Dev.chargeUnit_pwr (d : Dev) (u pot : Nat) : (d.chargeUnit u pot).pwr = d.pwr := by
  simp only [Dev.chargeUnit]
  split
  · rfl
  · refine foldl_pwr ?_ _ d
    exact fun e x => e.charge_pwr x.1 x.2

theorem Dev.attribute_pwr (d : Dev) (rail : Nat) : (d.attribute rail).pwr = d.pwr := by
  simp only [Dev.attribute]
  split
  · rfl
  · rw [Dev.charge_pwr, Dev.chargeUnit_pwr]
    refine foldl_pwr ?_ _ d
    exact fun e o => e.chargeUnit_pwr o _

theorem Dev.addCells_pwr (d : Dev) : d.addCells.pwr = d.pwr := by
  rw [Dev.addCells]
  refine foldl_pwr ?_ _ d
  exact fun _ _ => rfl

theorem Dev.ledgerReset_pwr (d : Dev) : d.ledgerReset.pwr = d.pwr := by
  simp only [Dev.ledgerReset]
  refine foldl_pwr ?_ _ d
  exact fun _ _ => rfl

theorem Dev.railRead_pwr (d : Dev) (n : Nat) (x : Option (BitVec 32)) : (d.railRead n x).2.pwr = d.pwr := by
  simp only [Dev.railRead]
  split
  · rfl
  · exact Dev.wrs_pwr ..

/-- Closing an interval of the ledger leaves the power controller as it is. -/
theorem Dev.ledgerClose_pwr (d : Dev) (l : List (Option (BitVec 32))) : (d.ledgerClose l).pwr = d.pwr := by
  have rails : (d.rails.foldl (fun (a : Nat × Dev) n => let x := a.2.railRead n (l.getD n none); (a.1 + x.1, x.2)) (0, d)).2.pwr = d.pwr :=
    List.foldlRecOn (motive := fun a : Nat × Dev => a.2.pwr = d.pwr) _ _ rfl (fun a h n _ => (a.2.railRead_pwr n _).trans h)
  simp only [Dev.ledgerClose]
  rw [Dev.sample_pwr, Dev.ledgerReset_pwr]
  exact (Dev.addCells_pwr _).trans ((Dev.attribute_pwr ..).trans rails)

theorem Dev.ledgerLast_pwr (d : Dev) : d.ledgerLast.pwr = d.pwr := Dev.ledgerClose_pwr ..

/-- Writing the mirror may end the request, or give it a cause, and leaves its step. -/
theorem Dev.writeMirror_step (d : Dev) (r : PReq) (h : d.writeMirror.pwr.req = some r) : ∃ q, d.pwr.req = some q ∧ r.step = q.step := by
  rw [Dev.writeMirror] at h
  split at h
  · split at h
    · next q req => exact ⟨q, req, by rw [← Option.some.inj h]⟩
    · next req =>
      rw [req] at h
      cases h
  · split at h
    · exact ⟨r, h, rfl⟩
    · exact ((Dev.Reports.refl d).dmaFail ..).step r h

/-! ### Abort points -/

section
variable {d : Dev} {q : PReq}

/-- No cause of an unwind is present. -/
abbrev PReq.calm (q : PReq) : Prop := q.wake = false ∧ q.port = false ∧ q.drain = false

theorem PReq.calm_iff : q.calm ↔ (q.wake || q.port || q.drain || false) = false := by simp [and_assoc]

/-- What an abort point leads to: the unwind, or the next step. -/
def Dev.abortOutcome (d : Dev) (q : PReq) : Dev :=
  if (q.wake || q.port || q.drain || false) = true then d.unwind q
  else if q.step = 2 then ((d.abortWaiting q).entryStep q 3).wr AON_MIRROR_STATUS_PHASE 1
  else if q.step = 6 then d.commitBegin q
  else d.entryStep q (q.step + 1)

/-- What a step leaves at its end: after step 5 the banks are saved, after step 6 they are sealed. -/
def Dev.stepEnded (d : Dev) (q : PReq) : Dev := if q.step = 5 then d.saveBanks 0 else if q.step = 6 then d.sealBanks else d

/-- An abort point at which no bank failed its self-test, for a step but the third. -/
theorem Dev.abortPoint_eq (other : q.step ≠ 3) : d.abortPoint q 0 = (d.stepEnded q).abortOutcome q := by
  have strong : (q.step == 5 && (0 : Nat) != 0) = false := by simp
  unfold Dev.abortPoint
  extract_lets bad d1 stop d2 q1
  have hbad : bad = false := strong
  have hd1 : d1 = d := if_neg (by rw [hbad]; exact Bool.false_ne_true)
  have hstop : stop = false := by simp [stop, hbad]
  have hq1 : q1 = q := if_neg other
  have hd2 : d2 = d.stepEnded q := by
    simp only [d2, hd1, if_neg other]
    rfl
  rw [hstop, hq1, hd2]
  rfl

/-- The ledger's last interval has closed and the mirror has been written, at the end of step 3. -/
def Dev.mirrored (d : Dev) : Dev := (d.ledgerLast.writeMirror).wr AON_MIRROR_STATUS_PHASE 0

/-- The abort point after step 3. -/
theorem Dev.abortPoint_three {r : PReq} (three : q.step = 3) (req : d.mirrored.pwr.req = some r) : d.abortPoint q 0 = d.mirrored.abortOutcome r := by
  have strong : (q.step == 5 && (0 : Nat) != 0) = false := by simp
  unfold Dev.abortPoint
  extract_lets bad d1 stop d2 q1
  have hbad : bad = false := strong
  have hd1 : d1 = d := if_neg (by rw [hbad]; exact Bool.false_ne_true)
  have hstop : stop = false := by simp [stop, hbad]
  have hd2 : d2 = d.mirrored := by
    simp only [d2, hd1, if_pos three]
    rfl
  have hq1 : q1 = r := by simp only [q1, hd2, req, if_pos three, Option.getD_some]
  rw [hstop, hq1, hd2]
  rfl

theorem Dev.abortOutcome_cause (cause : ¬q.calm) : d.abortOutcome q = d.unwind q := by
  rw [PReq.calm_iff, Bool.not_eq_false] at cause
  exact if_pos cause

section
variable (calm : q.calm)
include calm

theorem Dev.abortOutcome_calm : d.abortOutcome q =
    if q.step = 2 then ((d.abortWaiting q).entryStep q 3).wr AON_MIRROR_STATUS_PHASE 1
    else if q.step = 6 then d.commitBegin q
    else d.entryStep q (q.step + 1) :=
  if_neg (by rw [PReq.calm_iff.1 calm]; exact Bool.false_ne_true)

theorem Dev.abortOutcome_next (two : q.step ≠ 2) (six : q.step ≠ 6) : d.abortOutcome q = d.entryStep q (q.step + 1) :=
  (Dev.abortOutcome_calm calm).trans ((if_neg two).trans (if_neg six))

end

theorem Dev.stepEnded_other (five : q.step ≠ 5) (six : q.step ≠ 6) : d.stepEnded q = d := (if_neg five).trans (if_neg six)

/-- The request that stands at the abort point after step 3 is at step 3. -/
theorem Dev.mirrored_step {r : PReq} (req : d.pwr.req = some q)
    (h : d.mirrored.pwr.req = some r) : r.step = q.step := by
  rw [Dev.mirrored, Dev.wr_pwr] at h
  obtain ⟨p, hp, same⟩ := d.ledgerLast.writeMirror_step r h
  rw [Dev.ledgerLast_pwr, req] at hp
  rw [same, Option.some.inj hp]

/-- An unwind before step 4 makes the device ACTIVE again. -/
theorem Dev.unwind_before (early : q.step < 4) :
    d.unwind q = (d.wr GLB_POWER_STATUS_ABORT_STEP q.step).unwindEnd { q with result := some q.cause } := if_pos early

/-- One from step 4 on reloads GDDR6 from the mirror first. -/
theorem Dev.unwind_reloads (late : 4 ≤ q.step) :
    d.unwind q =
      let f := d.wr GLB_POWER_STATUS_ABORT_STEP q.step
      let g := Dev.wr { f with pwr := { f.pwr with req := some { q with result := some q.cause, reload := true } } } AON_MIRROR_STATUS_PHASE 2
      let r := g.hostRead 0 g.mirrorAddr (g.rd AON_MIRROR_LEN_VALUE) false .mirror
      if r.1 = true then r.2 else r.2.reloadEnd 2 := if_neg (Nat.not_lt.2 late)

/-- The abort point of a step before the third, without a cause and with one. -/
theorem Dev.abortPoint_one (one : q.step = 1) (calm : q.calm) : d.abortPoint q 0 = d.entryStep q 2 := by
  rw [Dev.abortPoint_eq (by omega), Dev.stepEnded_other (by omega) (by omega), Dev.abortOutcome_next calm (by omega) (by omega), one]

theorem Dev.abortPoint_two (two : q.step = 2) (calm : q.calm) :
    d.abortPoint q 0 = ((d.abortWaiting q).entryStep q 3).wr AON_MIRROR_STATUS_PHASE 1 := by
  rw [Dev.abortPoint_eq (by omega), Dev.stepEnded_other (by omega) (by omega), Dev.abortOutcome_calm calm, if_pos two]

theorem Dev.abortPoint_unwinds (early : q.step < 3) (cause : ¬q.calm) :
    d.abortPoint q 0 = (d.wr GLB_POWER_STATUS_ABORT_STEP q.step).unwindEnd { q with result := some q.cause } := by
  rw [Dev.abortPoint_eq (by omega), Dev.stepEnded_other (by omega) (by omega), Dev.abortOutcome_cause cause, Dev.unwind_before (by omega)]

/-- An entry step of a request for DIAPAUSE that is not reloading. -/
theorem diapauseAbortPoint_step {weak : Nat} (req : d.pwr.req = some q) (target : q.target = 2) (running : q.reload = false) (drain : q.step ≠ 2)
    (below : q.step ≤ 6) :
    diapauseAbortPoint weak d =
      if q.step = 1 then Dev.abortPoint { d with pwr := { d.pwr with req := some { q with drainAt := d.now } } } { q with drainAt := d.now } 0
      else d.abortPoint q weak := by
  simp only [diapauseAbortPoint, req]
  exact if_neg (by rintro (h | h | h | h); exacts [h target, Bool.false_ne_true (running.symm.trans h), drain h, by omega])

theorem drainComplete_drained (req : d.pwr.req = some q) (drained : d.drained q = true) (running : q.reload = false) :
    drainComplete d = if q.target = 1 then d.dormantEnter q else if q.step = 2 then d.abortPoint q 0 else d := by
  simp only [drainComplete, req]
  exact if_neg (by simp [drained, running])

/-- What DORMANT is once it is entered (R400). -/
theorem Dev.dormantEnter_spec (d : Dev) (q : PReq) :
    (d.dormantEnter q).pwr.mode = 1 ∧ (d.dormantEnter q).pwr.noIntake = true ∧ (d.dormantEnter q).rd GLB_POWER_STATUS_CUR = 1 := by
  have sampled (e : Dev) : e.sampleEngines.pwr = e.pwr ∧ ∀ f, e.sampleEngines.rd f = e.rd f :=
    List.foldlRecOn (motive := fun x : Dev => x.pwr = e.pwr ∧ ∀ f, x.rd f = e.rd f) _ _ ⟨rfl, fun _ => rfl⟩
      (fun x h p _ => ⟨(x.sample_pwr _).trans h.1, fun f => (x.rd_sample _ f).trans (h.2 f)⟩)
  simp only [Dev.dormantEnter]
  refine ⟨by rw [(sampled _).1]; rfl, by rw [(sampled _).1]; rfl, ?_⟩
  rw [(sampled _).2, Dev.rd_wr_eq]
  rfl

/-- The last requests of the mirror's read end it with the result of the header's checks. -/
theorem Dev.pullBrings_last {i : Nat} {r : HRead} {hdr : List Byte} {body : BitVec 32} {secs : List (BitVec 32)}
    (place : d.reads.findIdx (fun r => r.why == .mirror) = i) (at_ : d.reads[i]? = some r) (on : d.hubOff = false) (issued : r.issued = true)
    (last : r.last = true) : d.pullBrings 0 hdr body secs = (d.endRead i).pullEnds (headerResult hdr body secs (d.endRead i).pullSeq) := by
  have seq : (d.endRead i).pullSeq = d.pullSeq := by
    rw [Dev.endRead_frame]
    rfl
  simp only [Dev.pullBrings, place, at_, on, issued, last, seq, ne_eq, not_true_eq_false, if_false, Bool.not_true, Bool.or_false, Bool.false_eq_true,
    if_true]

theorem unwindReloadDone_last {i : Nat} {r : HRead} {hdr : List Byte} {body : BitVec 32} {secs : List (BitVec 32)}
    (place : d.reads.findIdx (fun r => r.why == .mirror) = i) (at_ : d.reads[i]? = some r) (on : d.hubOff = false) (mode : d.pwr.mode ≠ 3)
    (issued : r.issued = true) (last : r.last = true) :
    unwindReloadDone 0 hdr body secs d = (d.endRead i).pullEnds (headerResult hdr body secs (d.endRead i).pullSeq) :=
  (if_neg mode).trans (Dev.pullBrings_last place at_ on issued last)

/-- The end of a reload (R411). -/
theorem Dev.reloadEnd_reloading {r : Nat} (req : d.pwr.req = some q) (reloading : q.reload = true) :
    d.reloadEnd r =
      let d := d.wrs [(AON_MIRROR_STATUS_PHASE, 0), (AON_MIRROR_STATUS_RESULT, r)]
      let d := if q.step = 6 then d.inc AON_SEAL_COUNT_COUNT else d
      let d := { d with pwr := { d.pwr with banks := [] } }
      if r = 1 then d.unwindEnd q else ((d.loseMirror).wr AON_STATE_INCOMPLETE 1).unwindEnd q := by
  rw [Dev.reloadEnd, req]
  exact if_neg (by rw [reloading]; decide)

end

/-- Settles O50: each branch of an abort point, and what leads to one. -/
theorem entriesDrainAndUnwind : Obligations.EntriesDrainAndUnwind := by
  intro s q req
  refine ⟨fun drained running => ⟨fun dormant => ⟨s.dev.dormantEnter q, next_settled ?_, s.dev.dormantEnter_spec q⟩, fun other two calm => next_settled ?_,
      fun other two cause => next_settled ?_⟩,
    ⟨fun dormant => next_settled ?_, fun other two => next_settled ?_⟩,
    fun target running => ⟨fun one => ⟨fun calm => next_settled ?_, fun cause => next_settled ?_⟩, fun three r at3 => ⟨fun w p g => next_settled ?_, fun cause _ => next_settled ?_⟩,
      fun four calm => next_settled ?_, fun four cause => next_settled ?_, fun five calm => next_settled ?_, fun five cause => next_settled ?_,
      fun six calm => next_settled ?_, fun six cause => next_settled ?_⟩,
    fun reload on mode i r hdr body secs place at_ issued last p reqp reloadp modep => ⟨fun good => next_settled ?_, fun bad => next_settled ?_⟩,
    fun seven => next_settled ?_⟩
  · exact (drainComplete_drained req drained running).trans (if_pos dormant)
  · refine (drainComplete_drained req drained running).trans ((if_neg other).trans ((if_pos two).trans ?_))
    exact Dev.abortPoint_two two calm
  · refine (drainComplete_drained req drained running).trans ((if_neg other).trans ((if_pos two).trans ?_))
    exact Dev.abortPoint_unwinds (by omega) cause
  · simp only [drainTimeout, req]
    exact if_pos dormant
  · simp only [drainTimeout, req]
    refine (if_neg other).trans ((if_pos two).trans ?_)
    exact Dev.abortPoint_unwinds (q := { q with drain := true }) (two.trans_lt (by decide)) (fun calm => Bool.noConfusion calm.2.2)
  · refine (diapauseAbortPoint_step req target running (by omega) (by omega)).trans ((if_pos one).trans ?_)
    exact Dev.abortPoint_one (q := { q with drainAt := s.dev.now }) one calm
  · refine (diapauseAbortPoint_step req target running (by omega) (by omega)).trans ((if_pos one).trans ?_)
    exact Dev.abortPoint_unwinds (q := { q with drainAt := s.dev.now }) (one.trans_lt (by decide)) cause
  · refine (diapauseAbortPoint_step req target running (by omega) (by omega)).trans ((if_neg (by omega)).trans ?_)
    have at3' := Dev.mirrored_step req at3
    exact (Dev.abortPoint_three three at3).trans (Dev.abortOutcome_next ⟨w, p, g⟩ (by omega) (by omega))
  · refine (diapauseAbortPoint_step req target running (by omega) (by omega)).trans ((if_neg (by omega)).trans ?_)
    have at3' := Dev.mirrored_step req at3
    exact (Dev.abortPoint_three three at3).trans ((Dev.abortOutcome_cause (fun calm => by simp [calm.1, calm.2.1, calm.2.2] at cause)).trans
      (Dev.unwind_before (by omega)))
  · refine (diapauseAbortPoint_step req target running (by omega) (by omega)).trans ((if_neg (by omega)).trans ?_)
    show Dev.abortPoint _ _ 0 = _
    rw [Dev.abortPoint_eq (by omega), Dev.stepEnded_other (by omega) (by omega), Dev.abortOutcome_next calm (by omega) (by omega), four]
  · refine (diapauseAbortPoint_step req target running (by omega) (by omega)).trans ((if_neg (by omega)).trans ?_)
    show Dev.abortPoint _ _ 0 = _
    rw [Dev.abortPoint_eq (by omega), Dev.stepEnded_other (by omega) (by omega), Dev.abortOutcome_cause cause, Dev.unwind_reloads (by omega)]
  · refine (diapauseAbortPoint_step req target running (by omega) (by omega)).trans ((if_neg (by omega)).trans ?_)
    show Dev.abortPoint _ _ 0 = _
    rw [Dev.abortPoint_eq (by omega), Dev.stepEnded, if_pos five, Dev.abortOutcome_next calm (by omega) (by omega), five]
  · refine (diapauseAbortPoint_step req target running (by omega) (by omega)).trans ((if_neg (by omega)).trans ?_)
    show Dev.abortPoint _ _ 0 = _
    rw [Dev.abortPoint_eq (by omega), Dev.stepEnded, if_pos five, Dev.abortOutcome_cause cause, Dev.unwind_reloads (by omega)]
  · refine (diapauseAbortPoint_step req target running (by omega) (by omega)).trans ((if_neg (by omega)).trans ?_)
    show Dev.abortPoint _ _ 0 = _
    rw [Dev.abortPoint_eq (by omega), Dev.stepEnded, if_neg (by omega), if_pos six, Dev.abortOutcome_calm calm, if_neg (by omega), if_pos six]
  · refine (diapauseAbortPoint_step req target running (by omega) (by omega)).trans ((if_neg (by omega)).trans ?_)
    show Dev.abortPoint _ _ 0 = _
    rw [Dev.abortPoint_eq (by omega), Dev.stepEnded, if_neg (by omega), if_pos six, Dev.abortOutcome_cause cause, Dev.unwind_reloads (by omega)]
  · refine (unwindReloadDone_last place at_ on mode issued last).trans ((if_pos modep).trans ?_)
    rw [Dev.reloadEnd_reloading reqp reloadp]
    exact if_pos good
  · refine (unwindReloadDone_last place at_ on mode issued last).trans ((if_pos modep).trans ?_)
    rw [Dev.reloadEnd_reloading reqp reloadp]
    exact if_neg bad
  · simp only [commitWaitExpire, req]
    exact if_pos seven

end Sys2Proof.Machine
end

section

/-! PROOFS. The stages of an eclosion and the checks of the mirror (R415, R419–R424). -/

namespace Sys2Proof.Machine
set_option Elab.async false

section
variable {d : Dev}

/-- The checks of the mirror's header that come before its DSN and its SEQ (R423). -/
def headerGood (hdr : List Byte) (body : BitVec 32) (secs : List (BitVec 32)) : Prop :=
  hdr.length = 256 ∧ leAt hdr 0 4 = 0x5252494D ∧ leAt hdr 4 2 = 1 ∧ leAt hdr 0xFC 4 = (crc32c (hdr.take 0xFC)).toNat
    ∧ leAt hdr 0x18 4 = body.toNat ∧ (∀ i, i < 10 → leAt hdr (0x28 + 16 * i) 4 = (secs.getD i 0).toNat)

theorem headerResult_eq (hdr : List Byte) (body : BitVec 32) (secs : List (BitVec 32)) (seq : Nat) [Decidable (headerGood hdr body secs)] :
    headerResult hdr body secs seq =
      if ¬headerGood hdr body secs then 3 else if leAt hdr 8 8 ≠ Config.dsn.toNat then 4 else if leAt hdr 0x10 4 ≠ seq then 5 else 1 := by
  have same : (hdr.length == 256 && leAt hdr 0 4 == 0x5252494D && leAt hdr 4 2 == 1 && leAt hdr 0xFC 4 == (crc32c (hdr.take 0xFC)).toNat
      && leAt hdr 0x18 4 == body.toNat && (List.range 10).all (fun i => leAt hdr (0x28 + 16 * i) 4 == (secs.getD i 0).toNat)) = true
      ↔ headerGood hdr body secs := by
    rw [headerGood]
    simp only [Bool.and_eq_true, beq_iff_eq, List.all_eq_true, List.mem_range, and_assoc]
  rw [headerResult]
  simp only [← same, Bool.not_eq_true, Bool.not_eq_true']

/-- The rails are good after a wake, with no brown-out seen. -/
theorem eclosionRailsGood_e3 {bad corrected : Nat} {r : Option (List Rail)} (mode : d.pwr.mode = 2) (phase : d.rd AON_STATE_PHASE = 2)
    (steady : d.flag AON_REG_BROWNOUT_SEEN = false) : eclosionRailsGood bad corrected r d = d.eclosionE3 bad corrected r :=
  (if_neg (by rintro (h | h); exacts [h mode, h phase])).trans (if_neg (by rw [steady]; exact Bool.false_ne_true))

theorem eclosionRailsGood_brownout {bad corrected : Nat} {r : Option (List Rail)} (mode : d.pwr.mode = 2) (phase : d.rd AON_STATE_PHASE = 2)
    (seen : d.flag AON_REG_BROWNOUT_SEEN = true) :
    eclosionRailsGood bad corrected r d =
      let e := d.inc AON_SEAL_COUNT_COUNT
      (Dev.b0Lost { e with pwr := { e.pwr with banks := [], mirror := none } } 2 63 0 r).fault { unit := .aon, src := 3, detail := 63 } :=
  (if_neg (by rintro (h | h); exacts [h mode, h phase])).trans (if_pos seen)

/-- The banks that fail their seal checks (R415). -/
def Dev.lostBanks (d : Dev) (bad : Nat) : Nat := listMask ((List.range 6).filter (fun i => !d.bankPasses bad i))

/-- The device once its banks have been checked and restored. -/
def Dev.banksChecked (d : Dev) (bad corrected : Nat) : Dev :=
  let e := (d.restoreBanks (d.lostBanks bad)).wr AON_CHRYSALIS_STATUS_CORRECTED (Nat.min 255 corrected)
  { e with pwr := { e.pwr with gddr := false, fw := false, pulling := false, e5Since := none, banks := [] } }

theorem Dev.eclosionE3_eq (bad corrected : Nat) (r : Option (List Rail)) :
    d.eclosionE3 bad corrected r =
      let lost := d.lostBanks bad
      let f := d.banksChecked bad corrected
      let g := if bit lost 0 then f.b0Lost 1 lost corrected r else f.b0Good r
      if lost ≠ 0 then g.fault { unit := .aon, src := 3, detail := lost } else g := rfl

theorem firmwareReloaded_eclosion (mode : d.pwr.mode = 3) :
    firmwareReloaded d =
      if d.flag GLB_GRAVE_DEVICE then Dev.scarGrave { d with pwr := { d.pwr with mode := 0 } }
      else Dev.e5Ready { d with pwr := { d.pwr with fw := true } } := if_neg (not_not.2 mode)

/-- A pull that may start. -/
theorem mirrorPullStart_ready (mode : d.pwr.mode = 3) (gddr : d.pwr.gddr = true) (fw : d.pwr.fw = true) (idle : d.pwr.pulling = false)
    (sound : d.flt.grave = false) :
    mirrorPullStart d =
      if bit (d.rd AON_CHRYSALIS_STATUS_BANK_LOST) 4 then d.e5End 7
      else if d.canIssue d.mgrPort && !d.egressHeld d.mgrPort then
        let d := d.wrs [(AON_MIRROR_STATUS_PHASE, 2), (AON_STATE_PHASE, 5)]
        let r := Dev.pullRead { d with pwr := { d.pwr with pulling := true } }
        if r.1 then r.2 else r.2.e5End 2
      else d := if_neg (by simp [mode, gddr, fw, idle, sound])

theorem Dev.pullEnds_eclosion {v : Nat} (mode : d.pwr.mode = 3) (pulling : d.pwr.pulling = true) (bad : v ≠ 1) : d.pullEnds v = d.e5End v :=
  (if_neg (not_not.2 mode)).trans ((if_neg (by rw [pulling]; decide)).trans (if_pos bad))

theorem Dev.pullEnds_restores {m : Mirror} (mode : d.pwr.mode = 3) (pulling : d.pwr.pulling = true) (mirror : d.pwr.mirror = some m)
    (seq : m.seq = (d.rd AON_SEAL_COUNT_COUNT + 2 ^ 32 - 1) % 2 ^ 32) : d.pullEnds 1 = (d.restoreMirror m).e5End 1 := by
  rw [Dev.pullEnds, if_neg (not_not.2 mode), if_neg (by rw [pulling]; decide), if_neg (not_not.2 rfl), mirror]
  exact if_pos (by rw [Dev.pullSeq, if_pos mode, seq])

end

/-- Settles O52: each stage by the branch it takes. -/
theorem eclosionsRestoreTheDevice : Obligations.EclosionsRestoreTheDevice := by
  intro s
  refine ⟨fun mode phase steady bad n r => ⟨fun whole => next_settled ?_, fun some_ sound => next_settled ?_, fun zero => next_settled ?_⟩,
    fun mode phase seen bad n r => next_settled (eclosionRailsGood_brownout mode phase seen),
    fun mode phase => next_settled (if_pos ⟨mode, phase⟩),
    fun mode => ⟨fun sound => next_settled (if_pos ⟨mode, by rw [sound]; exact Bool.false_ne_true⟩),
      fun sound => next_settled ((firmwareReloaded_eclosion mode).trans (if_neg (by rw [sound]; exact Bool.false_ne_true))),
      fun scar => next_settled ((firmwareReloaded_eclosion mode).trans (if_pos scar)),
      fun gddr fw idle sound => ⟨fun lost => next_settled ((mirrorPullStart_ready mode gddr fw idle sound).trans (if_pos lost)),
        fun kept may open_ => next_settled ?_, fun kept not_ => next_settled ?_⟩,
      fun i r hdr body secs place at_ issued last on => next_settled ((if_pos mode).trans (Dev.pullBrings_last place at_ on issued last)),
      fun t since idle off => next_settled ?_⟩,
    fun hdr body secs seq => ?_,
    fun x v mode pulling => ⟨Dev.pullEnds_eclosion mode pulling, fun m => Dev.pullEnds_restores mode pulling⟩,
    fun v opened => ⟨fun ack held => next_settled ?_, fun not_ => next_settled ?_⟩⟩
  · rw [eclosionRailsGood_e3 mode phase steady, Dev.eclosionE3_eq]
    have none_ : s.dev.lostBanks bad.toNat = 0 := whole
    dsimp only
    rw [none_, if_neg (not_not.2 rfl), if_neg (by decide)]
    rfl
  · rw [eclosionRailsGood_e3 mode phase steady, Dev.eclosionE3_eq]
    exact (if_pos some_).trans (congrArg (fun e : Dev => e.fault _) (if_neg (by rw [Dev.lostBanks, sound]; exact Bool.false_ne_true)))
  · rw [eclosionRailsGood_e3 mode phase steady, Dev.eclosionE3_eq]
    have some_ : s.dev.lostBanks bad.toNat ≠ 0 := by
      intro none_
      have zero' : bit (s.dev.lostBanks bad.toNat) 0 = true := zero
      rw [none_] at zero'
      exact absurd zero' (by decide)
    exact (if_pos some_).trans (congrArg (fun e : Dev => e.fault _) (if_pos zero))
  · refine (mirrorPullStart_ready mode gddr fw idle sound).trans ((if_neg (by rw [kept]; exact Bool.false_ne_true)).trans ?_)
    exact if_pos (by rw [may, open_]; rfl)
  · refine (mirrorPullStart_ready mode gddr fw idle sound).trans ((if_neg (by rw [kept]; exact Bool.false_ne_true)).trans (if_neg ?_))
    rcases not_ with h | h <;> simp [h]
  · simp only [mirrorWaitExpire, since]
    exact if_neg (by simp [mode, idle, off])
  · classical
    have eq := headerResult_eq hdr body secs seq
    refine ⟨fun bad => eq.trans (if_pos bad), fun good other => ?_, fun good dsn other => ?_, fun good dsn same => ?_⟩
    · exact eq.trans ((if_neg (not_not.2 good)).trans (if_pos other))
    · exact eq.trans ((if_neg (not_not.2 good)).trans ((if_neg (not_not.2 dsn)).trans (if_pos other)))
    · exact eq.trans ((if_neg (not_not.2 good)).trans ((if_neg (not_not.2 dsn)).trans (if_neg (not_not.2 same))))
  · rw [eclosionAck, Dev.setup_open _ _ opened]
    exact if_pos (by rw [ack, held]; rfl)
  · rw [eclosionAck, Dev.setup_open _ _ opened]
    refine if_neg ?_
    rcases not_ with h | h <;> simp [h]

end Sys2Proof.Machine
end

section

/-! PROOFS. Captures, merges, grave sources, the factory accesses and the ends of windows (R66, R450–R471). -/

namespace Sys2Proof.Machine
set_option Elab.async false

/-! ### The capture block -/

/-- The words of an event that every capture block holds. -/
def FEv.words (v : FEv) (cls now : Nat) : List (Fld × Nat) :=
  let u := v.unit
  [(FAULT_STATUS_VALID u, 1), (FAULT_STATUS_CLASS u, cls), (FAULT_STATUS_INJ u, b2n v.inj), (FAULT_STATUS_COINC u, 0), (FAULT_CAPTURE_TYPES u, 2 ^ v.src),
    (FAULT_CAPTURE_FIRST u, v.src), (FAULT_CAPTURE_ACCESS u, v.access), (FAULT_CAPTURE_TIME_LO u, now), (FAULT_CAPTURE_TIME_HI u, now / 2 ^ 32),
    (FAULT_CAPTURE_DETAIL u, v.detail)]

/-- Those that a full block holds besides. -/
def FEv.fullWords (v : FEv) (req : Nat) (pasid : Option Nat) : List (Fld × Nat) :=
  let u := v.unit
  [(FAULT_CAPTURE_ADDR_LO u, v.addr), (FAULT_CAPTURE_ADDR_HI u, v.addr / 2 ^ 32), (FAULT_CAPTURE_PORT u, v.port.getD 0),
    (FAULT_CAPTURE_PORT_VALID u, b2n v.port.isSome), (FAULT_CAPTURE_SLICE u, v.slice.getD 0), (FAULT_CAPTURE_SLICE_VALID u, b2n v.slice.isSome),
    (FAULT_CAPTURE_REQ_ID u, req), (FAULT_CAPTURE_PASID u, pasid.getD 0), (FAULT_CAPTURE_PASID_VALID u, b2n pasid.isSome)]

theorem FEv.words_distinct (v : FEv) (cls now : Nat) : (v.words cls now).Pairwise (fun p q => p.1.key ≠ q.1.key) := by
  simp only [FEv.words, List.pairwise_cons, List.mem_cons, List.not_mem_nil, or_false, forall_eq_or_imp, forall_eq, List.Pairwise.nil, IsEmpty.forall_iff,
    implies_true, and_true, Fld.key, FAULT_STATUS_VALID, FAULT_STATUS_CLASS, FAULT_STATUS_INJ, FAULT_STATUS_COINC, FAULT_STATUS, FAULT_CAPTURE_TYPES,
    FAULT_CAPTURE_FIRST, FAULT_CAPTURE_ACCESS, FAULT_CAPTURE_TIME_LO, FAULT_CAPTURE_TIME_HI, FAULT_CAPTURE_DETAIL]
  omega

theorem FEv.fullWords_distinct (v : FEv) (req : Nat) (pasid : Option Nat) : (v.fullWords req pasid).Pairwise (fun p q => p.1.key ≠ q.1.key) := by
  simp only [FEv.fullWords, List.pairwise_cons, List.mem_cons, List.not_mem_nil, or_false, forall_eq_or_imp, forall_eq, List.Pairwise.nil,
    IsEmpty.forall_iff, implies_true, and_true, Fld.key, FAULT_CAPTURE_ADDR_LO, FAULT_CAPTURE_ADDR_HI, FAULT_CAPTURE_PORT, FAULT_CAPTURE_PORT_VALID,
    FAULT_CAPTURE_SLICE, FAULT_CAPTURE_SLICE_VALID, FAULT_CAPTURE_REQ_ID, FAULT_CAPTURE_PASID, FAULT_CAPTURE_PASID_VALID]
  omega

/-- A full block's words are none of those that every block holds. -/
theorem FEv.words_apart (v : FEv) (cls now req : Nat) (pasid : Option Nat) :
    ∀ p ∈ v.words cls now, ∀ q ∈ v.fullWords req pasid, p.1.key ≠ q.1.key := by
  simp only [FEv.words, FEv.fullWords, List.mem_cons, List.not_mem_nil, or_false, forall_eq_or_imp, forall_eq, Fld.key, FAULT_STATUS_VALID,
    FAULT_STATUS_CLASS, FAULT_STATUS_INJ, FAULT_STATUS_COINC, FAULT_STATUS, FAULT_CAPTURE_TYPES, FAULT_CAPTURE_FIRST, FAULT_CAPTURE_ACCESS,
    FAULT_CAPTURE_TIME_LO, FAULT_CAPTURE_TIME_HI, FAULT_CAPTURE_DETAIL, FAULT_CAPTURE_ADDR_LO, FAULT_CAPTURE_ADDR_HI, FAULT_CAPTURE_PORT,
    FAULT_CAPTURE_PORT_VALID, FAULT_CAPTURE_SLICE, FAULT_CAPTURE_SLICE_VALID, FAULT_CAPTURE_REQ_ID, FAULT_CAPTURE_PASID, FAULT_CAPTURE_PASID_VALID]
  omega

section
variable {d : Dev} {v : FEv} {cls : Nat}

/-- A capture holds each of the event's words, as wide as its field. -/
theorem Dev.rd_captureOpen {p : Fld × Nat} (h : p ∈ v.words cls d.now) : (d.captureOpen v cls).rd p.1 = p.2 % 2 ^ p.1.width := by
  have open_ : (d.wrs (v.words cls d.now)).rd p.1 = p.2 % 2 ^ p.1.width := Dev.rd_wrs_of_mem (v.words_distinct cls d.now) d h
  simp only [Dev.captureOpen, Dev.rd_history]
  split
  · exact open_
  · exact (Dev.rd_wrs_ne (v.fullWords _ _) _ _ (v.words_apart cls d.now _ _ p h)).trans open_

/-- A full block holds the others too. -/
theorem Dev.rd_captureOpen_addr (full : unitFull v.unit = true) :
    (d.captureOpen v cls).rd (FAULT_CAPTURE_ADDR_LO v.unit) = v.addr % 2 ^ 32 := by
  simp only [Dev.captureOpen, Dev.rd_history, full, Bool.not_true, Bool.false_eq_true, if_false]
  exact Dev.rd_wrs_of_mem (l := v.fullWords _ _) (v.fullWords_distinct _ _) _ (p := (FAULT_CAPTURE_ADDR_LO v.unit, v.addr)) (List.mem_cons_self ..)

/-- The fields of a capture that a merge may write (R452, R453). -/
def mergeWrites (u : FUnit) : List Fld :=
  [FAULT_MERGE_COUNT u, FAULT_CAPTURE_TYPES u, FAULT_STATUS_OVERFLOW u, FAULT_STATUS_COINC u, FAULT_STATUS_INJ u, FAULT_STATUS_CLASS u]

/-- A merge leaves every other field as it is. -/
theorem Dev.rd_captureMerge_other {f : Fld} (h : ∀ g ∈ mergeWrites v.unit, f.key ≠ g.key) : (d.captureMerge v cls).rd f = d.rd f := by
  simp only [mergeWrites, List.mem_cons, List.not_mem_nil, or_false, forall_eq_or_imp, forall_eq] at h
  obtain ⟨count, types, overflow, coinc, inj, class_⟩ := h
  simp only [Dev.captureMerge, Dev.raiseClass, Dev.rd_wr_ne _ _ _ _ class_, Dev.rd_wr_ne _ _ _ _ inj, Dev.rd_wr_ne _ _ _ _ coinc]
  split
  · rw [Dev.rd_wr_ne _ _ _ _ types, Dev.incSat, Dev.rd_wr_ne _ _ _ _ count]
  · rw [Dev.rd_wr_ne _ _ _ _ overflow, Dev.incSat, Dev.rd_wr_ne _ _ _ _ count]

/-- A merge counts, in a field that saturates. -/
theorem Dev.rd_captureMerge_count : (d.captureMerge v cls).rd (FAULT_MERGE_COUNT v.unit) = Nat.min 65535 (d.rd (FAULT_MERGE_COUNT v.unit) + 1) := by
  have keys : ∀ g ∈ (mergeWrites v.unit).tail, (FAULT_MERGE_COUNT v.unit).key ≠ g.key := by
    simp only [mergeWrites, List.tail_cons, List.mem_cons, List.not_mem_nil, or_false, forall_eq_or_imp, forall_eq, Fld.key, FAULT_MERGE_COUNT,
      FAULT_CAPTURE_TYPES, FAULT_STATUS_OVERFLOW, FAULT_STATUS_COINC, FAULT_STATUS_INJ, FAULT_STATUS_CLASS, FAULT_STATUS]
    omega
  simp only [mergeWrites, List.tail_cons, List.mem_cons, List.not_mem_nil, or_false, forall_eq_or_imp, forall_eq] at keys
  obtain ⟨types, overflow, coinc, inj, class_⟩ := keys
  have counted : (d.incSat (FAULT_MERGE_COUNT v.unit)).rd (FAULT_MERGE_COUNT v.unit) = Nat.min 65535 (d.rd (FAULT_MERGE_COUNT v.unit) + 1) := by
    rw [Dev.incSat, Dev.rd_wr_eq]
    exact Nat.mod_eq_of_lt ((Nat.min_le_left 65535 _).trans_lt (show 65535 < 2 ^ 16 by decide))
  simp only [Dev.captureMerge, Dev.raiseClass, Dev.rd_wr_ne _ _ _ _ class_, Dev.rd_wr_ne _ _ _ _ inj, Dev.rd_wr_ne _ _ _ _ coinc]
  split
  · rw [Dev.rd_wr_ne _ _ _ _ types, counted]
  · rw [Dev.rd_wr_ne _ _ _ _ overflow, counted]

/-- The fields of FAULT_STATUS that a merge writes last. -/
theorem Dev.rd_captureMerge_marks {f : Fld}
    (h : f.key ≠ (FAULT_STATUS_COINC v.unit).key ∧ f.key ≠ (FAULT_STATUS_INJ v.unit).key ∧ f.key ≠ (FAULT_STATUS_CLASS v.unit).key) :
    (d.captureMerge v cls).rd f =
      let e := d.incSat (FAULT_MERGE_COUNT v.unit)
      Dev.rd (if unitFull v.unit then e.wr (FAULT_CAPTURE_TYPES v.unit) (Nat.lor (e.rd (FAULT_CAPTURE_TYPES v.unit)) (2 ^ v.src))
        else e.wr (FAULT_STATUS_OVERFLOW v.unit) 1) f := by
  obtain ⟨coinc, inj, class_⟩ := h
  simp only [Dev.captureMerge, Dev.raiseClass, Dev.rd_wr_ne _ _ _ _ class_, Dev.rd_wr_ne _ _ _ _ inj, Dev.rd_wr_ne _ _ _ _ coinc]

theorem captureMarks_apart (u : FUnit) (f : Fld) (h : f = FAULT_CAPTURE_TYPES u ∨ f = FAULT_STATUS_OVERFLOW u) :
    f.key ≠ (FAULT_STATUS_COINC u).key ∧ f.key ≠ (FAULT_STATUS_INJ u).key ∧ f.key ≠ (FAULT_STATUS_CLASS u).key ∧ f.key ≠ (FAULT_MERGE_COUNT u).key := by
  rcases h with rfl | rfl <;>
    simp only [Fld.key, FAULT_CAPTURE_TYPES, FAULT_STATUS_OVERFLOW, FAULT_STATUS_COINC, FAULT_STATUS_INJ, FAULT_STATUS_CLASS, FAULT_MERGE_COUNT,
      FAULT_STATUS] <;>
    omega

/-- A full block adds the source to TYPES and leaves OVERFLOW. -/
theorem Dev.captureMerge_full (full : unitFull v.unit = true) :
    (d.captureMerge v cls).rd (FAULT_CAPTURE_TYPES v.unit) = Nat.lor (d.rd (FAULT_CAPTURE_TYPES v.unit)) (2 ^ v.src) % 2 ^ 16
    ∧ (d.captureMerge v cls).rd (FAULT_STATUS_OVERFLOW v.unit) = d.rd (FAULT_STATUS_OVERFLOW v.unit) := by
  obtain ⟨tc, ti, tk, tm⟩ := captureMarks_apart v.unit _ (.inl rfl)
  obtain ⟨oc, oi, ok, om⟩ := captureMarks_apart v.unit _ (.inr rfl)
  refine ⟨(Dev.rd_captureMerge_marks ⟨tc, ti, tk⟩).trans ?_, (Dev.rd_captureMerge_marks ⟨oc, oi, ok⟩).trans ?_⟩
  · dsimp only
    rw [if_pos full, Dev.rd_wr_eq, Dev.incSat, Dev.rd_wr_ne _ _ _ _ tm]
    rfl
  · dsimp only
    rw [if_pos full, Dev.rd_wr_ne, Dev.incSat, Dev.rd_wr_ne _ _ _ _ om]
    simp only [Fld.key, FAULT_CAPTURE_TYPES, FAULT_STATUS_OVERFLOW, FAULT_STATUS]
    omega

/-- A latch sets OVERFLOW. -/
theorem Dev.captureMerge_latch (latch : unitFull v.unit = false) : (d.captureMerge v cls).rd (FAULT_STATUS_OVERFLOW v.unit) = 1 := by
  obtain ⟨oc, oi, ok, _⟩ := captureMarks_apart v.unit _ (.inr rfl)
  refine (Dev.rd_captureMerge_marks ⟨oc, oi, ok⟩).trans ?_
  dsimp only
  rw [latch, if_neg Bool.false_ne_true, Dev.rd_wr_eq]
  rfl

/-- Fields set to 0 in turn all read 0. -/
theorem Dev.rd_cleared (l : List Fld) : ∀ (d : Dev) {f : Fld}, f ∈ l ∨ d.rd f = 0 → (l.foldl (fun d f => d.wr f 0) d).rd f = 0 := by
  induction l with
  | nil => exact fun d f h => h.resolve_left List.not_mem_nil
  | cons g l ih =>
    refine fun d f h => ih (d.wr g 0) ?_
    by_cases own : f.key = g.key
    · refine .inr ?_
      rw [Dev.rd, own]
      exact (Dev.rd_wr_eq d g 0).trans (Nat.zero_mod _)
    · rw [Dev.rd_wr_ne _ _ _ _ own]
      refine h.imp_left fun h => (List.mem_cons.1 h).resolve_left (fun eq => own (by rw [eq]))

end

/-! ### Events and the registers of a unit -/

section
variable {d : Dev} {u : FUnit} {v : Nat}

/-- An event of a source that is not grave. -/
theorem Dev.fault_counted {e : FEv} {x : FSrc} (known : faultSrc e.unit e.src = some x) (mild : x.cls ≠ 3) (counts : e.noCount = false) :
    d.fault e = (d.capture e x.cls).countEvent e x.cls := by
  simp only [Dev.fault, known, if_neg mild, counts, Bool.false_eq_true, if_false]

/-- A capture of an event counts it first. -/
theorem Dev.flag_incTotal (u : FUnit) (i : Nat) : (d.incSat (FAULT_COUNT_TOTAL u i)).flag (FAULT_STATUS_VALID u) = d.flag (FAULT_STATUS_VALID u) := by
  rw [Dev.flag, Dev.flag, Dev.incSat, Dev.rd_wr_ne]
  simp only [Fld.key, FAULT_STATUS_VALID, FAULT_STATUS, FAULT_COUNT_TOTAL]
  omega

theorem Dev.capture_empty {e : FEv} (cls : Nat) (empty : d.flag (FAULT_STATUS_VALID e.unit) = false) :
    d.capture e cls = ((d.incSat (FAULT_COUNT_TOTAL e.unit e.src)).captureOpen e cls).sample (unitSource e.unit) := by
  simp only [Dev.capture, Dev.flag_incTotal, empty, Bool.false_eq_true, if_false]

theorem Dev.capture_merges {e : FEv} (cls : Nat) (full : d.flag (FAULT_STATUS_VALID e.unit) = true) :
    d.capture e cls = ((d.incSat (FAULT_COUNT_TOTAL e.unit e.src)).captureMerge e cls).sample (unitSource e.unit) := by
  simp only [Dev.capture, Dev.flag_incTotal, full, if_true]

/-- What a port tells of an error in its own buffers (R66). -/
def Dev.told (d : Dev) (u : FUnit) (src access inst : Nat) : Dev :=
  match u with
  | .hp n =>
    if src = 0 then d.aer n.val .correctedInternal
    else if src = 1 then (d.aer n.val (.uncorrectableInternal false)).portLoses n.val access inst
    else d
  | _ => d

/-- The event that a command names. -/
abbrev event (u : FUnit) (src : Fin 16) (inst access addr : Nat) (port : Option (Fin 8)) (slice : Option (Fin 1024)) (detail : Nat) : FEv :=
  { unit := u, src := src.val, inst := inst, access := access, addr := addr, port := port.map Fin.val, slice := slice.map Fin.val, detail := detail }

theorem faultEvent_powered {src : Fin 16} {inst access addr detail : Nat} {port : Option (Fin 8)} {slice : Option (Fin 1024)}
    (on : d.unpoweredUnit u = false) :
    faultEvent u src.val inst access addr (port.map Fin.val) (slice.map Fin.val) detail d =
      (d.fault (event u src inst access addr port slice detail)).told u src.val access inst :=
  if_neg (by rw [on]; exact Bool.false_ne_true)

/-- An event of a grave source opens the capture of a unit that holds none; no count is kept. -/
theorem Dev.fault_grave {e : FEv} {x : FSrc} (known : faultSrc e.unit e.src = some x) (grave : x.cls = 3) (empty : d.flag (FAULT_STATUS_VALID e.unit) = false) :
    d.fault e =
      let d := (d.captureOpen e 3).sample (unitSource e.unit)
      match e.unit with
      | .bay b => d.graveBay b.val e.detail
      | .mgt => d.graveDevice 1 .mgt e.src e.detail
      | .sch => d.graveDevice 2 .sch e.src e.detail
      | u => d.graveDevice 3 u e.src e.detail := by
  simp only [Dev.fault, known, if_pos grave, empty, Bool.false_eq_true, if_false] <;> rfl

theorem faultInject_open (opened : d.setupOpen (FAULT_INJECT u) = true) :
    faultInject u v d =
      let d := d.opened (FAULT_INJECT u)
      if !d.injectLive then d
      else
        let d := d.writeWord (FAULT_INJECT u) v
        match faultSrc u (v % 16) with
        | none => d
        | some x => if bit v 4 && x.cls != 3 then d.fault { unit := u, src := v % 16, inj := true, noCount := bit v 5 } else d := Dev.setup_open _ _ opened

end

/-- Settles O54: an event's capture, what it leaves in the block, and the registers that end or inject one. -/
theorem faultEventsAreCaptured : Obligations.FaultEventsAreCaptured := by
  refine ⟨fun s u i inst acc addr p t det x on known => ⟨fun mild empty => next_settled ?_, fun mild full => next_settled ?_,
      fun grave b own empty => next_settled ?_, fun grave c own empty => next_settled ?_⟩,
    fun d e cls src class_ => ?_,
    fun s u v => ⟨fun opened => ⟨next_settled ?_, ?_, ?_⟩, fun opened => ⟨fun dead => next_settled ?_, fun x live known => ⟨fun fire mild => next_settled ?_,
        fun not_ => next_settled ?_⟩⟩,
      fun por factory => ⟨fun half word => next_settled ?_, fun not_ => next_settled ?_⟩, fun i inst w found => next_settled ?_⟩⟩
  · rw [faultEvent_powered on, Dev.fault_counted (e := event u i inst acc addr p t det) known mild rfl,
      Dev.capture_empty (e := event u i inst acc addr p t det) _ empty]
    rfl
  · rw [faultEvent_powered on, Dev.fault_counted (e := event u i inst acc addr p t det) known mild rfl,
      Dev.capture_merges (e := event u i inst acc addr p t det) _ full]
    rfl
  · subst own
    rw [faultEvent_powered on, Dev.fault_grave (e := event (.bay b) i inst acc addr p t det) known grave empty]
    rfl
  · simp only [List.mem_cons, Prod.mk.injEq, List.not_mem_nil, or_false] at own
    rw [faultEvent_powered on, Dev.fault_grave (e := event u i inst acc addr p t det) known grave empty]
    obtain ⟨rfl, rfl⟩ | ⟨rfl, rfl⟩ | ⟨rfl, rfl⟩ := own
    · rfl
    · rfl
    · rfl
  · have word (p : Fld × Nat) (h : p ∈ e.words cls d.now) := Dev.rd_captureOpen (d := d) h
    have small : 2 ^ e.src < 2 ^ 16 := Nat.pow_lt_pow_right (by decide) src
    have other (f : Fld) := Dev.rd_captureMerge_other (d := d) (v := e) (cls := cls) (f := f)
    refine ⟨?_, ?_, ?_, ?_, ?_, fun full => ⟨Dev.rd_captureOpen_addr full, ?_⟩, other _ ?_, other _ ?_, other _ ?_, other _ ?_, Dev.rd_captureMerge_count,
      Dev.captureMerge_full, Dev.captureMerge_latch⟩
    · exact word (FAULT_STATUS_VALID e.unit, 1) (by simp [FEv.words])
    · exact (word (FAULT_STATUS_CLASS e.unit, cls) (by simp [FEv.words])).trans (Nat.mod_eq_of_lt class_)
    · exact (word (FAULT_CAPTURE_FIRST e.unit, e.src) (by simp [FEv.words])).trans (Nat.mod_eq_of_lt src)
    · exact word (FAULT_CAPTURE_DETAIL e.unit, e.detail) (by simp [FEv.words])
    · exact word (FAULT_CAPTURE_TIME_LO e.unit, d.now) (by simp [FEv.words])
    · exact (word (FAULT_CAPTURE_TYPES e.unit, 2 ^ e.src) (by simp [FEv.words])).trans (Nat.mod_eq_of_lt small)
    all_goals
      simp only [mergeWrites, List.mem_cons, List.not_mem_nil, or_false, forall_eq_or_imp, forall_eq, Fld.key, FAULT_MERGE_COUNT, FAULT_CAPTURE_TYPES,
        FAULT_STATUS_OVERFLOW, FAULT_STATUS_COINC, FAULT_STATUS_INJ, FAULT_STATUS_CLASS, FAULT_STATUS, FAULT_CAPTURE_FIRST, FAULT_CAPTURE_DETAIL,
        FAULT_CAPTURE_ADDR_LO, FAULT_CAPTURE_TIME_LO]
      omega
  · rw [faultClear, Dev.setup_open _ _ opened]
  · exact (Dev.rd_sample _ _ _).trans (Dev.rd_cleared _ _ (.inl (by simp)))
  · exact (Dev.rd_sample _ _ _).trans (Dev.rd_cleared _ _ (.inl (by simp)))
  · rw [faultInject_open opened]
    exact if_pos (by rw [dead]; rfl)
  · rw [faultInject_open opened]
    refine (if_neg (by rw [live]; decide)).trans ?_
    dsimp only
    rw [known]
    exact if_pos (by rw [fire, Bool.true_and]; exact bne_iff_ne.2 mild)
  · rw [faultInject_open opened]
    refine (if_neg (by rw [live]; decide)).trans ?_
    dsimp only
    rw [known]
    refine if_neg ?_
    rcases not_ with h | h <;> simp [h]
  · exact (if_neg (by simp [por, factory])).trans (if_pos (by simp [half, word]))
  · have word (w : BitVec 32) : (v.toNat == w.toNat) = decide (v = w) := by
      rw [Bool.eq_iff_iff, beq_iff_eq, decide_eq_true_iff, BitVec.toNat_inj]
    refine (if_neg (by simp [por, factory])).trans ((if_neg ?_).trans ?_)
    · rw [show (0xAEDFF0E8 : Nat) = (0xAEDFF0E8#32).toNat from rfl, word, Bool.and_eq_true, decide_eq_true_iff]
      rintro ⟨half, own⟩
      exact not_.elim (fun h => Bool.false_ne_true (h.symm.trans half)) (fun h => h own)
    · exact congrArg (fun h : Bool => ({ s.dev with flt := { s.dev.flt with unlockHalf := h } } : Dev)) (word 0x51200F17#32)
  · simp only [faultWindowExpire, found]

end Sys2Proof.Machine
end

section

/-! PROOFS. GDDR6 training, the staging window, channel tests and firmware updates (R482, R506–R511). -/

namespace Sys2Proof.Machine
set_option Elab.async false

section
variable {d : Dev}

theorem memTrainStart_open {v : Nat} (opened : d.setupOpen MEM_TRAIN = true) :
    memTrainStart v d =
      let d := (d.opened MEM_TRAIN).writeWord MEM_TRAIN v
      if !bit v 0 || d.flag MEM_TRAIN_BUSY || d.pwr.trained then d
      else d.wrs [(MEM_TRAIN_BUSY, 1), (MEM_TRAIN_RESULT, 0), (MEM_TRAIN_FAILED, 0)] := Dev.setup_open _ _ opened

/-- May the staging window be moved to `n` MiB from `lo` on (R509)? -/
def Dev.stageFits (d : Dev) (lo n : Nat) : Prop :=
  d.pwr.trained = true ∧ d.liveSlices = [0] ∧ 256 ≤ n ∧ lo + n ≤ d.rd MEM_LAYOUT_SYS_BASE_MIB
    ∧ ((lo + n) * 2 ^ 20 ≤ d.jnlBase ∨ d.jnlEnd ≤ lo * 2 ^ 20)

theorem memStageWrite_open {v : Nat} (opened : d.setupOpen MEM_STAGE = true) :
    (((d.opened MEM_STAGE).stageFits (v % 2 ^ 16) (v / 2 ^ 16 % 2 ^ 16)) →
      memStageWrite v d = (d.opened MEM_STAGE).wrs [(MEM_STAGE_BASE_MIB, v % 2 ^ 16), (MEM_STAGE_SIZE_MIB, v / 2 ^ 16 % 2 ^ 16)])
    ∧ (¬((d.opened MEM_STAGE).stageFits (v % 2 ^ 16) (v / 2 ^ 16 % 2 ^ 16)) → memStageWrite v d = (d.opened MEM_STAGE).wr MEM_TRAIN_STAGE_REFUSED 1) := by
  have low : bits v 0 16 = v % 2 ^ 16 := by simp [bits]
  have high : bits v 16 16 = v / 2 ^ 16 % 2 ^ 16 := rfl
  have cond : ((d.opened MEM_STAGE).pwr.trained && (d.opened MEM_STAGE).liveSlices == [0] && decide (256 ≤ v / 2 ^ 16 % 2 ^ 16)
      && decide (v % 2 ^ 16 + v / 2 ^ 16 % 2 ^ 16 ≤ (d.opened MEM_STAGE).rd MEM_LAYOUT_SYS_BASE_MIB)
      && (decide ((v % 2 ^ 16 + v / 2 ^ 16 % 2 ^ 16) * 2 ^ 20 ≤ (d.opened MEM_STAGE).jnlBase)
        || decide ((d.opened MEM_STAGE).jnlEnd ≤ v % 2 ^ 16 * 2 ^ 20))) = true
      ↔ (d.opened MEM_STAGE).stageFits (v % 2 ^ 16) (v / 2 ^ 16 % 2 ^ 16) := by
    simp only [Dev.stageFits, Bool.and_eq_true, Bool.or_eq_true, beq_iff_eq, decide_eq_true_eq, and_assoc]
  rw [memStageWrite, Dev.setup_open _ _ opened, low, high]
  exact ⟨fun fits => if_pos (cond.2 fits), fun not_ => if_neg (mt cond.1 not_)⟩

theorem memtestStart_open {v : Nat} (opened : d.setupOpen SPR_MEMTEST = true) :
    memtestStart v d =
      let d := d.opened SPR_MEMTEST
      let e := d.writeWord SPR_MEMTEST v
      if !bit v 4 || d.flag SPR_MEMTEST_BUSY || e.pwr.mode != 1 then e
      else (Dev.wrs { e with mgt := { e.mgt with memCh := e.rd SPR_MEMTEST_CHANNEL } } [(SPR_MEMTEST_BUSY, 1), (SPR_MEMTEST_OUTCOME, 0)]).testRest :=
  Dev.setup_open _ _ opened

section
variable (on : d.hubOff = false) (busy : d.flag MEM_TRAIN_BUSY = true)
include on busy

/-- Training of which some channels failed. -/
theorem memTrainDone_failed {failed k : Nat} (which : (if d.memRateBad then 0xFFFF else failed) = k) (some_ : k ≠ 0) :
    memTrainDone failed d = d.wrs [(MEM_TRAIN_BUSY, 0), (MEM_TRAIN_FAILED, k), (MEM_TRAIN_RESULT, 2)] := by
  subst which
  exact (if_neg (by simp [on, busy])).trans (if_pos some_)

end

section
variable {n : Nat} (ready : d.adminReady n 0xD1 = true) (calm : d.flag GLB_POWER_STATUS_PENDING = false)
  (calm' : d.flag GLB_PROFILE_STATUS_PENDING = false) (idle : d.mgt.staging = none) (active : d.pwr.mode = 0)
include ready calm calm' idle active

/-- FW_UPDATE commits a staged image, or finds none. -/
theorem fwUpdate_commit (commit : darg (d.entry n).desc 4 1 = 1) :
    ((d.started n).mgt.staged = none → fwUpdate n d = (d.started n).finish n stInvalid)
    ∧ ∀ t, (d.started n).mgt.staged = some t → fwUpdate n d =
      ((Dev.wrs { (d.started n) with mgt := { (d.started n).mgt with staged := none, flashActive := t } }
        [(GLB_FW_UPDATE_STATE, 3), (GLB_FW_UPDATE_NEXT_SLOT, t)]).mlog 8 1 0 0 t).finish n stSuccess := by
  have may : ¬(d.flag GLB_POWER_STATUS_PENDING || d.flag GLB_PROFILE_STATUS_PENDING || d.mgt.staging.isSome || d.pwr.mode != 0) = true := by
    simp [calm, calm', idle, active]
  rw [fwUpdate, if_neg may, Dev.admin_ready _ ready]
  dsimp only
  rw [if_pos commit]
  exact ⟨fun none_ => by rw [none_], fun t some_ => by rw [some_]⟩

/-- FW_UPDATE stages an image. -/
theorem fwUpdate_stage (stage : darg (d.entry n).desc 4 1 ≠ 1) :
    fwUpdate n d =
      let x := (d.entry n).desc
      let d := d.started n
      let len := darg x 0x10 4
      if 1 < darg x 4 1 ∨ 2 ^ 20 < len then d.finish n stInvalid
      else
        let h := d.hostRead 0 (darg x 8 8) len false (.firmware n (d.entry n).serial)
        if h.1 then Dev.wr { h.2 with mgt := { h.2.mgt with staging := some n, fwReading := true } } GLB_FW_UPDATE_STATE 1
        else h.2.finish n stHostDma := by
  have may : ¬(d.flag GLB_POWER_STATUS_PENDING || d.flag GLB_PROFILE_STATUS_PENDING || d.mgt.staging.isSome || d.pwr.mode != 0) = true := by
    simp [calm, calm', idle, active]
  rw [fwUpdate, if_neg may, Dev.admin_ready _ ready]
  dsimp only
  rw [if_neg stage]
  split
  · rfl
  · split <;> rename_i read
    · rw [read, if_pos rfl]
    · rw [read, if_neg Bool.false_ne_true]

end

theorem Dev.readEnds_firmware {i n serial : Nat} {r : HRead} {data : Option (List Byte)} (at_ : d.reads[i]? = some r) (issued : r.issued = true)
    (why : r.why = .firmware n serial) : d.readEnds i data = ((d.endRead i).failedRead r data.isNone).firmwareRead n serial data := by
  simp only [Dev.readEnds, at_, issued, why, Bool.not_true, Bool.false_and, Bool.false_eq_true, if_false]

/-- The data of a firmware image for the staging that waits for it. -/
theorem Dev.firmwareRead_data {n serial : Nat} {l : List Byte} (reading : d.mgt.fwReading = true) (staging : d.mgt.staging = some n)
    (own : (d.entry n).serial = serial) :
    d.firmwareRead n serial (some l) =
      if fwGood l (darg (d.entry n).desc 0x10 4) = true then
        { d with mgt := { d.mgt with fwReading := false, versions := d.mgt.versions.set (1 - d.mgt.flashActive) (leAt l 4 4) 0 } }
      else d.stageIdle.finish n stInvalid := by
  simp only [Dev.firmwareRead]
  refine (if_neg (by simp [reading, staging, own])).trans ?_
  by_cases good : fwGood l (darg (d.entry n).desc 0x10 4) = true
  · rw [if_pos good, if_neg (by rw [good]; decide)]
  · rw [if_neg good, if_pos (by rw [Bool.eq_false_iff.2 good]; rfl)]

end

/-- Settles O59: the branches of each command. -/
theorem memoryAndFirmware : Obligations.MemoryAndFirmware := by
  intro s
  refine ⟨fun v => ⟨fun opened => ⟨fun starts => next_settled ?_, fun not_ => next_settled ?_⟩,
      fun opened => ⟨fun fits => next_settled ((memStageWrite_open opened).1 fits), fun not_ => next_settled ((memStageWrite_open opened).2 not_)⟩,
      fun opened => ⟨fun starts => next_settled ?_, fun not_ => next_settled ?_⟩⟩,
    fun on busy => ⟨fun v some_ sound => next_settled ?_, fun v bad => next_settled ?_, fun sound => next_settled ?_⟩,
    fun rows busy => next_settled (if_pos busy),
    fun n ready calm calm' idle active => ⟨fun commit none_ => ?_, fun t commit some_ => ?_, fun bad => ?_, fun stage fits => ?_⟩,
    fun n i r l on at_ issued why staging reading last => next_settled ?_,
    fun n staging read => ⟨next_settled ?_, next_settled ?_⟩⟩
  · obtain ⟨go, idle, raw⟩ := starts
    rw [memTrainStart_open opened]
    exact if_neg (by rw [go, idle, raw]; decide)
  · rw [memTrainStart_open opened]
    refine if_pos ?_
    by_contra starts
    exact not_ (by simpa [and_assoc] using starts)
  · obtain ⟨go, idle, dormant⟩ := starts
    rw [memtestStart_open opened]
    exact if_neg (by rw [go, idle, dormant]; decide)
  · rw [memtestStart_open opened]
    refine if_pos ?_
    by_contra starts
    exact not_ (by simpa [and_assoc] using starts)
  · by_cases rate : s.dev.memRateBad = true
    · exact absurd (by simpa [Dev.memRateBad] using rate) sound
    · refine memTrainDone_failed on busy (if_neg rate) (fun zero => some_ ?_)
      exact BitVec.eq_of_toNat_eq zero
  · exact memTrainDone_failed on busy (if_pos (by simpa [Dev.memRateBad] using bad)) (by decide)
  · have rate : ¬s.dev.memRateBad = true := fun rate => sound (by simpa [Dev.memRateBad] using rate)
    have passed : (if s.dev.memRateBad then 0xFFFF else (0 : BitVec 16).toNat) = 0 := if_neg rate
    refine (if_neg (by simp [on, busy])).trans ?_
    dsimp only
    rw [passed]
    rfl
  · have does := (fwUpdate_commit ready calm calm' idle active commit).1 none_
    exact ⟨next_settled (by rw [fwUpdateAnswered, does]; rfl), fun l => next_settled (by rw [fwUpdateAnswered, does]; rfl)⟩
  · have does := (fwUpdate_commit ready calm calm' idle active commit).2 t some_
    exact ⟨next_settled (by rw [fwUpdateAnswered, does]; rfl), fun l => next_settled (by rw [fwUpdateAnswered, does]; rfl)⟩
  · have does := (fwUpdate_stage ready calm calm' idle active (by omega)).trans (if_pos (bad.imp_right And.right))
    exact ⟨next_settled (by rw [fwUpdateAnswered, does]; rfl), fun l => next_settled (by rw [fwUpdateAnswered, does]; rfl)⟩
  · have does := (fwUpdate_stage ready calm calm' idle active (by omega)).trans (if_neg (by omega))
    exact ⟨next_settled (by rw [fwUpdateAnswered, does]; rfl), fun l => next_settled (by rw [fwUpdateAnswered, does]; rfl)⟩
  · refine (hostReadCompletion_data on at_ issued (by rw [why]; exact ReadFor.noConfusion) last).trans ?_
    rw [Dev.readEnds_firmware at_ issued why]
    exact Dev.firmwareRead_data reading staging rfl
  · rw [fwStagingDone, staging]
    exact (if_neg (by rw [read]; exact Bool.false_ne_true)).trans (if_pos rfl)
  · rw [fwStagingDone, staging]
    exact (if_neg (by rw [read]; exact Bool.false_ne_true)).trans (if_neg Bool.false_ne_true)

end Sys2Proof.Machine
end

section

/-! PROOFS. TEST_UNIT where a register field holds a value wider than it is (R478, R479). -/

namespace Sys2Proof.Machine
set_option Elab.async false

/-- A slot number whose SCH_SLOT_STATUS would stand where SPR_TEST does. -/
def aliasSlot : Nat := 0x140010

/-- An image whose octant 0 holds a TEST run. -/
def testImage : Image :=
  { lanes := [], ports := [], engines := 0, stageCells := 0, plans := [], matrices := [], programs := [], hub := [], octs := [⟨[0#64], []⟩]
    order := [], pools := [], mgr := [], backfill := [⟨2, 0, 0, 0⟩], rate := 0, check := 0, engineCells := 0, sigs := [], sig := 7, len := 0
    signed := false }

/-- A device whose ACTIVE_SLOT holds that number, with engine 0 SPARE and a TEST_UNIT of it in journal slot 0. -/
@[irreducible] def aliasedSlot : Dev :=
  let d := Dev.wrs { pwr := { mode := 0 } } [(SLC_GLOBAL_INSTAR_BUSY, 0), (SPR_TEST_KIND, 3), (ENG_STATUS_STATE 0, 2)]
  let e := d.setEntry 0 { desc := BitVec.ofNat 512 (0xC1 + 2 ^ 32 + 2 ^ 64), state := 1 }
  { e with regs := e.regs.set SCH_SWITCH_ACTIVE_SLOT.key aliasSlot 0, sch := { e.sch with images := [(aliasSlot, some testImage)] } }

theorem aliasedSlot_ready : aliasedSlot.adminReady 0 0xC1 = true ∧ (aliasedSlot.started 0).flag SLC_GLOBAL_INSTAR_BUSY = false := by decide +kernel

/-- The engine the command names. -/
abbrev aliasedUnit : Nat := darg (aliasedSlot.entry 0).desc 6 2

theorem aliasedSlot_args : darg (aliasedSlot.entry 0).desc 4 1 = 1 ∧ aliasedUnit < 72 ∧ darg (aliasedSlot.entry 0).desc 8 4 = 1 := by
  decide +kernel

theorem aliasedSlot_engine : (aliasedSlot.started 0).eng.tests.get aliasedUnit 0 = 0
    ∧ (aliasedSlot.started 0).rd (ENG_STATUS_STATE aliasedUnit) = 2 ∧ (aliasedSlot.started 0).testRuns (aliasedUnit / 9) = true := by decide +kernel

/-- SPR_TEST shows the test before the TEST runs are looked for: the slot then reads another state, and the test ends. -/
theorem aliasedSlot_ends : (testUnit (0 : Fin 262144).val aliasedSlot).settleAll.rd (ENG_STATUS_STATE 0) = 2 := by decide +kernel

/-- What the statement has the command leave. -/
@[irreducible] def aliasedBegun : Dev :=
  (Dev.beginTest ((Dev.showTest (aliasedSlot.started 0) 1 1 aliasedUnit).wr SPR_TEST_CELLS_CELLS 0) aliasedUnit 0 0).wr (ENG_STATUS_STATE aliasedUnit) 3

theorem aliasedSlot_asked : aliasedBegun.settleAll.rd (ENG_STATUS_STATE 0) = 3 := by decide +kernel

/-- Refutes O56: where ACTIVE_SLOT holds a value wider than its field, showing a test changes the state of the slot it names, and a test of an
engine ends without a verdict although the octant's image held TEST runs. -/
theorem not_sparesTestsAndCores : ¬ Obligations.SparesTestsAndCores := by
  intro holds
  obtain ⟨commands, -⟩ := holds { dev := aliasedSlot }
  obtain ⟨-, tests⟩ := commands 0
  obtain ⟨ready, calm⟩ := aliasedSlot_ready
  obtain ⟨kind, unit, code⟩ := aliasedSlot_args
  obtain ⟨idle, spare, runs⟩ := aliasedSlot_engine
  obtain ⟨-, begins, -⟩ := tests ready
  have begun : exec (.testUnit 0) { dev := aliasedSlot } = .next (({ dev := aliasedSlot } : State).settled aliasedBegun) := by
    rw [aliasedBegun]
    exact begins calm kind unit code idle spare runs
  have run : exec (.testUnit 0) { dev := aliasedSlot } = .next (({ dev := aliasedSlot } : State).settled (testUnit (0 : Fin 262144).val aliasedSlot)) :=
    next_settled rfl
  have same := congrArg State.dev (Host.Outcome.next.inj (run.symm.trans begun))
  simp only [State.settled] at same
  have ends := aliasedSlot_ends
  rw [same, aliasedSlot_asked] at ends
  exact absurd ends (by decide)

end Sys2Proof.Machine
end

section

/-! PROOFS. The epoch boundary and the integrity events (R168, R169, R181, R260, R267, R268, R398). -/

namespace Sys2Proof.Machine
set_option Elab.async false

section
variable {d : Dev} {i l n slot t : Nat} {entry index : Bool}

theorem epochBoundary_off (off : (d.advance (epochStart (d.epoch + 1))).hubOff = true ∨ (d.advance (epochStart (d.epoch + 1))).flt.grave = true) :
    epochBoundary d = d.advance (epochStart (d.epoch + 1)) :=
  if_pos (Bool.or_eq_true .. ▸ off)

/-- The boundary's last part: the islands' idle counts, the gates that work opens, and what is taken last. -/
def Dev.idleAndRest (u : Dev) : Dev :=
  let idle := (List.range 9).foldl (fun (t : Tab Nat) i => if u.islandWork i then t.set i 0 0 else bump t i 1) u.sch.idle
  (Dev.applyRejoins { u with sch := { u.sch with idle := idle, gated := u.sch.gated.filter (fun i => !u.islandWork i) } }).trimOld.takeShort.phaseRest

/-- The boundary's middle part: swaps, octants, switch, profile, conditions, shares and items. -/
def Dev.pendingChanges (u : Dev) : Dev :=
  let u := (((u.applySwaps.applyOcts).switchTry).profTry).takeConds
  (u.liveSlices.foldl (fun d s => d.applyShare s) u).boundaryItems

/-- The device with the epoch begun and the era before it kept. -/
def Dev.inEpoch (u : Dev) (x : Nat) (was : Era) : Dev := { u with sch := { u.sch with epoch := x, prev := was } }

/-- The islands at the boundary: each takes its token, or the hub alone begins the epoch. -/
def Dev.tokens (f : Dev) (x : Nat) : Dev := if f.pacing = true then (List.range 9).foldl (fun d i => d.token i x) f else f.beginEpoch 8 x

theorem epochBoundary_on {f : Dev} (at_ : f = d.advance (epochStart (d.epoch + 1))) (on : f.hubOff = false) (calm : f.flt.grave = false) :
    epochBoundary d = (((f.tokens f.epoch).inEpoch f.epoch f.thisEra).endHolds).pendingChanges.idleAndRest := by
  subst at_
  unfold epochBoundary Dev.nextBoundary
  extract_lets f e was t u changed held conds made items idle rest
  have begun : changed = (t.inEpoch e was) := rfl
  have mid : items = held.pendingChanges := rfl
  refine (if_neg (by rw [on, calm]; exact Bool.false_ne_true)).trans ?_
  have held' : held = changed.endHolds := rfl
  rw [begun] at held'
  rw [held'] at mid
  exact congrArg Dev.idleAndRest mid

theorem calendarEccError_both (on : d.hubOff = false) (named : slot < (d.calendar i).length) :
    calendarEccError i slot true d = d.fault { unit := .sch, src := 3, detail := slot % 4096 + 4096 * i } :=
  (if_neg (by rw [on]; simp only [Bool.false_eq_true, false_or]; omega)).trans (if_pos rfl)

theorem calendarEccError_one (on : d.hubOff = false) (named : slot < (d.calendar i).length) :
    calendarEccError i slot false d =
      let d := d.fault { unit := .sch, src := 2, detail := slot % 4096 + 4096 * i }
      { d with sch := { d.sch with rewrites := d.sch.rewrites ++ [(i, slot, d.epoch)] } } :=
  (if_neg (by rw [on]; simp only [Bool.false_eq_true, false_or]; omega)).trans (if_neg Bool.false_ne_true)

theorem islandGate_idle (pacing : d.pacing = true) (idle : 16 ≤ d.sch.idle.get i 0) (work : d.islandWork i = false) :
    islandGate i d = { d with sch := { d.sch with gated := setAdd i d.sch.gated } } :=
  if_pos ⟨pacing, idle, by rw [work]; exact Bool.false_ne_true⟩

theorem cellCrcFail_hub {u : Nat} (on : d.hubOff = false) :
    cellCrcFail n false u d = (d.fault { unit := .xbar, src := 2, inst := u, detail := u }).askReplay n 5 :=
  if_neg (by rw [on]; exact Bool.false_ne_true)

/-- An ECC error of a slot in use: of both copies, of the index alone, or of the entry alone. -/
theorem journalEccError_used (on : d.hubOff = false) (used : (d.entry n).state ≠ 0) :
    journalEccError n entry index d =
      let e := d.entry n
      if entry ∧ index then ((d.jnlFault 3 5 n e.slice).delivered n).raise 16
      else if index then d.setIdx n e.word
      else if entry then
        let x := d.jidx.get n {}
        let d := (d.setEntry n { e with slice := x.slice, instar := x.instar, queue := x.queue }).inc JNL_LOST_COUNT
        let d := d.jnlFault 2 5 n x.slice
        if e.state < 5 then d.failItem n stJournalLost
        else if e.state = 5 then d.complete n stJournalLost 0 0
        else d.setEntry n { d.entry n with status := stJournalLost, result := 0, resultHi := 0 }
      else d :=
  if_neg (by rw [on]; rintro (off | free); exacts [Bool.false_ne_true off, used free])

theorem journalEccError_entry (on : d.hubOff = false) (used : (d.entry n).state ≠ 0) :
    journalEccError n true false d =
      let e := d.entry n
      let x := d.jidx.get n {}
      let d := (d.setEntry n { e with slice := x.slice, instar := x.instar, queue := x.queue }).inc JNL_LOST_COUNT
      let d := d.jnlFault 2 5 n x.slice
      if e.state < 5 then d.failItem n stJournalLost
      else if e.state = 5 then d.complete n stJournalLost 0 0
      else d.setEntry n { d.entry n with status := stJournalLost, result := 0, resultHi := 0 } :=
  (journalEccError_used on used).trans
    ((if_neg fun both => Bool.false_ne_true both.2).trans ((if_neg Bool.false_ne_true).trans (if_pos rfl)))

theorem linkHoldExpire_pending (started : (d.link l).left = some t) (down : d.linkActive l = false) (running : (d.link l).expired = false) :
    linkHoldExpire l d = d.advance (t + d.rd JNL_CFG_LINK_HOLD_MS * 1000000 + 1) := by
  simp only [linkHoldExpire, started, down, running, Bool.or_self, Bool.false_eq_true, if_false]

theorem Dev.expireHold_pending (started : (d.link l).left ≠ none) (running : (d.link l).expired = false) :
    d.expireHold l = (d.setLink l { d.link l with expired := true, owed := [] }).inc JNL_LINK_HELD_EXPIRED :=
  if_pos (by rw [Option.isSome_iff_ne_none.2 started, running]; rfl)

end

/-- Settles O29. -/
theorem boundariesAndIntegrityEvents : Obligations.BoundariesAndIntegrityEvents := by
  intro s on
  refine ⟨?_, fun i k named => ⟨?_, ?_, rfl⟩,
    fun i pacing idle work => next_settled (islandGate_idle pacing idle work), fun i => rfl, fun n u => next_settled (cellCrcFail_hub on),
    fun n used => ⟨next_settled ?_, next_settled ?_, fun low => next_settled ?_, fun ending => next_settled ?_, fun high => next_settled ?_⟩,
    fun l t started down running => next_settled (linkHoldExpire_pending started down running),
    fun l started running => Dev.expireHold_pending started running⟩
  · extract_lets f e t u held conds items idle
    refine ⟨fun off => next_settled (epochBoundary_off off), fun on' calm => next_settled ?_⟩
    refine (epochBoundary_on rfl on' calm).trans ?_
    have begun : held = (t.inEpoch e f.thisEra) := rfl
    have ended : conds = held.endHolds := rfl
    have changed : idle = conds.pendingChanges := rfl
    rw [begun] at ended
    rw [ended] at changed
    exact congrArg Dev.idleAndRest changed.symm
  · exact next_settled (calendarEccError_both on named)
  · exact next_settled (calendarEccError_one on named)
  · exact (journalEccError_used on used).trans (if_pos ⟨rfl, rfl⟩)
  · exact (journalEccError_used on used).trans ((if_neg fun both => Bool.false_ne_true both.1).trans (if_pos rfl))
  · exact (journalEccError_entry on used).trans (if_pos low)
  · exact (journalEccError_entry on used).trans ((if_neg (by omega)).trans (if_pos ending))
  · exact (journalEccError_entry on used).trans ((if_neg (by omega)).trans (if_neg (by omega)))

end Sys2Proof.Machine
end

section

/-! PROOFS. Runs that fire in their calendar's order, and tokens (R11, R165, R166, R172, R177, R179, R180, R213, R398, R478). -/

namespace Sys2Proof.Machine
set_option Elab.async false

section
variable {d : Dev} {i k x : Nat} {r : BitVec 64} {p : Nat × Dev}

/-- The device in which the next run of an island is looked for: a new epoch is begun when the last one's runs have fired. -/
def Dev.caughtUp (d : Dev) (i : Nat) : Dev :=
  if d.islandDone i = true ∧ d.sch.island.get i 0 < d.sch.epoch then d.beginEpoch i (d.sch.island.get i 0 + 1) else d

/-- The device with the island's next run moved past slot `k`. -/
def Dev.pastRun (d : Dev) (i k : Nat) : Dev := { d with sch := { d.sch with next := d.sch.next.set i (k + 1) 0 } }

theorem runFire_due (pacing : d.pacing = true) (up : d.islandDown i = false) (run : ((d.caughtUp i).calendar i)[k]? = some r)
    (due : (d.caughtUp i).sch.next.get i 0 = k) : runFire i k d = (((d.caughtUp i).pastRun i k).fire i k r).trimOld := by
  have same : (if d.islandDone i && decide (d.sch.island.get i 0 < d.sch.epoch) then d.beginEpoch i (d.sch.island.get i 0 + 1) else d) = d.caughtUp i := by
    simp only [Dev.caughtUp, Bool.and_eq_true, decide_eq_true_eq]
  rw [runFire, if_neg (by rw [pacing, up]; exact Bool.false_ne_true)]
  dsimp only
  rw [same, run]
  exact if_neg (not_not_intro due.symm)

theorem Dev.fire_down (down : (d.epUp (runSrc r) && d.epUp (runDst r)) = false) :
    d.fire i k r = if runKind r = 3 ∧ (d.headItem i r).isSome then d else d.testRun i r := by
  rw [Dev.fire, down]
  rfl

theorem Dev.fire_stopped (up : (d.epUp (runSrc r) && d.epUp (runDst r)) = true) (stopped : d.runStopped i r = true) : d.fire i k r = d := by
  rw [Dev.fire, up, stopped]
  rfl

/-- What a run's own kind moves: `p` is the number of cells it moved and the device after it. -/
def Dev.movedBy (d : Dev) (i k : Nat) (r : BitVec 64) (p : Nat × Dev) : Prop :=
  (runKind r = 3 ∧ p = d.classRun i r)
  ∨ (i = 8 ∧ runKind r = 1 ∧ ∃ u, (d.era i).assign.get k 0 = u + 1 ∧ p = d.hostRun u r)
  ∨ (i = 8 ∧ runKind r = 2 ∧ p = d.hostRun 0 r)
  ∨ (i = 8 ∧ runKind r = 4 ∧ p = d.pollRun r)
  ∨ (p = (0, d) ∧ ((runKind r = 0 ∨ 4 < runKind r) ∨ (i ≠ 8 ∧ runKind r ≠ 3) ∨ (i = 8 ∧ runKind r = 1 ∧ (d.era i).assign.get k 0 = 0)))

/-- A run between endpoints that are up, with capacity left: what its kind moves, or else its backfill. -/
theorem Dev.fire_moves (up : (d.epUp (runSrc r) && d.epUp (runDst r)) = true) (left : d.runStopped i r = false) (moved : d.movedBy i k r p) :
    d.fire i k r = if p.1 = 0 then p.2.backfillRun i r else p.2 := by
  rw [Dev.fire, up, left]
  rcases moved with ⟨kind, rfl⟩ | ⟨rfl, kind, u, slot, rfl⟩ | ⟨rfl, kind, rfl⟩ | ⟨rfl, kind, rfl⟩ | ⟨rfl, kind | ⟨lane, kind⟩ | ⟨rfl, kind, slot⟩⟩
  · simp [kind]
  · simp [kind, slot]
  · simp [kind]
  · simp [kind]
  · have others : runKind r ≠ 1 ∧ runKind r ≠ 2 ∧ runKind r ≠ 3 ∧ runKind r ≠ 4 := by omega
    obtain ⟨one, two, three, four⟩ := others
    simp [one, two, three, four]
  · simp [kind, lane]
  · simp [kind, slot]

end

/-! ### What a fault leaves of the registers -/

/-- The field stands in the fault block of the unit. -/
def Fld.inBlock (f : Fld) (u : FUnit) : Prop := unitBase u + 0xF00 ≤ f.addr ∧ f.addr < unitBase u + 0x1000 ∧ f.lo < 32

/-- `e` holds what `d` holds in every field outside the unit's fault block. -/
structure Dev.sameOutside (u : FUnit) (d e : Dev) : Prop where
  rd : ∀ f : Fld, (∀ g : Fld, g.inBlock u → f.key ≠ g.key) → e.rd f = d.rd f

section
variable {d e : Dev} {u : FUnit} (h : Dev.sameOutside u d e)
include h

theorem Dev.sameOutside.trans {x : Dev} (h' : Dev.sameOutside u e x) : Dev.sameOutside u d x := ⟨fun f apart => (h'.rd f apart).trans (h.rd f apart)⟩

theorem Dev.sameOutside.regs {x : Dev} (same : x.regs = e.regs) : Dev.sameOutside u d x := ⟨fun f apart => (Dev.rd_congr same f).trans (h.rd f apart)⟩

theorem Dev.sameOutside.wr {g : Fld} (v : Nat) (own : g.inBlock u) : Dev.sameOutside u d (e.wr g v) :=
  ⟨fun f apart => (Dev.rd_wr_ne _ _ _ _ (apart g own)).trans (h.rd f apart)⟩

theorem Dev.sameOutside.wrs {l : List (Fld × Nat)} (own : ∀ p ∈ l, p.1.inBlock u) : Dev.sameOutside u d (e.wrs l) :=
  ⟨fun f apart => (Dev.rd_wrs_ne l _ f (fun p hp => apart p.1 (own p hp))).trans (h.rd f apart)⟩

end

section
variable {d : Dev} {v : FEv} {cls : Nat}

theorem Dev.sameOutside.refl (u : FUnit) (d : Dev) : Dev.sameOutside u d d := ⟨fun _ _ => rfl⟩

theorem FEv.words_inBlock {now : Nat} : ∀ p ∈ v.words cls now, p.1.inBlock v.unit := by
  simp only [FEv.words, List.mem_cons, List.not_mem_nil, or_false, forall_eq_or_imp, forall_eq, Fld.inBlock, FAULT_STATUS_VALID, FAULT_STATUS_CLASS,
    FAULT_STATUS_INJ, FAULT_STATUS_COINC, FAULT_STATUS, FAULT_CAPTURE_TYPES, FAULT_CAPTURE_FIRST, FAULT_CAPTURE_ACCESS, FAULT_CAPTURE_TIME_LO,
    FAULT_CAPTURE_TIME_HI, FAULT_CAPTURE_DETAIL]
  omega

theorem FEv.fullWords_inBlock {req : Nat} {pasid : Option Nat} : ∀ p ∈ v.fullWords req pasid, p.1.inBlock v.unit := by
  simp only [FEv.fullWords, List.mem_cons, List.not_mem_nil, or_false, forall_eq_or_imp, forall_eq, Fld.inBlock, FAULT_CAPTURE_ADDR_LO,
    FAULT_CAPTURE_ADDR_HI, FAULT_CAPTURE_PORT, FAULT_CAPTURE_PORT_VALID, FAULT_CAPTURE_SLICE, FAULT_CAPTURE_SLICE_VALID, FAULT_CAPTURE_REQ_ID,
    FAULT_CAPTURE_PASID, FAULT_CAPTURE_PASID_VALID]
  omega

theorem mergeWrites_inBlock {u : FUnit} : ∀ g ∈ mergeWrites u, g.inBlock u := by
  simp only [mergeWrites, List.mem_cons, List.not_mem_nil, or_false, forall_eq_or_imp, forall_eq, Fld.inBlock, FAULT_MERGE_COUNT, FAULT_CAPTURE_TYPES,
    FAULT_STATUS_OVERFLOW, FAULT_STATUS_COINC, FAULT_STATUS_INJ, FAULT_STATUS_CLASS, FAULT_STATUS]
  omega

theorem Dev.captureOpen_sameOutside : Dev.sameOutside v.unit d (d.captureOpen v cls) := by
  have words := (Dev.sameOutside.refl v.unit d).wrs (v.words_inBlock (cls := cls) (now := d.now))
  simp only [Dev.captureOpen]
  refine Dev.sameOutside.regs ?_ (Dev.history_regs ..)
  split
  · exact words
  · exact words.wrs (l := v.fullWords _ _) v.fullWords_inBlock

theorem Dev.captureMerge_sameOutside : Dev.sameOutside v.unit d (d.captureMerge v cls) :=
  ⟨fun _ apart => Dev.rd_captureMerge_other fun g hg => apart g (mergeWrites_inBlock g hg)⟩

theorem Dev.capture_sameOutside (named : v.src < 16) : Dev.sameOutside v.unit d (d.capture v cls) := by
  have counted : Dev.sameOutside v.unit d (d.incSat (FAULT_COUNT_TOTAL v.unit v.src)) :=
    (Dev.sameOutside.refl v.unit d).wr _ (by simp only [Fld.inBlock, FAULT_COUNT_TOTAL]; omega)
  simp only [Dev.capture]
  refine Dev.sameOutside.regs ?_ (Dev.sample_regs ..)
  split
  · exact counted.trans Dev.captureMerge_sameOutside
  · exact counted.trans Dev.captureOpen_sameOutside

theorem Dev.recordAction_sameOutside {u : FUnit} (c done none src : Nat) : Dev.sameOutside u d (d.recordAction u c done none src) := by
  refine (Dev.sameOutside.refl u d).wrs ?_
  simp only [List.mem_cons, List.not_mem_nil, or_false, forall_eq_or_imp, forall_eq, Fld.inBlock, FAULT_ACTION_ACTION, FAULT_ACTION_DONE,
    FAULT_ACTION_NO_SPARE, FAULT_ACTION_SOURCE]
  omega

/-- An escalation of a unit whose action is not a row remap writes in the unit's own block. -/
theorem Dev.escalate_sameOutside (mem : ∀ c, v.unit ≠ .mem c) : Dev.sameOutside v.unit d (d.escalate v) := by
  have marked (flags addr : Nat) : Dev.sameOutside v.unit d (d.escalated v.unit v.src flags v.detail addr) := by
    refine Dev.sameOutside.regs ?_ (Dev.history_regs ..)
    refine Dev.sameOutside.wr ((Dev.sameOutside.refl _ d).wr _ ?_) _ ?_ <;> simp only [Fld.inBlock, FAULT_STATUS_CLASS, FAULT_STATUS_SEVERE_SEEN, FAULT_STATUS] <;> omega
  have block : Fld.inBlock (FAULT_ACTION_SOURCE v.unit) v.unit := by simp only [Fld.inBlock, FAULT_ACTION_SOURCE]; omega
  unfold Dev.escalate
  dsimp only
  generalize (if unitFull v.unit = true then v.addr else 0) = addr
  have first := marked (16 * b2n v.inj) addr
  generalize d.escalated v.unit v.src (16 * b2n v.inj) v.detail addr = e at first ⊢
  split
  · split
    · refine Dev.sameOutside.wr (first.regs ?_) _ block
      rfl
    · split
      · exact first
      · split
        · next c unit => exact absurd unit (mem c)
        · refine (first.regs ?_).trans (Dev.recordAction_sameOutside ..)
          rfl
  · exact first

/-- An error that is not grave writes in its unit's own block alone, unless it remaps a row. -/
theorem Dev.fault_sameOutside (named : v.src < 16) (mem : ∀ c, v.unit ≠ .mem c) (lesser : ∀ x, faultSrc v.unit v.src = some x → x.cls ≠ 3) :
    Dev.sameOutside v.unit d (d.fault v) := by
  rw [Dev.fault]
  split
  · exact Dev.sameOutside.refl _ d
  · next x known =>
    rw [if_neg (lesser x known)]
    have captured := Dev.capture_sameOutside (d := d) (cls := x.cls) named
    dsimp only
    split
    · exact captured
    · have counted : Dev.sameOutside v.unit d ((d.capture v x.cls).countWindow v.unit v.src v.inst x.cls).2 :=
        captured.trans
        ⟨fun f apart => Dev.rd_countWindow _ _ _ _ _ (apart ⟨unitBase v.unit + 0xF80 + 4 * v.src, 0, 8⟩ (by simp only [Fld.inBlock]; omega))⟩
      rw [Dev.countEvent]
      split
      · next e window =>
        rw [window] at counted
        exact counted.trans (Dev.escalate_sameOutside mem)
      · next e window =>
        rw [window] at counted
        exact counted

end

section
variable {d : Dev} {i x e : Nat}

/-- The island is at the start of epoch `x`. -/
def Dev.begun (f : Dev) (i x : Nat) : Prop :=
  f.sch.island.get i 0 = x ∧ f.sch.next.get i 0 = 0 ∧ (i = 8 → f.sch.stageCells = 0 ∧ f.sch.portCells = [])

theorem Dev.beginEpoch_begun (d : Dev) (i x : Nat) : (d.beginEpoch i x).begun i x := by
  by_cases hub : i = 8
  · rw [Dev.beginEpoch, if_pos hub]
    exact ⟨Tab.get_set_eq (d.passCursors i).sch.island i x 0, Tab.get_set_eq (d.passCursors i).sch.next i 0 0, fun _ => ⟨rfl, rfl⟩⟩
  · rw [Dev.beginEpoch, if_neg hub]
    exact ⟨Tab.get_set_eq (d.passCursors i).sch.island i x 0, Tab.get_set_eq (d.passCursors i).sch.next i 0 0, fun yes => absurd yes hub⟩

theorem Dev.rd_beginEpoch {f : Fld} (h : f.key ≠ ENG_STAGE_CELLS_LAST.key) : (d.beginEpoch i x).rd f = d.rd f := by
  have cursors : (d.passCursors i).regs = d.regs := by
    simp only [Dev.passCursors]
    split
    · split <;> rfl
    · rfl
  simp only [Dev.beginEpoch]
  split
  · exact (Dev.rd_wr_ne _ _ _ _ h).trans (Dev.rd_congr cursors f)
  · exact Dev.rd_congr cursors f

theorem Dev.islandDone_iff : d.islandDone i = true ↔ (d.calendar i).drop (d.sch.next.get i 0) = [] := by
  rw [Dev.islandDone, decide_eq_true_eq, List.drop_eq_nil_iff]

theorem Dev.askReplay_regs (d : Dev) (n t : Nat) : (d.askReplay n t).regs = d.regs := by
  simp only [Dev.askReplay]
  split
  · rfl
  · split <;> rfl

theorem Dev.askReplays_regs (d : Dev) (l : List Nat) (t : Nat) : (l.foldl (fun d n => d.askReplay n t) d).regs = d.regs :=
  List.foldlRecOn (motive := fun e => e.regs = d.regs) l _ rfl fun e he n _ => (Dev.askReplay_regs e n t).trans he

/-- The island's voided runs stand in no fault block. -/
theorem voidRuns_outside {u : FUnit} (unit : u = .sch ∨ ∃ o, u = .oct o) (island : i < 9) (g : Fld) (own : g.inBlock u) : (SCH_VOID_RUNS i).key ≠ g.key := by
  obtain ⟨low, high, lo⟩ := own
  simp only [SCH_VOID_RUNS, SCH_VOID, Fld.key]
  rcases unit with rfl | ⟨o, rfl⟩ <;> simp only [unitBase] at low high <;> omega

/-- What a token reports of voided runs leaves their count as it is. -/
theorem Dev.rd_voidReport (d : Dev) (island : i < 9) :
    Dev.rd (if i = 8 then d.faultFree { unit := .sch, src := 4, detail := 8 * 4096 } false 4096
      else d.faultFree { unit := .oct (Fin.ofNat 8 i), src := 4 } false 128) (SCH_VOID_RUNS i) = d.rd (SCH_VOID_RUNS i) := by
  split
  · refine ((Dev.fault_sameOutside (d := d.free.2.free.2) (show 4 < 16 by decide) (fun c h => by cases h) (fun x known => ?_)).rd _ (voidRuns_outside (.inl rfl) island)).trans rfl
    rw [← Option.some.inj known]
    decide
  · refine ((Dev.fault_sameOutside (d := d.free.2.free.2) (show 4 < 16 by decide) (fun c h => by cases h) (fun x known => ?_)).rd _
      (voidRuns_outside (.inr ⟨_, rfl⟩) island)).trans rfl
    rw [← Option.some.inj known]
    decide

theorem Dev.token_gated (up : d.islandDown i = false) (gated : d.sch.gated.contains i = true) : d.token i e = d.beginEpoch i e :=
  (if_neg (by rw [up]; exact Bool.false_ne_true)).trans (if_pos gated)

section
variable (up : d.islandDown i = false) (open_ : d.sch.gated.contains i = false)
include up open_

theorem Dev.token_done (done : d.islandDone i = true) : d.token i e = d.beginEpoch i (Nat.max (d.sch.island.get i 0 + 1) (e - 1)) :=
  (if_neg (by rw [up]; exact Bool.false_ne_true)).trans ((if_neg (by rw [open_]; exact Bool.false_ne_true)).trans (if_pos done))

theorem Dev.token_near (left : ¬d.islandDone i = true) (near : e < d.sch.island.get i 0 + 2) : d.token i e = d :=
  (if_neg (by rw [up]; exact Bool.false_ne_true)).trans ((if_neg (by rw [open_]; exact Bool.false_ne_true)).trans ((if_neg left).trans (if_pos near)))

/-- A token two epochs ahead of an island with runs unfired voids them. -/
theorem Dev.token_voids (left : ¬d.islandDone i = true) (late : d.sch.island.get i 0 + 2 ≤ e) (island : i < 9) :
    (d.token i e).begun i (e - 1)
      ∧ (d.token i e).rd (SCH_VOID_RUNS i) = (d.rd (SCH_VOID_RUNS i) + ((d.calendar i).drop (d.sch.next.get i 0)).length) % 2 ^ 32 := by
  have token : d.token i e = _ :=
    (if_neg (by rw [up]; exact Bool.false_ne_true)).trans ((if_neg (by rw [open_]; exact Bool.false_ne_true)).trans ((if_neg left).trans
      (if_neg (Nat.not_lt.2 late))))
  dsimp only at token
  refine ⟨token ▸ Dev.beginEpoch_begun .., ?_⟩
  rw [token, Dev.rd_beginEpoch (by simp only [SCH_VOID_RUNS, SCH_VOID, Fld.key, ENG_STAGE_CELLS_LAST, ENG_STAGE]; omega), Dev.rd_voidReport _ island,
    Dev.rd_congr (Dev.askReplays_regs ..), Dev.rd_wr_eq, List.length_drop]
  rfl

end

end

/-- Settles O28. -/
theorem runsFireOrAreVoided : Obligations.RunsFireOrAreVoided := by
  refine ⟨fun s i k r => ?_, fun d i e island up => ?_⟩
  · extract_lets at_ d schedule e up ends does
    intro pacing islandUp run due
    have fires := runFire_due pacing islandUp run due
    have moved {p} (epUp : up = true) (left : e.runStopped i.val r = false) (h : e.movedBy i.val k r p) : does p :=
      next_settled (fires.trans (congrArg Dev.trimOld (Dev.fire_moves epUp left h)))
    refine ⟨fun down kind item => next_settled (fires.trans (congrArg Dev.trimOld ((Dev.fire_down down).trans (if_pos ⟨kind, item⟩)))),
      fun down idle => next_settled (fires.trans (congrArg Dev.trimOld ((Dev.fire_down down).trans (if_neg ?_)))),
      fun epUp stopped => next_settled (fires.trans (congrArg Dev.trimOld (Dev.fire_stopped epUp stopped))),
      fun epUp left => ⟨fun kind => moved epUp left ?_, fun lane kind => moved epUp left ?_, fun hub kind u slot => moved epUp left ?_,
        fun hub kind slot => moved epUp left ?_, fun hub kind => moved epUp left ?_, fun kind => moved epUp left ?_, fun hub kind => moved epUp left ?_⟩⟩
    · rintro ⟨kind, item⟩
      rcases idle with other | none
      · exact other kind
      · rw [none] at item
        cases item
    · exact .inr (.inr (.inr (.inr ⟨rfl, .inl kind⟩)))
    · exact .inr (.inr (.inr (.inr ⟨rfl, .inr (.inl ⟨lane, kind⟩)⟩)))
    · exact .inr (.inl ⟨hub, kind, u, slot, rfl⟩)
    · exact .inr (.inr (.inr (.inr ⟨rfl, .inr (.inr ⟨hub, kind, slot⟩)⟩)))
    · exact .inr (.inr (.inl ⟨hub, kind, rfl⟩))
    · exact .inl ⟨kind, rfl⟩
    · exact .inr (.inr (.inr (.inl ⟨hub, kind, rfl⟩)))
  · extract_lets at_ left f begins
    have done_iff := Dev.islandDone_iff (d := d) (i := i)
    refine ⟨fun some_ open_ late => Dev.token_voids up open_ (fun done => some_ (done_iff.1 done)) late island,
      fun some_ open_ near => Dev.token_near up open_ (fun done => some_ (done_iff.1 done)) near, fun none open_ => ?_, fun gated => ?_⟩
    · exact (congrArg (Dev.begun · i _) (Dev.token_done up open_ (e := e) (done_iff.2 none))).mpr (Dev.beginEpoch_begun ..)
    · exact (congrArg (Dev.begun · i _) (Dev.token_gated up gated (e := e))).mpr (Dev.beginEpoch_begun ..)

end Sys2Proof.Machine
end

section

/-! PROOFS. Polls, partner events and the sideband chain (R356–R362). -/

namespace Sys2Proof.Machine
set_option Elab.async false

section
variable {d e : Dev} {l : Nat} {m : List Byte}

/-- A poll's slot when the last poll has been answered. -/
theorem pollTick_answered (flits : d.flitting l = true) (polls : d.polls l = true) (answered : d.brg.polled.get l 0 = 0) :
    pollTick l d =
      let q := d.brg.pseq.get l 0
      let b := { d.brg with polled := d.brg.polled.set l 1 0, pseq := d.brg.pseq.set l ((q + 1) % 2 ^ 16) 0 }
      Dev.txMsg { d with brg := b } l 2 (message 0x40 (leBytes 2 q ++ leBytes 2 0)) := by
  rw [pollTick, if_neg (by rw [flits, polls]; exact Bool.false_ne_true)]
  dsimp only
  rw [if_neg (by rw [answered]; decide)]

/-! ### BRG_EVQ -/

theorem domainOf_evq : domainOf BRG_EVQ = none := by decide

theorem mgrRead_evq (on : d.addrOff BRG_EVQ = false) : d.mgrRead BRG_EVQ 15 =
    (Dev.evqPop { d with keyHalf := false }).2.emit (.readReturn d.mgrPort ((Dev.evqPop { d with keyHalf := false }).1 % 2 ^ 32)) := by
  have on' : Dev.addrOff { d with keyHalf := false } BRG_EVQ = false := on
  have awake : Dev.asleep { d with keyHalf := false } BRG_EVQ = none := by
    rw [Dev.asleep, domainOf_evq]
    split <;> rfl
  have touched : Dev.touch { d with keyHalf := false } BRG_EVQ = { d with keyHalf := false } := by rw [Dev.touch, domainOf_evq]
  have takes (x : Dev) : x.readEffect BRG_EVQ = x.evqPop := (if_neg (by decide)).trans (if_pos rfl)
  simp only [Dev.mgrRead]
  rw [if_neg (by rw [on']; exact Bool.false_ne_true), awake]
  dsimp only
  rw [touched, takes, enabledBytes_all]
  rfl

theorem brgEvqRead_eq (hub : d.hubOff = false) (on : d.addrOff BRG_EVQ = false) : brgEvqRead d =
    (Dev.evqPop { d with keyHalf := false }).2.emit (.readReturn d.mgrPort ((Dev.evqPop { d with keyHalf := false }).1 % 2 ^ 32)) := by
  rw [brgEvqRead, registerRead_low _ _ _ _ (by decide) (by decide), Dev.barRead_mgr hub, mgrRead_evq on]

theorem Dev.evqPop_nil (empty : d.brg.evq = []) : d.evqPop = (0, d) := by rw [Dev.evqPop, empty]

theorem Dev.evqPop_cons {a v : Nat} {r : List (Nat × Nat)} (some : d.brg.evq = (a, v) :: r) :
    d.evqPop = (a + 2 ^ 16 * v + 2 ^ 30 * b2n d.brg.evqOver + 2 ^ 31, Dev.sample { d with brg := { d.brg with evq := r, evqOver := false } } 45) := by
  rw [Dev.evqPop, some]

/-- A record that fits its fields is read whole. -/
theorem evqWord_fits {a v : Nat} (link : a < 2 ^ 14) (event : v < 2 ^ 14) (lost : Bool) :
    (a + 2 ^ 16 * v + 2 ^ 30 * b2n lost + 2 ^ 31) % 2 ^ 32 = a + 2 ^ 16 * v + 2 ^ 30 * b2n lost + 2 ^ 31 := by
  have mark : b2n lost ≤ 1 := by cases lost <;> decide
  exact Nat.mod_eq_of_lt (by omega)

/-! ### Button scans -/

/-- One button of a scan. -/
def Dev.scanButton (buttons : BitVec 64) (d : Dev) (b : Nat) : Dev :=
  let n := if buttons.getLsbD b then Nat.min 3 (d.brg.btn.get b 0 + 1) else 0
  let d := { d with brg := { d.brg with btn := d.brg.btn.set b n 0 } }
  let was := d.flag (BRG_BAY_LED_BTN b)
  let d := d.wr (BRG_BAY_LED_BTN b) (b2n (n == 3))
  if n = 3 ∧ ¬was then (d.wr (BRG_BAY_LED_BTN_PRESS b) 1).raise 43 else d

theorem sidebandScan_eq (on : d.hubOff = false) (buttons : BitVec 64) :
    sidebandScan buttons d = (List.range 64).foldl (Dev.scanButton buttons) (d.emit (.sideband d.leds)) :=
  if_neg (by rw [on]; exact Bool.false_ne_true)

/-- The first scan of a button counts 1 while it is held, and presses nothing. -/
theorem Dev.scanButton_first (buttons : BitVec 64) {b : Nat} (idle : d.brg.btn.get b 0 = 0) :
    (d.scanButton buttons b).out = d.out ∧ (d.scanButton buttons b).brg.btn = d.brg.btn.set b (b2n (buttons.getLsbD b)) 0 := by
  have count : (if buttons.getLsbD b then Nat.min 3 (d.brg.btn.get b 0 + 1) else 0) = b2n (buttons.getLsbD b) := by
    rw [idle]
    cases buttons.getLsbD b <;> rfl
  have few : ¬(b2n (buttons.getLsbD b) = 3 ∧ ¬Dev.flag { d with brg := { d.brg with btn := d.brg.btn.set b (b2n (buttons.getLsbD b)) 0 } } (BRG_BAY_LED_BTN b)) := by
    cases buttons.getLsbD b <;> simp [b2n]
  simp only [Dev.scanButton, count]
  rw [if_neg few]
  exact ⟨rfl, rfl⟩

/-- After the first buttons of a first scan, those are counted and the others wait. -/
theorem Dev.scanButtons_first (buttons : BitVec 64) (n : Nat) (idle : ∀ i, i < n → d.brg.btn.get i 0 = 0) :
    ((List.range n).foldl (Dev.scanButton buttons) d).out = d.out
      ∧ ∀ i, ((List.range n).foldl (Dev.scanButton buttons) d).brg.btn.get i 0 = if i < n then b2n (buttons.getLsbD i) else d.brg.btn.get i 0 := by
  induction n with
  | zero => exact ⟨rfl, fun i => rfl⟩
  | succ n ih =>
    obtain ⟨out, counts⟩ := ih fun i h => idle i (by omega)
    have waits : ((List.range n).foldl (Dev.scanButton buttons) d).brg.btn.get n 0 = 0 :=
      (counts n).trans ((if_neg (lt_irrefl n)).trans (idle n (by omega)))
    obtain ⟨out', set⟩ := Dev.scanButton_first buttons waits
    rw [List.range_succ, List.foldl_append, List.foldl_cons, List.foldl_nil]
    refine ⟨out'.trans out, fun i => ?_⟩
    rw [set]
    by_cases at_ : i = n
    · rw [at_, Tab.get_set_eq, if_pos (by omega)]
    · rw [Tab.get_set_ne _ _ _ _ at_, counts i]
      exact if_congr (by omega) rfl rfl

end

/-- Settles O44. -/
theorem pollsEventsAndTheChain : Obligations.PollsEventsAndTheChain := by
  intro s l
  refine ⟨fun flits polls answered => next_settled (pollTick_answered flits polls answered), fun m e taken => ?_, fun m e taken => ?_,
    fun hub on => ⟨fun empty => next_settled ?_, fun a v r some link event => next_settled ?_⟩, fun hub buttons idle _ => ?_⟩
  · extract_lets w old stored bridge f g h
    refine next_settled ((Dev.onMsg_some _ taken).trans ?_)
    have both : (bit w 8 && !bit old 8) = true ↔ bit w 8 = true ∧ bit old 8 = false := by rw [Bool.and_eq_true, Bool.not_eq_true']
    have rises : (if (bit w 8 && !bit old 8) = true then f.raise 43 else f) = g := if_congr both rfl rfl
    have warms : (if bits w 11 2 = bits old 11 2 then g else g.raise 44) = h := (ite_not ..).symm
    rw [← warms, ← rises]
  · exact next_settled (Dev.onMsg_some _ taken)
  · rw [brgEvqRead_eq hub on, Dev.evqPop_nil (d := { s.dev with keyHalf := false }) empty]
    rfl
  · rw [brgEvqRead_eq hub on, Dev.evqPop_cons (d := { s.dev with keyHalf := false }) some]
    exact congrArg (fun x => Dev.emit (Dev.sample _ 45) (.readReturn s.dev.mgrPort x)) (evqWord_fits link event s.dev.brg.evqOver)
  · obtain ⟨out, counts⟩ := Dev.scanButtons_first (d := s.dev.emit (.sideband s.dev.leds)) buttons 64 idle
    exact ⟨_, next_settled (sidebandScan_eq hub buttons), out, fun i h => (counts i).trans (if_pos h)⟩

end Sys2Proof.Machine
end

section

/-! PROOFS. The ledger's interval, READ_LEDGER and GET_LOG (R131, R387, R391). -/

namespace Sys2Proof.Machine
set_option Elab.async false

/-! ### The ledger's interval -/

theorem foldl_now {α : Type} {f : Dev → α → Dev} (step : ∀ (e : Dev) x, (f e x).now = e.now) (l : List α) (d : Dev) : (l.foldl f d).now = d.now :=
  List.foldlRecOn (motive := fun e : Dev => e.now = d.now) l f rfl fun e h a _ => (step e a).trans h

section
variable (d : Dev)

theorem Dev.charge_now (s nj : Nat) : (d.charge s nj).now = d.now := rfl

theorem Dev.chargeUnit_now (u pot : Nat) : (d.chargeUnit u pot).now = d.now := by
  simp only [Dev.chargeUnit]
  split
  · rfl
  · refine (Dev.charge_now ..).trans (foldl_now ?_ _ d)
    exact fun e x => e.charge_now x.1 x.2

theorem Dev.attribute_now (rail : Nat) : (d.attribute rail).now = d.now := by
  simp only [Dev.attribute]
  split
  · rfl
  · rw [Dev.charge_now, Dev.chargeUnit_now]
    refine foldl_now ?_ _ d
    exact fun e o => e.chargeUnit_now o _

theorem Dev.addCells_now : d.addCells.now = d.now := by
  simp only [Dev.addCells]
  refine foldl_now ?_ _ d
  exact fun _ _ => rfl

theorem Dev.railRead_now (n : Nat) (x : Option (BitVec 32)) : (d.railRead n x).2.now = d.now := by
  cases x <;> rfl

theorem Dev.ledgerReset_now : d.ledgerReset.now = d.now := by
  simp only [Dev.ledgerReset]
  refine foldl_now ?_ _ d
  exact fun _ _ => rfl

theorem Dev.ledgerReset_regs : d.ledgerReset.regs = d.regs :=
  List.foldlRecOn (motive := fun e : Dev => e.regs = d.regs) d.bay.bays.keys _ rfl fun _ he _ _ => he

theorem Dev.ledgerReset_cells : d.ledgerReset.bay.cells = [] := rfl

theorem Dev.ledgerReset_closedAt : d.ledgerReset.bay.closedAt = d.now := d.ledgerReset_now

/-- The interval's end is a reset of the ledger at the same time. -/
theorem Dev.ledgerClose_reset (l : List (Option (BitVec 32))) : ∃ e : Dev, e.now = d.now ∧ d.ledgerClose l = e.ledgerReset.sample 3 := by
  have rails : (d.rails.foldl (fun (a : Nat × Dev) n => (a.1 + (a.2.railRead n (l.getD n none)).1, (a.2.railRead n (l.getD n none)).2)) (0, d)).2.now = d.now :=
    List.foldlRecOn (motive := fun a : Nat × Dev => a.2.now = d.now) _ _ rfl (fun a h n _ => (a.2.railRead_now n _).trans h)
  refine ⟨_, ?_, rfl⟩
  exact (Dev.addCells_now _).trans ((Dev.attribute_now ..).trans rails)

theorem Dev.ledgerClose_cells (l : List (Option (BitVec 32))) : (d.ledgerClose l).bay.cells = [] := by
  obtain ⟨e, now, same⟩ := Dev.ledgerClose_reset d l
  rw [same, Dev.sample_bay, Dev.ledgerReset_cells]

theorem Dev.ledgerClose_closedAt (l : List (Option (BitVec 32))) : (d.ledgerClose l).bay.closedAt = d.now := by
  obtain ⟨e, now, same⟩ := Dev.ledgerClose_reset d l
  rw [same, Dev.sample_bay, Dev.ledgerReset_closedAt, now]

end

/-! ### READ_LEDGER and GET_LOG -/

section
variable {d : Dev} {n : Nat}

/-- A command that writes bytes to the host ends with their number, or with HOST_DMA_ERROR. -/
def Dev.writesAndEnds (d : Dev) (n addr : Nat) (l : List Byte) : Dev :=
  let h := d.hostWrite 0 (d.entry n).instar true false addr l
  if h.1 then h.2.finish n stSuccess l.length else h.2.finish n stHostDma

theorem Dev.writesAndEnds_issued {addr : Nat} {l : List Byte} (own : (d.entry n).instar = d.sliceInstar 0) (free : d.egressBarred 0 = false)
    (open_ : d.egressWaits 0 = false) (may : d.canIssue (d.slicePort 0) = true) :
    d.writesAndEnds n addr l = (d.emitAll (d.writeMsgs 0 true false addr l)).finish n stSuccess l.length := by
  rw [Dev.writesAndEnds, Dev.hostWrite_issued own free open_ may]
  rfl

theorem readLedger_scope (ready : d.adminReady n 0xD0 = true) (scope : darg (d.entry n).desc 4 1 ≤ 3) :
    readLedger n d =
      let x := (d.entry n).desc
      let d := d.started n
      let scope := darg x 4 1
      let len := darg x 0x10 4
      let l := d.ledgerRecords scope
      let head := leBytes 8 d.bay.closedAt ++ leBytes 1 scope ++ leBytes 1 (d.rd GLB_LEDGER_STATUS_DISCONTINUOUS) ++ leBytes 2 0
        ++ leBytes 4 l.length ++ leBytes 16 0
      d.writesAndEnds n (darg x 8 8) ((head ++ (l.take (Nat.min l.length ((len - 32) / 32))).flatten).take len) := by
  rw [readLedger, Dev.admin_ready _ ready]
  refine (if_neg (Nat.not_lt.2 scope)).trans ?_
  dsimp only [Dev.writesAndEnds]
  split <;> rename_i written <;> rw [written]
  · exact (if_pos rfl).symm
  · exact (if_neg Bool.false_ne_true).symm

theorem getLog_some (ready : d.adminReady n 0xD2 = true)
    (some : (((d.started n).logFrom (darg (d.entry n).desc 4 1) (darg (d.entry n).desc 0x18 8)).take (darg (d.entry n).desc 0x10 4 / 32)).flatten ≠ []) :
    getLog n d =
      let x := (d.entry n).desc
      let d := d.started n
      d.writesAndEnds n (darg x 8 8) ((d.logFrom (darg x 4 1) (darg x 0x18 8)).take (darg x 0x10 4 / 32)).flatten := by
  rw [getLog, Dev.admin_ready _ ready]
  refine (if_neg (by rwa [List.isEmpty_iff])).trans ?_
  dsimp only [Dev.writesAndEnds]
  split <;> rename_i written <;> rw [written]
  · exact (if_pos rfl).symm
  · exact (if_neg Bool.false_ne_true).symm

end

/-- Settles O48. -/
theorem ledgerAndLogsAreRead : Obligations.LedgerAndLogsAreRead := by
  intro s
  refine ⟨fun r on => ⟨next_settled (if_neg (by rw [on]; exact Bool.false_ne_true)), Dev.ledgerReset_cells _, Dev.ledgerReset_closedAt _,
    Dev.ledgerReset_regs _, Dev.ledgerClose_cells .., Dev.ledgerClose_closedAt ..⟩, fun n => ⟨fun ready => ⟨fun scope => next_settled ?_, fun scope => ⟨?_, ?_⟩⟩,
      fun ready _ _ => ⟨fun none => next_settled ?_, fun some => ⟨?_, ?_⟩⟩⟩⟩
  · rw [readLedger, Dev.admin_ready _ ready]
    exact if_pos scope
  · exact next_settled (readLedger_scope ready scope)
  · exact fun own free open_ may => next_settled ((readLedger_scope ready scope).trans (Dev.writesAndEnds_issued own free open_ may))
  · rw [getLog, Dev.admin_ready _ ready]
    exact if_pos (by rw [List.isEmpty_iff]; exact none)
  · exact next_settled (getLog_some ready some)
  · exact fun own free open_ may => next_settled ((getLog_some ready some).trans (Dev.writesAndEnds_issued own free open_ may))

end Sys2Proof.Machine
end

section

/-! PROOFS. A host port's link, configuration and resets (R38, R39, R49, R50, R52–R57, R62–R65, R69, R552). -/

namespace Sys2Proof.Machine
set_option Elab.async false

section
variable {d : Dev} {n : Nat}

theorem hostLinkUp_trains {sp w : Nat} (on : d.hubOff = false) (perst : (d.port n).perst = false) (down : (d.port n).linkUp = false) :
    hostLinkUp n sp w d =
      let e := (((d.setPort n { d.port n with linkUp := true, l23 := false, ltrSent := none }).wrs
        [(HP_STATUS_SPEED n, sp), (HP_STATUS_WIDTH n, w), (HP_STATUS_FLIT n, b2n (decide (6 ≤ sp)))]).bootStage).portOpens n
      if e.flt.grave then e.aer n (.uncorrectableInternal true) else e.scarGrave :=
  if_neg (by rw [on, perst, down]; exact Bool.false_ne_true)

theorem hostLinkDown_up (on : d.hubOff = false) (up : (d.port n).linkUp = true) : hostLinkDown n d = (d.linkLost n).commitTry :=
  if_neg (by rw [on, up]; exact Bool.false_ne_true)

theorem pmeTurnOff_up (on : d.hubOff = false) (up : (d.port n).linkUp = true) (awake : (d.port n).l23 = false) :
    pmeTurnOff n d = ((d.setPort n { d.port n with l23 := true }).emit (.pmeToAck n)).commitTry :=
  if_neg (by rw [on, up, awake]; exact Bool.false_ne_true)

/-- What a port's own status fields are written leaves every field of the GLB block as it is. -/
theorem Dev.mgrPort_d3 (d : Dev) (n : Nat) (p : Port) :
    ((d.setPort n p).wrs [(HP_STATUS_DSTATE n, 3), (HP_STATUS_EGRESS_HOLD n, 1)]).mgrPort = d.mgrPort := by
  refine Dev.rd_wrs_ne _ _ _ ?_
  simp only [List.mem_cons, List.not_mem_nil, or_false, forall_eq_or_imp, forall_eq, Fld.key, GLB_STRAP_MGR_PORT, GLB_STRAP, HP_STATUS_DSTATE,
    HP_STATUS_EGRESS_HOLD, HP_STATUS]
  omega

theorem Port.configure_eq (p : Port) (c : PortCtl) : p.configure c = { p with
    bme := c.bme, mse := c.mse, relaxedEn := c.relaxed, noSnoopEn := c.noSnoop, idoEn := c.ido, tag10 := c.tag10, uieMasked := c.uieMask,
    uieFatal := c.uieFatal, ext := c.ext, aerStatus := if c.aerClear then [] else p.aerStatus, hdrLog := if c.aerClear then none else p.hdrLog } := by
  rw [Port.configure]
  cases c.aerClear <;> rfl

section
variable (may : d.cfgOpen n = true)
include may

theorem cfgOpen_not : ¬(!d.cfgOpen n) = true := by rw [may]; exact Bool.false_ne_true

theorem busMasterEnable_open (c : PortCtl) : busMasterEnable n c d = (d.setPort n ((d.port n).configure c)).portOpens n := if_neg (cfgOpen_not may)

theorem pasidEnable_on : pasidEnable n true d = (((d.setPort n { d.port n with pasidEn := true }).wr (HP_STATUS_PASID_EN n) 1).flushHeld n).fetchPort n :=
  if_neg (cfgOpen_not may)

theorem pasidEnable_off : pasidEnable n false d = (d.setPort n { d.port n with pasidEn := false }).wr (HP_STATUS_PASID_EN n) 0 := if_neg (cfgOpen_not may)

theorem reqIdChange_other {id : Nat} (other : n ≠ d.mgrPort) :
    reqIdChange n id d = (d.portSlices n).foldl (fun e t => if t ≠ 0 ∧ e.rd (SLC_BIND_REQ_ID t) ≠ id then e.wr (SLC_STATE_ID_MISMATCH t) 1 else e)
      (d.setPort n { d.port n with reqId := id }) := by
  rw [reqIdChange, if_neg (cfgOpen_not may)]
  dsimp only
  have other' : ¬n = Dev.mgrPort (d.setPort n { d.port n with reqId := id }) := other
  rw [if_neg other']
  rfl

theorem d3hotEntry_other (other : n ≠ d.mgrPort) :
    d3hotEntry n d = (d.setPort n { d.port n with d3 := true }).wrs [(HP_STATUS_DSTATE n, 3), (HP_STATUS_EGRESS_HOLD n, 1)] :=
  (if_neg (cfgOpen_not may)).trans (if_neg (by rwa [Dev.mgrPort_d3]))

theorem d0Return_free (d3 : (d.port n).d3 = true) (none : d.flag (HP_FLR_MOULT_DEFERRED n) = false) :
    d0Return n d = ((((d.setPort n { d.port n with d3 := false }).wr (HP_STATUS_DSTATE n) 0).resumeEgress n).sendPending n).fetchPort n := by
  have shut : ¬(!d.cfgOpen n || !(d.port n).d3) = true := by rw [may, d3]; exact Bool.false_ne_true
  have kept : Dev.flag ((d.setPort n { d.port n with d3 := false }).wr (HP_STATUS_DSTATE n) 0) (HP_FLR_MOULT_DEFERRED n) = false := by
    rw [← none, Dev.flag, Dev.rd_wr_ne]
    · rfl
    · simp only [Fld.key, HP_FLR_MOULT_DEFERRED, HP_FLR, HP_STATUS_DSTATE, HP_STATUS]
      omega
  exact (if_neg shut).trans (if_neg (by rw [kept]; exact Bool.false_ne_true))

theorem bar4Resize_open {log2 : Nat} (off : (d.port n).mse = false) (low : 30 ≤ log2) (high : log2 ≤ 40) :
    bar4Resize n log2 d = (d.setPort n { d.port n with bar4 := log2 }).winGoneAll
      (fun m w => m == n && decide (2 ^ log2 < d.winBase n w + d.winSize n w)) 3 := by
  have fits : ¬(!d.cfgOpen n || (d.port n).mse || decide (log2 < 30) || decide (40 < log2)) = true := by
    rw [may, off, decide_eq_false (Nat.not_lt.2 low), decide_eq_false (Nat.not_lt.2 high)]
    exact Bool.false_ne_true
  exact if_neg fits

theorem msixUnmask_open {en fm masked : Bool} {v : Nat} :
    msixUnmask n en fm v masked d = (d.setPort n { d.port n with
      msixEn := en, fnMask := fm, unmasked := if masked then setDel v (d.port n).unmasked else setAdd v (d.port n).unmasked }).sendPending n :=
  if_neg (cfgOpen_not may)

end

/-! ### Resets -/

/-- What a reset of port `n` does before its moults: the port's configuration becomes `p`. -/
def Dev.resetPort (d : Dev) (n : Nat) (p : Port) : Dev :=
  let d := (d.inc (HP_FLR_COUNT n)).wrs [(HP_STATUS_EGRESS_HOLD n, 1), (HP_STATUS_DSTATE n, 0), (HP_STATUS_PASID_EN n, 0)]
  let d := (d.bridgeReset n).setPort n p
  let d := if n = d.mgrPort then d.managerReset else d
  (d.portSlices n).foldl (fun d s => d.askMoult s none true none) d

variable {p : Port}

theorem Dev.portReset_now (ready : d.flag SLC_GLOBAL_INSTAR_BUSY = false) (quiet : (d.portSlices n).any d.period = false)
    (none : (d.resetPort n p).flag (HP_FLR_MOULT_DEFERRED n) = false) : d.portReset n p = (d.resetPort n p).resumeEgress n := by
  have late : ¬((d.flag SLC_GLOBAL_INSTAR_BUSY || (d.portSlices n).any d.period) = true ∨ (d.resetPort n p).flag (HP_FLR_MOULT_DEFERRED n) = true) := by
    rw [ready, quiet, none]
    simp
  exact if_neg late

/-- Egress stays held while a slice of the port waits for its reset moult. -/
theorem Dev.deferEnd_waits {t : Nat} (own : t ∈ d.portSlices n) (waits : ((d.slice t).moult.map (·.reset)) = some true) : d.deferEnd n = d := by
  have deferring : d.deferring n = true := by
    rw [Dev.deferring, Bool.or_eq_true, List.any_eq_true]
    exact .inr ⟨t, own, by rw [waits]; rfl⟩
  exact if_pos (by rw [deferring, Bool.or_true])

theorem Dev.portReset_deferred (late : d.flag SLC_GLOBAL_INSTAR_BUSY = true ∨ (d.portSlices n).any d.period = true
    ∨ (d.resetPort n p).flag (HP_FLR_MOULT_DEFERRED n) = true) :
    d.portReset n p = ((d.resetPort n p).wr (HP_FLR_MOULT_DEFERRED n) 1).deferEnd n := by
  have late' : (d.flag SLC_GLOBAL_INSTAR_BUSY || (d.portSlices n).any d.period) = true ∨ (d.resetPort n p).flag (HP_FLR_MOULT_DEFERRED n) = true := by
    rw [Bool.or_eq_true, or_assoc]
    exact late
  exact if_pos late'

end

/-- Settles O10. -/
theorem hostPortsChangeAndReset : Obligations.HostPortsChangeAndReset := by
  refine ⟨fun s n => ⟨fun sp w on perst down => next_settled (hostLinkUp_trains on perst down), fun on up => next_settled (hostLinkDown_up on up),
    fun c may => next_settled ((busMasterEnable_open may c).trans (by rw [Port.configure_eq])), fun may => next_settled (pasidEnable_on may), fun may => next_settled (pasidEnable_off may),
    fun id may other => next_settled (reqIdChange_other may other), fun may other => next_settled (d3hotEntry_other may other),
    fun may d3 none => next_settled (d0Return_free may d3 none), fun on up awake => next_settled (pmeTurnOff_up on up awake),
    fun log2 may off low high => next_settled (bar4Resize_open may off low high), fun v may => next_settled (msixUnmask_open may),
    fun v may => next_settled (msixUnmask_open may)⟩, fun s n => ⟨?_, fun e t own waits => Dev.deferEnd_waits own waits, ?_, fun off => ?_, rfl⟩⟩
  · intro may
    have reset : flr n.val s.dev = s.dev.portReset n.val (s.dev.port n.val).flr := if_pos may
    exact ⟨fun ready quiet none => next_settled (reset.trans (Dev.portReset_now ready quiet none)),
      fun late => next_settled (reset.trans (Dev.portReset_deferred late))⟩
  · intro e f on mode ready quiet none
    have reset : perstAssert n.val s.dev = (e.portReset n.val { held := (e.port n.val).flr.held }).commitTry := by
      have on' : ¬Dev.hubOff (s.dev.setPort n.val { s.dev.port n.val with perst := true }) = true := (Bool.eq_false_iff.1 on)
      exact (if_neg on').trans (if_neg mode)
    exact next_settled (reset.trans (congrArg Dev.commitTry (Dev.portReset_now ready quiet none)))
  · exact next_settled (if_pos off)

end Sys2Proof.Machine
end

section

/-! PROOFS. How the device's own requests end, what a port rejects, and domains that wake (R35–R39, R48, R66, R85, R118, R401, R552). -/

namespace Sys2Proof.Machine
set_option Elab.async false

/-! ### The pieces of a request -/

theorem reqPieces_fits {max f addr len : Nat} (fits : len ≤ Nat.min max (4096 - addr % 4096)) : reqPieces max f addr len = [(addr, len)] := by
  cases f with
  | zero => rfl
  | succ f => exact if_pos fits

theorem reqPieces_more {max f addr len : Nat} (more : ¬len ≤ Nat.min max (4096 - addr % 4096)) :
    reqPieces max (f + 1) addr len =
      (addr, Nat.min max (4096 - addr % 4096)) :: reqPieces max f (addr + Nat.min max (4096 - addr % 4096)) (len - Nat.min max (4096 - addr % 4096)) :=
  if_neg more

/-- Pieces of at least 128 bytes each, but for one that ends at a page's end: from a page's start there are 64 bytes more than the fuel
counts. -/
theorem reqPieces_spec (max : Nat) (large : 128 ≤ max) : ∀ f a n : Nat, n ≤ 64 * f + (if a % 4096 = 0 then 64 else 0) →
    ((reqPieces max f a n).map (·.2)).sum = n ∧ ∀ x, x ∈ reqPieces max f a n → x.2 ≤ max ∧ x.1 % 4096 + x.2 ≤ 4096 ∧ a ≤ x.1 := by
  intro f
  induction f with
  | zero =>
    intro a n fuel
    refine ⟨by simp [reqPieces], fun x hx => ?_⟩
    rw [List.mem_singleton.1 hx]
    dsimp only
    split at fuel <;> omega
  | succ f ih =>
    intro a n fuel
    have piece : Nat.min max (4096 - a % 4096) ≤ max ∧ Nat.min max (4096 - a % 4096) ≤ 4096 - a % 4096 := ⟨Nat.min_le_left .., Nat.min_le_right ..⟩
    by_cases fits : n ≤ Nat.min max (4096 - a % 4096)
    · rw [reqPieces_fits fits]
      refine ⟨by simp, fun x hx => ?_⟩
      rw [List.mem_singleton.1 hx]
      dsimp only
      omega
    · rw [reqPieces_more fits]
      have whole : Nat.min max (4096 - a % 4096) = max ∨ Nat.min max (4096 - a % 4096) = 4096 - a % 4096 := min_choice ..
      generalize Nat.min max (4096 - a % 4096) = k at *
      have fuel' : n - k ≤ 64 * f + (if (a + k) % 4096 = 0 then 64 else 0) := by split at fuel <;> split <;> omega
      obtain ⟨total, each⟩ := ih (a + k) (n - k) fuel'
      refine ⟨?_, fun x hx => ?_⟩
      · rw [List.map_cons, List.sum_cons, total]
        omega
      · rcases List.mem_cons.1 hx with rfl | later
        · dsimp only
          omega
        · obtain ⟨small, page, after⟩ := each x later
          exact ⟨small, page, by omega⟩

/-! ### The ends of reads -/

section
variable {d : Dev} {i slot serial att off len : Nat} {r : HRead}

section
variable (at_ : d.reads[i]? = some r) (issued : r.issued = true) (why : r.why = .payload slot serial att off len)
include at_ issued why

theorem Dev.readEnds_payload {data : Option (List Byte)} : d.readEnds i data =
    match data with
    | some l => if l.length = len then ((d.endRead i).failedRead r data.isNone).payloadIn slot serial att off len l
      else (d.endRead i).failedRead r data.isNone
    | none => ((d.endRead i).failedRead r data.isNone).payloadFail slot serial att := by
  simp only [Dev.readEnds, at_, issued, why, Bool.not_true, Bool.false_and, Bool.false_eq_true, if_false] <;> rfl

theorem Dev.readEnds_payload_whole {l : List Byte} (whole : l.length = len) :
    d.readEnds i (some l) = (d.endRead i).payloadIn slot serial att off len l :=
  (Dev.readEnds_payload at_ issued why).trans (if_pos whole)

theorem Dev.readEnds_payload_failed (clean : r.ecc = false) :
    d.readEnds i none = ((d.endRead i).dmaFail r.port r.slice r.addr 3).payloadFail slot serial att := by
  have captured : (d.endRead i).failedRead r true = (d.endRead i).dmaFail r.port r.slice r.addr 3 := by
    rw [Dev.failedRead, if_pos rfl, Dev.readFail, if_neg (by rw [clean]; exact Bool.false_ne_true)]
  exact (Dev.readEnds_payload at_ issued why).trans (congrArg (fun e : Dev => e.payloadFail slot serial att) captured)

end

/-- Data of a read that has more requests to come: the next ones go. -/
theorem hostReadCompletion_part {l : List Byte} (live : d.hubOff = false) (at_ : d.reads[i]? = some r) (issued : r.issued = true)
    (ordinary : r.why ≠ .mirror) (more : r.last = false) (whole : l.length = r.outLen) (own : r.instar = d.sliceInstar r.slice) :
    hostReadCompletion i 0 l d = Dev.nextReads r.port d.reads.length
      { d with reads := d.reads.set i { r with got := r.got ++ l, reqs := [], sent := false, issued := false } } := by
  simp only [hostReadCompletion, at_, live, issued, Bool.not_true, Bool.or_false, Bool.false_eq_true, if_false, if_true, if_neg ordinary,
    Dev.readBrings, more, whole, own, ne_eq, not_true_eq_false]

theorem hostCompletionTimeout_payload (live : d.hubOff = false) (at_ : d.reads[i]? = some r) (issued : r.issued = true)
    (why : r.why = .payload slot serial att off len) (clean : r.ecc = false) (timed : (d.port r.port).ext.ctoOff = false) :
    hostCompletionTimeout i d =
      let e := d.advance (r.since + (Config.completionTimeout (d.port r.port).ext.cto).toNat)
      let f := e.aerHdr r.port .completionTimeout (some (e.readHdr r 0))
      ((f.endRead i).dmaFail r.port r.slice r.addr 3).payloadFail slot serial att := by
  simp only [hostCompletionTimeout, at_, live, issued, timed, Bool.not_true, Bool.or_false, Bool.false_eq_true, if_false]
  refine Dev.readEnds_payload_failed ?_ issued why clean
  have later := Dev.advance_frame d (r.since + (Config.completionTimeout (d.port r.port).ext.cto).toNat)
  simp only [Dev.aerHdr]
  split
  · refine Eq.trans ?_ at_
    rw [later]
    rfl
  · refine Eq.trans ?_ at_
    rw [later]
    rfl

end

/-! ### What a port rejects -/

section
variable {d : Dev} {n a : Nat} {r : Bool}

theorem hostTlpError_up (on : d.hubOff = false) (up : (d.port n).linkUp = true) (k : TlpError) :
    hostTlpError n k.code d =
      let u := FUnit.hp (Fin.ofNat 8 n)
      let bad := fun e : Aer => (d.aerReq n e none none none).faultFree { unit := u, src := 3, port := some n } true 65536
      let corrected := fun e : Aer => (d.aer n e).faultFree { unit := u, src := 4, port := some n } true 65536
      match k with
      | .malformed => bad .malformed
      | .flowControl => bad .flowControl
      | .unexpected => d.aerReq n .unexpectedCompletion none none none
      | .receiver => corrected .receiverError
      | .badTlp => corrected .badTlp
      | .badDllp => corrected .badDllp
      | .replayTimer => corrected .replayTimer
      | .replayRollover => corrected .replayRollover := by
  have may : ¬(d.hubOff || !(d.port n).linkUp) = true := by rw [on, up]; exact Bool.false_ne_true
  cases k <;> exact if_neg may

section
variable (on : d.hubOff = false) (up : (d.port n).linkUp = true)
include on up

theorem port_up : ¬(d.hubOff || !(d.port n).linkUp) = true := by rw [on, up]; exact Bool.false_ne_true

theorem hostUnsupportedRequest_atomic : hostUnsupportedRequest n BadAccess.atomic.code a r d = d.unsupportedReq n true none :=
  (if_neg (port_up on up)).trans rfl

section
variable (calm : d.flt.grave = false)
include calm

theorem hostUnsupportedRequest_doorbell (page : a / 4096 < 1024) (other : d.sliceState (a / 4096) = 0 ∨ d.slicePort (a / 4096) ≠ n) :
    hostUnsupportedRequest n BadAccess.doorbell.code a r d = d.unsupportedReq n r (some ((d.port n).ext.bar2 + a)) :=
  (if_neg (port_up on up)).trans ((if_pos rfl).trans ((if_neg (by omega)).trans ((if_neg (by rw [calm]; exact Bool.false_ne_true)).trans (if_pos other))))

theorem hostUnsupportedRequest_window (none : d.winAt n a 1 = none) :
    hostUnsupportedRequest n BadAccess.window.code a r d = d.unsupportedReq n r (some ((d.port n).ext.bar4 + a)) :=
  (if_neg (port_up on up)).trans ((if_neg (by decide)).trans ((if_pos rfl).trans (if_neg (by rw [calm, none]; simp))))

end

end

end

/-! ### A slice's writes and reads -/

section
variable {d : Dev} {t addr : Nat} {b : List Byte} {rx ns : Bool}

/-- A write that fits one request. -/
theorem Dev.writeMsgs_fits (small : b.length ≤ (d.port (d.slicePort t)).maxPayload) (page : addr % 4096 + b.length ≤ 4096) :
    d.writeMsgs t rx ns addr b = [.hostWrite (d.slicePort t) t (d.pasidOf t) (rx && (d.port (d.slicePort t)).relaxedEn)
      (ns && (d.port (d.slicePort t)).noSnoopEn) (d.port (d.slicePort t)).idoEn addr b] := by
  rw [Dev.writeMsgs, reqPieces_fits (Nat.le_min.2 ⟨small, by omega⟩)]
  simp

theorem Dev.hostWrite_stale {k : Nat} (old : k ≠ d.sliceInstar t) : d.hostWrite t k rx ns addr b = (true, d) :=
  if_pos (by rw [Bool.or_eq_true, bne_iff_ne]; exact .inl old)

variable (free : d.egressBarred t = false)
include free

theorem Dev.hostWrite_own : d.hostWrite t (d.sliceInstar t) rx ns addr b =
    let n := d.slicePort t
    let ms := d.writeMsgs t rx ns addr b
    if d.egressWaits t then (true, d.setPort n { d.port n with held := (d.port n).held ++ ms.map (fun m => { slice := t, instar := d.sliceInstar t, msg := m }) })
    else if d.canIssue n then (true, d.emitAll ms)
    else (false, d.dmaFail n t addr 4) :=
  if_neg (by rw [bne_self_eq_false, free]; exact Bool.false_ne_true)

theorem Dev.hostRead_refused {len : Nat} {why : ReadFor} (open_ : d.egressWaits t = false) (may : d.canIssue (d.slicePort t) = false) :
    d.hostRead t addr len ns why = (false, d.dmaFail (d.slicePort t) t addr 3) :=
  (if_neg (by rw [free]; exact Bool.false_ne_true)).trans (if_pos (by rw [open_, may]; rfl))

end

/-! ### Domains -/

section
variable {d : Dev} {m : Nat}

theorem domainReady_stalled (dormant : d.pwr.mode = 1) (some : d.pwr.stalls.any (fun x => x.domain == m) = true) :
    domainReady m d = (d.pwr.stalls.filter (fun x => x.domain == m)).foldl (fun d x => d.replayStall x)
      { d with pwr := { d.pwr with stalls := d.pwr.stalls.filter (fun x => x.domain != m), awake := d.pwr.awake.set m (d.now + 1) 0 } } := by
  have waits : ¬(d.pwr.stalls.filter (fun x => x.domain == m)).isEmpty = true := by
    rw [List.isEmpty_iff, List.filter_eq_nil_iff]
    intro none
    obtain ⟨x, hx, own⟩ := List.any_eq_true.1 some
    exact none x hx own
  rw [domainReady, if_neg waits]
  dsimp only
  rw [if_pos dormant]

theorem domainIdleOff_awake (dormant : d.pwr.mode = 1) (awake : d.pwr.awake.get m 0 ≠ 0) :
    domainIdleOff m d =
      let e := d.advance (d.pwr.awake.get m 0 - 1 + 10000000)
      { e with pwr := { e.pwr with awake := e.pwr.awake.set m 0 0 } } :=
  if_neg (by rintro (other | off); exacts [other dormant, awake off])

end

/-- Settles O11. -/
theorem requestsReadsAndDomains : Obligations.RequestsReadsAndDomains := by
  refine ⟨fun s on => ⟨fun i slot serial att off len l r at_ issued why => ?_, fun n up => ?_⟩, fun d t addr b rx ns calm named quiet open_ => ?_,
    fun f max a n large fuel => reqPieces_spec max large f a n (fuel.trans (Nat.le_add_right ..)),
    fun s m => ⟨fun dormant some => next_settled (domainReady_stalled dormant some), fun dormant awake => next_settled (domainIdleOff_awake dormant awake)⟩⟩
  · have ordinary : r.why ≠ .mirror := by rw [why]; exact ReadFor.noConfusion
    exact ⟨fun last whole => next_settled ((hostReadCompletion_data on at_ issued ordinary last).trans (Dev.readEnds_payload_whole at_ issued why whole)),
      fun more whole own => next_settled (hostReadCompletion_part on at_ issued ordinary more whole own),
      fun clean => next_settled ((hostReadCompletion_failed on at_ issued (by decide) (by decide)).trans (Dev.readEnds_payload_failed at_ issued why clean)),
      fun timed clean => next_settled (hostCompletionTimeout_payload on at_ issued why clean timed)⟩
  · have same : Fin.ofNat 8 n.val = n := Fin.ext (Nat.mod_eq_of_lt n.isLt)
    have rejects (k : TlpError) := hostTlpError_up on up k
    rw [same] at rejects
    exact ⟨⟨next_settled (rejects .malformed), next_settled (rejects .flowControl), next_settled (rejects .unexpected), next_settled (rejects .receiver),
      next_settled (rejects .badTlp), next_settled (rejects .badDllp), next_settled (rejects .replayTimer), next_settled (rejects .replayRollover)⟩,
      fun a r => next_settled (hostUnsupportedRequest_atomic on up),
      fun a page calm other => ⟨next_settled (hostUnsupportedRequest_doorbell on up calm page other),
        next_settled (hostUnsupportedRequest_doorbell on up calm page other)⟩,
      fun a calm none => ⟨next_settled (hostUnsupportedRequest_window on up calm none), next_settled (hostUnsupportedRequest_window on up calm none)⟩⟩
  · have free : d.egressBarred t = false := by rw [Dev.egressBarred, calm, named, quiet]; rfl
    have own := Dev.hostWrite_own (addr := addr) (b := b) (rx := rx) (ns := ns) free
    intro n p
    have waits (pasid : p.pasidEn = true ∨ d.rd (SLC_PASID_PASID t) = 0) : d.egressWaits t = false := by
      rw [Dev.egressWaits, open_, Bool.false_or, Dev.pasidBarred]
      rcases pasid with on | zero
      · rw [show (d.port (d.slicePort t)).pasidEn = true from on]
        rfl
      · rw [zero]
        exact Bool.and_false _
    have issues (pasid : p.pasidEn = true ∨ d.rd (SLC_PASID_PASID t) = 0) (up : p.linkUp = true) (bme : p.bme = true) :
        d.hostWrite t (d.sliceInstar t) rx ns addr b = (true, d.emitAll (d.writeMsgs t rx ns addr b)) :=
      Dev.hostWrite_issued rfl free (waits pasid) (by rw [Dev.canIssue]; exact Bool.and_eq_true_iff.2 ⟨up, bme⟩)
    refine ⟨fun pasid => ⟨fun up bme page small => ?_, fun up bme => issues pasid up bme, fun down => ⟨?_, fun len why => ?_⟩⟩,
      fun k old => Dev.hostWrite_stale old, fun off some => ?_⟩
    · rw [issues pasid up bme, Dev.writeMsgs_fits small page]
      rfl
    · have shut : d.canIssue n = false := by
        rw [Dev.canIssue, Bool.and_eq_false_iff]
        exact down
      exact own.trans ((if_neg (by rw [waits pasid]; exact Bool.false_ne_true)).trans (if_neg (by rw [shut]; exact Bool.false_ne_true)))
    · refine Dev.hostRead_refused free (waits pasid) ?_
      rw [Dev.canIssue, Bool.and_eq_false_iff]
      exact down
    · have barred : d.egressWaits t = true := by
        have unshown : (d.port (d.slicePort t)).pasidEn = false := off
        rw [Dev.egressWaits, Dev.pasidBarred, unshown, bne_iff_ne.2 some]
        exact Bool.or_true _
      have bare : d.pasidOf t = none := if_neg (by rw [show (d.port (d.slicePort t)).pasidEn = false from off]; exact Bool.false_ne_true)
      refine own.trans ((if_pos barred).trans ?_)
      rw [Dev.writeMsgs, List.map_map, bare]
      rfl

end Sys2Proof.Machine
end

section

/-! PROOFS. CREATE_SLICE (R68, R69, R71, R72, R82, R83, R100, R101). -/

namespace Sys2Proof.Machine
set_option Elab.async false

section
variable {d : Dev} {x : BitVec 512} {t : Nat}

theorem resetField_sliceState : ∀ t : Fin 1024, t.val ≠ 0 → resetField (SLC_STATE_STATE t.val).key = 0 := by decide +kernel

/-- A slice that is not FREE is among the live ones. -/
theorem Dev.mem_liveSlices (low : t < 1024) (live : t = 0 ∨ d.sliceState t ≠ 0) : t ∈ d.liveSlices := by
  rw [Dev.liveSlices, List.mem_cons]
  rcases Nat.eq_zero_or_pos t with zero | pos
  · exact .inl zero
  · have used : d.regs.get (SLC_STATE_STATE t).key 0 ≠ 0 := by
      have used := live.resolve_left (Nat.ne_of_gt pos)
      rwa [Dev.sliceState, Dev.rd, resetField_sliceState ⟨t, low⟩ (Nat.ne_of_gt pos)] at used
    refine .inr (List.mem_filterMap.2 ⟨_, Tab.mem_of_get_ne used, ?_⟩)
    have key : (SLC_STATE_STATE t).key = (0x210000 + 0x100 * t) * 32 := rfl
    dsimp only
    rw [key, if_pos ⟨by omega, by omega, by omega, by omega, Nat.pos_of_ne_zero used⟩]
    exact congrArg some (by omega)

theorem overlap_eq_false {a b c e : Nat} : overlap a b c e = false ↔ e < a ∨ b < c := by
  simp [overlap]
  omega

/-- The queues that an accepted change adds come after those that the slice has. -/
theorem Dev.lastComing_ge (d : Dev) (t : Nat) : d.rd (SLC_QUEUES_LAST t) ≤ d.lastComing t := by
  rw [Dev.lastComing]
  split
  · split
    · exact Nat.le_max_right ..
    · exact le_refl _
  · exact le_refl _

/-- What a descriptor that CREATE_SLICE takes must meet. -/
theorem Dev.createBad_spec (good : d.createBad x = false) :
    darg x 4 2 ≠ 0 ∧ darg x 4 2 ≤ 1023 ∧ d.sliceState (darg x 4 2) = 0 ∧ darg x 8 2 = (d.port (darg x 6 2)).reqId
    ∧ (∀ t ∈ d.liveSlices, ¬(d.slicePort t = darg x 6 2 ∧ d.rd (SLC_BIND_REQ_ID t) = darg x 8 2 ∧ d.rd (SLC_PASID_PASID t) = darg x 0xC 4))
    ∧ (∀ t ∈ d.liveSlices, t ≠ 0 → d.lastComing t < darg x 0x10 2 ∨ darg x 0x12 2 < d.rd (SLC_QUEUES_BASE t))
    ∧ (∀ t ∈ d.liveSlices, t ≠ 0 → d.slicePort t = darg x 6 2 →
        d.rd (SLC_VECTORS_LAST t) < darg x 0x14 2 ∨ darg x 0x16 2 < d.rd (SLC_VECTORS_BASE t)) := by
  simp only [Dev.createBad, Bool.or_eq_false_iff, List.any_eq_false, Bool.not_eq_true, overlap_eq_false, beq_eq_false_iff_ne, bne_eq_false_iff_eq,
    decide_eq_false_iff_not, List.mem_filter, decide_eq_true_eq, Nat.not_lt, Bool.and_eq_false_iff, beq_iff_eq, and_imp] at good
  obtain ⟨⟨⟨⟨⟨⟨⟨⟨⟨⟨⟨⟨⟨⟨some, high⟩, unused⟩, triple⟩, id⟩, _⟩, _⟩, _⟩, queues⟩, _⟩, _⟩, _⟩, vectors⟩, _⟩, _⟩ := good
  exact ⟨some, high, unused, id, fun t live ⟨port, req, pasid⟩ => (triple t live).elim (fun two => two.elim (· port) (· req)) (· pasid), queues, vectors⟩

end

/-- Settles O15. -/
theorem createSliceAssignsDisjointResources : Obligations.CreateSliceAssignsDisjointResources := by
  refine ⟨fun s n ready => ⟨fun bad => next_settled ?_, fun good large => next_settled ?_, fun good fits => next_settled ?_⟩, fun d x good t low live => ?_⟩
  · rw [createSlice, Dev.admin_ready _ ready]
    exact if_pos bad
  · rw [createSlice, Dev.admin_ready _ ready]
    exact (if_neg (by rw [good]; exact Bool.false_ne_true)).trans (if_pos large)
  · rw [createSlice, Dev.admin_ready _ ready]
    exact (if_neg (by rw [good]; exact Bool.false_ne_true)).trans (if_neg (by rw [fits]; exact Bool.false_ne_true))
  · obtain ⟨some, high, unused, id, triple, queues, vectors⟩ := Dev.createBad_spec good
    have mem := Dev.mem_liveSlices low live
    refine ⟨?_, some, high, id, triple t mem, fun own => ?_, vectors t mem⟩
    · rintro rfl
      exact live.elim some (fun used => used unused)
    · exact (queues t mem own).imp_left (d.lastComing_ge t).trans_lt

end Sys2Proof.Machine
end

section

/-! PROOFS. The doorbell page and the states of a queue (R79, R106–R108, R110, R113, R115). -/

namespace Sys2Proof.Machine
set_option Elab.async false

section
variable {d : Dev} {n t v : Nat}

/-- A write of the doorbell page of an open slice, through its own port. -/
theorem Dev.doorbell_open (on : d.hubOff = false) (open_ : d.dbOpen t = true) (own : d.slicePort t = n) (o : Nat) (f : Dev → Dev) :
    d.doorbell n t o f = f d := by
  rw [Dev.dbOpen, Bool.and_eq_true, bne_iff_ne, Bool.not_eq_true'] at open_
  obtain ⟨live, calm⟩ := open_
  exact (if_neg (by rw [on, calm]; exact Bool.false_ne_true)).trans (if_neg (by rintro (free | other); exacts [live free, other own]))

theorem not_dbOpen (open_ : d.dbOpen t = true) : ¬(!d.dbOpen t) = true := by rw [open_]; exact Bool.false_ne_true

/-! ### Nudges -/

/-- A slice whose PASID its port does not enable, or whose requester ID is not its port's, is not served. -/
def Dev.nudgeBarred (d : Dev) (t : Nat) : Bool :=
  (!(d.port (d.slicePort t)).pasidEn && d.rd (SLC_PASID_PASID t) != 0) || d.flag (SLC_STATE_ID_MISMATCH t)

theorem Dev.nudge_free (pasid : (d.port (d.slicePort t)).pasidEn = true ∨ d.rd (SLC_PASID_PASID t) = 0) (id : d.flag (SLC_STATE_ID_MISMATCH t) = false) :
    d.nudgeBarred t = false := by
  rw [Dev.nudgeBarred, id]
  rcases pasid with on | zero
  · rw [on]
    rfl
  · rw [zero]
    simp

theorem dbNudge_active (active : d.pwr.mode = 0) : Dev.nudge (if d.pwr.mode = 1 ∧ d.pwr.req.isNone then d.dormantExit else d) t v = d.nudge t v := by
  rw [if_neg (by rw [active]; simp)]

section
variable (open_ : d.dbOpen t = true)
include open_

theorem Dev.nudge_held (other : d.sliceState t ≠ 1) : d.nudge t v = d.wr (SLC_STATE_NUDGE_HELD t) 1 :=
  (if_neg (not_dbOpen open_)).trans (if_pos other)

variable (serves : d.sliceState t = 1) (free : d.nudgeBarred t = false)
include serves free

theorem Dev.nudge_serves : d.nudge t v =
    if v = 0xFFFFFFFF then d.fetchAll t (fun p d => d.nudgePage t p)
    else if d.rd (SLC_QUEUES_LAST t) - d.rd (SLC_QUEUES_BASE t) < v then d
    else
      let page := (d.queue (d.rd (SLC_QUEUES_BASE t) + v)).recAddr / 4096
      if (d.recordPages t).contains page then d.nudgePage t page else d :=
  (if_neg (not_dbOpen open_)).trans ((if_neg (not_not_intro serves)).trans
    (if_neg (show ¬d.nudgeBarred t = true by rw [free]; exact Bool.false_ne_true)))

theorem Dev.nudge_all : d.nudge t 0xFFFFFFFF = d.fetchAll t (fun p d => d.nudgePage t p) := (Dev.nudge_serves open_ serves free).trans (if_pos rfl)

theorem Dev.nudge_out (one : v ≠ 0xFFFFFFFF) (out : d.rd (SLC_QUEUES_LAST t) - d.rd (SLC_QUEUES_BASE t) < v) : d.nudge t v = d :=
  (Dev.nudge_serves open_ serves free).trans ((if_neg one).trans (if_pos out))

theorem Dev.nudge_one (one : v ≠ 0xFFFFFFFF) (in_ : v ≤ d.rd (SLC_QUEUES_LAST t) - d.rd (SLC_QUEUES_BASE t)) :
    d.nudge t v =
      let page := (d.queue (d.rd (SLC_QUEUES_BASE t) + v)).recAddr / 4096
      if (d.recordPages t).contains page then d.nudgePage t page else d :=
  (Dev.nudge_serves open_ serves free).trans ((if_neg one).trans (if_neg (Nat.not_lt.2 in_)))

end

theorem Dev.recordPages_length (d : Dev) (t : Nat) : (d.recordPages t).length ≤ 128 := List.length_take_le ..

/-! ### DB_QSEL and the configuration -/

section
variable (open_ : d.dbOpen t = true)
include open_

theorem dbQsel_selects (in_ : v % 65536 ≤ d.rd (SLC_QUEUES_LAST t) - d.rd (SLC_QUEUES_BASE t)) :
    dbQsel t v d = d.setSlice t { d.slice t with qsel := v % 65536 } :=
  (if_neg (not_dbOpen open_)).trans (if_neg (Nat.not_lt.2 in_))

theorem dbQsel_range (out : d.rd (SLC_QUEUES_LAST t) - d.rd (SLC_QUEUES_BASE t) < v % 65536) : dbQsel t v d = d.dbErr t 6 :=
  (if_neg (not_dbOpen open_)).trans (if_pos out)

theorem dbConfig_enabled {r : Nat} (enabled : (d.queue (d.selected t)).state ≠ 0) : dbConfig t r v d = d.dbErr t 5 :=
  (if_neg (not_dbOpen open_)).trans (if_pos enabled)

theorem dbConfig_disabled {r : Nat} (disabled : (d.queue (d.selected t)).state = 0) :
    dbConfig t r v d =
      let q := d.selected t
      let c := d.queue q
      if r = 0 ∨ r = 1 then d.setQueue q { c with sqBase := setHalf c.sqBase (r == 1) v }
      else if r = 2 ∨ r = 3 then d.setQueue q { c with cqBase := setHalf c.cqBase (r == 3) v }
      else if r = 4 ∨ r = 5 then d.setQueue q { c with recAddr := setHalf c.recAddr (r == 5) v }
      else if r = 6 then d.setQueue q { c with sqLog2 := bits v 0 5, cqLog2 := bits v 8 5 }
      else if r = 7 then d.setQueue q { c with irqCount := bits v 0 8, irqTime := bits v 8 16 }
      else d.setQueue q { c with vecOff := bits v 0 11, noSnoop := bit v 16 } :=
  (if_neg (not_dbOpen open_)).trans (if_neg (not_not_intro disabled))

/-! ### ENABLE and DISABLE -/

end

/-- The slice's selected queue, once it is enabled (R108). -/
def Dev.enabledQueue (d : Dev) (t : Nat) (c : QCtx) : QCtx :=
  let c' := { c with sqHead := 0, cqTail := 0, phase := true, state := 1, err := 0, sqPi := 0, cqHead := 0, hold := false }
  let gone := d.flag (SLC_STATE_SHRINK_PENDING t) && decide (d.rd (SLC_QUEUES_NEXT_LAST t) < d.selected t)
  { c' with enabledRec := some c.recAddr, fetched := [], armed := false, nudgeAt := 0, rechecked := false,
            limit := if gone then some 0 else none, cqDead := false }

section
variable (open_ : d.dbOpen t = true)
include open_

theorem queueEnable_checked (disabled : (d.queue (d.selected t)).state = 0) (bad : d.enableErr t (d.queue (d.selected t)) ≠ 0) :
    queueEnable t d = d.dbErr t (d.enableErr t (d.queue (d.selected t))) := by
  have may : ¬((!d.dbOpen t) = true ∨ (d.queue (d.selected t)).state = 3) := by rw [open_, disabled]; decide
  exact (if_neg may).trans ((if_neg (not_not_intro disabled)).trans (if_pos bad))

theorem queueEnable_enables (disabled : (d.queue (d.selected t)).state = 0) (good : d.enableErr t (d.queue (d.selected t)) = 0) :
    queueEnable t d = d.setQueue (d.selected t) (d.enabledQueue t (d.queue (d.selected t))) := by
  have may : ¬((!d.dbOpen t) = true ∨ (d.queue (d.selected t)).state = 3) := by rw [open_, disabled]; decide
  exact (if_neg may).trans ((if_neg (not_not_intro disabled)).trans (if_neg (not_not_intro good)))

theorem queueEnable_used (used : (d.queue (d.selected t)).state = 1 ∨ (d.queue (d.selected t)).state = 2) : queueEnable t d = d.dbErr t 5 := by
  have may : ¬((!d.dbOpen t) = true ∨ (d.queue (d.selected t)).state = 3) := by
    rw [open_]
    rcases used with used | used <;> rw [used] <;> decide
  exact (if_neg may).trans (if_pos (by rcases used with used | used <;> rw [used] <;> decide))

theorem queueDisable_stops (state : (d.queue (d.selected t)).state = 1 ∨ (d.queue (d.selected t)).state = 3) :
    queueDisable t d = (d.dropReads (fun r => r.ofQueue (d.selected t))).setQueue (d.selected t)
      { d.queue (d.selected t) with state := 2, fetched := [], reading := false, sgl := none, sglFail := false, sglBusy := false } :=
  if_pos ⟨open_, state⟩

end

theorem queueEnable_halted (halted : (d.queue (d.selected t)).state = 3) : queueEnable t d = d := if_pos (.inr halted)

theorem queueDisable_disabled (disabled : (d.queue (d.selected t)).state = 0) : queueDisable t d = d :=
  if_neg (by rintro ⟨-, state⟩; rw [disabled] at state; revert state; decide)

section
variable {c : QCtx} (active : d.sliceState t = 1)

theorem Dev.enableErr_inactive (other : d.sliceState t ≠ 1) : d.enableErr t c = 7 := if_pos other

include active

theorem Dev.enableErr_size (bad : ¬(1 ≤ c.sqLog2 ∧ c.sqLog2 ≤ 16 ∧ 1 ≤ c.cqLog2 ∧ c.cqLog2 ≤ 16)) : d.enableErr t c = 1 :=
  (if_neg (not_not_intro active)).trans (if_pos (by omega))

variable (sized : 1 ≤ c.sqLog2 ∧ c.sqLog2 ≤ 16 ∧ 1 ≤ c.cqLog2 ∧ c.cqLog2 ≤ 16)
include sized

theorem Dev.enableErr_sized : d.enableErr t c =
    if c.sqBase % 4096 ≠ 0 ∨ c.cqBase % 4096 ≠ 0 ∨ c.recAddr % 8 ≠ 0 then 2
    else if d.rd (SLC_VECTORS_LAST t) < d.rd (SLC_VECTORS_BASE t) + c.vecOff then 3
    else if 16000 < c.irqTime then 4
    else 0 :=
  (if_neg (not_not_intro active)).trans (if_neg (by omega))

theorem Dev.enableErr_align (bad : ¬(c.sqBase % 4096 = 0 ∧ c.cqBase % 4096 = 0 ∧ c.recAddr % 8 = 0)) : d.enableErr t c = 2 :=
  (Dev.enableErr_sized active sized).trans (if_pos (by omega))

variable (aligned : c.sqBase % 4096 = 0 ∧ c.cqBase % 4096 = 0 ∧ c.recAddr % 8 = 0)
include aligned

theorem Dev.enableErr_aligned : d.enableErr t c =
    if d.rd (SLC_VECTORS_LAST t) < d.rd (SLC_VECTORS_BASE t) + c.vecOff then 3 else if 16000 < c.irqTime then 4 else 0 :=
  (Dev.enableErr_sized active sized).trans (if_neg (by omega))

end

end

/-- Settles O19. -/
theorem doorbellPagesAndQueueStates : Obligations.DoorbellPagesAndQueueStates := by
  refine ⟨fun s n u v on open_ own => ?_, fun s n u on open_ own => ?_⟩
  · have page (o : Nat) (f : Dev → Dev) : s.dev.doorbell n.val u.val o f = f s.dev := Dev.doorbell_open on open_ own o f
    refine ⟨?_, fun in_ => next_settled ((page _ _).trans (dbQsel_selects open_ in_)), fun out => next_settled ((page _ _).trans (dbQsel_range open_ out)),
      fun enabled r => next_settled ((page _ _).trans (dbConfig_enabled open_ enabled)), fun disabled => ⟨next_settled ((page _ _).trans (dbConfig_disabled open_ disabled)), 
      next_settled ((page _ _).trans (dbConfig_disabled open_ disabled)), next_settled ((page _ _).trans ((dbConfig_disabled open_ disabled).trans ?_)), next_settled ((page _ _).trans ((dbConfig_disabled open_ disabled).trans ?_))⟩⟩
    · intro active
      have nudges : dbNudge n.val u.val v.toNat s.dev = s.dev.nudge u.val v.toNat := (page _ _).trans (dbNudge_active active)
      have all : dbNudge n.val u.val (0xFFFFFFFF#32).toNat s.dev = s.dev.nudge u.val 0xFFFFFFFF := (page _ _).trans (dbNudge_active active)
      have unlimited (one : v ≠ 0xFFFFFFFF) : v.toNat ≠ 0xFFFFFFFF := fun h => one (BitVec.eq_of_toNat_eq h)
      refine ⟨fun other => next_settled (nudges.trans (Dev.nudge_held open_ other)), fun serves pasid id => ?_⟩
      have free : Dev.nudgeBarred s.dev u.val = false := Dev.nudge_free (own.symm ▸ pasid) id
      refine ⟨next_settled (all.trans (Dev.nudge_all open_ serves free)), Dev.recordPages_length .., fun in_ one => ?_, fun out one => next_settled (nudges.trans ?_)⟩
      · have nudge := nudges.trans (Dev.nudge_one open_ serves free (unlimited one) in_)
        exact ⟨fun holds => next_settled (nudge.trans (if_pos holds)), fun lacks => next_settled (nudge.trans (if_neg (by rw [lacks]; exact Bool.false_ne_true)))⟩
      · exact Dev.nudge_out open_ serves free (unlimited one) out
    · have low : bits v.toNat 0 5 = v.toNat % 32 := by simp [bits]
      exact congrArg (fun x => Dev.setQueue s.dev _ { s.dev.queue _ with sqLog2 := x, cqLog2 := bits v.toNat 8 5 }) low
    · have low : bits v.toNat 0 8 = v.toNat % 256 := by simp [bits]
      exact congrArg (fun x => Dev.setQueue s.dev _ { s.dev.queue _ with irqCount := x, irqTime := bits v.toNat 8 16 }) low
  · have page (f : Dev → Dev) : s.dev.doorbell n.val u.val 0x130 f = f s.dev := Dev.doorbell_open on open_ own 0x130 f
    intro d q c sized aligned vector fails
    have failsWith {e : Nat} (h : d.enableErr u.val c = e) (some : e ≠ 0) (disabled : c.state = 0) : fails e := by
      refine next_settled ((page _).trans ((queueEnable_checked open_ disabled (by rw [h]; exact some)).trans ?_))
      rw [h]
      rfl
    refine ⟨fun disabled other => failsWith (Dev.enableErr_inactive other) (by decide) disabled,
      fun disabled active bad => failsWith (Dev.enableErr_size active bad) (by decide) disabled,
      fun disabled active size bad => failsWith (Dev.enableErr_align active size bad) (by decide) disabled,
      fun disabled active size align bad => failsWith ((Dev.enableErr_aligned active size align).trans (if_pos (Nat.not_le.1 bad))) (by decide) disabled,
      fun disabled active size align vec late => failsWith ((Dev.enableErr_aligned active size align).trans ((if_neg (Nat.not_lt.2 vec)).trans (if_pos late)))
        (by decide) disabled,
      fun disabled active size align vec soon => ?_, fun used => next_settled ((page _).trans (queueEnable_used open_ used)),
      fun halted => next_settled ((page _).trans (queueEnable_halted halted)), fun state => next_settled ((page _).trans (queueDisable_stops open_ state)),
      fun disabled => next_settled ((page _).trans (queueDisable_disabled disabled)), fun x state idle => next_settled (if_pos ⟨state, idle⟩)⟩
    have good := (Dev.enableErr_aligned active size align).trans ((if_neg (Nat.not_lt.2 vec)).trans (if_neg (Nat.not_lt.2 soon)))
    exact ⟨d.enabledQueue u.val c, rfl, rfl, rfl, rfl, rfl, rfl, rfl, rfl, rfl, rfl, rfl, next_settled ((page _).trans (queueEnable_enables open_ disabled good))⟩

end Sys2Proof.Machine
end

section

/-! PROOFS. What ring reads bring, halted queues, and the completion sequencer (R85, R114, R115, R118, R120, R126, R127, R215, R243–R245, R257). -/

namespace Sys2Proof.Machine
set_option Elab.async false

/-! ### Where the queues' records stand -/

/-- Every queue's record stands in `e` where it does in `d`. -/
structure Dev.SameRecords (d e : Dev) : Prop where
  recAddr : ∀ q, (e.queue q).recAddr = (d.queue q).recAddr

section
variable {d e x : Dev}

/-- A queue's record stored, and its interrupt fired where the record asks for one. -/
def Dev.recordTaken (d : Dev) (q : Nat) (w : BitVec 64) : Dev :=
  let c := d.queue q
  let d := d.setQueue q { c with sqPi := bits w.toNat 0 32, cqHead := bits w.toNat 32 16, hold := bit w.toNat 48 }
  if bit w.toNat 49 && c.coalCount != 0 && c.irqCount != 0 then d.fireIrq q else d

/-- A queue whose event-index entry is about to be written. -/
def Dev.eventShown (d : Dev) (q at_ : Nat) (armed : Bool) : Dev := d.setQueue q { d.queue q with nudgeAt := at_, armed := armed }

theorem Dev.writeEvent_eq (d : Dev) (q at_ : Nat) (armed : Bool) :
    d.writeEvent q at_ armed =
      ((d.eventShown q at_ armed).hostWrite (d.queueSlice q) ((d.eventShown q at_ armed).sliceInstar (d.queueSlice q)) false false
        ((d.queue q).recAddr + 4096)
        (leBytes 4 at_ ++ leBytes 1 (b2n armed) ++ leBytes 1 ((d.eventShown q at_ armed).sliceInstar (d.queueSlice q)) ++ leBytes 2 0)).2 := rfl

/-- How far ahead of SQ_HEAD a record shows SQ_PI. -/
def QCtx.aheadBy (c : QCtx) (w : BitVec 64) : Nat := (bits w.toNat 0 32 + 2 ^ 32 - c.sqHead) % 2 ^ 32

theorem Dev.takeRecord_eq (d : Dev) (q : Nat) (w : BitVec 64) (recheck : Bool) :
    d.takeRecord q w recheck =
      let c := d.queue q
      let d := d.recordTaken q w
      if 2 ^ c.sqLog2 < c.aheadBy w then d.haltQueue q 8 5 c.recAddr stInvalid (bits w.toNat 0 32)
      else if c.aheadBy w ≠ 0 then Dev.readMore (if recheck && c.armed then d.writeEvent q c.nudgeAt false else d) q
      else if recheck then d else d.consumed q := rfl

theorem Dev.SameRecords.refl (d : Dev) : d.SameRecords d := ⟨fun _ => rfl⟩

section
variable (h : d.SameRecords e)
include h

theorem Dev.SameRecords.queues (same : x.queues = e.queues) : d.SameRecords x := ⟨fun q => by rw [Dev.queue, same]; exact h.recAddr q⟩

theorem Dev.SameRecords.setQueue {q : Nat} {c : QCtx} (same : c.recAddr = (e.queue q).recAddr) : d.SameRecords (e.setQueue q c) := by
  refine ⟨fun k => ?_⟩
  by_cases own : k = q
  · rw [own, Dev.queue_setQueue, same, h.recAddr]
  · rw [Dev.queue_setQueue_ne _ _ own, h.recAddr]

theorem Dev.SameRecords.reports (same : e.Reports x) : d.SameRecords x := h.queues same.queues

theorem Dev.SameRecords.hostWrite (t k : Nat) (rx ns : Bool) (addr : Nat) (b : List Byte) : d.SameRecords (e.hostWrite t k rx ns addr b).2 := by
  rcases e.hostWrite_cases t k rx ns addr b with eq | ⟨-, p, eq⟩ | ⟨-, eq⟩ | ⟨-, eq⟩ <;> rw [eq]
  · exact h
  · exact h.queues rfl
  · exact h.queues (by rw [Dev.emitAll_frame])
  · exact h.reports ((Dev.Reports.refl e).dmaFail (e.slicePort t) t addr 4)

theorem Dev.SameRecords.hostRead (t addr len : Nat) (ns : Bool) (why : ReadFor) : d.SameRecords (e.hostRead t addr len ns why).2 := by
  simp only [Dev.hostRead]
  split
  · split
    · exact h.queues rfl
    · exact h
  · split
    · exact h.reports ((Dev.Reports.refl e).dmaFail (e.slicePort t) t addr 3)
    · split
      · exact h.queues rfl
      · refine h.queues ?_
        rw [Dev.readGo_frame]

theorem Dev.SameRecords.haltQueue (q err src addr st res : Nat) : d.SameRecords (e.haltQueue q err src addr st res) := by
  simp only [Dev.haltQueue]
  have halted : d.SameRecords (e.setQueue q { e.queue q with state := 3, err := err }) := h.setQueue rfl
  exact (halted.reports ((Dev.Reports.refl _).fault _)).queues rfl

theorem Dev.SameRecords.recordFault (n t page : Nat) : d.SameRecords (e.recordFault n t page) := by
  simp only [Dev.recordFault]
  split
  · exact h.reports ((Dev.Reports.refl e).fault _)
  · exact h.reports ((Dev.Reports.refl e).faultFree ..)

theorem Dev.SameRecords.fetchPage (t page : Nat) (b : Bool) : d.SameRecords (e.fetchPage t page b) := by
  have read := h.hostRead t (page * 4096) 4096 false (.record t page b)
  simp only [Dev.fetchPage]
  split <;> rename_i made <;> rw [made] at read
  · exact read
  · exact read.recordFault ..

theorem Dev.SameRecords.writeEvent (q at_ : Nat) (armed : Bool) : d.SameRecords (e.writeEvent q at_ armed) := by
  have shown : d.SameRecords (e.eventShown q at_ armed) := h.setQueue rfl
  rw [Dev.writeEvent_eq]
  exact shown.hostWrite _ _ _ _ _ _

theorem Dev.SameRecords.consumed (q : Nat) : d.SameRecords (e.consumed q) := by
  simp only [Dev.consumed]
  split
  · exact h
  · split
    · exact h.writeEvent ..
    · split
      · exact h
      · have event := h.writeEvent q (e.queue q).sqHead true
        generalize e.writeEvent q (e.queue q).sqHead true = x at event ⊢
        have marked : d.SameRecords (x.setQueue q { x.queue q with rechecked := true }) := event.setQueue rfl
        exact marked.fetchPage _ _ _

theorem Dev.SameRecords.readMore (q : Nat) : d.SameRecords (e.readMore q) := by
  unfold Dev.readMore
  extract_lets c t n pi ahead slot k
  split
  · exact h
  · have read := h.hostRead t (c.sqBase + 64 * slot) (64 * k) false (.desc q k)
    split <;> rename_i made <;> rw [made] at read
    · exact read.setQueue rfl
    · exact read.haltQueue ..

theorem Dev.SameRecords.fireIrq (q : Nat) : d.SameRecords (e.fireIrq q) := by
  have cleared : d.SameRecords (e.setQueue q { e.queue q with coalCount := 0, coalStart := 0 }) := h.setQueue rfl
  simp only [Dev.fireIrq]
  refine cleared.queues ?_
  rw [Dev.msix_frame]

theorem Dev.SameRecords.recordTaken (q : Nat) (w : BitVec 64) : d.SameRecords (e.recordTaken q w) := by
  have stored : d.SameRecords (e.setQueue q { e.queue q with sqPi := bits w.toNat 0 32, cqHead := bits w.toNat 32 16, hold := bit w.toNat 48 }) :=
    h.setQueue rfl
  rw [Dev.recordTaken]
  split
  · exact stored.fireIrq q
  · exact stored

theorem Dev.SameRecords.takeRecord (q : Nat) (w : BitVec 64) (b : Bool) : d.SameRecords (e.takeRecord q w b) := by
  have taken := h.recordTaken q w
  rw [Dev.takeRecord_eq]
  dsimp only
  split
  · exact taken.haltQueue ..
  · split
    · split
      · exact (taken.writeEvent ..).readMore q
      · exact taken.readMore q
    · split
      · exact taken
      · exact taken.consumed q

end

/-- The records of a page are taken from where they stood when it was read. -/
theorem Dev.takeRecords_same (qs : List Nat) : ∀ {e : Dev}, d.SameRecords e → ∀ (l : List (BitVec 64)) (b : Bool),
    qs.foldl (fun e q => e.takeRecord q (l.getD ((e.queue q).recAddr % 4096 / 8) 0) b) e
      = qs.foldl (fun e q => e.takeRecord q (l.getD ((d.queue q).recAddr % 4096 / 8) 0) b) e := by
  induction qs with
  | nil =>
    intro e h l b
    rw [List.foldl_nil, List.foldl_nil]
  | cons q qs ih =>
    intro e h l b
    rw [List.foldl_cons, List.foldl_cons, h.recAddr q]
    exact ih (h.takeRecord q (l.getD ((d.queue q).recAddr % 4096 / 8) 0) b) l b

end

/-! ### Reads of records, descriptors and scatter lists -/

section
variable {d : Dev} {i q k t g : Nat} {r : HRead}

theorem Dev.recordEnds_own {b : Bool} {l : List (BitVec 64)} (own : r.instar = (d.endRead i).sliceInstar t) :
    d.recordEnds i r t g b (some l) =
      let d := d.endRead i
      ((d.sliceQueues t).filter (fun q => (d.queue q).state == 1 && (d.queue q).recAddr / 4096 == g)).foldl
        (fun e q => e.takeRecord q (l.getD ((d.queue q).recAddr % 4096 / 8) 0) b) d := by
  unfold Dev.recordEnds
  dsimp only
  exact (if_neg (not_not_intro own)).trans (Dev.takeRecords_same _ (.refl _) l b)

theorem Dev.setQueue_setQueue (d : Dev) (q : Nat) (c c' : QCtx) : (d.setQueue q c).setQueue q c' = d.setQueue q c' :=
  congrArg (fun t => { d with queues := t }) (Tab.set_set ..)

theorem Dev.descEnds_data {l : List (BitVec 512)} (own : r.instar = (d.endRead i).sliceInstar r.slice) (slice : (d.endRead i).queueSlice q = r.slice)
    (enabled : ((d.endRead i).queue q).state = 1) :
    d.descEnds i r q k (some l) = (d.endRead i).setQueue q { (d.endRead i).queue q with reading := false, fetched := l.take k } := by
  refine (if_neg ?_).trans ((if_neg (not_not_intro enabled)).trans ?_)
  · rintro (other | other)
    exacts [other own, other slice]
  · dsimp only
    rw [Dev.queue_setQueue, Dev.setQueue_setQueue]
    rfl

theorem Dev.descEnds_failed (ecc : r.ecc = false) (own : r.instar = ((d.endRead i).dmaFail r.port r.slice r.addr 3).sliceInstar r.slice)
    (slice : ((d.endRead i).dmaFail r.port r.slice r.addr 3).queueSlice q = r.slice)
    (enabled : (((d.endRead i).dmaFail r.port r.slice r.addr 3).queue q).state = 1) :
    d.descEnds i r q k none =
      let f := (d.endRead i).dmaFail r.port r.slice r.addr 3
      (f.setQueue q { f.queue q with reading := false }).haltQueue q 9 3 r.addr 0x20 0 := by
  have captured : (d.endRead i).failedRead r (none : Option (List (BitVec 512))).isNone = (d.endRead i).dmaFail r.port r.slice r.addr 3 :=
    (if_pos rfl).trans (if_neg (by rw [ecc]; exact Bool.false_ne_true))
  rw [Dev.descEnds, captured]
  refine (if_neg ?_).trans (if_neg (not_not_intro enabled))
  rintro (other | other)
  exacts [other own, other slice]

theorem Dev.sglEnds_data {l : List Byte} {x : BitVec 512} {rest : List (BitVec 512)} (own : r.instar = (d.endRead i).sliceInstar r.slice)
    (slice : (d.endRead i).queueSlice q = r.slice) (busy : ((d.endRead i).queue q).sglBusy = true) (head : ((d.endRead i).queue q).fetched = x :: rest) :
    d.sglEnds i r q (some l) = descriptorAccept q ((d.endRead i).setQueue q { (d.endRead i).queue q with
      sglBusy := false, sgl := some (sglEntries (dSglCount x % 65536) l) }) := by
  refine (if_neg ?_).trans ?_
  · rintro (other | other | idle)
    exacts [other own, other slice, idle busy]
  · dsimp only [Dev.failedRead, Option.isNone]
    simp only [Bool.false_eq_true, if_false, head]

end

/-! ### A halted queue -/

section
variable (d : Dev) (q : Nat)

/-- A fault of the slice unit that is not grave leaves the slices' registers as they are. -/
theorem Dev.sliceInstar_fault {v : FEv} (unit : v.unit = .slc) (named : v.src < 16) (lesser : ∀ x, faultSrc v.unit v.src = some x → x.cls ≠ 3) (t : Nat) :
    (d.fault v).sliceInstar t = d.sliceInstar t := by
  refine (Dev.fault_sameOutside named (fun c mem => ?_) lesser).rd _ fun g own => ?_
  · rw [unit] at mem
    cases mem
  · obtain ⟨low, high, lo⟩ := own
    rw [unit] at low high
    simp only [SLC_STATE_INSTAR, SLC_STATE, Fld.key, unitBase] at low high ⊢
    omega

/-- A queue halted by an overrun. -/
def Dev.overran (d : Dev) (q : Nat) : Dev := d.setQueue q { d.queue q with state := 3, err := 8 }

/-- The fault that tells of it. -/
def Dev.overrun (d : Dev) (q addr : Nat) : FEv :=
  { unit := .slc, src := 5, access := 3, addr := addr, port := some ((d.overran q).slicePort (d.queueSlice q)), slice := some (d.queueSlice q), detail := q }

variable (addr st res : Nat)

theorem Dev.haltQueue_overrun : d.haltQueue q 8 5 addr st res =
    let e := (d.overran q).fault (d.overrun q addr)
    { e with seqQ := e.seqQ ++ [.queueReport q (d.queueSlice q) (e.sliceInstar (d.queueSlice q)) 0xFFFF st res true] } := rfl

theorem Dev.overrun_reports : (d.overran q).Reports ((d.overran q).fault (d.overrun q addr)) := (Dev.Reports.refl _).fault _

theorem Dev.haltQueue_queue : ((d.haltQueue q 8 5 addr st res).queue q).state = 3 ∧ ((d.haltQueue q 8 5 addr st res).queue q).err = 8 := by
  have halted : (d.haltQueue q 8 5 addr st res).queue q = { d.queue q with state := 3, err := 8 } := by
    rw [Dev.haltQueue_overrun]
    dsimp only
    rw [Dev.queue, (d.overrun_reports q addr).queues]
    exact Dev.queue_setQueue ..
  rw [halted]
  exact ⟨rfl, rfl⟩

theorem Dev.haltQueue_seqQ : (d.haltQueue q 8 5 addr st res).seqQ
    = d.seqQ ++ [.queueReport q (d.queueSlice q) (d.sliceInstar (d.queueSlice q)) 0xFFFF st res true] := by
  rw [Dev.haltQueue_overrun]
  dsimp only
  rw [(d.overrun_reports q addr).seqQ, Dev.sliceInstar_fault (d.overran q) rfl (show 5 < 16 by decide)]
  · rfl
  · intro x known
    rw [← Option.some.inj known]
    decide

theorem Dev.haltQueue_jnl : (d.haltQueue q 8 5 addr st res).jnl = d.jnl := by
  rw [Dev.haltQueue_overrun]
  exact (d.overrun_reports q addr).jnl

end

/-- What an interrupt fired leaves as it is. -/
theorem Dev.fireIrq_kept (d : Dev) (q : Nat) : (d.fireIrq q).regs = d.regs ∧ (d.fireIrq q).jnl = d.jnl := by
  simp only [Dev.fireIrq]
  rw [Dev.msix_frame]
  exact ⟨rfl, rfl⟩

theorem Dev.recordTaken_kept (d : Dev) (q : Nat) (w : BitVec 64) : (d.recordTaken q w).regs = d.regs ∧ (d.recordTaken q w).jnl = d.jnl := by
  simp only [Dev.recordTaken]
  split
  · exact Dev.fireIrq_kept ..
  · exact ⟨rfl, rfl⟩

theorem Dev.takeRecord_overrun (d : Dev) (q : Nat) (w : BitVec 64) (b : Bool)
    (far : 2 ^ (d.queue q).sqLog2 < (w.toNat % 2 ^ 32 + 2 ^ 32 - (d.queue q).sqHead) % 2 ^ 32) :
    d.takeRecord q w b = (d.recordTaken q w).haltQueue q 8 5 (d.queue q).recAddr stInvalid (w.toNat % 2 ^ 32) := by
  have pi : bits w.toNat 0 32 = w.toNat % 2 ^ 32 := by simp [bits]
  rw [Dev.takeRecord_eq]
  refine (if_pos ?_).trans ?_
  · rw [QCtx.aheadBy, pi]
    exact far
  · rw [pi]

/-- Which slice has a queue stands in the registers. -/
theorem Dev.queueSlice_congr {d e : Dev} (h : e.regs = d.regs) (q : Nat) : e.queueSlice q = d.queueSlice q := by
  have live : e.liveSlices = d.liveSlices := by rw [Dev.liveSlices, h, Dev.liveSlices]
  have read (f : Fld) : e.rd f = d.rd f := Dev.rd_congr h f
  rw [Dev.queueSlice, live, Dev.queueSlice]
  simp only [read]

/-! ### The completion sequencer -/

section
variable {d : Dev} {n q k : Nat} {l : List SeqReq}

theorem completionSequence_first {r : SeqReq} (queue : d.seqQ = r :: l) (calm : d.flt.grave = false) :
    completionSequence d = Dev.sequence { d with seqQ := l } r := by
  rw [completionSequence, queue]
  exact if_neg (by rw [calm]; exact Bool.false_ne_true)

section
variable (ends : (d.entry n).state = 7)
include ends

theorem Dev.sequence_stale (stale : (d.entry n).instar ≠ d.sliceInstar (d.entry n).slice) : d.sequence (.done n) = d.discard n :=
  (if_neg (by rw [ends]; decide)).trans (if_pos (bne_iff_ne.2 stale))

theorem Dev.sequence_own (own : (d.entry n).instar = d.sliceInstar (d.entry n).slice) : d.sequence (.done n) = d.deliver n :=
  (if_neg (by rw [ends]; decide)).trans (if_neg (by rw [own, bne_self_eq_false]; exact Bool.false_ne_true))

end

/-- The completion entry of an item, written. -/
def Dev.entryWritten (d : Dev) (n : Nat) : Dev :=
  let e := d.entry n
  d.writeCq e.queue (dCid e.desc) e.status e.result e.resultHi e.instar (!dNoIrq e.desc)

/-- An entry that left at once: the item is delivered. -/
theorem Dev.deliver_left
    (left : ((d.entryWritten n).port (d.slicePort (d.entry n).slice)).held[(d.port (d.slicePort (d.entry n).slice)).held.length]? = none) :
    d.deliver n = (d.entryWritten n).delivered n := by
  have left' := left
  simp only [Dev.entryWritten] at left'
  simp only [Dev.deliver, left']
  rfl

/-- An entry that waits at host egress: what is held names the item. -/
theorem Dev.deliver_held {h : Held}
    (held : ((d.entryWritten n).port (d.slicePort (d.entry n).slice)).held[(d.port (d.slicePort (d.entry n).slice)).held.length]? = some h) :
    d.deliver n =
      let f := d.entryWritten n
      let p := d.slicePort (d.entry n).slice
      f.setPort p { f.port p with held := (f.port p).held.set (d.port p).held.length { h with entry := some (n, (d.entry n).serial) } } := by
  have held' := held
  simp only [Dev.entryWritten] at held'
  simp only [Dev.deliver, held']
  rfl

theorem Dev.sequence_report_old {t cid st res : Nat} {irq : Bool} (old : k ≠ d.sliceInstar t) : d.sequence (.queueReport q t k cid st res irq) = d :=
  if_pos (by rw [Bool.or_eq_true, bne_iff_ne]; exact .inl old)

theorem Dev.sequence_report {t cid st res : Nat} {irq : Bool} (own : k = d.sliceInstar t) (slice : d.queueSlice q = t) :
    d.sequence (.queueReport q t k cid st res irq) = d.writeCq q cid st res 0 k irq :=
  if_neg (by rw [own, slice, bne_self_eq_false, bne_self_eq_false]; exact Bool.false_ne_true)

section
variable {a t y : Nat} (live : (d.entry a).state ≠ 0) (own : (d.entry a).instar = d.sliceInstar (d.entry a).slice)
include live own

theorem Dev.sequence_abort : d.sequence (.abort a t y) =
    if d.live t && (d.entry t).serial == y && !d.passed t then d.abortWins a t else d.complete a 0x2 0 0 :=
  (if_neg live).trans (if_neg (by rw [own, bne_self_eq_false]; exact Bool.false_ne_true))

theorem Dev.sequence_abort_late (late : d.live t = false ∨ (d.entry t).serial ≠ y ∨ d.passed t = true) :
    d.sequence (.abort a t y) = d.complete a 0x2 0 0 := by
  refine (Dev.sequence_abort live own).trans (if_neg ?_)
  rw [Bool.and_eq_true, Bool.and_eq_true, beq_iff_eq, Bool.not_eq_true']
  rintro ⟨⟨lives, serial⟩, open_⟩
  rcases late with gone | other | passed
  · exact Bool.false_ne_true (gone.symm.trans lives)
  · exact other serial
  · exact Bool.false_ne_true (open_.symm.trans passed)

theorem Dev.sequence_abort_wins (lives : d.live t = true) (serial : (d.entry t).serial = y) (open_ : d.passed t = false) :
    d.sequence (.abort a t y) = d.abortWins a t :=
  (Dev.sequence_abort live own).trans (if_pos (by rw [lives, serial, open_, beq_self_eq_true]; rfl))

end

/-! ### Coalescing, FENCE and ABORT -/

theorem coalesceTimer_counting (count : (d.queue q).coalCount ≠ 0) (time : (d.queue q).irqTime ≠ 0) (some : (d.queue q).irqCount ≠ 0) :
    coalesceTimer q d = (d.advance ((d.queue q).coalStart + 1000 * (d.queue q).irqTime)).fireIrq q :=
  if_neg (by rintro (h | h | h); exacts [count h, time h, some h])

section
variable (waits : (d.entry n).state = 1) (may : d.mayStart n = true)
include waits may

theorem fence_starts (op : dOpcode (d.entry n).desc = 6) : fence n d = d.complete n 0 0 0 := if_pos ⟨op, .inl waits, may⟩

theorem abort_without (op : dOpcode (d.entry n).desc = 7) (none : d.abortTarget n = none) : abort n d = d.complete n 0x2 0 0 := by
  rw [abort]
  refine (if_pos ⟨op, waits, may⟩).trans ?_
  rw [none]
  rfl

theorem abort_asks {t : Nat} (op : dOpcode (d.entry n).desc = 7) (target : d.abortTarget n = some t) :
    abort n d = { (d.setEntry n { d.entry n with state := 2 }) with seqQ := d.seqQ ++ [.abort n t (d.entry t).serial] } := by
  rw [abort]
  refine (if_pos ⟨op, waits, may⟩).trans ?_
  rw [target]

end

end

/-- A descriptor read of the queue that is found ends with its data. -/
theorem descriptorReadDone_found {d : Dev} {q i k : Nat} {r : HRead} (at_ : d.reads[i]? = some r) (why : r.why = .desc q k)
    (found : d.findRead (fun x => match x.why with | .desc y _ => y == q | _ => false) = some i) (data : Option (List (BitVec 512))) :
    descriptorReadDone q data d = d.descEnds i r q k data := by
  rw [descriptorReadDone]
  split
  case h_1 none_ => exact absurd (none_.symm.trans found) (Option.some_ne_none i).symm
  case h_2 j first =>
    obtain rfl : j = i := Option.some.inj (first.symm.trans found)
    simp only [at_, why]

/-- Settles O20. -/
theorem ringReadsHaltsAndCompletions : Obligations.RingReadsHaltsAndCompletions := by
  refine ⟨fun s i r at_ => ?_, fun d q w b far => ?_, fun s => ⟨fun n l queue calm ends => ?_, fun q t k cid st res irq l queue calm => ?_,
    fun a t y l queue calm live => ?_, fun q count time some => next_settled (coalesceTimer_counting count time some),
    fun n waits may => ⟨fun op => next_settled (fence_starts waits may op), fun op => ⟨fun none => next_settled (abort_without waits may op none),
      fun t target => next_settled (abort_asks waits may op target)⟩⟩⟩⟩
  · intro d own ecc
    refine ⟨fun u g b l why slice found => ?_, fun q k why enabled slice found => ?_, fun q l x t why slice found busy head last => ?_⟩
    · have place : (r.why == .record u.val g.toNat true) = b := by
        rw [why]
        cases b <;> simp
      have ends : recordFetchDone u.val g.toNat (some l) s.dev = s.dev.recordEnds i r u.val g.toNat b (some l) := by
        simp only [recordFetchDone, found, at_, place]
      exact next_settled (ends.trans (Dev.recordEnds_own (own.trans (congrArg d.sliceInstar slice))))
    · have ends (data : Option (List (BitVec 512))) : descriptorReadDone q.val data s.dev = s.dev.descEnds i r q.val k data :=
        descriptorReadDone_found at_ why found data
      exact ⟨fun l => next_settled ((ends _).trans (Dev.descEnds_data own slice enabled)),
        fun own' enabled' slice' => next_settled ((ends _).trans (Dev.descEnds_failed ecc own' slice' enabled'))⟩
    · have ends : sglReadDone q.val (some l) s.dev = s.dev.sglEnds i r q.val (some (r.got ++ l)) := by
        simp only [sglReadDone, found, at_, Dev.readBrings, last, if_true]
      exact next_settled (ends.trans (Dev.sglEnds_data own slice busy head))
  · obtain ⟨regs, jnl⟩ := d.recordTaken_kept q w
    rw [Dev.takeRecord_overrun d q w b far]
    generalize d.recordTaken q w = e at regs jnl ⊢
    have slice := Dev.queueSlice_congr regs q
    obtain ⟨state, err⟩ := e.haltQueue_queue q (d.queue q).recAddr stInvalid (w.toNat % 2 ^ 32)
    refine ⟨state, err, ⟨e.seqQ, ?_⟩, (e.haltQueue_jnl q (d.queue q).recAddr stInvalid (w.toNat % 2 ^ 32)).trans jnl⟩
    rw [Dev.haltQueue_seqQ, slice, show e.sliceInstar (d.queueSlice q) = d.sliceInstar (d.queueSlice q) from Dev.rd_congr regs _]
    rfl
  · intro e d
    have first : completionSequence s.dev = d.sequence (.done n) := completionSequence_first queue calm
    refine ⟨fun stale => next_settled (first.trans (Dev.sequence_stale (d := d) ends stale)), fun own => ⟨fun left => ?_, fun h held => ?_⟩⟩
    · exact next_settled (first.trans ((Dev.sequence_own (d := d) ends own).trans (Dev.deliver_left left)))
    · exact next_settled (first.trans ((Dev.sequence_own (d := d) ends own).trans (Dev.deliver_held held)))
  · have first := completionSequence_first queue calm
    exact ⟨fun old => next_settled (first.trans (Dev.sequence_report_old old)), fun own slice => next_settled (first.trans (Dev.sequence_report own slice))⟩
  · intro e d own
    have first := completionSequence_first queue calm
    have late (h : d.live t = false ∨ (d.entry t).serial ≠ y ∨ d.passed t = true) := next_settled (s := s) (first.trans (Dev.sequence_abort_late live own h))
    exact ⟨fun gone => late (.inl gone), fun other => late (.inr (.inl other)), fun passed => late (.inr (.inr passed)),
      fun lives serial open_ => next_settled (first.trans (Dev.sequence_abort_wins live own lives serial open_))⟩

end Sys2Proof.Machine
end

section

/-! PROOFS. What an event that is not grave changes (R450–R459): registers, the event controller, captures, ports, swaps' records
and messages; neither the pacer nor the power controller, and not GRAVE. -/

namespace Sys2Proof.Machine
set_option Elab.async false

/-- `e` differs from `d` only in what an event that is not grave can change. -/
structure Dev.Noted (d e : Dev) : Prop where
  eq : e = { d with regs := e.regs, out := e.out, evc := e.evc, flt := e.flt, ports := e.ports, mgt := e.mgt, fresh := e.fresh }
  grave : e.flt.grave = d.flt.grave

namespace Dev.Noted

variable {d e x : Dev}

theorem refl (d : Dev) : d.Noted d := ⟨rfl, rfl⟩

section
variable (h : d.Noted e)
include h

theorem trans (h' : e.Noted x) : d.Noted x := ⟨h'.eq.trans (by rw [h.eq]), h'.grave.trans h.grave⟩

theorem wr (f : Fld) (v : Nat) : d.Noted (e.wr f v) := h.trans ⟨rfl, rfl⟩

theorem wrs (l : List (Fld × Nat)) : d.Noted (e.wrs l) := h.trans ⟨by rw [Dev.wrs_regs_only], by rw [Dev.wrs_regs_only]⟩

theorem emit (m : OutMsg) : d.Noted (e.emit m) := h.trans ⟨rfl, rfl⟩

theorem setFlt {y : Flt} (same : y.grave = e.flt.grave) : d.Noted { e with flt := y } := h.trans ⟨rfl, same⟩

theorem setMgt (y : Mgmt) : d.Noted { e with mgt := y } := h.trans ⟨rfl, rfl⟩

theorem free : d.Noted e.free.2 := h.trans ⟨rfl, rfl⟩

theorem sample (s : Nat) : d.Noted (e.sample s) := h.trans ⟨by rw [Dev.sample_frame], by rw [Dev.sample_frame]⟩

theorem history (u : FUnit) (src what cls flags detail addr : Nat) : d.Noted (e.history u src what cls flags detail addr) := by
  refine h.trans ⟨by rw [Dev.history_frame], ?_⟩
  simp only [Dev.history]
  split <;> rfl

theorem captureOpen (v : FEv) (cls : Nat) : d.Noted (e.captureOpen v cls) := by
  simp only [Dev.captureOpen]
  refine Dev.Noted.history ?_ ..
  split
  · exact h.wrs _
  · exact (h.wrs _).wrs _

theorem captureMerge (v : FEv) (cls : Nat) : d.Noted (e.captureMerge v cls) := by
  refine h.trans ⟨by rw [Dev.captureMerge_frame], by rw [Dev.captureMerge_frame]⟩

theorem capture (v : FEv) (cls : Nat) : d.Noted (e.capture v cls) := by
  have counted : d.Noted (e.incSat (FAULT_COUNT_TOTAL v.unit v.src)) := h.wr ..
  simp only [Dev.capture]
  refine Dev.Noted.sample ?_ _
  split
  · exact counted.captureMerge v cls
  · exact counted.captureOpen v cls

theorem countWindow (u : FUnit) (src inst cls : Nat) : d.Noted (e.countWindow u src inst cls).2 := by
  refine h.trans ⟨by rw [Dev.countWindow_frame], ?_⟩
  simp only [Dev.countWindow]
  split <;> split <;> rfl

theorem recordAction (u : FUnit) (code done none src : Nat) : d.Noted (e.recordAction u code done none src) := h.wrs _

theorem escalated (u : FUnit) (src flags detail addr : Nat) : d.Noted (e.escalated u src flags detail addr) :=
  ((h.wr _ _).wr _ _).history ..

theorem lowerSource (u : FUnit) (src : Nat) : d.Noted (e.lowerSource u src) := h.trans ⟨rfl, rfl⟩

theorem actionDone (a : FAct) : d.Noted (e.actionDone a) := (h.wr _ _).history ..

theorem actionBare (a : FAct) : d.Noted (e.actionBare a) := (h.wr _ _).history ..

theorem rowRemap (c : Fin 16) (a : FAct) : d.Noted (e.rowRemap c a) := by
  simp only [Dev.rowRemap]
  split
  · exact (Dev.Noted.recordAction ((h.wr _ _).wr _ _) ..).actionDone a
  · have bare := ((h.recordAction (.mem c) 4 0 0 a.src).actionBare a).capture { unit := .mem c, src := 4, inst := a.inst, detail := a.inst } 1
    have counted := bare.countWindow (.mem c) 4 0 1
    split <;> rename_i window <;> rw [window] at counted
    · exact counted.escalated ..
    · exact counted

theorem escalate (v : FEv) : d.Noted (e.escalate v) := by
  unfold Dev.escalate
  dsimp only
  generalize (if unitFull v.unit = true then v.addr else 0) = addr
  have first := h.escalated v.unit v.src (16 * b2n v.inj) v.detail addr
  generalize e.escalated v.unit v.src (16 * b2n v.inj) v.detail addr = y at first ⊢
  split
  · split
    · exact first.lowerSource _ _
    · split
      · exact first
      · split
        · refine Dev.Noted.rowRemap ?_ _ _
          exact first.trans ⟨rfl, rfl⟩
        · refine Dev.Noted.recordAction ?_ _ _ _ _ _
          exact first.trans ⟨rfl, rfl⟩
  · exact first

theorem countEvent (v : FEv) (cls : Nat) : d.Noted (e.countEvent v cls) := by
  have counted := h.countWindow v.unit v.src v.inst cls
  rw [Dev.countEvent]
  split <;> rename_i window <;> rw [window] at counted
  · exact counted.escalate v
  · exact counted

/-- An error that is not grave. -/
theorem fault (v : FEv) (lesser : ∀ y, faultSrc v.unit v.src = some y → y.cls ≠ 3) : d.Noted (e.fault v) := by
  rw [Dev.fault]
  split
  · exact h
  · next y known =>
    rw [if_neg (lesser y known)]
    have captured := h.capture v y.cls
    dsimp only
    split
    · exact captured
    · exact captured.countEvent v y.cls

theorem faultFree (v : FEv) (b : Bool) (n : Nat) (lesser : ∀ y, faultSrc v.unit v.src = some y → y.cls ≠ 3) : d.Noted (e.faultFree v b n) :=
  (h.free.free).fault _ lesser

theorem jnl : e.jnl = d.jnl := by rw [h.eq]
theorem sch : e.sch = d.sch := by rw [h.eq]
theorem pwr : e.pwr = d.pwr := by rw [h.eq]

end

end Dev.Noted

/-- No error of a slice's queues is grave. -/
theorem faultSrc_slc (n : Nat) : ∀ y, faultSrc .slc n = some y → y.cls ≠ 3 := by
  intro y
  rcases n with _ | _ | _ | _ | _ | _ | _ | _ | _ | _ | n <;> simp only [faultSrc, Option.some.injEq, reduceCtorEq, false_implies] <;> rintro rfl <;> decide

end Sys2Proof.Machine

end

section

/-! PROOFS. Acceptance and rejection of the head descriptor (R121, R122, R146, R252, R254). -/

namespace Sys2Proof.Machine
set_option Elab.async false

/-! ### The checks in their order -/

/-- The head descriptor of a ready queue is judged: the checks before the scatter list, then the list. -/
def Dev.judged (d : Dev) (q : Nat) (x : BitVec 512) : Dev :=
  match d.acceptCheck q x with
  | some st => d.reject q x st
  | none =>
    if dOpcode x ≠ 1 ∧ dOpcode x ≠ 2 then d.accept q x []
    else if (d.queue q).sglFail then d.reject q x stHostDma
    else
      match sglOf x (d.queue q) with
      | some l => d.acceptSgl q x l
      | none =>
        match d.hostRead (d.queueSlice q) (dSglAddr x) (16 * (dSglCount x % 65536)) false (.sgl q) with
        | (true, d) => d.setQueue q { d.queue q with sglBusy := true }
        | (false, d) => d.reject q x stHostDma

section
variable {d : Dev} {q : Nat} {x : BitVec 512} {l : List (BitVec 512)} (head : (d.queue q).fetched = x :: l)
include head

theorem descriptorAccept_noRoom (full : d.acceptRoom q x = false) : descriptorAccept q d = d := by
  simp [descriptorAccept, head, full]

theorem descriptorAccept_judged (on : (d.queue q).state = 1) (idle : (d.queue q).sglBusy = false) (may : d.canFetch (d.queueSlice q) = true)
    (room : d.acceptRoom q x = true) (free : d.switchHolds x = false) : descriptorAccept q d = d.judged q x := by
  simp only [descriptorAccept, head]
  rw [if_neg (by simp [on, idle, may, room, free])]
  rfl

end

section
variable {d : Dev} {q : Nat} {x : BitVec 512}

theorem Dev.judged_refused {st : Nat} (bad : d.acceptCheck q x = some st) : d.judged q x = d.reject q x st := by rw [Dev.judged, bad]

/-- What each check of R121 refuses, the earlier ones passed. -/
theorem Dev.acceptCheck_opcode (other : ¬(1 ≤ dOpcode x ∧ dOpcode x ≤ 7)) (noAdmin : ¬(q = 0 ∧ isAdminOp (dOpcode x) = true)) :
    d.acceptCheck q x = some stInvalid := by
  have unknown : (!(1 ≤ dOpcode x && dOpcode x ≤ 7 || q == 0 && isAdminOp (dOpcode x))) = true := by
    have zeroOrMore : dOpcode x = 0 ∨ 7 < dOpcode x := by omega
    have plain : ¬q = 0 ∨ isAdminOp (dOpcode x) = false := (not_and_or.mp noAdmin).imp_right Bool.eq_false_of_not_eq_true
    simpa using And.intro zeroOrMore plain
  rw [Dev.acceptCheck]
  exact if_pos unknown

variable (known : 1 ≤ dOpcode x ∧ dOpcode x ≤ 7 ∨ q = 0 ∧ isAdminOp (dOpcode x) = true)
include known

theorem Dev.acceptCheck_known : d.acceptCheck q x =
    if fieldsBad x then some stInvalid
    else if !d.plansHeld x then some stNotLoaded
    else if !d.permitted (d.queueSlice q) x then some stNotPermitted
    else if d.rangeBad (d.queueSlice q) x then some stInvalid
    else if isShardOp (dOpcode x) && d.stageOver (d.queueSlice q) x then some stQuota
    else none := by
  rw [Dev.acceptCheck]
  exact if_neg (by simpa using fun h : dOpcode x = 0 ∨ 7 < dOpcode x => known.resolve_left (by omega))

variable (fields : fieldsBad x = false) (plans : d.plansHeld x = true) (allowed : d.permitted (d.queueSlice q) x = true)
  (range : d.rangeBad (d.queueSlice q) x = false)

theorem Dev.acceptCheck_fields (bad : fieldsBad x = true) : d.acceptCheck q x = some stInvalid := by
  rw [Dev.acceptCheck_known known, if_pos bad]

include fields in
theorem Dev.acceptCheck_plans (bad : d.plansHeld x = false) : d.acceptCheck q x = some stNotLoaded := by
  simp [Dev.acceptCheck_known known, fields, bad]

include fields plans in
theorem Dev.acceptCheck_permitted (bad : d.permitted (d.queueSlice q) x = false) : d.acceptCheck q x = some stNotPermitted := by
  simp [Dev.acceptCheck_known known, fields, plans, bad]

include fields plans allowed in
theorem Dev.acceptCheck_range (bad : d.rangeBad (d.queueSlice q) x = true) : d.acceptCheck q x = some stInvalid := by
  simp [Dev.acceptCheck_known known, fields, plans, allowed, bad]

include fields plans allowed range in
theorem Dev.acceptCheck_stage (shard : isShardOp (dOpcode x) = true) (bad : d.stageOver (d.queueSlice q) x = true) :
    d.acceptCheck q x = some stQuota := by
  simp [Dev.acceptCheck_known known, fields, plans, allowed, range, shard, bad]

include fields plans allowed range in
theorem Dev.acceptCheck_passed (stage : isShardOp (dOpcode x) = false ∨ d.stageOver (d.queueSlice q) x = false) : d.acceptCheck q x = none := by
  have h : (isShardOp (dOpcode x) && d.stageOver (d.queueSlice q) x) = false := Bool.and_eq_false_iff.mpr stage
  simp [Dev.acceptCheck_known known, fields, plans, allowed, range, h]

end

section
variable {d : Dev} {q : Nat} {x : BitVec 512} (passed : d.acceptCheck q x = none)
include passed

theorem Dev.judged_plain (one : dOpcode x ≠ 1) (two : dOpcode x ≠ 2) : d.judged q x = d.accept q x [] := by
  rw [Dev.judged, passed]
  exact if_pos ⟨one, two⟩

theorem Dev.judged_listFailed (data : dOpcode x = 1 ∨ dOpcode x = 2) (fail : (d.queue q).sglFail = true) :
    d.judged q x = d.reject q x stHostDma := by
  rw [Dev.judged, passed]
  dsimp only
  rw [if_neg (by omega), if_pos fail]

theorem Dev.judged_list (data : dOpcode x = 1 ∨ dOpcode x = 2) (ok : (d.queue q).sglFail = false) {sg : List (Nat × Nat)}
    (known : sglOf x (d.queue q) = some sg) : d.judged q x = d.acceptSgl q x sg := by
  rw [Dev.judged, passed]
  dsimp only
  rw [if_neg (by omega), if_neg (by simp [ok]), known]

end

theorem Dev.acceptSgl_short {d : Dev} {q : Nat} {x : BitVec 512} {sg : List (Nat × Nat)} (short : (sg.map (·.2)).sum ≠ dLength x) :
    d.acceptSgl q x sg = d.reject q x stInvalid := if_pos (.inl short)

theorem Dev.acceptSgl_good {d : Dev} {q : Nat} {x : BitVec 512} {sg : List (Nat × Nat)} (whole : (sg.map (·.2)).sum = dLength x)
    (filled : ∀ e, e ∈ sg → e.2 ≠ 0) : d.acceptSgl q x sg = d.accept q x sg := by
  refine if_neg ?_
  rintro (short | empty)
  · exact short whole
  · obtain ⟨e, mem, zero⟩ := List.any_eq_true.mp empty
    exact filled e mem (by simpa using zero)

/-! ### What follows a descriptor leaves the journal and the plans' counters -/

/-- The journal and the schedule's own state are the same. -/
structure Dev.SameBooks (d e : Dev) : Prop where
  jnl : e.jnl = d.jnl
  sch : e.sch = d.sch

namespace Dev.SameBooks

variable {d e x : Dev}

theorem refl (d : Dev) : d.SameBooks d := ⟨rfl, rfl⟩

section
variable (h : d.SameBooks e)
include h

theorem trans (h' : e.SameBooks x) : d.SameBooks x := ⟨h'.jnl.trans h.jnl, h'.sch.trans h.sch⟩

theorem noted (h' : e.Noted x) : d.SameBooks x := h.trans ⟨h'.jnl, h'.sch⟩

theorem dmaFail (n s addr access : Nat) : d.SameBooks (e.dmaFail n s addr access) := by
  refine h.noted ((Dev.Noted.refl e).faultFree _ _ _ fun y known => ?_)
  rw [← Option.some.inj known]
  decide

theorem hostWrite (t k : Nat) (rx ns : Bool) (addr : Nat) (b : List Byte) : d.SameBooks (e.hostWrite t k rx ns addr b).2 := by
  rcases e.hostWrite_cases t k rx ns addr b with eq | ⟨-, p, eq⟩ | ⟨-, eq⟩ | ⟨-, eq⟩ <;> rw [eq]
  · exact h
  · exact h.trans ⟨rfl, rfl⟩
  · exact h.trans ⟨by rw [Dev.emitAll_frame], by rw [Dev.emitAll_frame]⟩
  · exact h.dmaFail (e.slicePort t) t addr 4

theorem hostRead (t addr len : Nat) (ns : Bool) (why : ReadFor) : d.SameBooks (e.hostRead t addr len ns why).2 := by
  simp only [Dev.hostRead]
  split
  · split
    · exact h.trans ⟨rfl, rfl⟩
    · exact h
  · split
    · exact h.dmaFail (e.slicePort t) t addr 3
    · split
      · exact h.trans ⟨rfl, rfl⟩
      · exact h.trans ⟨by rw [Dev.readGo_frame], by rw [Dev.readGo_frame]⟩

theorem haltQueue (q err src addr st res : Nat) : d.SameBooks (e.haltQueue q err src addr st res) := by
  simp only [Dev.haltQueue]
  have halted : d.SameBooks (e.setQueue q { e.queue q with state := 3, err := err }) := h.trans ⟨rfl, rfl⟩
  exact (halted.noted ((Dev.Noted.refl _).fault _ (faultSrc_slc src))).trans ⟨rfl, rfl⟩

theorem recordFault (n t page : Nat) : d.SameBooks (e.recordFault n t page) := by
  simp only [Dev.recordFault]
  split
  · exact h.noted ((Dev.Noted.refl e).fault _ (faultSrc_slc 2))
  · exact h.noted ((Dev.Noted.refl e).faultFree _ _ _ (faultSrc_slc 2))

theorem fetchPage (t page : Nat) (b : Bool) : d.SameBooks (e.fetchPage t page b) := by
  have read := h.hostRead t (page * 4096) 4096 false (.record t page b)
  simp only [Dev.fetchPage]
  split <;> rename_i made <;> rw [made] at read
  · exact read
  · exact read.recordFault ..

theorem writeEvent (q at_ : Nat) (armed : Bool) : d.SameBooks (e.writeEvent q at_ armed) := by
  have shown : d.SameBooks (e.eventShown q at_ armed) := h.trans ⟨rfl, rfl⟩
  rw [Dev.writeEvent_eq]
  exact shown.hostWrite _ _ _ _ _ _

theorem consumed (q : Nat) : d.SameBooks (e.consumed q) := by
  simp only [Dev.consumed]
  split
  · exact h
  · split
    · exact h.writeEvent ..
    · split
      · exact h
      · have event := h.writeEvent q (e.queue q).sqHead true
        generalize e.writeEvent q (e.queue q).sqHead true = x at event ⊢
        have marked : d.SameBooks (x.setQueue q { x.queue q with rechecked := true }) := event.trans ⟨rfl, rfl⟩
        exact marked.fetchPage _ _ _

theorem readMore (q : Nat) : d.SameBooks (e.readMore q) := by
  unfold Dev.readMore
  extract_lets c t n pi ahead slot k
  split
  · exact h
  · have read := h.hostRead t (c.sqBase + 64 * slot) (64 * k) false (.desc q k)
    split <;> rename_i made <;> rw [made] at read
    · exact read.trans ⟨rfl, rfl⟩
    · exact read.haltQueue ..

theorem afterHead (q : Nat) : d.SameBooks (e.afterHead q) := (h.readMore q).consumed q

end

end Dev.SameBooks

/-- A rejection enters nothing into the journal. -/
theorem Dev.reject_sameBooks (d : Dev) (q : Nat) (x : BitVec 512) (st : Nat) : d.SameBooks (d.reject q x st) := by
  refine Dev.SameBooks.afterHead ?_ q
  exact ⟨rfl, rfl⟩

/-! ### The entry that an accepted descriptor takes -/

/-- The GEN that a descriptor takes, and the device once it has been drawn. -/
def Dev.drawn (d : Dev) (x : BitVec 512) : Nat × Dev := if dOpcode x = 1 then d.takeGen (dPlan x) else (0, d)

theorem Dev.drawn_frame (d : Dev) (x : BitVec 512) :
    (d.drawn x).2 = { d with sch := (d.drawn x).2.sch, fresh := (d.drawn x).2.fresh } := by
  rw [Dev.drawn]
  split <;> rfl

/-- The staging that a descriptor of a shard operation takes. -/
def Dev.stageNeedOf (d : Dev) (x : BitVec 512) : Nat := if isShardOp (dOpcode x) then ((d.plan (dPlan x)).map (stageNeed · x)).getD 0 else 0

/-- The entry of an accepted descriptor. -/
def Dev.takenEntry (d : Dev) (q : Nat) (x : BitVec 512) (sgl : List (Nat × Nat)) (g need serial : Nat) : JEntry :=
  { desc := x, acceptTime := d.now, gen := g, slice := d.queueSlice q, instar := d.sliceInstar (d.queueSlice q), state := 1, queue := q,
    sgl := sgl.take 56, staged := need != 0, stage := need, serial := serial }

theorem Dev.accept_books (d : Dev) (q : Nat) (x : BitVec 512) (sgl : List (Nat × Nat)) : ∃ need serial,
    (d.accept q x sgl).jnl = d.jnl.set d.freeSlot (d.takenEntry q x sgl (d.drawn x).1 need serial) {}
      ∧ (d.accept q x sgl).sch = (d.drawn x).2.sch := by
  unfold Dev.accept
  have frame := d.drawn_frame x
  rw [Dev.drawn] at frame ⊢
  generalize (if dOpcode x = 1 then d.takeGen (dPlan x) else (0, d)) = p at frame ⊢
  obtain ⟨g, e⟩ := p
  dsimp only at frame
  have now : e.now = d.now := by rw [frame]
  have instar : e.sliceInstar (d.queueSlice q) = d.sliceInstar (d.queueSlice q) := by rw [frame]; rfl
  have jnl : e.jnl = d.jnl := by rw [frame]
  refine ⟨e.stageNeedOf x, e.serial + 1, ((Dev.SameBooks.refl _).afterHead q).jnl.trans ?_, ((Dev.SameBooks.refl _).afterHead q).sch.trans ?_⟩
  · rewrite [Dev.takenEntry, ← now, ← instar, ← jnl]
    rfl
  · rfl

theorem Dev.drawn_write {d : Dev} {x : BitVec 512} (write : dOpcode x = 1) (held : d.sch.gens.get (dPlan x) 0 ≠ 0) :
    (d.drawn x).1 = d.sch.gens.get (dPlan x) 0
      ∧ (d.drawn x).2.sch.gens.get (dPlan x) 0 = genNext (d.sch.gens.get (dPlan x) 0) := by
  rw [Dev.drawn, if_pos write, Dev.takeGen]
  dsimp only
  rw [if_neg held]
  exact ⟨rfl, Tab.get_set_eq ..⟩

/-- Settles O21. -/
theorem acceptanceJournalsOneDescriptor : Obligations.AcceptanceJournalsOneDescriptor := by
  unfold Obligations.AcceptanceJournalsOneDescriptor
  refine ⟨fun s q x l head => ⟨fun full => ?_, fun on idle may room free => ?_⟩, fun d q x l => ?_⟩
  · exact next_settled (descriptorAccept_noRoom head full)
  · have judge {e : Dev} (h : s.dev.judged q.val x = e) : exec (.descriptorAccept q) s = .next (s.settled e) :=
      next_settled ((descriptorAccept_judged head on idle may room free).trans h)
    have refuse {st : Nat} (bad : s.dev.acceptCheck q.val x = some st) :
        exec (.descriptorAccept q) s = .next (s.settled (s.dev.reject q.val x st)) := judge (Dev.judged_refused bad)
    refine ⟨fun other noAdmin => refuse (Dev.acceptCheck_opcode other noAdmin), fun known bad => refuse (Dev.acceptCheck_fields known bad),
      fun known fields bad => refuse (Dev.acceptCheck_plans known fields bad),
      fun known fields plans bad => refuse (Dev.acceptCheck_permitted known fields plans bad),
      fun known fields plans allowed bad => refuse (Dev.acceptCheck_range known fields plans allowed bad),
      fun known fields plans allowed range =>
        ⟨fun shard bad => refuse (Dev.acceptCheck_stage known fields plans allowed range shard bad), fun stage => ?_⟩⟩
    have passed := Dev.acceptCheck_passed known fields plans allowed range stage
    refine ⟨fun one two => judge (Dev.judged_plain passed one two), fun data fail => judge (Dev.judged_listFailed passed data fail),
      fun data ok sg listed => ⟨fun short => judge ?_, fun whole filled => judge ?_⟩⟩
    · exact (Dev.judged_list passed data ok listed).trans (Dev.acceptSgl_short short)
    · exact (Dev.judged_list passed data ok listed).trans (Dev.acceptSgl_good whole filled)
  · obtain ⟨need, serial, jnl, sch⟩ := d.accept_books q x l
    have own : (d.accept q x l).entry d.freeSlot = d.takenEntry q x l (d.drawn x).1 need serial := by
      rw [Dev.entry, jnl]
      exact Tab.get_set_eq ..
    dsimp only
    rw [own]
    refine ⟨⟨rfl, rfl, rfl, rfl, rfl, rfl, rfl⟩, fun n apart => ?_, fun write held => ?_, fun st => (d.reject_sameBooks q x st).jnl⟩
    · rw [Dev.entry, jnl]
      exact Tab.get_set_ne _ _ _ _ apart
    · obtain ⟨gen, next⟩ := Dev.drawn_write write held
      refine ⟨gen, ?_⟩
      rw [sch, next, ← gen]
      rfl

end Sys2Proof.Machine

end

section

/-! PROOFS. What becomes of a column that an engine codes, and of a pattern whose matrix has been computed (R153–R156, R159, R198, R218). -/

namespace Sys2Proof.Machine
set_option Elab.async false

/-! ### The engine's checks -/

section
variable (d : Dev) (n eng : Nat) (p : Plan) (plan stripe col : Nat) (o : ColOut)

theorem Dev.engineCheck_abandoned (verdict : Nat) (bad : o.bad = true) :
    d.engineCheck n eng p plan stripe col verdict o = some ((d.engEvent n eng 5 plan stripe col).failItem n stInternal) := if_pos bad

variable (good : o.bad = false)
include good

theorem Dev.engineCheck_differs (coded : o.coded = true) (check : (d.era (eng / 8)).check = 1 ∨ p.verifyAlways = true) :
    d.engineCheck n eng p plan stripe col 1 o
      = some (((d.incSat (ENG_CHECK_MISMATCH (d.physEng eng).val)).engEvent n eng 2 plan stripe col).askReplay n 5) := by
  have verified : d.verifies eng p = true := by simpa [Dev.verifies] using check
  rw [Dev.engineCheck, if_neg (by simp [good])]
  exact if_pos ⟨rfl, coded, verified⟩

theorem Dev.engineCheck_good : d.engineCheck n eng p plan stripe col 0 o = none := by
  simp [Dev.engineCheck, good]

end

/-! ### The column that an item encodes -/

/-- What an engine's program sees of the column that an item encodes. -/
def Dev.encodeCtx (d : Dev) (n : Nat) (q : Plan) : ColCtx := {
  plan := q, mat := (d.inForce.bind (fun g => g.matrices.get q.matrix none)).getD ⟨q.k, q.m, [], []⟩,
  words := (d.inForce.map (fun g => g.programs.get q.program [])).getD [], path := 0, lost := [], inr := List.range q.k, surv := [], ml := none,
  blocks := (List.range q.k).foldl (fun t c => Tab.set t c ((d.wk n).dataBlk (c * q.columns + (d.wk n).wcol)) []) [] }

/-- The device once the column has been counted. -/
def Dev.encodeCounted (d : Dev) (n : Nat) (q : Plan) : Dev := d.countColumn (d.writeEng n) q (d.encodeCtx n q).go

/-- The data blocks of the item's present column are given up. -/
def Work.spend (w : Work) (e : JEntry) (q : Plan) : Work :=
  let spent := fun (t : Tab Nat) => (List.range q.k).foldl (fun (t : Tab Nat) c => t.set (c * q.columns + w.wcol) 0 0) t
  if dOpcode e.desc = 1 ∧ e.staged then { w with enc := spent w.enc } else { w with have_ := spent w.have_ }

/-- The blocks of a coded column that still have to be sent. -/
def JEntry.unsent (e : JEntry) (o : ColOut) : List (Nat × List Byte) := o.shards.filter (fun x => e.dropped != some x.1 && !bit e.done x.1)

/-- The blocks of an encoded column sent. -/
def Dev.encodeSent (d : Dev) (n : Nat) (q : Plan) : Dev :=
  let e := d.entry n
  let g := d.writeEng n
  let sent := e.unsent (d.encodeCtx n q).go
  let w := (d.wk n).spend e q
  (((d.encodeCounted n q).setWk n { w with wcol := w.wcol + 1, outs := w.outs.set w.wcol (listMask (sent.map (·.1))) 0 }).putCells n
    (sent.flatMap (fun x => blkCells (g / 8) (0x200 + g) (q.link x.1) q.pclass g 1 x.1 w.wcol 0 x.2 e.gen true))).stripeTry n

/-- The check that the engine makes of the column an item encodes. -/
def Dev.encodeCheck (d : Dev) (n verdict : Nat) (q : Plan) : Option Dev :=
  let e := d.encodeCounted n q
  e.engineCheck n (d.writeEng n) q (e.writePlanNo n) (e.itemTarget n) (d.wk n).wcol verdict (d.encodeCtx n q).go

section
variable {d : Dev} {n : Nat} {q : Plan}

/-- An event of the engine about the column that an item encodes. -/
def Dev.encodeEvent (d : Dev) (n src : Nat) (q : Plan) (e : Dev) : Dev :=
  e.engEvent n (d.writeEng n) src ((d.encodeCounted n q).writePlanNo n) ((d.encodeCounted n q).itemTarget n) (d.wk n).wcol

theorem Dev.encodeCheck_abandoned {verdict : Nat} (bad : (d.encodeCtx n q).go.bad = true) :
    d.encodeCheck n verdict q = some ((d.encodeEvent n 5 q (d.encodeCounted n q)).failItem n stInternal) :=
  Dev.engineCheck_abandoned _ _ _ _ _ _ _ _ _ bad

variable (good : (d.encodeCtx n q).go.bad = false)
include good

theorem Dev.encodeCheck_differs (coded : (d.encodeCtx n q).go.coded = true)
    (check : ((d.encodeCounted n q).era (d.writeEng n / 8)).check = 1 ∨ q.verifyAlways = true) :
    d.encodeCheck n 1 q = some ((d.encodeEvent n 2 q
      ((d.encodeCounted n q).incSat (ENG_CHECK_MISMATCH ((d.encodeCounted n q).physEng (d.writeEng n)).val))).askReplay n 5) :=
  Dev.engineCheck_differs _ _ _ _ _ _ _ _ good coded check

theorem Dev.encodeCheck_good : d.encodeCheck n 0 q = none := Dev.engineCheck_good _ _ _ _ _ _ _ _ good

end

theorem Dev.encodeColumn_ready {d : Dev} {n verdict : Nat} {q : Plan} (ready : d.encodeReady n q = true) :
    d.encodeColumn n verdict q = (d.encodeCheck n verdict q).getD (d.encodeSent n q) := by
  unfold Dev.encodeColumn
  dsimp only
  rw [if_neg (by simp [ready])]
  change (match d.encodeCheck n verdict q with | some d => d | none => d.encodeSent n q) = _
  cases d.encodeCheck n verdict q <;> rfl

section
variable {d : Dev} {n verdict : Nat} {p q : Plan} (reads : d.readPlan n = some p) (writes : d.writePlan n = some q) (runs : d.runs n = true)
  (going : (d.wk n).stop = none) (whole : (d.wk n).replay = none) (calm : d.flt.grave = false)
include reads writes runs going whole calm

theorem Dev.itemColumn_reading (reading : (d.wk n).reading (d.entry n) p = true) :
    d.itemColumn n verdict = if d.engUp (d.readEng n) then d.readColumn n verdict p else d := by
  simp [Dev.itemColumn, reads, writes, runs, going, whole, calm, reading]

theorem Dev.itemColumn_encoding (reading : (d.wk n).reading (d.entry n) p = false) (op : dOpcode (d.entry n).desc = 1 ∨ dOpcode (d.entry n).desc = 5)
    (up : d.engUp (d.writeEng n) = true) : d.itemColumn n verdict = d.encodeColumn n verdict q := by
  simp [Dev.itemColumn, reads, writes, runs, going, whole, calm, reading, op, up]

end

/-! ### Computed matrices -/

/-- Nothing is evicted from a cache that is not overfull. -/
theorem evict_small {keep : MatEntry → Bool} {l : List MatEntry} (small : l.length ≤ 1024) : ∀ n, evict keep n l = l
  | 0 => rfl
  | _ + 1 => if_pos small

section
variable {d : Dev} {i : Nat} {m : MatEntry} {x : Matrix} (entry : d.eng.cache[i]? = some m) (fresh : m.valid = false)
  (well : d.flag MGT_STATUS_RECOVERING = false) (on : d.hubOff = false)
  (matrix : (d.imageOf m.sig).bind (fun g => g.matrices.get m.matrix none) = some x)
include entry fresh well on matrix

theorem matrixComputed_inverts {sv : List Nat} {rows : List (List Byte)} (inverts : x.multi (maskList m.lost 32) = some (sv, rows))
    (small : d.eng.cache.length ≤ 1024) :
    matrixComputed i d = (d.matWaiters m).foldl Dev.matResume
      (Dev.mlog { d with eng := { d.eng with cache := d.eng.cache.mapIdx (fun j y =>
        if j = i then { m with valid := true, survivors := sv, rows := rows } else y) } } 6 m.plan m.matrix m.lost ((d.now - m.since) / 1000)) := by
  unfold matrixComputed
  simp only [entry, fresh, well, on, matrix, inverts, Bool.or_self, Bool.false_eq_true, if_false]
  rw [evict_small (by rw [List.length_mapIdx]; exact small)]

theorem matrixComputed_singular (singular : x.multi (maskList m.lost 32) = none) :
    matrixComputed i d = (d.matWaiters m).foldl (fun e n => e.undecodable n false)
      (Dev.mlog { d with eng := { d.eng with cache := dropIdx d.eng.cache i } } 5 m.plan m.matrix m.lost m.sig) := by
  unfold matrixComputed
  simp only [entry, fresh, well, on, matrix, singular, Bool.or_self, Bool.false_eq_true, if_false]

end

/-- Settles O24. -/
theorem columnsAreCodedAndChecked : Obligations.ColumnsAreCodedAndChecked := by
  unfold Obligations.ColumnsAreCodedAndChecked
  refine fun s => ⟨?_, fun i m x entry fresh well on matrix =>
    ⟨fun sv rows inverts small => next_settled (matrixComputed_inverts entry fresh well on matrix inverts small),
      fun singular => next_settled (matrixComputed_singular entry fresh well on matrix singular)⟩⟩
  intro n v p q item reads writes runs going whole calm
  extract_lets d w e g ctx counted sent spent left
  have view : ctx = d.encodeCtx n.val q := rfl
  have given : left = w.spend e q := rfl
  clear_value left
  subst given
  have column : counted = d.encodeCounted n.val q := rfl
  clear_value counted
  subst column
  clear_value ctx
  subst view
  have works (w : EngVerdict) {e : Dev} (h : d.itemColumn n.val w.code = e) : exec (.blockColumn n w) s = .next (s.settled e) :=
    next_settled ((if_pos item).trans h)
  refine ⟨fun reading up => works v ?_, fun reading down => works v ?_, ?_⟩
  · rw [Dev.itemColumn_reading reads writes runs going whole calm reading, if_pos up]
  · rw [Dev.itemColumn_reading reads writes runs going whole calm reading, if_neg (ne_true_of_eq_false down)]
  · intro reading op up ready
    have encodes (w : EngVerdict) : d.itemColumn n.val w.code = (d.encodeCheck n.val w.code q).getD (d.encodeSent n.val q) :=
      (Dev.itemColumn_encoding reads writes runs going whole calm reading op up).trans (Dev.encodeColumn_ready ready)
    refine ⟨fun bad => works v ?_, fun good coded check => works .mismatch ?_, ?_⟩
    · rewrite [encodes, Dev.encodeCheck_abandoned bad, Option.getD_some]
      rfl
    · refine (encodes .mismatch).trans ?_
      rewrite [EngVerdict.code, Dev.encodeCheck_differs good coded check, Option.getD_some]
      rfl
    · intro good ok
      refine works v ?_
      rewrite [ok, encodes, EngVerdict.code, Dev.encodeCheck_good good, Option.getD_none]
      rfl

end Sys2Proof.Machine

end

section

/-! PROOFS. How the shard operations begin, and the start check of a write's targets (R212, R214, R217, R268). -/

namespace Sys2Proof.Machine
set_option Elab.async false

/-! ### The start check at a boundary -/

section
variable {d : Dev} {n op : Nat} {p q : Plan}

theorem Dev.startRow_waits (other : dOpcode (d.entry n).desc ≠ op ∨ d.atBoundary = false) : d.startRow n op = d := by
  refine if_neg ?_
  rintro ⟨same, boundary⟩
  rcases other with apart | late
  · exact apart same
  · rw [late] at boundary
    cases boundary

variable (reads : d.readPlan n = some p) (writes : d.writePlan n = some q) (ready : d.startable n = true)
  (same : dOpcode (d.entry n).desc = op) (boundary : d.atBoundary = true)
include reads writes ready same boundary

theorem Dev.startRow_picked {t : Nat} {w : Work} (picked : d.pickStripe n = (some t, w)) :
    d.startRow n op = if d.served n t p then (d.setWk n (w.take t)).startStripe n p q else d.setWk n w := by
  rw [Dev.startRow, if_pos ⟨same, boundary⟩]
  simp [Dev.startItem, reads, writes, ready, picked]

theorem Dev.startRow_heldBack {w : Work} (none_ : d.pickStripe n = (none, w)) : d.startRow n op = d.setWk n w := by
  rw [Dev.startRow, if_pos ⟨same, boundary⟩]
  simp [Dev.startItem, reads, writes, ready, none_]

end

/-! ### The targets of a write -/

/-- The targets of a plan that are absent. -/
def Dev.absentTargets (d : Dev) (p : Plan) : List Nat := (List.range p.width).filter (fun i => d.linkClass (p.link i) == 2)

/-- The status of a write whose absent targets end it. -/
def Dev.absentWrite (d : Dev) (p : Plan) : Nat := if (d.absentTargets p).any (fun i => d.holdExpired (p.link i)) then stBayUnreachable else stBayAbsent

/-- A write may go on without one position. -/
def Dev.mayDegrade (d : Dev) (n : Nat) (p : Plan) (i : Nat) : Prop :=
  p.degradeOk = true ∧ 1 ≤ p.m ∧ dNoDegrade (d.entry n).desc = false ∧ d.debtRoom (d.writePlanNo n) i (d.itemTarget n) = true

/-- Item `n` of `d` has completed in `f` with a status and no result, having asked for nothing. -/
structure Dev.EndedAtStart (d : Dev) (n st : Nat) (f : Dev) : Prop where
  state : (f.entry n).state = 7
  status : (f.entry n).status = st
  result : (f.entry n).result = 0
  seqQ : f.seqQ = d.seqQ ++ [.done n]
  reads : f.reads = d.reads

section
variable {d : Dev} {n : Nat} {p : Plan} {i : Nat}

theorem Dev.degradable_may (may : d.mayDegrade n p i) : d.degradable n p i = (true, d) := by
  obtain ⟨ok, check, free, room⟩ := may
  simp [Dev.degradable, ok, check, free, room]

/-- What may not go without a position changes at most a count of refusals. -/
theorem Dev.degradable_mayNot (may : ¬d.mayDegrade n p i) : ∃ r, d.degradable n p i = (false, { d with regs := r }) := by
  rw [Dev.degradable]
  split
  · next plan =>
    obtain ⟨⟨ok, check⟩, free⟩ : (p.degradeOk = true ∧ 1 ≤ p.m) ∧ dNoDegrade (d.entry n).desc = false := by simpa using plan
    rw [if_neg fun room => may ⟨ok, check, free, room⟩]
    exact ⟨_, rfl⟩
  · exact ⟨d.regs, rfl⟩

variable (live : (d.entry n).state ≠ 0) (live' : (d.entry n).state ≠ 7)
include live live'

theorem Dev.complete_told (st x hi : Nat) : (d.complete n st x hi).seqQ = d.seqQ ++ [.done n] ∧ (d.complete n st x hi).reads = d.reads := by
  simp only [Dev.complete]
  rw [if_neg (by omega)]
  exact ⟨rfl, rfl⟩

theorem Dev.complete_endedAtStart (st : Nat) (r : Tab Nat) : d.EndedAtStart n st (Dev.complete { d with regs := r } n st 0 0) := by
  have entry := Dev.entry_complete (d := { d with regs := r }) live live' st 0 0
  obtain ⟨queue, asked⟩ := Dev.complete_told (d := { d with regs := r }) live live' st 0 0
  exact ⟨congrArg JEntry.state entry, congrArg JEntry.status entry, congrArg JEntry.result entry, queue, asked⟩

variable (write : dOpcode (d.entry n).desc = 1)
include write

theorem Dev.checkTargets_mayNot (gone : d.absentTargets p = [i]) (may : ¬d.mayDegrade n p i) :
    d.EndedAtStart n (d.absentWrite p) (d.checkTargets n p) := by
  obtain ⟨r, refused⟩ := Dev.degradable_mayNot may
  rw [Dev.absentTargets] at gone
  simp only [Dev.checkTargets, Dev.absentWrite, Dev.absentTargets, gone, refused]
  rw [if_pos write]
  exact Dev.complete_endedAtStart live live' _ r

theorem Dev.checkTargets_several (gone : 2 ≤ (d.absentTargets p).length) : d.EndedAtStart n (d.absentWrite p) (d.checkTargets n p) := by
  rcases targets : d.absentTargets p with _ | ⟨i, _ | ⟨j, l⟩⟩
  · simp [targets] at gone
  · simp [targets] at gone
  · rw [Dev.absentTargets] at targets
    simp only [Dev.checkTargets, Dev.absentWrite, Dev.absentTargets, targets]
    rw [if_pos write]
    exact Dev.complete_endedAtStart live live' _ d.regs

end

section
variable {d : Dev} {n : Nat} {p : Plan} {i : Nat}

theorem Dev.checkTargets_present (gone : d.absentTargets p = []) : d.checkTargets n p = d.setEntry n { d.entry n with dropped := none } := by
  rw [Dev.absentTargets] at gone
  simp only [Dev.checkTargets, gone]

theorem Dev.checkTargets_may (gone : d.absentTargets p = [i]) (may : d.mayDegrade n p i) :
    d.checkTargets n p = d.setEntry n { d.entry n with dropped := some i } := by
  rw [Dev.absentTargets] at gone
  simp only [Dev.checkTargets, gone, Dev.degradable_may may]

end

/-- Settles O30. -/
theorem operationsBeginByTheirTargets : Obligations.OperationsBeginByTheirTargets := by
  unfold Obligations.OperationsBeginByTheirTargets
  refine ⟨fun s n p q reads writes ready => ?_, fun d n p write live live' => ?_⟩
  · have run (o : Nat) (c : Instr) (row : exec c s = s.run (fun d => d.startRow n.val o)) :
        (dOpcode (s.dev.entry n.val).desc ≠ o ∨ s.dev.atBoundary = false → exec c s = .next (s.settled s.dev))
        ∧ (dOpcode (s.dev.entry n.val).desc = o → s.dev.atBoundary = true → (∀ t w, s.dev.pickStripe n.val = (some t, w) →
              (s.dev.served n.val t p = true → exec c s = .next (s.settled ((s.dev.setWk n.val (w.take t)).startStripe n.val p q)))
              ∧ (s.dev.served n.val t p = false → exec c s = .next (s.settled (s.dev.setWk n.val w))))
            ∧ (∀ w, s.dev.pickStripe n.val = (none, w) → exec c s = .next (s.settled (s.dev.setWk n.val w)))) := by
      refine ⟨fun other => row.trans (next_settled (Dev.startRow_waits other)), fun same boundary =>
        ⟨fun t w picked => ⟨fun served => row.trans (next_settled ?_), fun unserved => row.trans (next_settled ?_)⟩,
          fun w held => row.trans (next_settled (Dev.startRow_heldBack reads writes ready same boundary held))⟩⟩
      · rw [Dev.startRow_picked reads writes ready same boundary picked, if_pos served]
      · rw [Dev.startRow_picked reads writes ready same boundary picked, if_neg (ne_true_of_eq_false unserved)]
    exact ⟨run 1 _ rfl, run 2 _ rfl, run 3 _ rfl, run 4 _ rfl, run 5 _ rfl⟩
  · have ends {f : Dev} (h : d.EndedAtStart n (d.absentWrite p) f) : _ ∧ _ ∧ _ ∧ _ ∧ _ := ⟨h.state, h.status, h.result, h.seqQ, h.reads⟩
    exact ⟨fun gone => Dev.checkTargets_present gone, fun i gone may => Dev.checkTargets_may gone may,
      fun i gone may => ends (Dev.checkTargets_mayNot live live' write gone may), fun gone => ends (Dev.checkTargets_several live live' write gone)⟩

end Sys2Proof.Machine

end

section

/-! PROOFS. Images are loaded through their checks, in order; the signing key (R182, R199, R201). -/

namespace Sys2Proof.Machine
set_option Elab.async false

/-! ### The checks of an image -/

section
variable {l : List Byte} {len mgr : Nat} {key : List Byte} {pres enf : Bool}

theorem imageCheck_header (bad : headerBad l len = true) : imageCheck l len mgr key pres enf = some 0xE := by
  simp only [imageCheck]
  rw [if_pos bad]

theorem headerBad_of (wrong : leAt l 0 4 ≠ 0x47534C42 ∨ leAt l 4 2 ≠ 2 ∨ leAt l 0xFC 4 ≠ (crc32c (l.take 0xFC)).toNat ∨ leAt l 8 4 ≠ len) :
    headerBad l len = true := by
  rcases wrong with magic | format | crc | length
  · simp [headerBad, magic]
  · simp [headerBad, format]
  · simp [headerBad, crc]
  · simp [headerBad, length]

variable (header : headerBad l len = false)
include header

theorem imageCheck_signature (bad : signatureBad l key pres enf = true) : imageCheck l len mgr key pres enf = some 0xF := by
  simp only [imageCheck]
  rw [if_neg (ne_true_of_eq_false header), if_pos bad]

theorem imageCheck_sectionCrc {t : Nat} (signature : signatureBad l key pres enf = false) (first : 1 ≤ t) (last : t ≤ 10)
    (bad : secCrc l t ≠ (crc32c (sec l t)).toNat) (before : ∀ u, 1 ≤ u → u < t → secCrc l u = (crc32c (sec l u)).toNat) :
    imageCheck l len mgr key pres enf = some t := by
  have found : (List.range 10).find? (fun i => secCrc l (i + 1) != (crc32c (sec l (i + 1))).toNat) = some (t - 1) := by
    rw [List.find?_range_eq_some]
    refine ⟨?_, List.mem_range.mpr (by omega), fun j less => ?_⟩
    · rw [Nat.sub_add_cancel first]
      simpa using bad
    · simpa using before (j + 1) (by omega) (by omega)
  simp only [imageCheck]
  rw [if_neg (ne_true_of_eq_false header), if_neg (ne_true_of_eq_false signature), found]
  exact congrArg some (Nat.sub_add_cancel first)

end

theorem signatureBad_unsigned {l : List Byte} {key : List Byte} {pres enf : Bool} (enforced : enf = true) (unsigned : bit (leAt l 6 2) 0 = false) :
    signatureBad l key pres enf = true := by
  simp [signatureBad, enforced, unsigned]

/-- An image that passes has a good header, good sections and good contents. -/
theorem imageCheck_none {l : List Byte} {len mgr : Nat} {key : List Byte} {pres enf : Bool} (passed : imageCheck l len mgr key pres enf = none) :
    headerBad l len = false ∧ sectionBad l (imageOf l) mgr = 0 ∧ loadBad (imageOf l) = 0 ∧ sigsBad l (imageOf l) = false := by
  simp only [imageCheck] at passed
  split at passed
  · cases passed
  · next header =>
    split at passed
    · cases passed
    · split at passed
      · cases passed
      · split at passed
        · cases passed
        · next sections =>
          split at passed
          · cases passed
          · next contents =>
            split at passed
            · cases passed
            · next sigs => exact ⟨by simpa using header, by simpa using sections, by simpa using contents, by simpa using sigs⟩

/-! ### The load -/

/-- The device that has asked for slot `t`'s image: the answer says whether the read could begin. -/
def Dev.asksImage (d : Dev) (n t : Nat) (x : BitVec 512) : Bool × Dev :=
  let e := d.clearSlot t 1
  Dev.hostRead { e with sch := { e.sch with loads := e.sch.loads.set t (n + 1) 0 } } 0 (darg x 8 8) (darg x 0x10 4) false (.image t)

/-- LOAD_IMAGE once its read has begun, or could not. -/
def Dev.imageAsked (n t : Nat) (h : Bool × Dev) : Dev :=
  if h.1 then h.2
  else Dev.finish { (h.2.wr (SCH_SLOT_STATUS_STATE t) 0) with sch := { h.2.sch with loads := h.2.sch.loads.set t 0 0 } } n stHostDma

section
variable {d : Dev} {n : Nat} {x : BitVec 512} (own : d.adminReady n 0x90 = true) (entry : (d.entry n).desc = x)
include own entry

theorem loadImage_busy
    (busy : (d.started n).rd (SCH_SLOT_STATUS_STATE (darg x 4 1)) = 1 ∨ (d.started n).rd (SCH_SLOT_STATUS_STATE (darg x 4 1)) = 3
      ∨ (d.started n).rd (SCH_SLOT_STATUS_STATE (darg x 4 1)) = 5) :
    loadImage n d = (d.started n).finish n stInvalid := by
  rw [loadImage, Dev.admin_ready _ own, entry]
  exact if_pos (by omega)

theorem loadImage_begins (slot : darg x 4 1 ≤ 1)
    (idle : (d.started n).rd (SCH_SLOT_STATUS_STATE (darg x 4 1)) = 0 ∨ (d.started n).rd (SCH_SLOT_STATUS_STATE (darg x 4 1)) = 2
      ∨ (d.started n).rd (SCH_SLOT_STATUS_STATE (darg x 4 1)) = 4) :
    loadImage n d =
      Dev.imageAsked n (darg x 4 1) ((d.started n).asksImage n (darg x 4 1) x) := by
  rw [loadImage, Dev.admin_ready _ own, entry]
  refine (if_neg (by omega)).trans ?_
  dsimp only
  split <;> rename_i made <;> exact (congrArg (Dev.imageAsked n (darg x 4 1)) made).symm

end

/-- The read of a slot's image at place `i` has ended, and no load waits for it. -/
def Dev.imageRead (d : Dev) (i t : Nat) : Dev :=
  let b := d.endRead i
  { b with sch := { b.sch with loads := b.sch.loads.set t 0 0 } }

/-- The check of what has been read for command `n`. -/
def Dev.checkedImage (d : Dev) (n : Nat) (l : List Byte) : Option Nat :=
  imageCheck l (darg (d.entry n).desc 0x10 4) d.mgrPort d.sch.key (d.flag SCH_SIGN_KEY_PRESENT) (d.flag SCH_SIGN_ENFORCE)

section
variable {d : Dev} {t i n : Nat} {r : HRead} (found : d.findRead (fun r => r.why == .image t) = some i) (read : d.reads[i]? = some r)
  (load : d.sch.loads.get t 0 = n + 1)
include found read load

theorem loadImageReadDone_failed (plain : r.ecc = false) : loadImageReadDone t none d =
    ((((d.imageRead i t).dmaFail r.port r.slice r.addr 3).wr (SCH_SLOT_STATUS_STATE t) 0).finish n stHostDma) := by
  have ends : loadImageReadDone t none d = d.imageEnds i t none := by simp only [loadImageReadDone, found, Dev.readBrings, read]
  have same : (d.endRead i).sch = d.sch := by rw [Dev.endRead_frame]
  rw [ends, Dev.imageEnds, load, read, Dev.imageRead, ← same]
  generalize d.endRead i = b
  dsimp only
  generalize ({ b with sch := { b.sch with loads := b.sch.loads.set t 0 0 } } : Dev) = e
  rw [Option.map_some, Option.getD_some, Dev.readFail, if_neg (ne_true_of_eq_false plain)]

theorem loadImageReadDone_whole (last : r.last = true) (l : List Byte) : loadImageReadDone t (some l) d =
    match (d.imageRead i t).checkedImage n (r.got ++ l) with
    | some r => ((d.imageRead i t).wrs [(SCH_SLOT_STATUS_STATE t, 4), (SCH_SLOT_STATUS_FAIL_SECTION t, r)]).finish n stInvalid r
    | none => ((d.imageRead i t).installImage t (imageOf (r.got ++ l))).finish n stSuccess := by
  have ends : loadImageReadDone t (some l) d = d.imageEnds i t (some (r.got ++ l)) := by
    simp only [loadImageReadDone, found, Dev.readBrings, read, last, if_true]
  have same : (d.endRead i).sch = d.sch := by rw [Dev.endRead_frame]
  rw [ends, Dev.imageEnds, load, Dev.imageRead, ← same]
  generalize r.got ++ l = whole
  generalize d.endRead i = b
  dsimp only
  generalize made : ({ b with sch := { b.sch with loads := b.sch.loads.set t 0 0 } } : Dev) = e
  have key : b.sch.key = e.sch.key := by rw [← made]
  rewrite [key]
  rfl

end

/-! ### The signing key -/

/-- A word of the signing key kept. -/
def Dev.keyed (d : Dev) (w v : Nat) : Dev := { d with sch := { d.sch with keyBuf := d.sch.keyBuf.set w v 0 } }

section
variable {d : Dev} {w v : Nat}

theorem Dev.signKeyWord_locked (enforced : d.flag SCH_SIGN_ENFORCE = true) (present : d.flag SCH_SIGN_KEY_PRESENT = true) :
    d.signKeyWord w v = d := by
  simp [Dev.signKeyWord, enforced, present]

variable (free : d.flag SCH_SIGN_ENFORCE = false)
include free

theorem Dev.signKeyWord_free : d.signKeyWord w v =
    if w ≠ 23 then d.keyed w v
    else if onCurve (d.keyed w v).keyBytes then
      Dev.wr { d.keyed w v with sch := { (d.keyed w v).sch with key := (d.keyed w v).keyBytes } } SCH_SIGN_KEY_PRESENT 1
    else (d.keyed w v).wr SCH_SIGN_KEY_REJECTED 1 := by
  rw [Dev.signKeyWord, if_neg (by simp [free])]
  rfl

end

/-- Settles O26. -/
theorem imagesLoadThroughTheChecks : Obligations.ImagesLoadThroughTheChecks := by
  unfold Obligations.ImagesLoadThroughTheChecks
  refine ⟨fun s => ⟨fun n own => ?_, fun t i n r found read plain load => ?_, fun w v opened => ?_⟩, fun l len mgr key pres enf =>
    ⟨fun wrong => imageCheck_header (headerBad_of wrong),
      fun header enforced unsigned => imageCheck_signature header (signatureBad_unsigned enforced unsigned),
      fun header signature t first last bad before => imageCheck_sectionCrc header signature first last bad before, fun bad passed => ?_⟩⟩
  · intro d t st slot
    exact ⟨fun busy => next_settled (loadImage_busy own rfl busy), fun idle => next_settled (loadImage_begins own rfl slot idle)⟩
  · exact ⟨next_settled (loadImageReadDone_failed found read load plain), fun last l => next_settled (loadImageReadDone_whole found read load last l)⟩
  · have keys {e : Dev} (h : (s.dev.opened (SCH_SIGN_KEY w.val)).signKeyWord w.val v.toNat = e) :
        exec (.signKeyWrite w v) s = .next (s.settled e) :=
      next_settled ((Dev.setup_open _ _ opened).trans h)
    refine ⟨fun enforced present => keys (Dev.signKeyWord_locked enforced present), fun free early => keys ?_, fun free last =>
      ⟨fun good => keys ?_, fun bad => keys ?_⟩⟩
    · exact (Dev.signKeyWord_free free).trans (if_pos early)
    · exact (Dev.signKeyWord_free free).trans ((if_neg (not_not.mpr last)).trans (if_pos good))
    · exact (Dev.signKeyWord_free free).trans ((if_neg (not_not.mpr last)).trans (if_neg (ne_true_of_eq_false bad)))
  · obtain ⟨header, sections, contents, sigs⟩ := imageCheck_none passed
    rcases bad with bad | bad | bad | bad
    · exact absurd bad (ne_true_of_eq_false header)
    · exact bad sections
    · exact bad contents
    · exact absurd bad (ne_true_of_eq_false sigs)

end Sys2Proof.Machine

end

section

/-! PROOFS. Messages of shard streams and their timeouts (R218, R219, R228, R320, R323–R326). -/

namespace Sys2Proof.Machine
set_option Elab.async false

section
variable {d e : Dev} {l : Nat} {m : List Byte} {x : Stream}

/-- Whether a stream's operation lives is a question of its journal entry alone. -/
theorem Dev.streamLive_congr (state : (e.entry x.slot).state = (d.entry x.slot).state) (serial : (e.entry x.slot).serial = (d.entry x.slot).serial)
    (instar : (e.entry x.slot).instar = (d.entry x.slot).instar) : e.streamLive x = d.streamLive x := by
  rw [Dev.streamLive, Dev.streamLive, state, serial, instar]

theorem JEntry.ite_done (c : Prop) [Decidable c] (j : JEntry) (v : Nat) : ∃ u, (if c then { j with done := v } else j) = { j with done := u } := by
  split
  · exact ⟨v, rfl⟩
  · exact ⟨j.done, rfl⟩

/-- A durable block changes of its entry only what is done. -/
theorem Dev.entry_acked (n pos col : Nat) : ∃ u, (d.acked n pos col).entry n = { d.entry n with done := u } := by
  rw [Dev.acked, Dev.entry_setEntry]
  exact JEntry.ite_done _ _ _

theorem Dev.streamLive_writeDurable : (d.writeDurable x).streamLive x = d.streamLive x := by
  rw [Dev.writeDurable]
  split
  · obtain ⟨u, entry⟩ := d.entry_acked x.slot x.pos x.col
    exact Dev.streamLive_congr (by rw [entry]) (by rw [entry]) (by rw [entry])
  · rfl

section
variable (taken : d.takeMsg l 0x01 = some (m, e)) (stream : e.stream l (leAt m 4 2 % 4096) = some x)
include taken stream

theorem block_live (reads : x.kind = 1) (live : x.cancelled = false) (inTime : x.timedOut = false) :
    block l d = (e.setStream l { x with cancelled := true, lastAt := e.now }).takeBlock l x ((m.drop 8).take 4096) (leAt m 0x100C 4)
      (leAt m 0x1008 4 == (crc32c ((m.drop 8).take 4096 ++ leBytes 4 (leAt m 0x100C 4))).toNat) := by
  rw [block, Dev.onMsg_some _ taken]
  simp only [stream]
  exact if_neg (by simp [reads, live, inTime])

end

section
variable (taken : d.takeMsg l 0x20 = some (m, e)) (stream : e.stream l (leAt m 4 2 % 4096) = some x)
include taken stream

theorem streamStatus_write (writes : x.kind = 0) : streamStatus l d = e.writeStatus l x (leAt m 6 1) (leAt m 8 2) := by
  rw [streamStatus, Dev.onMsg_some _ taken]
  simp only [stream]
  exact if_pos writes

theorem streamStatus_read (reads : x.kind = 1) : streamStatus l d = e.readStatus l x (leAt m 6 1) := by
  rw [streamStatus, Dev.onMsg_some _ taken]
  simp only [stream]
  rw [if_neg (by omega), if_pos reads]

end

theorem Dev.writeStatus_done {n : Nat} (inTime : x.timedOut = false) (live : d.streamLive x = true) :
    d.writeStatus l x 1 n = (((d.writeDurable x).dropStream l x.id).writeSettled x.slot).stripeTry x.slot := by
  have lives : ((d.writeDurable x).dropStream l x.id).streamLive x = true := (Dev.streamLive_writeDurable (d := d)).trans live
  rw [Dev.writeStatus, if_neg (ne_true_of_eq_false inTime), if_neg Nat.one_ne_zero, if_pos rfl]
  exact if_pos lives

theorem Dev.writeStatus_failed {st n : Nat} (inTime : x.timedOut = false) (low : 2 ≤ st) (high : st ≤ 4) :
    d.writeStatus l x st n = (d.dropStream l x.id).writeFailed l x st := by
  rw [Dev.writeStatus, if_neg (ne_true_of_eq_false inTime), if_neg (by omega), if_neg (by omega), if_pos high]

theorem Dev.readStatus_lost (live : x.cancelled = false) : d.readStatus l x 2 = (d.setStream l { x with cancelled := true }).loseRead x := by
  rw [Dev.readStatus, if_neg (by omega), if_pos rfl, if_neg (ne_true_of_eq_false live)]

theorem trailerData_witness (taken : d.takeMsg l 0x22 = some (m, e)) (stream : e.stream l (leAt m 4 2 % 4096) = some x) (witness : x.kind = 2) :
    trailerData l d = (e.dropStream l x.id).takeWitness x (if leAt m 6 1 = 0 ∧ ¬x.timedOut then some (leAt m 0xC 4) else none) := by
  rw [trailerData, Dev.onMsg_some _ taken]
  simp only [stream]
  exact if_neg (not_not.mpr witness)

section
variable {i : Nat} (stream : d.stream l i = some x) (inTime : x.timedOut = false) (sent : d.streamUnsent l i = false)
include stream inTime sent

theorem writeAckTimeout_due (writes : x.kind = 0) :
    writeAckTimeout l i d = (((d.advance (x.lastAt + d.rd LNK_STREAM_CFG_WRITE_ACK_TO * 1000000)).incSat (LNK_STREAM_ERR_ACK_TIMEOUTS l)).setStream
      l { x with timedOut := true }).writeFailed l x 0 := by
  simp only [writeAckTimeout, stream]
  exact if_neg (by simp [writes, inTime, sent])

theorem readDataTimeout_due (reads : x.kind = 1) (live : x.cancelled = false) :
    readDataTimeout l i d = ((((d.advance (x.lastAt + d.rd LNK_STREAM_CFG_READ_DATA_TO * 1000000)).incSat
      (LNK_STREAM_ERR_READ_TIMEOUTS l)).setStream l { x with timedOut := true, cancelled := true }).txMsg l 1 (streamCancel i)).loseRead x := by
  simp only [readDataTimeout, stream]
  rw [if_neg (by simp [reads, inTime, live, sent])]
  exact if_neg (by omega)

end

end

/-- Settles O33. -/
theorem streamMessagesFeedTheirOperations : Obligations.StreamMessagesFeedTheirOperations := by
  unfold Obligations.StreamMessagesFeedTheirOperations
  refine fun s l => ⟨fun m e x taken stream reads live inTime => next_settled (block_live taken stream reads live inTime),
    fun m e x taken stream => ⟨fun writes inTime => ⟨fun done live => next_settled ?_, fun low high => next_settled ?_⟩,
      fun reads cancelled live => next_settled ?_⟩,
    fun m e x taken stream witness => ⟨fun gen inTime => next_settled ?_, fun lost => next_settled ?_⟩,
    fun i x stream inTime sent => ⟨fun writes => next_settled (writeAckTimeout_due stream inTime sent writes),
      fun reads live => next_settled (readDataTimeout_due stream inTime sent reads live)⟩⟩
  · rw [streamStatus_write taken stream writes, done]
    exact Dev.writeStatus_done inTime live
  · exact (streamStatus_write taken stream writes).trans (Dev.writeStatus_failed inTime low high)
  · rw [streamStatus_read taken stream reads, cancelled]
    exact Dev.readStatus_lost live
  · rw [trailerData_witness taken stream witness, if_pos ⟨gen, ne_true_of_eq_false inTime⟩]
  · rw [trailerData_witness taken stream witness, if_neg fun h => lost h.1]

end Sys2Proof.Machine

end

section

/-! PROOFS. Lanes that train: events before ACTIVE and failed attempts (R277, R280–R285, R288, R329). -/

namespace Sys2Proof.Machine
set_option Elab.async false

/-! ### What a wake writes -/

/-- The field stands below the registers of the power controller. -/
def Fld.belowAon (f : Fld) : Prop := f.key < 0x1500000 * 32

section
variable {d : Dev} {f : Fld} (low : f.belowAon)
include low

theorem Dev.rd_wr_aon (g : Fld) (v : Nat) (aon : 0x1500000 ≤ g.addr) : (d.wr g v).rd f = d.rd f := by
  refine Dev.rd_wr_ne _ _ _ _ ?_
  simp only [Fld.belowAon, Fld.key] at low ⊢
  omega

theorem Dev.rd_wrs_aon {l : List (Fld × Nat)} (aon : ∀ p ∈ l, 0x1500000 ≤ p.1.addr) : (d.wrs l).rd f = d.rd f := by
  refine Dev.rd_wrs_ne _ _ _ fun p mem => ?_
  have := aon p mem
  simp only [Fld.belowAon, Fld.key] at low ⊢
  omega

theorem Dev.rd_recordWake (c x : Nat) (t : Bool) : (d.recordWake c x t).rd f = d.rd f := by
  have aon (e : Dev) (g : Fld) (v : Nat) (h : 0x1500000 ≤ g.addr) : (e.wr g v).rd f = e.rd f := Dev.rd_wr_aon low g v h
  simp only [Dev.recordWake, Dev.wr64]
  split
  · split
    · exact (Dev.rd_wrs_aon low (by simp [AON_WAKE_LAST_CODE, AON_WAKE_LAST_DETAIL, AON_WAKE_LAST])).trans (aon _ _ _ (by decide))
    · exact aon _ _ _ (by decide)
  · exact (aon _ _ _ (by decide)).trans ((aon _ _ _ (by decide)).trans (Dev.rd_wrs_aon low
      (by simp [AON_WAKE_LAST_CODE, AON_WAKE_LAST_DETAIL, AON_WAKE_LAST_DURING_ENTRY, AON_WAKE_LAST])))

omit low in
theorem Dev.rd_noteSpot (c x : Nat) : (d.noteSpot c x).rd f = d.rd f := by rw [Dev.noteSpot_frame]; rfl

/-- A wake writes registers of the power controller alone. -/
theorem Dev.rd_wake (c x : Nat) : (d.wake c x).rd f = d.rd f := by
  have record (e : Dev) (t : Bool) : (e.recordWake c x t).rd f = e.rd f := Dev.rd_recordWake low c x t
  have spot (e : Dev) : (e.noteSpot c x).rd f = e.rd f := Dev.rd_noteSpot c x
  rw [Dev.wake]
  split
  · split
    · rfl
    · split
      · dsimp only
        split
        · exact (spot _).trans (record ..)
        · rfl
      · exact (Dev.rd_wrs_aon low (by simp [AON_REG_LOW_POWER, AON_REG, AON_STATE_PHASE, AON_STATE])).trans ((spot _).trans (record ..))
  · split
    · split
      · rfl
      · dsimp only
        split
        · exact (spot _).trans (record ..)
        · exact record ..
    · rfl

theorem Dev.rd_spotWake (x : Nat) : (d.spotWake x).rd f = d.rd f := by
  rw [Dev.spotWake]
  split
  · exact Dev.rd_wake low 3 x
  · rfl

/-- So does what makes an edge source pending. -/
theorem Dev.rd_raise (x : Nat) : (d.raise x).rd f = d.rd f := by
  rw [Dev.raise]
  split
  · rfl
  · split
    · exact Dev.rd_spotWake low x
    · split
      · rfl
      · dsimp only
        split
        · exact (Dev.rd_spotWake low x).trans (by rw [Dev.notifyRise_frame]; rfl)
        · rfl

end

/-! ### Training blocks on the wire -/

theorem inverted_inverted (b : List Byte) : inverted (inverted b) = b := by simp [inverted, List.map_map, Function.comp_def]

section
variable {d : Dev} {l : Nat} {b : List Byte}

theorem goodBlock_of (magic : leAt b 0 2 = 0xB01E) (crc : leAt b 12 4 = (crc32c (b.take 12)).toNat) (sane : bit (leAt b 3 1) 0 = true) :
    goodBlock b = true := by simp [goodBlock, magic, crc, sane]

/-- A block is not good both ways round: its MAGIC is not its own inverse. -/
theorem goodBlock_inverted (good : goodBlock b = true) : goodBlock (inverted b) = false := by
  have magic : leAt b 0 2 = 0xB01E := by
    simp only [goodBlock, Bool.and_eq_true, beq_iff_eq] at good
    exact good.1.1
  have other : leAt (inverted b) 0 2 ≠ 0xB01E := by
    rcases b with _ | ⟨x, _ | ⟨y, r⟩⟩ <;> simp [leAt, leNat, inverted] at magic ⊢ <;> omega
  simp [goodBlock, other]

/-- A block that arrives as its lane expects it is taken as it stands. -/
theorem Dev.polarity_upright (good : goodBlock b = true) : d.polarity l (if d.flag (LNK_LANE_POL_INV l) then inverted b else b) = (b, d) := by
  have upright : (if d.flag (LNK_LANE_POL_INV l) then inverted (if d.flag (LNK_LANE_POL_INV l) then inverted b else b)
      else (if d.flag (LNK_LANE_POL_INV l) then inverted b else b)) = b := by
    split
    · exact inverted_inverted b
    · rfl
  simp only [Dev.polarity, upright]
  exact if_neg fun h => h.2.1 good

/-- The lane with its polarity turned. -/
def Dev.turned (d : Dev) (l : Nat) : Dev := d.wr (LNK_LANE_POL_INV l) (if d.flag (LNK_LANE_POL_INV l) then 0 else 1)

/-- In SYNC one that arrives the other way round turns POL_INV. -/
theorem Dev.polarity_turned (good : goodBlock b = true) (sync : d.laneState l = lsSync) :
    d.polarity l (if d.flag (LNK_LANE_POL_INV l) then b else inverted b) = (b, d.turned l) := by
  have wrong : (if d.flag (LNK_LANE_POL_INV l) then inverted (if d.flag (LNK_LANE_POL_INV l) then b else inverted b)
      else (if d.flag (LNK_LANE_POL_INV l) then b else inverted b)) = inverted b := by
    split <;> rfl
  have turn : b2n (!d.flag (LNK_LANE_POL_INV l)) = if d.flag (LNK_LANE_POL_INV l) then 0 else 1 := by
    cases d.flag (LNK_LANE_POL_INV l) <;> rfl
  simp only [Dev.polarity, wrong, inverted_inverted]
  rw [turn]
  exact if_pos ⟨sync, ne_true_of_eq_false (goodBlock_inverted good), good⟩

theorem Dev.polarity_bad (bad : goodBlock b = false) (inv : goodBlock (inverted b) = false) :
    goodBlock (d.polarity l b).1 = false := by
  have either : goodBlock (if d.flag (LNK_LANE_POL_INV l) then inverted b else b) = false := by
    split <;> assumption
  have other : goodBlock (inverted (if d.flag (LNK_LANE_POL_INV l) then inverted b else b)) = false := by
    split
    · rw [inverted_inverted]
      exact bad
    · exact inv
  have stands : d.polarity l b = (if d.flag (LNK_LANE_POL_INV l) then inverted b else b, d) := if_neg fun h => ne_true_of_eq_false other h.2.2
  rw [stands]
  exact either

theorem trainingBlock_bad (bad : goodBlock (d.polarity l b).1 = false) : trainingBlock l b d = d := if_neg (ne_true_of_eq_false bad)

theorem trainingBlock_taken {w : List Byte} {e : Dev} (seen : d.polarity l w = (b, e)) (good : goodBlock b = true) :
    trainingBlock l w d = e.takeTraining l b := by
  rw [trainingBlock, seen]
  exact if_pos good

end

/-! ### What a good block does -/

section
variable {d : Dev} {l k : Nat} {b : List Byte}

theorem Dev.takeTraining_sync (apart : ∀ k, d.linkOf l = some k → d.flitting k = true → l ∉ d.groupLanes k) (sync : d.laneState l = lsSync)
    (phase : leAt b 2 1 = 1) : d.takeTraining l b = d.syncBlock l b := by
  rw [Dev.takeTraining]
  split
  · next k link =>
    have free : ¬(d.flitting k && (d.groupLanes k).contains l) = true := by simpa using apart k link
    rw [if_neg free, if_pos ⟨sync, phase⟩]
  · exact if_pos ⟨sync, phase⟩

section
variable (link : d.linkOf l = some k)
include link

theorem Dev.takeTraining_flits (flits : d.flitting k = true) (group : l ∈ d.groupLanes k) : d.takeTraining l b = d.linkDown k 7 := by
  rw [Dev.takeTraining, link]
  exact if_pos (by simp [flits, group])

variable (free : d.flitting k = false)
include free

theorem Dev.takeTraining_equalize (state : d.laneState l = lsEqualize) (phase : leAt b 2 1 = 2) :
    d.takeTraining l b = ((d.wr (LNK_LANE_PRESET l) (leAt b 0xA 1 % 8)).setLane l { d.lane l with eqFar := bit (leAt b 0xA 1) 3 }).eqCheck k := by
  rw [Dev.takeTraining, link]
  dsimp only
  rw [if_neg (by simp [free]), if_neg (by simp [state, lsEqualize, lsSync]), if_pos ⟨state, phase⟩, Dev.eqBlock]
  dsimp only
  split
  · next j own => rw [Option.some.inj (link.symm.trans own)]
  · next none_ => cases link.symm.trans none_

theorem Dev.takeTraining_negotiate (state : d.laneState l = lsNegotiate) (phase : leAt b 2 1 = 4) {c : Nat × Nat × Nat}
    (choice : (d.link k).choice = some c) (group : l ∈ d.chosenLanes k)
    (differs : leAt b 4 1 % 32 ≠ c.2.1 + 8 * c.2.2 ∨ leAt b 5 1 / 16 % 4 ≠ c.1) : d.takeTraining l b = d.linkFails k 6 := by
  rw [Dev.takeTraining, link]
  dsimp only
  rw [if_neg (by simp [free]), if_neg (by simp [state, lsNegotiate, lsSync]), if_neg (by simp [state, lsNegotiate, lsEqualize]),
    if_pos ⟨state, phase⟩]
  simp only [Dev.negBlock, link, choice]
  rw [if_neg (by simp [group]), if_pos differs]

end

/-! A turned lane stands in its link as before. -/

theorem Dev.rd_turned (f : Fld) (apart : f.key ≠ (LNK_LANE_POL_INV l).key) : (d.turned l).rd f = d.rd f := Dev.rd_wr_ne _ _ _ _ apart

theorem Dev.laneState_turned : (d.turned l).laneState k = d.laneState k :=
  Dev.rd_turned _ (by simp only [Fld.key, LNK_STATE_STATE, LNK_STATE, LNK_LANE_POL_INV, LNK_LANE]; omega)

theorem Dev.flitting_turned : (d.turned l).flitting k = d.flitting k := by
  have first : (d.turned l).isLink k = d.isLink k := by
    simp only [Dev.isLink, Dev.flag]
    rw [Dev.rd_turned _ (by simp only [Fld.key, LNK_STATE_FIRST, LNK_STATE, LNK_LANE_POL_INV, LNK_LANE]; omega)]
  rw [Dev.flitting, Dev.flitting, first, Dev.laneState_turned]

theorem Dev.groupLanes_turned : (d.turned l).groupLanes k = d.groupLanes k := by
  rw [Dev.groupLanes, Dev.groupLanes,
    Dev.rd_turned _ (by simp only [Fld.key, LNK_STATE_TR_FIRST, LNK_STATE, LNK_LANE_POL_INV, LNK_LANE]; omega),
    Dev.rd_turned _ (by simp only [Fld.key, LNK_STATE_TR_WIDTH, LNK_STATE, LNK_LANE_POL_INV, LNK_LANE]; omega)]

theorem Dev.linkOf_turned : (d.turned l).linkOf k = d.linkOf k := rfl

end

/-! ### The timers -/

section
variable {d : Dev} {l : Nat}

theorem syncTimeout_due (state : d.laneState l = lsSync) : syncTimeout l d =
    (d.advance ((d.lane l).since + 250000 * d.rd LNK_TIMERS_SYNC_TO)).attemptFails
      (if (d.lane l).count = 0 then [l] else (d.advance ((d.lane l).since + 250000 * d.rd LNK_TIMERS_SYNC_TO)).candidateLanes l) 1 := by
  have lane (t : Nat) : (d.advance t).lane l = d.lane l := by rw [Dev.advance_frame]; rfl
  rw [syncTimeout, if_pos state]
  dsimp only
  rw [lane]

/-- The largest of some numbers stands among them. -/
theorem foldl_max_eq {α : Type} {f : α → Nat} {i : α} : ∀ {l : List α} {m : Nat}, m ≤ f i → (i ∈ l ∨ m = f i) → (∀ j ∈ l, f j ≤ f i) →
    l.foldl (fun m j => Nat.max m (f j)) m = f i
  | [], m, _, mem, _ => by simpa using mem
  | j :: l, m, le, mem, most => by
    rw [List.foldl_cons]
    have lej : f j ≤ f i := most j List.mem_cons_self
    refine foldl_max_eq (Nat.max_le.mpr ⟨le, lej⟩) ?_ fun k hk => most k (List.mem_cons_of_mem _ hk)
    rcases mem with mem | eq
    · rcases List.mem_cons.mp mem with rfl | mem
      · exact .inr (Nat.max_eq_right le)
      · exact .inl mem
    · exact .inr (by rw [eq]; exact Nat.max_eq_left lej)

theorem negTimeout_due (link : d.isLink l = true) {i : Nat} (mem : i ∈ d.geomLanes l) (state : d.laneState i = lsNegotiate)
    (last : ∀ j ∈ d.geomLanes l, d.laneState j = lsNegotiate → (d.lane j).since ≤ (d.lane i).since) :
    negTimeout l d = (d.advance ((d.lane i).since + 250000 * d.rd LNK_TIMERS_NEG_TO)).linkFails l 5 := by
  have negotiates : (d.isLink l && (d.geomLanes l).any (fun i => d.laneState i == lsNegotiate)) = true := by
    rw [link, Bool.true_and, List.any_eq_true]
    exact ⟨i, mem, by simp [state]⟩
  have since : ((d.geomLanes l).filter (fun i => d.laneState i == lsNegotiate)).foldl (fun m i => Nat.max m (d.lane i).since) 0
      = (d.lane i).since := by
    refine foldl_max_eq (f := fun i => (d.lane i).since) (Nat.zero_le _) (.inl ?_) fun j hj => ?_
    · exact List.mem_filter.mpr ⟨mem, by simp [state]⟩
    · obtain ⟨own, same⟩ := List.mem_filter.mp hj
      exact last j own (by simpa using same)
  rw [negTimeout, if_pos negotiates, since]

end

/-! ### A failed attempt of one lane -/

section
variable {d : Dev} {l reason : Nat}

theorem Dev.rd_sendTraining (p : Nat) (f : Fld) : (d.sendTraining l p).rd f = d.rd f := rfl

theorem Dev.rd_laneEnter (s : Nat) (f : Fld) :
    (d.laneEnter l s).rd f = ((d.wr (LNK_STATE_STATE l) s).wr (LNK_STATE_NO_PARTNER l) 0).rd f := by
  simp only [Dev.laneEnter]
  split <;> rfl

theorem Dev.rd_laneEnter_state (s : Nat) (low : s < 8) : (d.laneEnter l s).rd (LNK_STATE_STATE l) = s := by
  rw [Dev.rd_laneEnter, Dev.rd_wr_ne _ _ _ _ (by simp only [Fld.key, LNK_STATE_STATE, LNK_STATE_NO_PARTNER]; omega), Dev.rd_wr_eq]
  exact Nat.mod_eq_of_lt low

/-- The lane whose attempt has failed, counted and captured. -/
def Dev.attemptCounted (d : Dev) (l reason : Nat) : Dev :=
  Dev.fault ((d.incSat (LNK_TRAIN_ATTEMPTS l)).wr (LNK_TRAIN_REASON l) reason) { unit := .lane (Fin.ofNat 512 l), src := 4, access := 7, detail := reason }

/-- A lane below the last that has failed too often halts. -/
def Dev.attemptState (d : Dev) (l : Nat) : Nat := if d.rd LNK_TIMERS2_TRAIN_RETRY < d.rd (LNK_TRAIN_ATTEMPTS l) then lsHalted else lsDetect

theorem Dev.rd_attemptFails_one {f : Fld} (low : f.belowAon) : (d.attemptFails [l] reason).rd f =
    ((d.attemptCounted l reason).laneEnter l ((d.attemptCounted l reason).attemptState l)).rd f := by
  have counted : Dev.fault ((d.incSat (LNK_TRAIN_ATTEMPTS l)).wr (LNK_TRAIN_REASON l) reason)
    { unit := .lane (Fin.ofNat 512 l), src := 4, access := 7, detail := reason } = d.attemptCounted l reason := rfl
  simp only [Dev.attemptFails, List.foldl_cons, List.foldl_nil, counted, decide_eq_true_eq]
  generalize d.attemptCounted l reason = e
  have state : (if e.rd LNK_TIMERS2_TRAIN_RETRY < e.rd (LNK_TRAIN_ATTEMPTS l) then lsHalted else lsDetect) = e.attemptState l := rfl
  rw [state]
  split
  · exact Dev.rd_raise low _
  · rfl

theorem Dev.rd_attemptCounted (lane : l < 512) (f : Fld) (apart : f.key < (0x800000 + 0x1000 * l + 0xF00) * 32 ∨ (0x800000 + 0x1000 * l + 0x1000) * 32 ≤ f.key) :
    (d.attemptCounted l reason).rd f = ((d.incSat (LNK_TRAIN_ATTEMPTS l)).wr (LNK_TRAIN_REASON l) reason).rd f := by
  have own : ((Fin.ofNat 512 l : Fin 512) : Nat) = l := Nat.mod_eq_of_lt lane
  refine (Dev.fault_sameOutside (v := { unit := .lane (Fin.ofNat 512 l), src := 4, access := 7, detail := reason }) (show 4 < 16 by decide)
    (fun c h => by cases h) (fun x h => ?_)).rd f fun g block => ?_
  · rw [← Option.some.inj h]
    decide
  · simp only [Fld.inBlock, unitBase, own, Fld.key] at block apart ⊢
    omega

/-- The count and the reason of a failed attempt, and the count beyond which a lane halts. -/
theorem Dev.attemptCounted_counts (lane : l < 512) (reasons : reason < 16) (few : d.rd (LNK_TRAIN_ATTEMPTS l) < 31) :
    (d.attemptCounted l reason).rd (LNK_TRAIN_ATTEMPTS l) = d.rd (LNK_TRAIN_ATTEMPTS l) + 1
      ∧ (d.attemptCounted l reason).rd (LNK_TRAIN_REASON l) = reason
      ∧ (d.attemptCounted l reason).rd LNK_TIMERS2_TRAIN_RETRY = d.rd LNK_TIMERS2_TRAIN_RETRY := by
  have retry : LNK_TIMERS2_TRAIN_RETRY.key = 0xA00004 * 32 + 10 := rfl
  refine ⟨?_, ?_, ?_⟩
  · rw [Dev.rd_attemptCounted lane _ (.inl (by simp only [Fld.key, LNK_TRAIN_ATTEMPTS, LNK_TRAIN]; omega)),
      Dev.rd_wr_ne _ _ _ _ (by simp only [Fld.key, LNK_TRAIN_ATTEMPTS, LNK_TRAIN_REASON]; omega), Dev.incSat, Dev.rd_wr_eq]
    change min 31 (d.rd (LNK_TRAIN_ATTEMPTS l) + 1) % 32 = _
    rw [Nat.min_eq_right (by omega), Nat.mod_eq_of_lt (by omega)]
  · rw [Dev.rd_attemptCounted lane _ (.inl (by simp only [Fld.key, LNK_TRAIN_REASON, LNK_TRAIN]; omega)), Dev.rd_wr_eq]
    exact Nat.mod_eq_of_lt reasons
  · rw [Dev.rd_attemptCounted lane _ (.inr (by rw [retry]; omega)),
      Dev.rd_wr_ne _ _ _ _ (by rw [retry]; simp only [Fld.key, LNK_TRAIN_REASON, LNK_TRAIN]; omega), Dev.incSat,
      Dev.rd_wr_ne _ _ _ _ (by rw [retry]; simp only [Fld.key, LNK_TRAIN_ATTEMPTS, LNK_TRAIN]; omega)]

theorem Dev.rd_laneEnter_train (s : Nat) {f : Fld} (train : f.addr = LNK_TRAIN l) (inside : f.lo < 32) : (d.laneEnter l s).rd f = d.rd f := by
  rw [Dev.rd_laneEnter, Dev.rd_wr_ne _ _ _ _ (by simp only [Fld.key, train, LNK_TRAIN, LNK_STATE_NO_PARTNER, LNK_STATE]; omega),
    Dev.rd_wr_ne _ _ _ _ (by simp only [Fld.key, train, LNK_TRAIN, LNK_STATE_STATE, LNK_STATE]; omega)]

/-- A failed attempt of a lane, below TRAIN_RETRY and beyond it. -/
theorem Dev.attemptFails_one (lane : l < 512) (reasons : reason < 16) (few : d.rd (LNK_TRAIN_ATTEMPTS l) < 31) :
    (d.attemptFails [l] reason).rd (LNK_TRAIN_ATTEMPTS l) = d.rd (LNK_TRAIN_ATTEMPTS l) + 1
      ∧ (d.attemptFails [l] reason).rd (LNK_TRAIN_REASON l) = reason
      ∧ (d.attemptFails [l] reason).rd (LNK_STATE_STATE l)
        = if d.rd LNK_TIMERS2_TRAIN_RETRY < d.rd (LNK_TRAIN_ATTEMPTS l) + 1 then lsHalted else lsDetect := by
  obtain ⟨attempts, because, retry⟩ := d.attemptCounted_counts lane reasons few
  have train {f : Fld} (own : f.addr = LNK_TRAIN l) (inside : f.lo < 32) : f.belowAon := by
    simp only [Fld.belowAon, Fld.key, own, LNK_TRAIN]
    omega
  refine ⟨?_, ?_, ?_⟩
  · rw [Dev.rd_attemptFails_one (train rfl (show 4 < 32 by decide)), Dev.rd_laneEnter_train _ rfl (show 4 < 32 by decide), attempts]
  · rw [Dev.rd_attemptFails_one (train rfl (show 0 < 32 by decide)), Dev.rd_laneEnter_train _ rfl (show 0 < 32 by decide), because]
  · rw [Dev.rd_attemptFails_one (by simp only [Fld.belowAon, Fld.key, LNK_STATE_STATE, LNK_STATE]; omega), Dev.rd_laneEnter_state, Dev.attemptState,
      attempts, retry]
    simp only [Dev.attemptState, lsHalted, lsDetect]
    split <;> omega

end

/-- Settles O36. -/
theorem trainingEventsAndFailedAttempts : Obligations.TrainingEventsAndFailedAttempts := by
  unfold Obligations.TrainingEventsAndFailedAttempts
  refine ⟨fun s l => ⟨fun state => ⟨fun may => next_settled (if_pos ⟨state, may⟩), next_settled (if_pos state)⟩,
    fun b bad inv => next_settled (trainingBlock_bad (Dev.polarity_bad bad inv)), fun b magic crc sane => ?_,
    fun k link state clean => next_settled ?_, fun state => next_settled (syncTimeout_due state), fun link => ⟨fun equalizes => next_settled (if_pos ?_),
      fun i mem state last => next_settled (negTimeout_due link mem state last), fun state free => next_settled (if_pos ?_)⟩⟩,
    fun d l reason lane reasons few => ?_⟩
  · have good := goodBlock_of magic crc sane
    have upright {e : Dev} (h : s.dev.takeTraining l.val b = e) :
        exec (.trainingBlock l (if s.dev.flag (LNK_LANE_POL_INV l.val) then inverted b else b)) s = .next (s.settled e) :=
      next_settled ((trainingBlock_taken (Dev.polarity_upright good) good).trans h)
    have turned {e : Dev} (sync : s.dev.laneState l.val = lsSync) (h : (s.dev.turned l.val).takeTraining l.val b = e) :
        exec (.trainingBlock l (if s.dev.flag (LNK_LANE_POL_INV l.val) then b else inverted b)) s = .next (s.settled e) :=
      next_settled ((trainingBlock_taken (Dev.polarity_turned good sync) good).trans h)
    refine ⟨fun apart sync phase => ⟨upright (Dev.takeTraining_sync apart sync phase), fun _ => turned sync ?_⟩, fun k link =>
      ⟨fun flits group => ⟨upright (Dev.takeTraining_flits link flits group), fun sync => turned sync ?_⟩, fun free =>
        ⟨fun state phase => ⟨upright (Dev.takeTraining_equalize link free state phase), fun sync => ?_⟩,
          fun state phase c choice group differs => ⟨upright (Dev.takeTraining_negotiate link free state phase choice group differs), fun sync => ?_⟩⟩⟩⟩
    · refine Dev.takeTraining_sync (fun k link flits => ?_) (Dev.laneState_turned.trans sync) phase
      rw [Dev.groupLanes_turned]
      exact apart k link (Dev.flitting_turned.symm.trans flits)
    · refine Dev.takeTraining_flits link (Dev.flitting_turned.trans flits) ?_
      rw [Dev.groupLanes_turned]
      exact group
    · cases state.symm.trans sync
    · cases state.symm.trans sync
  · simp only [eqDone, link]
    exact if_pos ⟨state, ne_true_of_eq_false clean⟩
  · obtain ⟨i, mem, same⟩ := equalizes
    rw [link, Bool.true_and, List.any_eq_true]
    exact ⟨i, mem, by simp [same, lsEqualize]⟩
  · rw [link, free]
    simp [state, lsIdentify]
  · obtain ⟨attempts, because, state⟩ := d.attemptFails_one lane reasons few
    exact ⟨attempts, because, fun below => state.trans (if_neg (Nat.not_lt.mpr below)), fun beyond => state.trans (if_pos beyond)⟩

end Sys2Proof.Machine

end

section

/-! PROOFS. Identity and admission of partners, retirement, LNK_CTRL and lane tests (R287–R295, R553). -/

namespace Sys2Proof.Machine
set_option Elab.async false

/-! ### Identity records -/

section
variable {d e : Dev} {l : Nat} {m : List Byte} (taken : d.takeMsg l 0x31 = some (m, e)) (state : e.laneState l = lsIdentify)
  (free : e.flag (LNK_STATE_AWAIT_ADMIT l) = false)
include taken state free

theorem ident_first (part : leAt m 4 1 = 0) : ident l d = e.setLink l { e.link l with ident := (m.drop 8).take 128 } := by
  rw [ident, Dev.onMsg_some _ taken, if_neg (by simp [state, free])]
  exact if_pos part

theorem ident_second (part : leAt m 4 1 = 1) (first : (e.link l).ident.length = 128) :
    ident l d = (e.setLink l { e.link l with ident := [] }).identified l ((e.link l).ident ++ (m.drop 8).take 128) := by
  rw [ident, Dev.onMsg_some _ taken, if_neg (by simp [state, free])]
  dsimp only
  rw [if_neg (by omega), if_pos ⟨part, first⟩]

end

/-- The identity record of a link shown in LNK_IDENT. -/
def Dev.identShown (d : Dev) (l : Nat) (r : List Byte) : Dev := (List.range 64).foldl (fun d w => d.wr (LNK_IDENT_DATA l w) (leAt r (4 * w) 4)) d

section
variable {d : Dev} {l : Nat} {r : List Byte}

theorem Dev.link_identShown (k : Nat) : (d.identShown l r).link k = d.link k :=
  List.foldlRecOn (motive := fun e : Dev => e.link k = d.link k) _ _ rfl fun _ h _ _ => h

theorem Dev.identified_matches (good : identBad r = false) (own : (d.link l).admitted = some (admitOf ((d.link l).geom.getD 0) r)) :
    d.identified l r = (d.identShown l r).goActive l := by
  rw [Dev.identified, if_neg (ne_true_of_eq_false good), ← Dev.identShown]
  dsimp only
  rw [Dev.link_identShown]
  exact if_pos own

/-- A link that another partner answers on awaits admission. -/
def Dev.awaited (d : Dev) (l : Nat) : Dev :=
  (d.setLink l { d.link l with owed := [], expired := (d.link l).left.isSome, other := (d.link l).left.isSome }).wr (LNK_STATE_AWAIT_ADMIT l) 1

theorem Dev.identified_other (good : identBad r = false) (other : (d.link l).admitted ≠ some (admitOf ((d.link l).geom.getD 0) r)) :
    ∃ e : Dev, e = (d.identShown l r).awaited l ∧ d.identified l r =
      if bit (e.rd (discBit (l / 8))) (l / 8 % 32) then e else (e.bayMask (discBit (l / 8)) (l / 8) true).raise (lnkSource l) := by
  refine ⟨_, rfl, ?_⟩
  rw [Dev.identified, if_neg (ne_true_of_eq_false good), ← Dev.identShown]
  dsimp only
  rw [if_neg (by rw [Dev.link_identShown]; exact other)]
  rfl

theorem Dev.rd_goActive_state : (d.goActive l).rd (LNK_STATE_STATE l) = 6 := by
  rw [Dev.goActive]
  dsimp only
  generalize (List.foldl _ d _).inc _ = e
  change (Dev.wrs e [(LNK_STATE_STATE l, lsActive), (LNK_STATE_AWAIT_ADMIT l, 0)]).rd (LNK_STATE_STATE l) = 6
  rw [Dev.wrs, List.foldl_cons, List.foldl_cons, List.foldl_nil,
    Dev.rd_wr_ne _ _ _ _ (by simp only [Fld.key, LNK_STATE_STATE, LNK_STATE_AWAIT_ADMIT]; omega), Dev.rd_wr_eq]
  rfl

theorem Dev.left_goActive : ((d.goActive l).link l).left = none := by
  rw [Dev.goActive]
  dsimp only
  rw [Dev.link_setLink]

theorem Dev.rd_awaited : (d.awaited l).rd (LNK_STATE_AWAIT_ADMIT l) = 1 := Dev.rd_wr_eq ..

theorem Dev.expired_awaited : ((d.awaited l).link l).expired = (d.link l).left.isSome := congrArg LinkT.expired (Dev.link_setLink ..)

theorem Dev.identified_awaits (lane : l < 512) (good : identBad r = false) (other : (d.link l).admitted ≠ some (admitOf ((d.link l).geom.getD 0) r)) :
    (d.identified l r).rd (LNK_STATE_AWAIT_ADMIT l) = 1 ∧ ((d.identified l r).link l).expired = (d.link l).left.isSome := by
  have low : (LNK_STATE_AWAIT_ADMIT l).belowAon := by simp only [Fld.belowAon, Fld.key, LNK_STATE_AWAIT_ADMIT, LNK_STATE]; omega
  have apart : (LNK_STATE_AWAIT_ADMIT l).key ≠ (discBit (l / 8)).key := by
    simp only [Fld.key, LNK_STATE_AWAIT_ADMIT, LNK_STATE, discBit]
    split <;> simp only [LNK_DISCOVERED_LO, LNK_DISCOVERED_HI] <;> omega
  have expired : (((d.identShown l r).awaited l).link l).expired = (d.link l).left.isSome := by
    rw [Dev.expired_awaited, Dev.link_identShown]
  obtain ⟨e, awaits, same⟩ := Dev.identified_other good other
  rw [← awaits] at expired
  have one : e.rd (LNK_STATE_AWAIT_ADMIT l) = 1 := by
    rw [awaits]
    exact Dev.rd_awaited
  rw [same]
  split
  · exact ⟨one, expired⟩
  · refine ⟨?_, ?_⟩
    · rw [Dev.rd_raise low, Dev.bayMask, Dev.rd_wr_ne _ _ _ _ apart, one]
    · rw [Dev.raise_frame]
      exact expired

end

/-! ### Admission and retirement -/

section
variable {d : Dev} {b : Nat}

theorem Dev.admitBay_range (range : 63 < b) : d.admitBay b = (stInvalid, 0, d) := if_pos range

variable (bay : b ≤ 63)
include bay

theorem Dev.admitBay_absent (none_ : d.admissible b = []) : d.admitBay b = (stBayAbsent, 0, d) := by
  rw [Dev.admitBay, if_neg (Nat.not_lt.mpr bay), none_]
  rfl

theorem Dev.admitBay_mismatch (bad : ∃ l ∈ d.admissible b, d.topoOk l = false) : d.admitBay b =
    (stInvalid, 0, ((d.admissible b).filter (fun l => !d.topoOk l)).foldl (fun e l => e.wr (LNK_STATE_TOPO_MISMATCH l) 1) d) := by
  obtain ⟨l, mem, differs⟩ := bad
  have some_ : ¬(d.admissible b).isEmpty = true := fun h => by
    rw [List.isEmpty_iff.mp h] at mem
    cases mem
  have wrong : (!((d.admissible b).filter (fun l => !d.topoOk l)).isEmpty) = true := by
    rw [Bool.not_eq_true', ← Bool.not_eq_true]
    intro h
    have : l ∈ (d.admissible b).filter (fun l => !d.topoOk l) := List.mem_filter.mpr ⟨mem, by simp [differs]⟩
    rw [List.isEmpty_iff.mp h] at this
    cases this
  rw [Dev.admitBay, if_neg (Nat.not_lt.mpr bay), if_neg some_, if_pos wrong]

theorem Dev.admitBay_admits (some_ : d.admissible b ≠ []) (good : ∀ l ∈ d.admissible b, d.topoOk l = true) :
    ∃ e : Dev, e = (((d.admissible b).foldl (fun e l => e.admitLink l) d).bayMask (admBit b) b true).bayMask (discBit b) b false
      ∧ d.admitBay b = (stSuccess, (d.admissible b).length, { e with lnk := { e.lnk with barred := setDel b e.lnk.barred } }) := by
  have none_ : (d.admissible b).filter (fun l => !d.topoOk l) = [] := by
    rw [List.filter_eq_nil_iff]
    intro l mem
    simp [good l mem]
  refine ⟨_, rfl, ?_⟩
  rw [Dev.admitBay, if_neg (Nat.not_lt.mpr bay), if_neg fun h => some_ (List.isEmpty_iff.mp h), none_]
  rfl

end

theorem admitBay_ready {d : Dev} {n : Nat} (own : d.adminReady n 0xA0 = true) {r : Nat × Nat × Dev}
    (outcome : (d.started n).admitBay (darg (d.entry n).desc 4 1) = r) : admitBay n d = r.2.2.finish n r.1 r.2.1 := by
  rw [admitBay, Dev.admin_ready _ own]
  dsimp only
  rw [outcome]

section
variable {d : Dev} {n : Nat} (own : d.adminReady n 0xA1 = true) (free : d.lnk.retiring.get (darg (d.entry n).desc 4 1) 0 = 0)
include own free

theorem retireBay_range (range : 63 < darg (d.entry n).desc 4 1) : retireBay n d = (d.started n).finish n stInvalid := by
  rw [retireBay, if_neg (not_not.mpr free), Dev.admin_ready _ own]
  exact if_pos range

/-- The bay whose retirement a command has asked for. -/
def Dev.retireAsked (d : Dev) (n b : Nat) : Dev := { d with lnk := { d.lnk with retiring := d.lnk.retiring.set b (n + 1) 0 } }

theorem retireBay_tries (bay : darg (d.entry n).desc 4 1 ≤ 63) : retireBay n d =
    if ((d.started n).retireAsked n (darg (d.entry n).desc 4 1)).bayOwes (darg (d.entry n).desc 4 1)
    then (d.started n).retireAsked n (darg (d.entry n).desc 4 1)
    else (((d.started n).retireAsked n (darg (d.entry n).desc 4 1)).retire (darg (d.entry n).desc 4 1)).finish n stSuccess := by
  rw [retireBay, if_neg (not_not.mpr free), Dev.admin_ready _ own]
  refine (if_neg (Nat.not_lt.mpr bay)).trans ?_
  have asked : ((d.started n).retireAsked n (darg (d.entry n).desc 4 1)).lnk.retiring.get (darg (d.entry n).desc 4 1) 0 = n + 1 := by
    simp only [Dev.retireAsked, Tab.get_set_eq]
  rw [← Dev.retireAsked, Dev.retireTry, asked]

end

/-! ### LNK_CTRL -/

theorem bit_zero (v : Nat) : bit v 0 = decide (v % 2 = 1) := by simp [bit, beq_eq_decide]
theorem bit_one (v : Nat) : bit v 1 = decide (v / 2 % 2 = 1) := by simp [bit, beq_eq_decide]

/-- The rate of a write of LNK_CTRL stored. -/
def Dev.lnkRate (d : Dev) (l v : Nat) : Dev := if v / 4 % 4 = 3 then d else d.wr (LNK_CTRL_MAX_RATE l) (v / 4 % 4)

/-- The lane of a write of LNK_CTRL enabled or disabled. -/
def Dev.lnkEnable (d : Dev) (l v : Nat) : Dev :=
  let on := d.flag (LNK_CTRL_ENABLE l)
  if on = true ∧ v % 2 = 0 then d.laneDisable l else if on = false ∧ v % 2 = 1 then d.laneEnable l else d

theorem Dev.lnkCtrl_eq (d : Dev) (l v : Nat) : d.lnkCtrl l v =
    if v / 2 % 2 = 1 then ((d.lnkRate l v).lnkEnable l v).retrainLink l else (d.lnkRate l v).lnkEnable l v := by
  have enable : (d.lnkRate l v).flag (LNK_CTRL_ENABLE l) = d.flag (LNK_CTRL_ENABLE l) := by
    rw [Dev.lnkRate]
    split
    · rfl
    · simp only [Dev.flag]
      rw [Dev.rd_wr_ne _ _ _ _ (by simp only [Fld.key, LNK_CTRL_ENABLE, LNK_CTRL_MAX_RATE]; omega)]
  have rate : (if bits v 2 2 = 3 then d else d.wr (LNK_CTRL_MAX_RATE l) (bits v 2 2)) = d.lnkRate l v := rfl
  rw [Dev.lnkCtrl, bit_zero, bit_one, ← enable]
  rw [rate]
  generalize d.lnkRate l v = e
  have able : (if (e.flag (LNK_CTRL_ENABLE l) && !decide (v % 2 = 1)) = true then e.laneDisable l
      else if ((!e.flag (LNK_CTRL_ENABLE l)) && decide (v % 2 = 1)) = true then e.laneEnable l else e) = e.lnkEnable l v := by
    rw [Dev.lnkEnable]
    rcases Nat.mod_two_eq_zero_or_one v with even | odd
    · cases e.flag (LNK_CTRL_ENABLE l) <;> simp [even]
    · cases e.flag (LNK_CTRL_ENABLE l) <;> simp [odd]
  rw [able]
  simp only [decide_eq_true_eq]

/-! ### Lane tests -/

/-- What the two sides of a test counted, shown. -/
def Dev.testShown (d : Dev) (lane near far : Nat) : Dev :=
  d.wrs [(LNK_PRBS_NEAR_ERRORS lane, Nat.min near 0xFFFFFFFF), (LNK_PRBS_FAR_ERRORS lane, far)]

theorem laneTestResult_own {d e : Dev} {l near : Nat} {m : List Byte} {t : LaneTest} (taken : d.takeMsg l 0x33 = some (m, e))
    (test : (e.lane (l / 8 * 8 + leAt m 4 1 % 8)).test = some t) (own : t.carrier = l) :
    laneTestResult l near d =
      let lane := l / 8 * 8 + leAt m 4 1 % 8
      let x := e.testShown lane near (leAt m 8 4)
      if leAt m 5 1 ≠ 0 then x.laneTestEnd lane 3
      else if near ≤ errorsAllowed t.rate t.ms ∧ leAt m 8 4 ≤ errorsAllowed t.rate t.ms then (x.wr (LNK_LANE_FAULTY lane) 0).laneTestEnd lane 1
      else (x.faultFree { unit := .lane (Fin.ofNat 512 lane), src := 6, access := 7 } false 16).laneTestEnd lane 2 := by
  rw [laneTestResult, Dev.onMsg_some _ taken]
  dsimp only
  rw [test]
  exact if_neg (not_not.mpr own)

/-- Settles O37. -/
theorem partnersAreIdentifiedAndAdmitted : Obligations.PartnersAreIdentifiedAndAdmitted := by
  unfold Obligations.PartnersAreIdentifiedAndAdmitted
  refine fun s => ⟨fun l m e taken state free => ⟨fun part => next_settled (ident_first taken state free part), fun part first =>
      ⟨fun bad => next_settled ?_, fun _ => next_settled (ident_second taken state free part first)⟩⟩,
    fun d l r lane good => ⟨fun own => ?_, fun other => Dev.identified_awaits lane good other⟩,
    fun n => ⟨fun own => ⟨fun range => next_settled (admitBay_ready own (Dev.admitBay_range range)),
        fun bay none_ => next_settled (admitBay_ready own (Dev.admitBay_absent bay none_)),
        fun bay bad => next_settled (admitBay_ready own (Dev.admitBay_mismatch bay bad)), fun bay some_ good => ?_⟩,
      fun busy => next_settled (if_pos busy), fun own free => ⟨fun range => next_settled (retireBay_range own free range), fun bay => ?_⟩⟩,
    fun l v opened => ?_, fun l near m e t taken test own => ?_⟩
  · rw [ident_second taken state free part first]
    exact if_pos bad
  · rw [Dev.identified_matches good own]
    exact ⟨Dev.rd_goActive_state, Dev.left_goActive⟩
  · obtain ⟨e, made, outcome⟩ := Dev.admitBay_admits bay some_ good
    subst made
    exact next_settled (admitBay_ready own outcome)
  · have tries := retireBay_tries own free bay
    exact ⟨fun owes => next_settled (tries.trans (if_pos owes)), fun done => next_settled (tries.trans (if_neg (ne_true_of_eq_false done)))⟩
  · have written := (Dev.setup_open v.toNat (fun d => d.lnkCtrl l.val v.toNat) opened).trans (Dev.lnkCtrl_eq _ _ _)
    exact ⟨next_settled written, next_settled written⟩
  · have result := laneTestResult_own (near := near) taken test own
    refine ⟨fun stopped => next_settled (result.trans (if_pos stopped)), fun ran => ⟨fun close far => next_settled (result.trans ?_),
      fun wide => next_settled (result.trans ?_)⟩⟩
    · exact (if_neg (not_not.mpr ran)).trans (if_pos ⟨close, far⟩)
    · exact (if_neg (not_not.mpr ran)).trans (if_neg fun within => wide.elim (Nat.not_lt.mpr within.1) (Nat.not_lt.mpr within.2))

end Sys2Proof.Machine

end

section

/-! PROOFS. What a flit slot sends, what a received flit does, and the flit timers (R275, R301, R304, R307–R310, R314, R329). -/

namespace Sys2Proof.Machine
set_option Elab.async false

section
variable {d : Dev} {l : Nat}

/-! ### Where nothing arrives or leaves -/

theorem Dev.rxFlit_idle (x : RxFlit) (idle : d.flitting l = false ∨ (d.link l).sess.dead = true) : d.rxFlit l x = d :=
  if_pos (by rcases idle with h | h <;> simp [h])

theorem txSlot_idle (idle : d.flitting l = false ∨ (d.link l).sess.dead = true) : txSlot l d = d :=
  if_pos (by rcases idle with h | h <;> simp [h])

theorem linkCtrl_idle (x : RxFlit) (idle : d.flitting l = false) : linkCtrl l x d = d := by
  rw [linkCtrl]
  split
  · exact Dev.rxFlit_idle x (.inl idle)
  · rfl

theorem ackTimeExpire_idle (idle : d.flitting l = false) : ackTimeExpire l d = d := if_neg (by simp [idle])

theorem replayToExpire_idle (q : Nat) (idle : d.flitting l = false) : replayToExpire l q d = d := by
  rw [replayToExpire]
  dsimp only
  split
  · rfl
  · exact if_pos (by simp [idle])

section
variable (flits : d.flitting l = true) (live : (d.link l).sess.dead = false)
include flits live

/-! ### Received flits -/

/-- The device once a slot's flit has been counted. -/
def Dev.slotCounted (d : Dev) (l : Nat) (x : RxFlit) : Dev := (d.countFec l x).rxSlot l

/-- The header of a good flit taken. -/
def Dev.headerTaken (d : Dev) (l : Nat) (x : RxFlit) : Dev :=
  let e := d.slotCounted l x
  e.setSess l { ((e.link l).sess.header x.bytes) with lastGood := d.now }

/-- A session shown while flits run on its link. -/
def Dev.shownIfFlits (d : Dev) (l : Nat) : Dev := if d.flitting l then d.showSess l else d

theorem Dev.rxFlit_bad {x : RxFlit} (bad : flitGood x.bytes = false ∨ 0 < x.uncorrected) : d.rxFlit l x = (d.slotCounted l x).rxBad l := by
  rw [Dev.rxFlit, if_neg (by simp [flits, live])]
  exact if_pos (by rcases bad with h | h <;> simp [h])

theorem Dev.rxFlit_good {x : RxFlit} (good : flitGood x.bytes = true) (whole : x.uncorrected = 0) : d.rxFlit l x =
    Dev.shownIfFlits (if flitKind x.bytes = 0 then (d.headerTaken l x).rxData l x.bytes
      else if flitKind x.bytes = 1 then (d.headerTaken l x).rxCtrl l x.bytes
      else if flitKind x.bytes = 3 then (d.headerTaken l x).linkDown l 5
      else d.headerTaken l x) l := by
  rw [Dev.rxFlit, if_neg (by simp [flits, live])]
  exact if_neg (by simp [good, whole])

/-! ### What a slot sends -/

/-- What a slot puts on the wire. -/
def Dev.slotSends (d : Dev) (l : Nat) : Dev :=
  let s := (d.link l).sess
  let active := d.linkActive l
  match s.replay.find? (fun t => t.due) with
  | some t => d.sendAgain l t
  | none =>
    if s.ctrlDue then d.sendCtrl l
    else
      match s.control active with
      | some vc => d.sendData l vc
      | none => if active && s.ready 0 then d.sendData l 0 else d.sendIdle l

/-- How many slots it is since a control channel took one. -/
def Session.turn (s : Session) (active : Bool) : Nat :=
  if s.replay.all (fun t => !t.due) && !s.ctrlDue && (s.control active).isSome then 1 else Nat.min 128 (s.since12 + 1)

/-- After it only the turn of the channels is counted, if flits still run. -/
theorem txSlot_sends : ∃ n, txSlot l d = if (d.slotSends l).flitting l then
    ((d.slotSends l).setSess l { ((d.slotSends l).link l).sess with since12 := n }).showSess l else d.slotSends l := by
  refine ⟨(d.link l).sess.turn (d.linkActive l), ?_⟩
  rw [txSlot, if_neg (by simp [flits, live])]
  change (if (!(d.slotSends l).flitting l) = true then d.slotSends l else ((d.slotSends l).setSess l
    { ((d.slotSends l).link l).sess with since12 := (d.link l).sess.turn (d.linkActive l) }).showSess l) = _
  cases (d.slotSends l).flitting l <;> rfl

end

theorem Dev.out_showSess : (d.showSess l).out = d.out := by
  rw [Dev.showSess, Dev.wrs_regs_only]

theorem Dev.link_showSess (k : Nat) : (d.showSess l).link k = d.link k := by
  rw [Dev.showSess, Dev.wrs_regs_only]
  rfl

section
variable (flits : d.flitting l = true) (live : (d.link l).sess.dead = false)
include flits live

theorem txSlot_out : (txSlot l d).out = (d.slotSends l).out := by
  obtain ⟨n, sent⟩ := txSlot_sends flits live
  rw [sent]
  split
  · exact Dev.out_showSess
  · rfl

theorem txSlot_sess : ∃ n, ((txSlot l d).link l).sess = { ((d.slotSends l).link l).sess with since12 := n } := by
  obtain ⟨n, sent⟩ := txSlot_sends flits live
  rw [sent]
  split
  · refine ⟨n, ?_⟩
    rw [Dev.link_showSess, Dev.setSess, Dev.link_setLink]
  · exact ⟨_, rfl⟩

theorem txSlot_stopped (down : (d.slotSends l).flitting l = false) : txSlot l d = d.slotSends l := by
  obtain ⟨n, sent⟩ := txSlot_sends flits live
  rw [sent, if_neg (ne_true_of_eq_false down)]

end

theorem Dev.slotSends_again {x : TxFlit} (due : (d.link l).sess.replay.find? (·.due) = some x) : d.slotSends l = d.sendAgain l x := by
  simp only [Dev.slotSends, due]

theorem Dev.sendAgain_last {x : TxFlit} (often : 8 ≤ x.rexmits) : d.sendAgain l x = d.linkDown l 2 := if_pos often

section
variable (none_ : (d.link l).sess.replay.all (fun x => !x.due) = true)
include none_

theorem find_due_none : (d.link l).sess.replay.find? (·.due) = none := by
  rw [List.find?_eq_none]
  intro x mem
  simpa using List.all_eq_true.mp none_ x mem

theorem Dev.slotSends_ctrl (ctrl : (d.link l).sess.ctrlDue = true) : d.slotSends l = d.sendCtrl l := by
  simp only [Dev.slotSends, find_due_none none_]
  exact if_pos ctrl

theorem Dev.slotSends_control (quiet : (d.link l).sess.ctrlDue = false) {vc : Nat} (ready : (d.link l).sess.control (d.linkActive l) = some vc) :
    d.slotSends l = d.sendData l vc := by
  simp only [Dev.slotSends, find_due_none none_, ready]
  exact if_neg (ne_true_of_eq_false quiet)

theorem Dev.slotSends_rest (quiet : (d.link l).sess.ctrlDue = false) (ready : (d.link l).sess.control (d.linkActive l) = none) :
    d.slotSends l = if d.linkActive l && (d.link l).sess.ready 0 then d.sendData l 0 else d.sendIdle l := by
  simp only [Dev.slotSends, find_due_none none_, ready]
  exact if_neg (ne_true_of_eq_false quiet)

end

theorem Dev.sess_sendCtrl : ((d.sendCtrl l).link l).sess.ctrlDue = false ∧ ((d.sendCtrl l).link l).sess.initSent = true := by
  have session : ∀ e : Dev, ∀ x : Session, ∀ f, (((e.setSess l x).emitFlit l f).link l).sess = { x with txLane := (x.txLane + 1) % x.width } := by
    intro e x f
    have own (t : LinkT) : (e.setLink l t).link l = t := Dev.link_setLink ..
    change ((Dev.setSess (e.setSess l x) l _).link l).sess = _
    rw [Dev.setSess, Dev.link_setLink, Dev.setSess, own]
  rw [Dev.sendCtrl]
  dsimp only
  rw [session]
  exact ⟨rfl, rfl⟩

/-! ### The timers -/

theorem ackTimeExpire_gap (flits : d.flitting l = true) (gap : (d.link l).sess.front ≠ (d.link l).sess.next) (held : (d.link l).sess.reorder ≠ []) :
    ackTimeExpire l d = (d.advance ((d.link l).sess.gapAt + 125 * d.rd LNK_FLIT_CFG_ACK_TIME)).setSess l
      { (d.link l).sess with ctrlDue := true, gapAt := (d.advance ((d.link l).sess.gapAt + 125 * d.rd LNK_FLIT_CFG_ACK_TIME)).now } :=
  if_pos (by simp [flits, gap, held])

theorem replayToExpire_due (flits : d.flitting l = true) {q : Nat} {x : TxFlit}
    (open_ : (d.link l).sess.replay.find? (fun t => t.seq == q && !t.stored && !t.due) = some x) :
    replayToExpire l q d =
      let y := d.advance (x.sentAt + 1000 * d.rd LNK_FLIT_CFG2_REPLAY_TO)
      if 8 ≤ x.rexmits then y.linkDown l 2
      else y.setSess l { (d.link l).sess with
        replay := (d.link l).sess.replay.map (fun z => if z.seq = q then { z with due := true } else z) } := by
  simp only [replayToExpire, open_]
  exact if_neg (by simp [flits])

end

/-- Settles O38. -/
theorem flitsArriveAndLeaveByTheirRules : Obligations.FlitsArriveAndLeaveByTheirRules := by
  unfold Obligations.FlitsArriveAndLeaveByTheirRules
  refine fun s l => ⟨fun idle => ⟨fun f => next_settled (Dev.rxFlit_idle f (.inl idle)), fun f => next_settled (linkCtrl_idle f idle),
      next_settled (txSlot_idle (.inl idle)), next_settled (ackTimeExpire_idle idle), fun q => next_settled (replayToExpire_idle q.val idle),
      next_settled (if_neg (ne_true_of_eq_false idle))⟩,
    fun _ dead => ⟨fun f => next_settled (Dev.rxFlit_idle f (.inr dead)), next_settled (txSlot_idle (.inr dead))⟩,
    fun flits live => ⟨fun x bad => next_settled (Dev.rxFlit_bad flits live bad), fun x good whole => ?_,
      ⟨txSlot l.val s.dev, next_settled rfl, fun x due often down => ?_, fun none_ ctrl => ?_, fun x due few => ?_, fun none_ quiet =>
        ⟨fun vc ready => ?_, fun ready => ?_⟩⟩,
      fun gap held => next_settled (ackTimeExpire_gap flits gap held), fun q x open_ => ⟨fun often => next_settled ?_, fun few => next_settled ?_⟩,
      next_settled (if_pos flits)⟩⟩
  · have taken {e : Dev} (h : (if flitKind x.bytes = 0 then (s.dev.headerTaken l.val x).rxData l.val x.bytes
        else if flitKind x.bytes = 1 then (s.dev.headerTaken l.val x).rxCtrl l.val x.bytes
        else if flitKind x.bytes = 3 then (s.dev.headerTaken l.val x).linkDown l.val 5
        else s.dev.headerTaken l.val x) = e) : s.dev.rxFlit l.val x = e.shownIfFlits l.val := by
      rw [Dev.rxFlit_good flits live good whole, h]
    refine ⟨fun data => next_settled (taken (if_pos data)), fun ctrl => ?_, fun idle => next_settled (taken ?_),
      fun down => next_settled (taken ?_)⟩
    · have received := taken ((if_neg (by omega)).trans (if_pos ctrl))
      have link : exec (.linkCtrl l x) s = .next (s.settled (Dev.shownIfFlits ((s.dev.headerTaken l.val x).rxCtrl l.val x.bytes) l.val)) :=
        next_settled ((if_pos ctrl).trans received)
      exact ⟨link, Eq.trans (next_settled received) link.symm⟩
    · exact (if_neg (by omega)).trans ((if_neg (by omega)).trans (if_neg (by omega)))
    · exact (if_neg (by omega)).trans ((if_neg (by omega)).trans (if_pos down))
  · have sends : s.dev.slotSends l.val = s.dev.linkDown l.val 2 := (Dev.slotSends_again due).trans (Dev.sendAgain_last often)
    rw [← sends] at down ⊢
    exact txSlot_stopped flits live down
  · obtain ⟨n, sess⟩ := txSlot_sess flits live
    have sends := Dev.slotSends_ctrl none_ ctrl
    rw [sends] at sess
    obtain ⟨sent, init⟩ := s.dev.sess_sendCtrl (l := l.val)
    exact ⟨(txSlot_out flits live).trans (congrArg Dev.out sends), (congrArg Session.ctrlDue sess).trans sent,
      (congrArg Session.initSent sess).trans init⟩
  · exact (txSlot_out flits live).trans (congrArg Dev.out (Dev.slotSends_again due))
  · exact (txSlot_out flits live).trans (congrArg Dev.out (Dev.slotSends_control none_ quiet ready))
  · exact (txSlot_out flits live).trans (congrArg Dev.out (Dev.slotSends_rest none_ quiet ready))
  · exact (replayToExpire_due flits open_).trans (if_pos often)
  · exact (replayToExpire_due flits open_).trans (if_neg (Nat.not_le.mpr few))

end Sys2Proof.Machine

end

section

/-! PROOFS. What links and bays that go off leave alone: the global registers, GRAVE, and the power state the device is in. -/

namespace Sys2Proof.Machine
set_option Elab.async false

/-- The field stands in the pages of the global registers. -/
def Fld.low (f : Fld) : Prop := f.key < 0x100000 * 32

/-- The global registers, GRAVE and the power state are the same. -/
structure Dev.Calm (d e : Dev) : Prop where
  rd : ∀ f : Fld, f.low → e.rd f = d.rd f
  grave : e.flt.grave = d.flt.grave
  mode : e.pwr.mode = d.pwr.mode

/-- A wake leaves the power state as it is: an eclosion only begins. -/
theorem Dev.mode_wake (d : Dev) (c x : Nat) : (d.wake c x).pwr.mode = d.pwr.mode := by
  have spot (e : Dev) : (e.noteSpot c x).pwr.mode = e.pwr.mode := by
    simp only [Dev.noteSpot]
    split <;> rfl
  have record (e : Dev) (t : Bool) : (e.recordWake c x t).pwr = e.pwr := by rw [Dev.recordWake_frame]
  rw [Dev.wake]
  split
  · split
    · rfl
    · split
      · dsimp only
        split
        · rw [spot, record]
        · rfl
      · exact (spot _).trans (by rw [record])
  · split
    · split
      · rfl
      · dsimp only
        split
        · exact (spot _).trans (by rw [record])
        · change (d.recordWake c x true).pwr.mode = d.pwr.mode
          rw [record]
    · rfl

theorem Dev.mode_spotWake (d : Dev) (x : Nat) : (d.spotWake x).pwr.mode = d.pwr.mode := by
  rw [Dev.spotWake]
  split
  · exact d.mode_wake 3 x
  · rfl

theorem Dev.mode_raise (d : Dev) (x : Nat) : (d.raise x).pwr.mode = d.pwr.mode := by
  rw [Dev.raise]
  split
  · rfl
  · split
    · exact d.mode_spotWake x
    · split
      · rfl
      · dsimp only
        split
        · exact (Dev.mode_spotWake _ x).trans (by rw [Dev.notifyRise_frame])
        · rfl

namespace Dev.Calm

variable {d e x : Dev}

theorem refl (d : Dev) : d.Calm d := ⟨fun _ _ => rfl, rfl, rfl⟩

section
variable (h : d.Calm e)
include h

theorem trans (h' : e.Calm x) : d.Calm x :=
  ⟨fun f low => (h'.rd f low).trans (h.rd f low), h'.grave.trans h.grave, h'.mode.trans h.mode⟩

/-- What changes no register, no fault state and nothing of the power controller. -/
theorem set (regs : x.regs = e.regs) (flt : x.flt = e.flt) (pwr : x.pwr = e.pwr) : d.Calm x :=
  h.trans ⟨fun f _ => Dev.rd_congr regs f, by rw [flt], by rw [pwr]⟩

theorem foldl {α : Type} {f : Dev → α → Dev} (l : List α) (step : ∀ (e : Dev) a, d.Calm e → d.Calm (f e a)) : d.Calm (l.foldl f e) :=
  List.foldlRecOn (motive := d.Calm) l f h (fun e he a _ => step e a he)

theorem ite {c : Prop} [Decidable c] {y : Dev} (h' : d.Calm y) : d.Calm (if c then e else y) := by
  split
  · exact h
  · exact h'

theorem wr {f : Fld} (v : Nat) (high : 0x100000 ≤ f.addr) : d.Calm (e.wr f v) := by
  refine h.trans ⟨fun g low => Dev.rd_wr_ne _ _ _ _ ?_, rfl, rfl⟩
  simp only [Fld.low, Fld.key] at low ⊢
  omega

theorem wrs {l : List (Fld × Nat)} (high : ∀ p ∈ l, 0x100000 ≤ p.1.addr) : d.Calm (e.wrs l) := by
  refine h.trans ⟨fun g low => Dev.rd_wrs_ne _ _ _ fun p mem => ?_, by rw [Dev.wrs_regs_only], by rw [Dev.wrs_regs_only]⟩
  have := high p mem
  simp only [Fld.low, Fld.key] at low ⊢
  omega

theorem emit (m : OutMsg) : d.Calm (e.emit m) := h.set rfl rfl rfl

theorem free : d.Calm e.free.2 := h.set rfl rfl rfl

theorem raise (s : Nat) : d.Calm (e.raise s) := by
  refine h.trans ⟨fun f low => Dev.rd_raise ?_ s, by rw [Dev.raise_frame], e.mode_raise s⟩
  simp only [Fld.belowAon, Fld.low] at low ⊢
  omega

theorem msix (n v : Nat) : d.Calm (e.msix n v) :=
  h.set (by rw [Dev.msix_frame]) (by rw [Dev.msix_frame]) (by rw [Dev.msix_frame])

/-- An error that is not grave, of a unit above the global registers. -/
theorem fault {v : FEv} (named : v.src < 16) (high : 0x100000 ≤ unitBase v.unit) (mem : ∀ c, v.unit ≠ .mem c)
    (lesser : ∀ y, faultSrc v.unit v.src = some y → y.cls ≠ 3) : d.Calm (e.fault v) := by
  have noted := (Dev.Noted.refl e).fault v lesser
  refine h.trans ⟨fun f low => (Dev.fault_sameOutside named mem lesser).rd f fun g block => ?_, noted.grave, by rw [noted.pwr]⟩
  simp only [Fld.low, Fld.inBlock, Fld.key] at low block ⊢
  omega

/-! ### The bridge -/

theorem logRead (n w l addr size tag reason : Nat) : d.Calm (e.logRead n w l addr size tag reason) := by
  rw [Dev.logRead]
  refine raise ?_ 41
  exact h.set rfl rfl rfl

theorem logWrite (n w l addr bytes reqId : Nat) (pasid : Option Nat) (reason : Nat) : d.Calm (e.logWrite n w l addr bytes reqId pasid reason) := by
  rw [Dev.logWrite]
  refine raise ?_ 41
  exact h.set rfl rfl rfl

omit h in
theorem winState_high (n w : Nat) : 0x100000 ≤ (BRG_WIN_STATE_FAILURES n w).addr := by
  simp only [BRG_WIN_STATE_FAILURES, BRG_WIN_STATE]
  omega

theorem writeFails (n w l addr bytes reqId : Nat) (pasid : Option Nat) (reason : Nat) : d.Calm (e.writeFails n w l addr bytes reqId pasid reason) := by
  have failed : d.Calm ((e.logWrite n w l addr bytes reqId pasid reason).incSat (BRG_WIN_STATE_FAILURES n w)) :=
    (h.logWrite n w l addr bytes reqId pasid reason).wr _ (winState_high n w)
  rw [Dev.writeFails]
  generalize (e.logWrite n w l addr bytes reqId pasid reason).incSat (BRG_WIN_STATE_FAILURES n w) = y at failed
  dsimp only
  split
  · exact failed
  · split
    · refine raise ?_ 42
      exact failed.set rfl rfl rfl
    · refine msix ?_ _ _
      exact failed.set rfl rfl rfl

theorem logHostRead (r : BRead) (reason : Nat) : d.Calm (e.logHostRead r reason) := by
  rw [Dev.logHostRead]
  split
  · exact h.logRead ..
  · exact h.free.logRead ..

theorem aerHdr (n : Nat) (a : Aer) (t : Option TlpHdr) : d.Calm (e.aerHdr n a t) := by
  have kept : d.Calm (e.setPort n ((e.port n).record a t)) := h.set rfl rfl rfl
  exact ite (kept.emit _) kept

theorem aerReq (n : Nat) (a : Aer) (kind addr len : Option Nat) : d.Calm (e.aerReq n a kind addr len) := by
  rw [Dev.aerReq]
  exact (h.set (x := (e.reqHdr kind addr len).2) rfl rfl rfl).aerHdr ..

theorem readAborts (r : BRead) (reason : Nat) : d.Calm (e.readAborts r reason) := by
  rw [Dev.readAborts]
  exact (((h.emit _).aerReq ..).logHostRead r reason).wr _ (winState_high ..)

theorem pageOut (p : BPage) (reason : Nat) : d.Calm (e.pageOut p reason) := by
  have gone : d.Calm { e with brg := { e.brg with pages := e.brg.pages.filter (fun q => q != p) } } := h.set rfl rfl rfl
  exact ite gone (gone.logRead p.port p.win p.link p.addr 4096 (p.tag.getD 0) reason)

theorem countTags (l : Nat) : d.Calm (e.countTags l) := by
  refine h.wrs ?_
  simp only [List.mem_cons, List.not_mem_nil, or_false, forall_eq_or_imp, forall_eq, BRG_LINK_TAGS_BUSY, BRG_LINK_QUARANTINED, BRG_LINK]
  omega

/-- What changes only what the bridge holds. -/
theorem bridge (b : Brg) : d.Calm { e with brg := b } := h.set rfl rfl rfl

theorem bridgeDown (l : Nat) : d.Calm (e.bridgeDown l) := by
  rw [Dev.bridgeDown]
  refine countTags (bridge (foldl (bridge (foldl (foldl (h.bridge _) _ ?_) _ ?_) _) _ ?_) _) l
  · exact fun y r hy => hy.readAborts r 6
  · exact fun y w hy => ite hy (hy.writeFails ..)
  · exact fun y p hy => hy.pageOut p 6

/-! ### Streams and the sessions of links -/

theorem finding (plan slice reason pos source stride stripe : Nat) : d.Calm (e.finding plan slice reason pos source stride stripe) := by
  rw [Dev.finding]
  dsimp only
  split
  · exact h.set rfl rfl rfl
  · have noted (q : Nat) (l : List ScrubE) : d.Calm (Dev.wr { e with scrub := l } JNL_SCRUB_SEQ_SEQ q) := by
      refine wr ?_ q (by decide)
      exact h.set rfl rfl rfl
    split
    · exact (noted _ _).raise 21
    · exact noted _ _

theorem logPartial (n : Nat) : d.Calm (e.logPartial n) := ite (h.finding ..) h

theorem complete (n s r hi : Nat) : d.Calm (e.complete n s r hi) := by
  rw [Dev.complete]
  dsimp only
  split
  · exact h
  · exact h.set rfl rfl rfl

theorem release (n : Nat) : d.Calm (e.release n) := by
  have stage : d.Calm (e.freeStage n) := by
    rw [Dev.freeStage]
    exact ite h (h.set rfl rfl rfl)
  exact stage.set rfl rfl rfl

theorem settleEnding (n : Nat) : d.Calm (e.settleEnding n) := by
  rw [Dev.settleEnding]
  dsimp only
  split
  · exact h
  · split
    · exact h.release n
    · exact ite ((h.logPartial n).complete ..) ((h.logPartial n).complete ..)

theorem writeSettled (n : Nat) : d.Calm (e.writeSettled n) := by
  rw [Dev.writeSettled]
  refine settleEnding ?_ n
  exact h.set rfl rfl rfl

theorem endStreams (l : Nat) : d.Calm (e.endStreams l) := by
  rw [Dev.endStreams]
  dsimp only
  refine foldl (wr ?_ _ ?_) _ fun y x hy => ite (hy.writeSettled _) (ite ?_ hy)
  · exact h.set rfl rfl rfl
  · simp only [LNK_STREAMS_OPEN, LNK_STREAMS]
    omega
  · exact hy.set rfl rfl rfl

theorem laneTestEnd (l outcome : Nat) : d.Calm (e.laneTestEnd l outcome) := by
  rw [Dev.laneTestEnd]
  dsimp only
  split
  · exact h
  · refine set (e := Dev.wrs _ _) (wrs (e := Dev.setLane _ _ _) (h.set rfl rfl rfl) ?_) rfl rfl rfl
    simp only [List.mem_cons, List.not_mem_nil, or_false, forall_eq_or_imp, forall_eq, LNK_LANE_TESTING, LNK_LANE, LNK_PRBS_STATUS_RESULT, LNK_PRBS_STATUS]
    omega

theorem abortTests (l : List Nat) : d.Calm (e.abortTests l) := h.foldl l fun _ i hy => hy.laneTestEnd i 3

theorem endSession (l : Nat) : d.Calm (e.endSession l) := by
  rw [Dev.endSession]
  dsimp only
  refine ite h (abortTests (bridgeDown (wrs (foldl ?_ _ fun y i hy => hy.wr _ ?_) ?_) l) _)
  · exact (h.endStreams l).set rfl rfl rfl
  · simp only [LNK_LANE_IN_LINK, LNK_LANE]
    omega
  · simp only [List.mem_cons, List.not_mem_nil, or_false, forall_eq_or_imp, forall_eq, LNK_FLIT_STATUS_TX_UNACKED, LNK_FLIT_STATUS_RX_HELD,
      LNK_FLIT_STATUS, LNK_CREDIT_VC0, LNK_CREDIT_VC1, LNK_CREDIT_VC2, LNK_CREDIT, LNK_STATE_AWAIT_ADMIT, LNK_STATE_TR_WIDTH, LNK_STATE_TR_FIRST,
      LNK_STATE_TR_RATE, LNK_STATE]
    omega

theorem unlink (l : Nat) : d.Calm (e.unlink l) := by
  rw [Dev.unlink]
  refine wrs ?_ ?_
  · exact h.set rfl rfl rfl
  · simp only [List.mem_cons, List.not_mem_nil, or_false, forall_eq_or_imp, forall_eq, LNK_STATE_FIRST, LNK_STATE_ADM_WIDTH, LNK_STATE]
    omega

theorem laneEnter (l s : Nat) : d.Calm (e.laneEnter l s) := by
  have entered (t : LaneT) : d.Calm (((e.setLane l t).wr (LNK_STATE_STATE l) s).wr (LNK_STATE_NO_PARTNER l) 0) := by
    refine wr (wr (h.set (x := e.setLane l t) rfl rfl rfl) _ ?_) _ ?_
    · simp only [LNK_STATE_STATE, LNK_STATE]
      omega
    · simp only [LNK_STATE_NO_PARTNER, LNK_STATE]
      omega
  rw [Dev.laneEnter]
  refine ite ?_ (entered _)
  exact (entered _).set rfl rfl rfl

theorem lanesOff (ls : List Nat) : d.Calm (e.lanesOff ls) := by
  rw [Dev.lanesOff]
  refine foldl (foldl (abortTests (h.foldl _ fun y l hy => hy.endSession l) ls) _ fun y l hy => ite (hy.unlink l) hy) _ fun y l hy => ?_
  refine laneEnter (ite (hy.wr _ ?_) hy) l _
  simp only [LNK_TRAIN_ATTEMPTS, LNK_TRAIN]
  omega

/-! ### Bays -/

theorem bayBit {lo hi : Fld} (b v : Nat) (high : 0x100000 ≤ lo.addr) (high' : 0x100000 ≤ hi.addr) : d.Calm (e.bayBit lo hi b v) := by
  rw [Dev.bayBit]
  refine h.wr _ ?_
  split
  · exact high
  · exact high'

omit h in
theorem bayStatus_high (b : Nat) : 0x100000 ≤ BAY_STATUS b := by
  simp only [BAY_STATUS]
  omega

theorem bayEnter (b s : Nat) : d.Calm (e.bayEnter b s) := (h.wr _ (bayStatus_high b)).wr _ (by decide)

theorem pgOff (b : Nat) : d.Calm (e.pgOff b) := by
  rw [Dev.pgOff]
  exact ite (((h.wr _ (bayStatus_high b)).bayBit b 0 (by decide) (by decide)).lanesOff _) h

theorem gatesOff (b : Nat) : d.Calm (e.gatesOff b) := by
  have off : d.Calm (e.wrs [(BAY_STATUS_GATE_A_ON b, 0), (BAY_STATUS_GATE_B_ON b, 0)]) := by
    refine h.wrs ?_
    simp only [List.mem_cons, List.not_mem_nil, or_false, forall_eq_or_imp, forall_eq, BAY_STATUS_GATE_A_ON, BAY_STATUS_GATE_B_ON, BAY_STATUS]
    omega
  rw [Dev.gatesOff]
  refine pgOff (ite ?_ ?_) b
  · exact (off.wr (f := BAY_STATUS_DISCHARGING b) 1 (bayStatus_high b)).set rfl rfl rfl
  · exact off.set rfl rfl rfl

theorem allGatesOff : d.Calm e.allGatesOff := by
  rw [Dev.allGatesOff]
  exact h.foldl _ fun y b hy => ite (hy.gatesOff b) ((hy.gatesOff b).bayEnter b _)

end

end Dev.Calm

end Sys2Proof.Machine

end

section

/-! PROOFS. Presence, arming, start, power-good, trips and feeds of a bay (R366–R386). -/

namespace Sys2Proof.Machine
set_option Elab.async false

section
variable {d : Dev} {b : Nat}

/-! ### Presence -/

/-- The presence of a bay is looked at: the device is up, or sleeps with the presence scan armed (R407). -/
theorem presence_watched (watched : d.pwr.mode ≠ 5 ∧ (d.pwr.mode = 2 → d.flag AON_WAKE_ARM_PRESENCE = true)) :
    ¬(d.pwr.mode = 5 ∨ (d.pwr.mode = 2 ∧ ¬d.flag AON_WAKE_ARM_PRESENCE)) := by
  obtain ⟨powered, scanned⟩ := watched
  rintro (off | ⟨asleep, blind⟩)
  · exact powered off
  · exact blind (scanned asleep)

theorem presenceInsert_watched (watched : d.pwr.mode ≠ 5 ∧ (d.pwr.mode = 2 → d.flag AON_WAKE_ARM_PRESENCE = true))
    (empty : d.flag (BAY_STATUS_PRESENT b) = false) :
    presenceInsert b d = ((((d.wr (BAY_STATUS_PRESENT b) 1).bayBit BAY_PRESENT_LO_BAY BAY_PRESENT_HI_BAY b 1).inc (BAY_TRIPS_INSERTIONS b)).raise
      (448 + b)).bayTry b :=
  if_neg fun idle => (or_assoc.2 idle).elim (presence_watched watched) (by simp [empty])

theorem presenceRemove_watched (watched : d.pwr.mode ≠ 5 ∧ (d.pwr.mode = 2 → d.flag AON_WAKE_ARM_PRESENCE = true))
    (present : d.flag (BAY_STATUS_PRESENT b) = true) :
    presenceRemove b d =
      let e := ((((faultTimerExpire b d).wr (BAY_STATUS_PRESENT b) 0).bayBit BAY_PRESENT_LO_BAY BAY_PRESENT_HI_BAY b 0).gatesOff b).wrs
        [(BAY_STATUS_RETRIES b, 0), (BAY_STATUS_NEW_CARRIER b, 1)]
      (if e.bayState b = 5 ∨ e.bayState b = 7 then e else e.bayEnter b 0).raise (448 + b) :=
  if_neg fun idle => (or_assoc.2 idle).elim (presence_watched watched) (by simp [present])

/-- The fault timer's end trips a bay that is due. -/
theorem faultTimerExpire_eq (b : Nat) (d : Dev) :
    faultTimerExpire b d = if d.powered b = true ∧ 0 < (d.bayT b).timer ∧ d.timerDone b = true then
      d.bayTrip b true false (d.inLimit b (d.rd (BAY_I_A_VALUE b)) (BAY_STATUS_GATE_A_ON b)) (d.inLimit b (d.rd (BAY_I_B_VALUE b)) (BAY_STATUS_GATE_B_ON b))
    else d := by
  rw [faultTimerExpire]
  simp only [Bool.and_eq_true, decide_eq_true_eq, and_assoc]

/-! ### Feeds -/

/-- A feed is lost: its gate is off, and with its gate on before the loss is reported (R376). -/
def Dev.feedCut (d : Dev) (b : Nat) (f : Bool) : Dev :=
  let e := Dev.setDrive ((d.wrs [(gateFld b f, 0), (feedOk b f, 0)]).setBay b { d.bayT b with trim := 0 }) b f .off
  if d.flag (gateFld b f) = true then e.fault { unit := .bay (Fin.ofNat 64 b), src := 3, detail := b2n f } else e

theorem Dev.calm_feedCut (d : Dev) (b : Nat) (f : Bool) : d.Calm (d.feedCut b f) := by
  have cut : d.Calm (d.wrs [(gateFld b f, 0), (feedOk b f, 0)]) := by
    refine (Dev.Calm.refl d).wrs ?_
    simp only [List.mem_cons, List.not_mem_nil, or_false, forall_eq_or_imp, forall_eq, gateFld, feedOk]
    cases f <;> exact ⟨Dev.Calm.bayStatus_high b, Dev.Calm.bayStatus_high b⟩
  have off : d.Calm (Dev.setDrive ((d.wrs [(gateFld b f, 0), (feedOk b f, 0)]).setBay b { d.bayT b with trim := 0 }) b f .off) :=
    cut.set rfl rfl rfl
  rw [Dev.feedCut]
  refine Dev.Calm.ite (off.fault (show 3 < 16 by decide) ?_ (fun c mem => FUnit.noConfusion mem) fun y entry => ?_) off
  · simp only [unitBase]
    omega
  · simp only [faultSrc, Option.some.injEq] at entry
    rw [← entry]
    decide

theorem feedLoss_on (on : d.hubOff = false) (f : Bool) :
    feedLoss b f d =
      let g := d.feedCut b f
      if g.powered b && !g.flag (BAY_STATUS_GATE_A_ON b) && !g.flag (BAY_STATUS_GATE_B_ON b) then
        ((((g.setBay b { g.bayT b with waitSince := g.now, timer := 0, pgRun := 0, offAt := some g.now, cycled := true }).pgOff b).wr
          (BAY_STATUS_DISCHARGING b) 1).bayEnter b (if d.flt.grave = true then 3 else 1))
      else g := by
  have same (t : BayT) : ((((d.feedCut b f).setBay b t).pgOff b).wr (BAY_STATUS_DISCHARGING b) 1).flt.grave = d.flt.grave := by
    refine (Dev.Calm.pgOff ?_ b).grave
    exact (d.calm_feedCut b f).set rfl rfl rfl
  dsimp only
  rw [← same]
  exact if_neg (ne_true_of_eq_false on)

theorem feedUsable_on (on : d.hubOff = false) (f : Bool) :
    feedUsable b f d =
      let h := d.wr (feedOk b f) 1
      if h.powered b && !h.flag (gateFld b f) then
        (((h.wr (gateFld b f) 1).wr (BAY_STATUS_DISCHARGING b) 0).setBay b { h.bayT b with offAt := none }).setDrive b f
          (.ramp (h.rd (BAY_VOUT_VALUE b) + 10 * h.rd (BAY_RAMP_DVDT b)))
      else h := if_neg (ne_true_of_eq_false on)

/-- FET_SHORT of a bay whose gates are off and whose output has been checked. -/
theorem fetShort_found (on : d.hubOff = false) (a : d.flag (BAY_STATUS_GATE_A_ON b) = false) (c : d.flag (BAY_STATUS_GATE_B_ON b) = false)
    (checked : d.flag (BAY_STATUS_DISCHARGING b) = false) (sound : d.bayState b ≠ 7) (x y : Bool) :
    fetShort b x y d =
      let e := ((d.wr (BAY_STATUS_SHORT_FEED b) (if x = y then 3 else if x = true then 1 else 2)).gatesOff b).bayEnter b 7
      ((e.feedOf x y).2.fault { unit := .bay (Fin.ofNat 64 b), src := 5, detail := (e.feedOf x y).1 }).raise (64 + b) := by
  have go : ¬(d.hubOff || !(!d.flag (BAY_STATUS_GATE_A_ON b) && !d.flag (BAY_STATUS_GATE_B_ON b)) || d.flag (BAY_STATUS_DISCHARGING b)
      || d.bayState b == bsShorted) = true := by
    simp [on, a, c, checked, bsShorted, sound]
  refine (if_neg go).trans ?_
  cases x <;> cases y <;> rfl

/-! ### Arming -/

theorem bayArmWrite_open {v : Nat} (opened : d.setupOpen (BAY_CTRL b) = true) :
    bayArmWrite b v d = if bit v 0 then (d.opened (BAY_CTRL b)).bayOn b false else (d.opened (BAY_CTRL b)).bayOff b :=
  Dev.setup_open _ _ opened

theorem bayPower_ready {n : Nat} (ready : d.adminReady n 0xA2 = true) :
    bayPower n d =
      let x := (d.entry n).desc
      let e := d.started n
      let c := darg x 4 1
      let a := darg x 5 1
      if 63 < c ∨ 2 < a then e.finish n stInvalid
      else if e.bayState c = 7 then e.finish n stInternal
      else if a = 0 then (e.bayOff c).finish n stSuccess
      else if a = 1 then (e.bayOn c true).finish n stSuccess
      else
        let f := e.bayOff c
        (f.setBay c { f.bayT c with cycle := (f.bayT c).cycle ++ [n] }).cycleOn c (f.rd (BAY_VOUT_VALUE c)) :=
  Dev.admin_ready _ ready

end

/-- Settles O45: the branches of each command; a lost feed leaves GRAVE as it was. -/
theorem baysStartAndStop : Obligations.BaysStartAndStop := by
  intro s b
  refine ⟨fun watched empty => next_settled (presenceInsert_watched watched empty), fun watched present => next_settled ?_,
    fun x next may room => next_settled ?_, fun none_ => next_settled ?_, fun wait calm held => next_settled (if_pos ⟨wait, calm, held⟩),
    fun good => next_settled (if_pos good), fun on runs due => next_settled ?_,
    fun on f => ⟨fun runs => next_settled ?_, fun powered off => next_settled ?_, fun powered off => next_settled ?_, fun idle => next_settled ?_⟩,
    fun on a c checked sound x y => next_settled (fetShort_found on a c checked sound x y),
    fun v opened => ⟨fun arm => next_settled ?_, fun disarm => next_settled ?_⟩,
    fun n ready => ⟨fun bad => next_settled ?_, fun bay action shorted => next_settled ?_, fun bay sound =>
      ⟨fun off => next_settled ?_, fun on => next_settled ?_, fun cycle => next_settled ?_⟩⟩,
    fun on ia ib va vb vo t => next_settled (if_neg (ne_true_of_eq_false on))⟩
  · rw [presenceRemove_watched watched present, faultTimerExpire_eq]
  · rw [bayStartSlot, next]
    refine if_neg ?_
    simp only [may, Bool.not_true, Bool.false_or, decide_eq_true_eq, Nat.not_le]
    exact room
  · rw [bayStartSlot]
    split
    · rfl
    case h_2 x next =>
      refine if_pos ?_
      rw [next] at none_
      simpa using none_
  · rw [faultTimerExpire_eq]
    exact if_pos ⟨on, runs, due⟩
  · rw [feedLoss_on on]
    refine if_neg fun stopped => runs ?_
    simp only [Bool.and_eq_true, Bool.not_eq_true'] at stopped
    obtain ⟨⟨powered, offA⟩, offB⟩ := stopped
    exact ⟨powered, offA, offB⟩
  · obtain ⟨offA, offB⟩ := off
    rw [feedLoss_on on]
    refine if_pos ?_
    simp only [Bool.and_eq_true, Bool.not_eq_true']
    exact ⟨⟨powered, offA⟩, offB⟩
  · rw [feedUsable_on on]
    refine if_pos ?_
    simp only [Bool.and_eq_true, Bool.not_eq_true']
    exact ⟨powered, off⟩
  · rw [feedUsable_on on]
    refine if_neg ?_
    rcases idle with h | h <;> simp [h]
  · rw [bayArmWrite_open opened]
    exact if_pos arm
  · rw [bayArmWrite_open opened]
    exact if_neg (ne_true_of_eq_false disarm)
  · rw [bayPower_ready ready]
    exact if_pos bad
  · rw [bayPower_ready ready]
    exact (if_neg (by omega)).trans (if_pos shorted)
  all_goals
    rw [bayPower_ready ready]
    dsimp only
    rw [if_neg (by omega), if_neg sound]
  · exact if_pos off
  · exact (if_neg (by omega)).trans (if_pos on)
  · exact (if_neg (by omega)).trans (if_neg (by omega))

end Sys2Proof.Machine

end

section

/-! PROOFS. The cold start: POR_N, the rails, authentication, VSTBY and temperature (R9, R496–R503, R549, R550). -/

namespace Sys2Proof.Machine
set_option Elab.async false

section
variable {d : Dev}

theorem porRelease_held (held : d.pwr.por = true) (m r t f : Nat) :
    porRelease m r t f d =
      let e := ((d.wr (HP_STATUS_MGR d.mgrPort) 0).wrs [(GLB_STRAP_MGR_PORT, m), (GLB_STRAP_REFCLK_MODE, r), (GLB_STRAP_TEST_MODE, t),
        (GLB_STRAP_FLASH_MODE, f), (GLB_TEST_FACTORY, if t = 2 then 1 else 0), (GLB_BOOT_STAGE, 2), (GLB_BOOT_COLD_CAUSE, 0),
        (AON_REG_LOW_POWER, 0), (HP_STATUS_MGR m, 1)]).inc AON_SEAL_COUNT_COUNT
      let p := { e.pwr with por := false, blocked := false, startsBarred := false, pulling := false }
      Dev.emit { e with pwr := { p with gddr := false, fw := false, e5Since := none, wakeHeld := false } } (.pwrEn true) := by
  have factory : b2n (t == 2) = if t = 2 then 1 else 0 := by simp [b2n]
  rw [← factory]
  exact if_neg (by simp [held])

/-! ### Authentication -/

/-- What authentication records (R503) with MCA and MCB each lost, 1, or not, 0. -/
def authWords (active lostA lostB : Nat) : List (Fld × Nat) :=
  [(GLB_BOOT_STAGE, 4), (GLB_FW_UPDATE_NEXT_SLOT, active), (MGT_STATUS_MCA_LOST, lostA), (MGT_STATUS_MCB_LOST, lostB),
    (MGT_STATUS_ACTIVE_CORE, lostA), (MGT_STATUS_STANDBY_READY, (1 - lostA) * (1 - lostB))]

/-- What a start of both cores records: the slot, no fallback, the device ACTIVE. -/
def bootWords (active : Nat) : List (Fld × Nat) := [(GLB_BOOT_FW_SLOT, active), (GLB_BOOT_FW_FALLBACK, 0), (GLB_POWER_STATUS_CUR, 0)]

/-- The device comes up ACTIVE with what a start of both cores records (R503). -/
def Dev.booted (e : Dev) (active : Nat) : Dev :=
  let y := e.wrs (bootWords active)
  { (y.wr GLB_BOOT_STAGE (if (List.range 8).any (fun n => (y.port n).linkUp) then 6 else 4)) with pwr := { y.pwr with mode := 0 } }

/-- What the controller knows of the slots and of the firmware both cores run, if any. -/
def Mgmt.authed (m : Mgmt) (active v w slot version : Nat) : Mgmt :=
  { m with flashActive := active, versions := (m.versions.set 0 v 0).set 1 w 0,
           coreSlot := Tab.set (Tab.set [] 0 slot 0) 1 slot 0, coreVersion := Tab.set (Tab.set [] 0 version 0) 1 version 0 }

theorem authWords_distinct (active lostA lostB : Nat) : (authWords active lostA lostB).Pairwise (fun p q => p.1.key ≠ q.1.key) := by
  simp only [authWords, List.pairwise_cons, List.mem_cons, List.not_mem_nil, or_false, forall_eq_or_imp, forall_eq, List.Pairwise.nil,
    IsEmpty.forall_iff, implies_true, and_true]
  decide

section
variable (cold : d.pwr.mode = 4) (fails : d.flag GLB_BOOT_FW_FAIL = false) (normal : d.rd GLB_STRAP_TEST_MODE ≠ 1) (run : d.rd GLB_STRAP_TEST_MODE ≠ 3)
include cold fails normal run

/-- The firmware is authenticated in this state. -/
theorem firmwareAuth_runs : ¬(d.pwr.mode ≠ 4 ∨ d.flag GLB_BOOT_FW_FAIL ∨ d.rd GLB_STRAP_TEST_MODE = 1 ∨ d.rd GLB_STRAP_TEST_MODE = 3) := by
  simp [cold, fails, normal, run]

/-- No slot holds good firmware: no core runs. -/
theorem firmwareAuthDone_none (active v w : Nat) :
    firmwareAuthDone active false false false false v w d =
      ((Dev.wrs { d with mgt := d.mgt.authed active v w 0 0 } (authWords active 1 1)).wr GLB_BOOT_FW_FAIL 1).assertFaultN := by
  have none_ : coreSlot active false false = none := by simp [coreSlot]
  refine (if_neg (firmwareAuth_runs cold fails normal run)).trans ?_
  rewrite [none_, ite_self, ite_self]
  rfl

/-- Both cores run the active slot's firmware. -/
theorem firmwareAuthDone_both (active v w : Nat) (a : d.flag MGT_STATUS_MCA_LOST = false) (b : d.flag MGT_STATUS_MCB_LOST = false) :
    firmwareAuthDone active true true true true v w d =
      ((Dev.wrs { d with mgt := d.mgt.authed active v w (active + 1) (if active = 0 then v else w) } (authWords active 0 0)).booted active).scarGrave := by
  have active_ : coreSlot active true true = some active := by simp [coreSlot]
  have same : (active != active) = false := by simp
  refine (if_neg (firmwareAuth_runs cold fails normal run)).trans ?_
  rewrite [active_, if_neg (ne_true_of_eq_false a), if_neg (ne_true_of_eq_false b)]
  dsimp only
  rewrite [same]
  rfl

end

theorem Dev.scarGrave_whole (whole : d.flag GLB_GRAVE_DEVICE = false) : d.scarGrave = d := if_neg (by simp [whole])

theorem bootWords_distinct (active : Nat) : (bootWords active).Pairwise (fun p q => p.1.key ≠ q.1.key) := by
  simp only [bootWords, List.pairwise_cons, List.mem_cons, List.not_mem_nil, or_false, forall_eq_or_imp, forall_eq, List.Pairwise.nil,
    IsEmpty.forall_iff, implies_true, and_true]
  decide

/-- A field that the start does not record is as it was. -/
theorem Dev.rd_booted_ne {f : Fld} (e : Dev) (active : Nat) (stage : f.key ≠ GLB_BOOT_STAGE.key) (other : ∀ p ∈ bootWords active, f.key ≠ p.1.key) :
    (e.booted active).rd f = e.rd f := (Dev.rd_wr_ne _ GLB_BOOT_STAGE _ _ stage).trans (Dev.rd_wrs_ne _ _ _ other)

theorem Dev.rd_booted {p : Fld × Nat} (e : Dev) (active : Nat) (stage : p.1.key ≠ GLB_BOOT_STAGE.key) (named : p ∈ bootWords active) :
    (e.booted active).rd p.1 = p.2 % 2 ^ p.1.width :=
  (Dev.rd_wr_ne _ GLB_BOOT_STAGE _ _ stage).trans (Dev.rd_wrs_of_mem (bootWords_distinct active) e named)

/-- A field outside the boot registers is as authentication recorded it. -/
theorem Dev.rd_authWords_booted {p : Fld × Nat} (e : Dev) (active : Nat) (stage : p.1.key ≠ GLB_BOOT_STAGE.key)
    (other : ∀ q ∈ bootWords active, p.1.key ≠ q.1.key) (named : p ∈ authWords active 0 0) :
    ((e.wrs (authWords active 0 0)).booted active).rd p.1 = p.2 % 2 ^ p.1.width :=
  (Dev.rd_booted_ne _ active stage other).trans (Dev.rd_wrs_of_mem (authWords_distinct active 0 0) e named)

/-- After a start of both cores of a device without a scar it is ACTIVE, with the active slot's firmware in both. -/
theorem Dev.booted_effect (e : Dev) {active : Nat} (slot : active < 2) (whole : e.flag GLB_GRAVE_DEVICE = false) :
    let t := ((e.wrs (authWords active 0 0)).booted active).scarGrave
    t.pwr.mode = 0 ∧ t.rd GLB_BOOT_FW_SLOT = active ∧ t.rd GLB_BOOT_FW_FALLBACK = 0 ∧ t.rd MGT_STATUS_ACTIVE_CORE = 0
      ∧ t.rd MGT_STATUS_STANDBY_READY = 1 := by
  have graveless : ((e.wrs (authWords active 0 0)).booted active).rd GLB_GRAVE_DEVICE = e.rd GLB_GRAVE_DEVICE := by
    rw [Dev.rd_booted_ne _ _ (by decide), Dev.rd_wrs_ne]
    all_goals
      simp only [authWords, bootWords, List.mem_cons, List.not_mem_nil, or_false, forall_eq_or_imp, forall_eq]
      decide
  have outside {f : Fld} (slot : f.key ≠ GLB_BOOT_FW_SLOT.key) (fallback : f.key ≠ GLB_BOOT_FW_FALLBACK.key) (cur : f.key ≠ GLB_POWER_STATUS_CUR.key) :
      ∀ q ∈ bootWords active, f.key ≠ q.1.key := by
    simpa only [bootWords, List.mem_cons, List.not_mem_nil, or_false, forall_eq_or_imp, forall_eq] using ⟨slot, fallback, cur⟩
  dsimp only
  rw [Dev.scarGrave_whole (by rwa [Dev.flag, graveless])]
  refine ⟨rfl, ?_, ?_, ?_, ?_⟩
  · exact (Dev.rd_booted (p := (GLB_BOOT_FW_SLOT, active)) _ _ (show GLB_BOOT_FW_SLOT.key ≠ _ by decide) (by simp [bootWords])).trans (Nat.mod_eq_of_lt slot)
  · exact Dev.rd_booted (p := (GLB_BOOT_FW_FALLBACK, 0)) _ _ (by decide) (by simp [bootWords])
  · exact Dev.rd_authWords_booted (p := (MGT_STATUS_ACTIVE_CORE, 0)) _ _ (by decide) (outside (by decide) (by decide) (by decide)) (by simp [authWords])
  · exact Dev.rd_authWords_booted (p := (MGT_STATUS_STANDBY_READY, 1)) _ _ (by decide) (outside (by decide) (by decide) (by decide)) (by simp [authWords])

/-! ### Temperature -/

theorem Dev.shownShorted_mode (e : Dev) (shorted : Nat → Bool) : (e.shownShorted shorted).pwr.mode = e.pwr.mode :=
  List.foldlRecOn (motive := fun x : Dev => x.pwr.mode = e.pwr.mode) _ _ rfl (fun x hx b _ => by
    split <;> exact hx)

theorem Dev.mode_powerLoss (d : Dev) (aon : Bool) : (d.powerLoss aon).pwr.mode = d.pwr.mode := by
  refine (Dev.shownShorted_mode (Dev.wrs _ _) _).trans ?_
  rw [Dev.wrs_regs_only]

/-- The device in which a trip of a die is recorded (R549). -/
def Dev.tripped (d : Dev) (die temp : Nat) : Dev := (d.dieTemp die temp).wrs [(GLB_THERM_STATUS_TRIP, 1), (GLB_THERM_STATUS_TRIP_DIE, die)]

/-- The rack is down after a trip, the rails barred until POR_N (R549). -/
def Dev.rackTripped (e : Dev) : Dev :=
  let r := (e.rackOff true).assertFaultN
  let y := { r.pwr with mode := if r.pwr.mode = 2 then 2 else 5, blocked := true, req := none, noIntake := false, awake := [] }
  { r with pwr := { y with stalls := [], wasActive := [], wakeHeld := false, pulling := false, e5Since := none } }

theorem thermalTrip_powered {die : Nat} (temp : Nat) (released : d.pwr.por = false) (small : die ≤ 10) (on : d.hubOff = false) :
    thermalTrip die temp d = (d.tripped die temp).rackTripped.wrs [(GLB_BOOT_STAGE, (d.tripped die temp).rd GLB_BOOT_STAGE), (AON_STATE_PHASE, 0)] := by
  have live : ¬(d.pwr.por ∨ 10 < die ∨ (d.hubOff ∧ die ≠ 9)) := by simp [released, on, small]
  refine (if_neg live).trans ?_
  rewrite [if_neg (ne_true_of_eq_false on)]
  rfl

/-- What a trip records: the die, and the boot stage as it stood. -/
theorem Dev.rd_tripped (die temp : Nat) :
    (d.tripped die temp).rd GLB_THERM_STATUS_TRIP = 1 ∧ (d.tripped die temp).rd GLB_THERM_STATUS_TRIP_DIE = die % 2 ^ 4
      ∧ (d.tripped die temp).rd GLB_BOOT_STAGE = d.rd GLB_BOOT_STAGE := by
  refine ⟨?_, Dev.rd_wr_eq .., ?_⟩
  · exact (Dev.rd_wr_ne _ GLB_THERM_STATUS_TRIP_DIE _ _ (by decide)).trans (Dev.rd_wr_eq ..)
  · rw [Dev.tripped, Dev.dieTemp, Dev.rd_wrs_ne, Dev.rd_wrs_ne]
    · simp only [List.mem_cons, List.not_mem_nil, or_false, forall_eq_or_imp, forall_eq, GLB_TEMP_TEMP, GLB_TEMP_VALID, GLB_TEMP_PEAK, GLB_TEMP,
        GLB_BOOT_STAGE, GLB_BOOT, Fld.key]
      omega
    · simp only [List.mem_cons, List.not_mem_nil, or_false, forall_eq_or_imp, forall_eq]
      decide

/-- A thermal trip takes the rack down, with the die recorded. -/
theorem thermalTrip_effect {die : Nat} (temp : Nat) (released : d.pwr.por = false) (small : die ≤ 10) (on : d.hubOff = false) :
    (thermalTrip die temp d).pwr.mode = 5 ∧ (thermalTrip die temp d).pwr.blocked = true ∧ (thermalTrip die temp d).rd GLB_THERM_STATUS_TRIP = 1
      ∧ (thermalTrip die temp d).rd GLB_THERM_STATUS_TRIP_DIE = die ∧ (thermalTrip die temp d).rd GLB_BOOT_STAGE = d.rd GLB_BOOT_STAGE % 8 := by
  have off := (Dev.Calm.refl (d.tripped die temp)).allGatesOff
  obtain ⟨trip, tripDie, stage⟩ := d.rd_tripped die temp
  have up : (d.tripped die temp).pwr.mode ≠ 2 := by
    have same : (d.tripped die temp).pwr = d.pwr := by simp only [Dev.tripped, Dev.dieTemp, Dev.wrs_pwr]
    intro asleep
    rw [same] at asleep
    simp [Dev.hubOff, asleep] at on
  have mode : (d.tripped die temp).rackTripped.pwr.mode = 5 := by
    refine if_neg ?_
    change ((d.tripped die temp).allGatesOff.powerLoss true).pwr.mode ≠ 2
    rw [Dev.mode_powerLoss, off.mode]
    exact up
  have regs : (d.tripped die temp).rackTripped.regs = ((d.tripped die temp).allGatesOff.powerLoss true).regs := rfl
  have eq := thermalTrip_powered temp released small on
  have kept {f : Fld} (carried : f ∈ (d.tripped die temp).allGatesOff.carried) (low : f.low) (stage_ : f.key ≠ GLB_BOOT_STAGE.key)
      (phase : f.key ≠ AON_STATE_PHASE.key) : (thermalTrip die temp d).rd f = (d.tripped die temp).rd f % 2 ^ f.width := by
    rw [eq, Dev.rd_wrs_ne _ _ _ (by simpa using ⟨stage_, phase⟩), Dev.rd_congr regs, Dev.rd_powerLoss_of_carried carried, off.rd f low]
  refine ⟨?_, ?_, ?_, ?_, ?_⟩
  · rw [eq, Dev.wrs_regs_only]
    exact mode
  · rw [eq, Dev.wrs_regs_only]
    rfl
  · rw [kept (by simp [Dev.carried]) (by simp only [Fld.low]; decide) (by decide) (by decide), trip]
    rfl
  · rw [kept (by simp [Dev.carried]) (by simp only [Fld.low]; decide) (by decide) (by decide), tripDie]
    simp only [GLB_THERM_STATUS_TRIP_DIE]
    omega
  · rw [eq, stage]
    exact (Dev.rd_wr_ne _ AON_STATE_PHASE _ _ (by decide)).trans (Dev.rd_wr_eq ..)

theorem thermalWarning_on {die : Nat} (temp : Nat) (small : die ≤ 10) (on : d.hubOff = false) :
    thermalWarning die temp d =
      if 8 * (if die < 9 then d.rd GLB_THERM_CFG_WARN_C else d.rd GLB_THERM_CFG_WARN_BP_C) ≤ temp then
        (d.dieTemp die temp).wr GLB_THERM_STATUS_WARN (Nat.lor ((d.dieTemp die temp).rd GLB_THERM_STATUS_WARN) (2 ^ die))
      else d.dieTemp die temp :=
  if_neg (by simp [on, small])

theorem peakClr_open {die v : Nat} (opened : d.setupOpen (GLB_TEMP die) = true) :
    peakClr die v d = if bit v 28 then (d.opened (GLB_TEMP die)).wr (GLB_TEMP_PEAK die) 0 else d.opened (GLB_TEMP die) :=
  Dev.setup_open _ _ opened

end

/-- Settles O58: the branches of each command; a trip's record outlives the loss of core power. -/
theorem coldStartsAndTemperature : Obligations.ColdStartsAndTemperature := by
  intro s
  refine ⟨next_settled rfl, fun held m r f t => next_settled (porRelease_held held ..),
    fun down released free => ⟨fun r => next_settled (if_pos ?_), next_settled (if_pos ?_)⟩,
    fun cold fails normal run a v w => ⟨?_, ⟨_, next_settled rfl, fun whole lostA lostB => ?_⟩⟩, next_settled ?_,
    fun n t released on => ⟨_, next_settled rfl, thermalTrip_effect _ released (by omega) on⟩,
    fun n t on => ⟨fun cool => next_settled ?_, fun hot => next_settled ?_⟩,
    fun n v opened => ⟨fun clear => next_settled ?_, fun keep => next_settled ?_⟩⟩
  · simp [down, released, free]
  · simp [down, released, free]
  · refine ⟨_, next_settled (firmwareAuthDone_none cold fails normal run ..), Dev.rd_wr_eq _ GLB_BOOT_FW_FAIL 1, ?_, ?_⟩
    · change (Dev.wrs _ _).pwr.mode = 4
      rw [Dev.wrs_regs_only]
      exact cold
    · change .faultN true :: (Dev.wrs _ _).out = _
      rw [Dev.wrs_regs_only]
  · rw [firmwareAuthDone_both cold fails normal run _ _ _ lostA lostB]
    exact Dev.booted_effect _ a.isLt whole
  · rfl
  · rw [thermalWarning_on _ (by omega) on]
    exact if_neg (by omega)
  · rw [thermalWarning_on _ (by omega) on]
    exact if_pos hot
  · rw [peakClr_open opened]
    exact if_pos clear
  · rw [peakClr_open opened]
    exact if_neg (ne_true_of_eq_false keep)

end Sys2Proof.Machine

end
